-- ==== Sys2Proof/Word.lean ====
section
/-! DEFINITION. The word types of the H9 and the one generic table type of its state.

Register contents, addresses and fields that software sees as bits are held as natural numbers below the
field's power of two; bytes of memory and of messages are 8-bit vectors. -/

namespace Sys2Proof

/-- One byte of a memory, a message or a packet. -/
abbrev Byte := BitVec 8

/-- A sequence of bytes, lowest address first (R6: multi-byte fields are little-endian). -/
abbrev Bytes := List Byte

/-- A sparse table: (key, value) pairs in rising key order, an absent key being an absent object. -/
abbrev Map (β : Type) := List (Nat × β)

end Sys2Proof
end

