-- ==== Sys2Proof/Syntax.lean ====
section
/-! DEFINITION. The commands of the H9: one constructor per row of the operation table, and the types of their
operands.

A command is what the outside world or a timer of the device does to the block: a register or configuration write,
a TLP, frame or message that arrives, the performance of a mailbox request or of a fetched descriptor, the expiry of
a time limit.  Functions are numbered 0-7: function PFk of hierarchy h is 4h + k. -/

namespace Sys2Proof

/-- R11, R15: the status and detail codes. -/
inductive Status where
  | success
  | flushed
  | accessViolation
  | keyStale
  | regionRevoked
  | translationFault
  | poisoned
  | timeout
  | malformed
  | notPermitted
  | resource
  | abortedByFw
  | mediumError
  | versionMismatch
  | integrity
  | retryLater
  | linkContained
  | meterDrop
  | waitFailed
  | tileException
  | cipherFault
  | keyFailed
  | rollback
  | serviceDown
deriving DecidableEq, Repr, Inhabited

/-- What the outside world answers to the accesses that a command makes to host or accelerator memory.
`ok` gives the bytes read (ignored for a write) and whether a poison mark came with them; `fail` is an access that
failed finally; `noAccess` says that the host's ATS translation grants no access (R206)
(log entries 8, DEDUCED; 17, DEDUCED; 180, DEDUCED). -/
inductive HostAns where
  | ok (data : Bytes) (ep : Bool)
  | fail (st : Status)
  | noAccess
deriving DecidableEq, Repr, Inhabited

/-- The status of a completion TLP. -/
inductive CplStatus where
  | success
  | unsupported
  | abort
  | retry
deriving DecidableEq, Repr, Inhabited

/-- The result code of a Page Request Group Response (R110). -/
inductive PageCode where
  | success
  | invalid
  | failure
deriving DecidableEq, Repr, Inhabited

/-- The kinds of memory request (R123). -/
inductive ReqKind where
  | read
  | write
  | fetchAdd
  | swap
  | cas
deriving DecidableEq, Repr, Inhabited

/-- The configuration-space fields that commands read and write (R97-R107, R113, R121)
(log entry 18, DESIGN CHOICE). -/
inductive CfgField where
  | ids                 -- Vendor ID, Device ID
  | classRev            -- class code, Revision ID
  | subsystem
  | busMaster           -- Bus Master Enable
  | memorySpace         -- Memory Space Enable
  | bar (n : Nat)
  | msi                 -- MSI Enable [0], log2 of the vectors enabled [3:1]
  | msix                -- MSI-X Enable [0], Function Mask [1]
  | pasid               -- PASID Enable
  | ats                 -- ATS Enable
  | pri                 -- PRI Enable
  | priAlloc            -- Outstanding Page Request Allocation
  | powerState          -- 0 D0, 3 D3hot
  | barSize             -- Resizable BAR: log2 of BAR4's size less 20
  | flr                 -- Initiate FLR
  | interruptPin
  | serial              -- Device Serial Number
  | portBusMaster (q : Nat)
  | portWindow (q : Nat)        -- memory base [31:0] and exclusive limit [63:32], in 1 MiB units
  | portBuses (q : Nat)         -- secondary [7:0], subordinate [15:8]
  | portSbr (q : Nat)           -- Secondary Bus Reset
  | portDpc (q : Nat)           -- DPC enable [0], Completion Control [1] (1: Completer Abort), Trigger Status [2] (W1C)
  | portLinkPm (q : Nat)        -- ASPM L1 enable [0], L0p enable [1]
  | portAcs (q : Nat)           -- P2P Request Redirect [0]
  | portIds (q : Nat)
  | other
deriving DecidableEq, Repr, Inhabited

/-- What waits for a page: an operation, a queue's descriptor fetch, an entry due to a ring, a Yekel placement into a
spoke, or a tile's stream fetch (R207). -/
inductive Waiter where
  | op (o : Nat)
  | fetch (q : Nat)
  | ring (q : Nat)
  | place (spoke : Nat)
  | tile (t : Nat)
  | nv (cmd : Nat)
deriving DecidableEq, Repr, Inhabited


/-- The outcome of one self-test on one unit, as a record of R594 holds it: RESULT is 0 pass, 1 fail, 2 not run. -/
structure TestResult where
  test : Nat
  unit : Nat
  result : Nat
  durationUs : Nat := 0
  fails : Nat := 0
  locator : Nat := 0
deriving DecidableEq, Repr, Inhabited

/-- The commands of the H9: one constructor per row of the operation table
(log entries 4, DESIGN CHOICE; 177, DEDUCED; 180, DEDUCED). -/
inductive Instr where
  /-- R575: VDD_AON rises and every reset domain returns to its reset value. -/
  | powerOn
  /-- R87: RESET_N is held low for at least 1 µs; the package is reset, PWR_EN_MAIN, downstream PERST# and CR_BYPASS_N are driven low. -/
  | resetNAssert
  /-- R74: RESET_N rises; the straps are sampled and the standby ROM verifies and starts the standby image. -/
  | resetNRelease (straps : Nat)
  /-- R587: MAIN_PG rises; PLLs lock and the reference checks and self-tests of bring-up run. -/
  | mainPgRise (results : List TestResult)
  /-- R68: MAIN_PG has not risen 100 ms after PWR_EN_MAIN; the H9 drops PWR_EN_MAIN and reports a main-rail fault. -/
  | mainPgTimeout
  /-- R67: MAIN_PG falls while PWR_EN_MAIN is high; the H9 drops PWR_EN_MAIN, stops main-rail domains and stays in standby. -/
  | mainPowerLoss
  /-- R85: A thermal sensor reads 115 °C or more; THERMTRIP_N and PWR_EN_MAIN go low and main domains stop. -/
  | thermalTrip
  /-- R89: Upstream link training begins 50 ms after MAIN_PG when PERST# rose earlier. -/
  | linkTrainingStart (h : Nat)
  /-- R86: The H9 releases a downstream PERST# no earlier than 100 ms after MAIN_PG. -/
  | downstreamPerstRelease (q : Nat)
  /-- R188: HBM training, repair and zero fill end, and SC is released from reset. -/
  | hbmFillComplete (failed spares : List Nat) (ok : Bool)
  /-- R580: The upstream PERST# of a hierarchy falls; its functions are reset and its ports return to reset values. -/
  | upstreamPerstAssert (h : Nat)
  /-- R88: The upstream PERST# rises; the link trains and configuration requests get Request Retry Status until ready. -/
  | upstreamPerstRelease (h : Nat)
  /-- R88: A configuration request arrives and is answered or given Request Retry Status. -/
  | configRequest (f : Nat) (c : CfgField) (wr : Option Nat)
  /-- R25: A die-to-die receiver finds a CRC error and the unit is replayed, taking a port out of service after eight failures. -/
  | d2dReplay (link port : Nat) (failed : Bool)
  /-- R21: A mesh lane carries a bit error that is corrected or delivered with a poison mark. -/
  | meshLaneError (uncorrectable : Bool) (o : Nat)
  /-- R9: A write to a register that has no row of its own is performed under its access code, or discarded and counted. -/
  | registerWrite (f off width value : Nat)
  /-- R33: GLB_TIME_SNAP.TRIGGER is written with 1 and one snapshot strobe is launched, or dropped with OVERRUN when BUSY. -/
  | timeSnapTrigger
  /-- R33: The periodic source fires after PERIOD_MS and a snapshot is launched. -/
  | periodicSnapshot
  /-- R34: Every unit has latched its counter and SEQ is incremented to an even value. -/
  | snapshotComplete
  /-- R95: A non-posted request of the H9 gets no completion within 50 ms and its operation completes TIMEOUT. -/
  | completionTimeout (q tag : Nat)
  /-- R95: A completion arrives for a request of the H9, delivering data or an error status, or is discarded for a quarantined tag. -/
  | pcieCompletionReceived (q tag f : Nat) (st : CplStatus) (data : Bytes) (ep : Bool) (wr : HostAns)
  /-- R109: An ATS Invalidation Request removes matching entries from all slices and is completed within 2 µs. -/
  | atsInvalidate (f : Nat) (pasid : Option Nat) (all : Bool) (addr size : Nat)
  /-- R110: A Page Request Group Response arrives and parked operations resume or fail. -/
  | pageResponse (f : Nat) (pasid : Option Nat) (page : Nat) (code : PageCode)
  /-- R111: No page response arrives within the PRI timeout and the waiting operation completes TIMEOUT. -/
  | priTimeout (w : Waiter)
  /-- R123: A request to BAR4 is matched against the port's current window set and performed in HBM, forwarded, or refused. -/
  | bar4Request (q : Nat) (kind : ReqKind) (off n : Nat) (data : Bytes) (ep : Bool) (tag : Nat)
  /-- R101: The switch core routes a request between ports through the Type 1 windows. -/
  | switchRoutedRequest (q : Nat) (kind : ReqKind) (a n : Nat) (data : Bytes) (ep : Bool) (tag : Nat)
  /-- R105: A memory request to BAR0 or BAR2 of a function is performed or refused under the BAR layout. -/
  | barMemoryRequest (q f bar off : Nat) (kind : ReqKind) (n : Nat) (data : Bytes) (tag : Nat)
  /-- R128: PCI_WIN_CTL.WINDOW_COMMIT copies the checked shadow windows into the current set, or is refused. -/
  | windowCommit (q : Nat)
  /-- R107: A write to the BAR Size field of PF3's Resizable BAR capability resizes BAR4 or is ignored. -/
  | bar4Resize (h log2 : Nat)
  /-- R116: A TLP with EP set arrives and its poison follows the data to its destination. -/
  | poisonedTlpReceived (q f bar off : Nat) (data : Bytes)
  /-- R121: DPC triggers on a downstream port; outstanding requests are terminated and the port is contained. -/
  | dpcTrigger (q : Nat)
  /-- R121: A downstream link goes down without a reset and the port is contained. -/
  | downstreamLinkDown (q : Nat)
  /-- R121: A downstream sub-link reaches L0 again and containment or reset handling may end. -/
  | downstreamLinkUp (q : Nat)
  /-- R121: The host clears DPC Trigger Status of a contained port. -/
  | dpcStatusClear (q : Nat)
  /-- R581: Secondary Bus Reset is set; PERST# is held low and outstanding requests are terminated. -/
  | secondaryBusResetSet (q : Nat)
  /-- R615: Secondary Bus Reset is cleared and the port waits to release PERST# and train. -/
  | secondaryBusResetClear (q : Nat)
  /-- R615: At least 100 µs after assertion, the sub-link's PERST# is released and it trains. -/
  | sbrPerstRelease (q : Nat)
  /-- R118: A link idle for L1_IDLE_US is requested into ASPM L1. -/
  | l1Entry (q : Nat)
  /-- R119: Transmit utilisation below 25 % for 100 µs halves the link width. -/
  | l0pNarrow (q : Nat)
  /-- R119: The transmit queue exceeds 2 KiB and the link returns to full width. -/
  | l0pWiden (q : Nat)
  /-- R130: Bus Master Enable of a function is cleared; its queues stop and unfinished operations are marked FLUSHED. -/
  | busMasterDisable (f : Nat)
  /-- R130: Bus Master Enable is set again; FLUSHED entries and pending interrupts are delivered. -/
  | busMasterEnable (f : Nat)
  /-- R132: Bus Master Enable of a downstream port changes, so requests from its link are refused or passed. -/
  | downstreamBmeChange (q : Nat) (on : Bool)
  /-- R133: FLR of a function abandons its requests and destroys its queues and spokes. -/
  | flrInitiate (f : Nat)
  /-- R133: FLR completes and the function's configuration space and FUNC registers are at reset values. -/
  | flrComplete (f : Nat)
  /-- R133: 50 ms after its issue, a quarantined tag is released. -/
  | tagQuarantineRelease (q tag : Nat)
  /-- R583: PowerState D3hot is written; the function is stopped as for Bus Master Enable cleared. -/
  | d3hotEntry (f : Nat)
  /-- R583: The function returns to D0 and held interrupts and entries become deliverable. -/
  | d0Entry (f : Nat)
  /-- R115: An MSI-X vector is unmasked and its pending message is sent. -/
  | msixUnmask (f v : Nat)
  /-- R148: An aligned 64-bit doorbell write is checked and sets a work queue's PI or a ring's consumer index. -/
  | doorbell (f off width value : Nat)
  /-- R150: A descriptor read completes and the descriptor starts, or the queue enters ERROR on a failed read. -/
  | descriptorFetched (q : Nat) (ans : HostAns)
  /-- R139: An operation finishes and its completion entry, counter update and interrupt are written. -/
  | operationComplete (o : Nat) (ans : HostAns)
  /-- R154: The write of header bytes 0–7 posts a mailbox request, or is discarded while one is outstanding. -/
  | mailboxPost (f value : Nat)
  /-- R161: A driver attaches the function, creating its base spoke if absent. -/
  | hello (f : Nat)
  /-- R165: The driver detaches and the function enters freewheel. -/
  | goodbye (f : Nat)
  /-- R169: The H9 writes state records into a host buffer. -/
  | stateSummary (f : Nat) (ans : HostAns)
  /-- R162: A spoke is created with its PASID, quotas, page-table root and rates. -/
  | spokeCreate (f : Nat)
  /-- R160: A spoke and all its queues and objects are destroyed. -/
  | spokeDestroy (f : Nat)
  /-- R162: A spoke's quotas, weights and rates are changed. -/
  | spokeModify (f : Nat)
  /-- R159: A queue is created, bound to its spoke and completion ring. -/
  | queueCreate (f : Nat)
  /-- R160: A queue stops fetching and its operations are abandoned. -/
  | queueDestroy (f : Nat)
  /-- R151: A stopped or frozen queue resumes fetching. -/
  | queueStart (f : Nat)
  /-- R151: An active work queue stops fetching and responds when operations complete. -/
  | queueStop (f : Nat)
  /-- R164: GLB_HEARTBEAT.BEAT restarts the heartbeat timer, or is counted as IGNORED outside ATTACHED. -/
  | beat (f : Nat)
  /-- R165: The heartbeat timer expires and the function enters freewheel. -/
  | heartbeatTimeout (f : Nat)
  /-- R185: A region is created, moved, resized, recoded or removed and journaled. -/
  | hbmRegionSet (f : Nat)
  /-- R187: The zero fill of a region ends and ZEROING is cleared. -/
  | regionZeroingComplete (i : Nat)
  /-- R196: A region enters or leaves checker test mode. -/
  | memEccTest (f : Nat)
  /-- R204: Cached translations of a spoke range are removed from all slices. -/
  | ptInvalidate (f : Nat)
  /-- R193: Entries of the runtime repair list are returned. -/
  | memRepairList (f : Nat)
  /-- R197: MEM_RAW_CMD OP 1 returns a test block's data and check bits as stored. -/
  | readRaw (f : Nat)
  /-- R197: MEM_RAW_CMD OP 2 stores raw data and check bits unchanged. -/
  | writeRaw (f : Nat)
  /-- R197: MEM_RAW_CMD OP 3 decodes a test block and reports RESULT and SYMBOLS. -/
  | readDecoded (f : Nat)
  /-- R191: Patrol scrub reads its next block, writing back corrections and handling uncorrectable blocks. -/
  | scrubRead (upsets : List Nat) (fixed : Bool) (pin : Nat)
  /-- R585: After 1 ms of the idle conditions, every stack enters self-refresh. -/
  | hbmSelfRefreshEntry
  /-- R205: A COPY descriptor copies LENGTH bytes from SRC to DST. -/
  | copy (o : Nat) (rd wr : HostAns)
  /-- R205: A FILL descriptor writes an 8-byte pattern over DST. -/
  | fill (o : Nat) (wr : HostAns)
  /-- R211: A frame arrives on a sub-port and is checked, parsed, classified and acted on. -/
  | frameReceived (sub : Nat) (data : Bytes) (ok : Bool) (ans : HostAns)
  /-- R232: The network control plane injects a packet, tagged afresh with the current version. -/
  | slowPathInject (sub : Nat) (data : Bytes) (ans : HostAns)
  /-- R237: An exact-match bucket arrives from HBM after a cache miss and waiting lookups finish. -/
  | classifyCacheFill (profile : Nat) (key : Bytes) (ans : HostAns)
  /-- R242: A crypto cluster finishes an ESP packet and it is parsed a second time or dropped. -/
  | ipsecDecryptComplete (i : Nat) (ans : HostAns)
  /-- R214: PKT_PORT_CFG.COMMIT applies the port's RWC fields and retrains its sub-ports, or is refused. -/
  | portCommit (i : Nat)
  /-- R215: A sub-port's link goes down; its PACKET_SEND descriptors complete RETRY_LATER and transport packets move paths. -/
  | subportLinkDown (sub : Nat)
  /-- R215: A sub-port's link comes up. -/
  | subportLinkUp (sub : Nat)
  /-- R217: The quanta of a received PAUSE or PFC expires and paused priorities resume. -/
  | pauseExpire (sub prio : Nat)
  /-- R218: Every 32,768 quanta while occupancy stays at or above XON, PAUSE or PFC is sent again. -/
  | pfcRefresh (sub prio : Nat)
  /-- R224: A PACKET_SEND descriptor sends one frame on its sub-port. -/
  | send (o : Nat) (ans : HostAns)
  /-- R225: A PACKET_RECEIVE descriptor posts one receive buffer. -/
  | post (o : Nat) (ans : HostAns)
  /-- R253: When a MAC can accept a frame, the scheduling tree selects one eligible head and sends it. -/
  | schedulerSelect (sub : Nat) (ans : HostAns)
  /-- R244: The staging lock is taken and P returned. -/
  | ruleBegin (f : Nat)
  /-- R245: The pending version becomes current in all pipelines in one PKT cycle. -/
  | ruleShift (f : Nat)
  /-- R244: Staged changes are discarded and the lock released. -/
  | ruleAbandon (f : Nat)
  /-- R243: An exact-match entry is staged from P. -/
  | emAdd (f : Nat)
  /-- R243: An open exact-match entry is ended at P or removed. -/
  | emDelete (f : Nat)
  /-- R243: A wildcard entry is staged from P. -/
  | aclAdd (f : Nat)
  /-- R243: A wildcard entry is ended at P or removed. -/
  | aclDelete (f : Nat)
  /-- R240: An unused action entry is written. -/
  | actionSet (f : Nat)
  /-- R235: A sub-port's default action is staged. -/
  | defaultSet (f : Nat)
  /-- R235: A parse class's profiles are staged. -/
  | classMapSet (f : Nat)
  /-- R234: A key profile's field bitmap is set. -/
  | profileSet (f : Nat)
  /-- R221: A MACsec SA of a SecY is configured. -/
  | macsecSaSet (f : Nat)
  /-- R242: An IPsec SA is configured. -/
  | ipsecSaSet (f : Nat)
  /-- R247: A non-current version whose count reaches zero retires after older ones. -/
  | versionRetire
  /-- R260: A spoke class's weight and rates are set. -/
  | schServiceSet (f : Nat)
  /-- R266: A meter's algorithm, rates, bursts and actions are set. -/
  | meterSet (f : Nat)
  /-- R268: A meter's counters and bucket levels are returned. -/
  | meterRead (f : Nat)
  /-- R273: SCH_GATE_CTL.ARM arms the pending gate bank, or is refused with REASON. -/
  | arm (i : Nat)
  /-- R275: SCH_GATE_CTL.DISARM clears ARMED if the takeover has not happened. -/
  | disarm (i : Nat)
  /-- R269: Writing SCH_GATE_CTL.ENABLE with 0 opens every gate and clears ARMED. -/
  | gateDisable (i : Nat)
  /-- R274: At TIME the pending bank becomes active with BASE = TIME. -/
  | gateTakeover (i : Nat)
  /-- R270: A port's 1588 clock is stepped and the gate entry in force follows it. -/
  | clockStep (i value : Nat)
  /-- R278: A connection number and epoch are allocated. -/
  | connCreate (f : Nat)
  /-- R283: Peer parameters are loaded and the connection becomes ACTIVE. -/
  | connConnect (f : Nat)
  /-- R282: A connection stops sending and becomes FREE. -/
  | connDestroy (f : Nat)
  /-- R282: A connection's state is returned. -/
  | connQuery (f : Nat)
  /-- R302: A key index is made ACTIVE with a new generation for a spoke range. -/
  | regionRegister (f : Nat)
  /-- R305: A key enters REVOKING. -/
  | regionRevoke (f : Nat)
  /-- R305: Packets past the key check are placed, the key becomes REVOKED and the response is written. -/
  | revokeComplete (i : Nat)
  /-- R285: A TRANSPORT WRITE descriptor sends LENGTH bytes to the remote region. -/
  | write (o : Nat) (ans : HostAns)
  /-- R285: A TRANSPORT write whose completion is notified at the target with TAG. -/
  | writeTag (o : Nat) (ans : HostAns)
  /-- R285: A TRANSPORT READ descriptor reads remote bytes into LOCAL. -/
  | read (o : Nat)
  /-- R285: A RoCEv2 SEND descriptor sends into the peer's next receive buffer. -/
  | sendMessage (o : Nat) (ans : HostAns)
  /-- R285: A RoCEv2 SEND with immediate. -/
  | sendImm (o : Nat) (ans : HostAns)
  /-- R285: A RoCEv2 WRITE with immediate that consumes a receive buffer. -/
  | writeImm (o : Nat) (ans : HostAns)
  /-- R285: A RoCEv2 receive buffer is posted. -/
  | recv (o : Nat)
  /-- R295: A Yekel WRITE packet arrives and is classified, checked and placed, stored or rejected. -/
  | writePacket (i : Nat) (ans : HostAns)
  /-- R295: A Yekel WRITE_TAG packet arrives; its message's final outcome writes the notification. -/
  | writeTagPacket (i : Nat) (ans : HostAns)
  /-- R298: A Yekel READ_REQUEST arrives and is performed in its ordering turn. -/
  | readRequest (i : Nat) (ans : HostAns)
  /-- R298: A Yekel READ_RESPONSE arrives and its data is placed at the requester. -/
  | readResponse (i : Nat) (ans : HostAns)
  /-- R296: A Yekel ACK releases packets, updates ORDERED_DONE and SRTT and completes work requests. -/
  | ack (i : Nat) (ans : HostAns)
  /-- R296: A Yekel NAK gives its rejected work request a status and is acknowledged. -/
  | nak (i : Nat) (ans : HostAns)
  /-- R306: A NAK_RETRY schedules the packet to be sent again with backoff. -/
  | nakRetry (i : Nat)
  /-- R294: 2 µs after the oldest unacknowledged packet, an ACK is sent. -/
  | ackTimer (c : Nat)
  /-- R296: A packet's RTO expires; it is retransmitted, or the connection enters ERROR at the retry limit. -/
  | retransmitTimeout (c psn : Nat)
  /-- R290: 1 ms after a timeout, a suspect path becomes eligible again. -/
  | pathSuspectExpire (c path : Nat)
  /-- R306: The backoff after NAK_RETRY expires and the packet is sent again. -/
  | retryLaterResend (c psn : Nat)
  /-- R306: NAK_RETRY persists for RETRY_LATER_MS; the connection enters ERROR with TIMEOUT. -/
  | retryLaterExpire (c psn : Nat)
  /-- R309: A RoCEv2 packet arrives and is checked under go-back-N responder rules. -/
  | rocePacketReceived (i : Nat) (ans : HostAns)
  /-- R311: The Local ACK Timeout expires for a PSN, retrying or entering ERROR. -/
  | roceAckTimeout (c psn : Nat)
  /-- R310: The RNR NAK timer expires and the requester resends from that PSN. -/
  | rnrTimer (c : Nat)
  /-- R308: Every 55 µs without CNP, the RoCEv2 sending rate rises. -/
  | roceRateRecovery (c : Nat)
  /-- R315: The lowest free completion counter is given to a spoke. -/
  | counterAlloc (f : Nat)
  /-- R323: A completion counter is freed. -/
  | counterFree (f : Nat)
  /-- R323: A counter's value, failure, interrupt arming and mirror are set. -/
  | counterSet (f : Nat)
  /-- R316: An amount is added to a counter. -/
  | counterAdd (f : Nat)
  /-- R323: A counter's value and flags are returned. -/
  | counterRead (f : Nat)
  /-- R318: TRG applies one update to a counter, satisfying waits, feeding entries and arming interrupts and mirrors. -/
  | counterUpdate (ans : HostAns)
  /-- R322: A mirror write fails finally; MIRROR_EN is cleared and MIRROR_FAULT posted. -/
  | mirrorWriteFailed (c : Nat) (st : Status)
  /-- R329: A trigger entry is bound to a spoke and value. -/
  | triggerBind (f : Nat)
  /-- R332: A trigger entry is unbound and its heads complete FLUSHED. -/
  | triggerUnbind (f : Nat)
  /-- R331: A trigger entry's failure is cleared and its credits discarded. -/
  | triggerReset (f : Nat)
  /-- R344: A STREAM_JOB RUN descriptor is admitted. -/
  | run (o : Nat) (ans mans : HostAns)
  /-- R345: The scheduler binds all stages of a job to cleared tiles and starts them. -/
  | jobBind (j : Nat) (tiles : List Nat) (ans : List HostAns)
  /-- R350: The stream scheduler decides bindings and pre-emptions at events and at least every 100 µs. -/
  | schedulerDecision
  /-- R355: A tile's context save completes and the tile is freed. -/
  | contextSaveComplete (t : Nat)
  /-- R356: A tile's restore completes and the stage resumes at the saved bundle. -/
  | contextRestoreComplete (t : Nat)
  /-- R346: Every stage has ended and every sink written; the job completes. -/
  | jobComplete (j : Nat) (ans : HostAns)
  /-- R347: Bound time exceeds RUN_LIMIT_US and the job fails with TIMEOUT. -/
  | runLimitExpire (j : Nat)
  /-- R347: No progress for DEADLOCK_US and the job fails with TIMEOUT. -/
  | deadlockTimeout (j : Nat)
  /-- R357: A tile is retired or restored. -/
  | tileRetire (f : Nat)
  /-- R584: A tile free for GATE_IDLE_US is power-gated. -/
  | tileGate (t : Nat)
  /-- R376: A tile issues one bundle; all slots read before and write after it. -/
  | bundleIssue (t : Nat) (upsets : List Nat) (srcs : List (Nat × HostAns)) (ans : HostAns)
  /-- R430: CC.EN is set on a PF controller and CSTS.RDY follows within 2 s. -/
  | controllerEnable (h cc : Nat)
  /-- R430: The controller becomes ready and CSTS.RDY rises. -/
  | controllerReady (h : Nat)
  /-- R453: CC.EN is cleared and every command of the controller is abandoned. -/
  | controllerReset (h : Nat)
  /-- R454: CC.SHN requests shutdown and CSTS.SHST completes when commands end. -/
  | shutdown (h shn : Nat)
  /-- R431: An NVMe SQ tail doorbell is written and NVF fetches commands. -/
  | nvmeSqDoorbell (c q tail : Nat) (ans : List HostAns)
  /-- R431: An NVMe CQ head doorbell is written or rejected as an invalid value. -/
  | nvmeCqDoorbell (c q head : Nat)
  /-- R433: An I/O SQ is deleted and its commands abandoned. -/
  | deleteIoSubmissionQueue (i : Nat)
  /-- R433: An I/O SQ is created within the grant. -/
  | createIoSubmissionQueue (i : Nat)
  /-- R434: A supported log page is returned. -/
  | getLogPage (i : Nat) (lists ans : HostAns)
  /-- R433: An I/O CQ is deleted. -/
  | deleteIoCompletionQueue (i : Nat)
  /-- R433: An I/O CQ is created within the grant. -/
  | createIoCompletionQueue (i : Nat)
  /-- R434: Identify data for a supported CNS is returned. -/
  | identify (i : Nat) (lists ans : HostAns)
  /-- R437: A command not yet sent to a backing is aborted. -/
  | abort (i : Nat)
  /-- R434: A supported feature, including power state and queue count, is set. -/
  | setFeatures (i : Nat)
  /-- R434: A supported feature is returned. -/
  | getFeatures (i : Nat)
  /-- R434: An asynchronous event request is held for a later event. -/
  | asynchronousEventRequest (i : Nat)
  /-- R444: Completes when every earlier write of the namespace completes. -/
  | flush (i : Nat)
  /-- R444: Data is staged, encrypted if required, split and written with FUA to the backing. -/
  | nvmeWrite (i : Nat) (lists ans : HostAns)
  /-- R447: Blocks are read from the backing or mirror side and returned. -/
  | nvmeRead (i : Nat)
  /-- R440: LBAs are made to read as zeros. -/
  | writeZeroes (i : Nat)
  /-- R440: Ranges are deallocated or zeroed. -/
  | datasetManagement (i : Nat) (lists ans : HostAns)
  /-- R444: A backing completes a piece and the host completion follows when all pieces are complete. -/
  | backingCompletion (id : Nat) (st : Status) (data : List Bytes) (lists ans : HostAns)
  /-- R443: The path to a backing is lost and requests wait for reconnection. -/
  | backingPathLoss (b : Nat)
  /-- R443: A backing reconnects and waiting requests are reissued. -/
  | backingReconnect (b : Nat)
  /-- R443: No reconnection within LOSS_TMO; waiting commands complete TIMEOUT. -/
  | lossTmoExpire (b : Nat)
  /-- R448: A mirror side's path has been lost for 2 s and it is marked FAILED. -/
  | mirrorPathTimeout (ns : Nat) (sideB : Bool)
  /-- R446: A unit without writes for 5 s has its write-intent bit cleared. -/
  | intentBitClear (ns u : Nat)
  /-- R449: Resynchronisation ends and MIRROR_SYNCED is posted. -/
  | resyncComplete (ns : Nat)
  /-- R455: A backing is added and identified. -/
  | stoBackingAdd (f : Nat) (st : Status) (lbaf nawupf nabspf nsze : Nat) (zeroes : Bool)
  /-- R455: An unused backing is removed. -/
  | stoBackingRemove (f : Nat)
  /-- R456: A namespace is created on one or two backings. -/
  | stoNsCreate (f : Nat)
  /-- R456: A detached namespace is deleted. -/
  | stoNsDelete (f : Nat)
  /-- R438: A namespace is attached to or detached from a controller. -/
  | stoNsAttach (f : Nat)
  /-- R429: A spoke controller is created with its admin queues. -/
  | stoCtrlCreate (f : Nat)
  /-- R429: A spoke controller is destroyed. -/
  | stoCtrlDestroy (f : Nat)
  /-- R449: A FAILED mirror side is reattached and resynchronised. -/
  | stoMirrorReattach (f : Nat)
  /-- R460: A checkpoint session is opened on a store. -/
  | ckpSessionOpen (f : Nat) (table : HostAns) (slots : List HostAns)
  /-- R461: An idle checkpoint session is closed. -/
  | ckpSessionClose (f : Nat)
  /-- R461: A session's drain weight and rate are changed. -/
  | ckpDrainSet (f : Nat)
  /-- R484: A session's state is returned. -/
  | ckpQuery (f : Nat)
  /-- R464: A CAPTURE descriptor takes a cut and begins reading shards. -/
  | capture (o : Nat) (ans : HostAns)
  /-- R466: A shard page read completes, is fingerprinted and kept or skipped, releasing members when done. -/
  | capturePageRead (k lane : Nat) (ans : HostAns)
  /-- R470: A write to a protected page waits until its page is read ahead. -/
  | protectedWrite (k page : Nat) (ans : HostAns)
  /-- R468: LIMIT_MS passes before the capture phase ends; the capture fails. -/
  | captureTimeout (k : Nat)
  /-- R473: A page extent is written to the store, hashed and frees pannier space. -/
  | drainExtentWritten (k : Nat) (st : Status)
  /-- R478: The signed manifest write completes and the checkpoint commits. -/
  | manifestWriteComplete (k : Nat) (st : Status)
  /-- R481: A RESTORE descriptor checks candidate manifests and writes a checkpoint into the shards. -/
  | restore (o : Nat) (slots : List HostAns) (maps : List (Nat × HostAns))
  /-- R481: A stored page read for restore completes, is hashed and widened into its shard. -/
  | restorePageRead (k : Nat) (ans wr : HostAns)
  /-- R505: A key or signing pair is generated. -/
  | keyGenerate (f : Nat)
  /-- R505: A wrapped key is imported. -/
  | keyImport (f : Nat)
  /-- R504: A key is destroyed. -/
  | keyDestroy (f : Nat)
  /-- R505: A key's attributes are returned. -/
  | keyQuery (f : Nat)
  /-- R505: A key is returned wrapped under a WRAP key. -/
  | keyWrap (f : Nat)
  /-- R495: A microcode key identity is enrolled or removed. -/
  | mcodeKeyEnroll (f : Nat)
  /-- R492: An image type's SVN floor is raised. -/
  | svnCommit (f : Nat)
  /-- R491: A customer fuse field is blown. -/
  | fuseProgram (f : Nat)
  /-- R510: A chaining context is created. -/
  | cipherInit (f : Nat)
  /-- R510: Bytes are run through an engine under a context. -/
  | cipherUpdate (f : Nat) (rd wr : HostAns)
  /-- R510: A context ends, producing or checking the tag. -/
  | cipherFinal (f : Nat)
  /-- R512: A context is wrapped out and freed. -/
  | ctxExport (f : Nat) (wr : HostAns)
  /-- R512: A wrapped context is checked and imported. -/
  | ctxImport (f : Nat) (rd : HostAns)
  /-- R514: A fresh unlock nonce is returned. -/
  | debugChallenge (f : Nat)
  /-- R516: The debug level is raised by signed challenge or password. -/
  | debugUnlock (f : Nat) (ans : HostAns) (clean : Bool)
  /-- R516: The debug level is set lower. -/
  | debugLock (f : Nat)
  /-- R514: A JTAG read of DBG_AUTH returns a fresh nonce. -/
  | dbgAuthRead
  /-- R516: A JTAG write to DBG_AUTH performs a signed or password unlock. -/
  | dbgAuthWrite (b : Bytes) (clean : Bool)
  /-- R508: An engine check fails; output is suppressed, the slot quarantined and the key reinstalled. -/
  | cipherCheckFault (engine h user arg : Nat)
  /-- R508: The key is in a spare slot, the engine is tested and the operation retried, or the key fails. -/
  | keyReinstallComplete (h : Nat) (engineOk slotOk : Bool)
  /-- R508: An uncorrectable key-RAM word quarantines its slot. -/
  | keyRamUncorrectable (h : Nat)
  /-- R499: SPDM GET_VERSION is answered. -/
  | getVersion (t : Nat) (req : Bytes)
  /-- R499: SPDM GET_CAPABILITIES is answered. -/
  | getCapabilities (t : Nat) (req : Bytes)
  /-- R499: SPDM NEGOTIATE_ALGORITHMS is answered. -/
  | negotiateAlgorithms (t : Nat) (req : Bytes)
  /-- R499: SPDM GET_DIGESTS is answered. -/
  | getDigests (t : Nat) (req : Bytes)
  /-- R500: SPDM GET_CERTIFICATE returns a chain slot. -/
  | getCertificate (t : Nat) (req : Bytes) (slot off n : Nat)
  /-- R501: SPDM CHALLENGE is answered with both signatures. -/
  | challenge (t : Nat) (req : Bytes) (slot : Nat)
  /-- R501: SPDM GET_MEASUREMENTS returns signed measurement blocks. -/
  | getMeasurements (t : Nat) (req : Bytes) (op : Nat) (sign : Bool)
  /-- R499: An SPDM session key exchange begins. -/
  | keyExchange (t : Nat) (req : Bytes)
  /-- R499: An SPDM session is finished. -/
  | finish (t sid : Nat) (req : Bytes) (ok : Bool)
  /-- R499: An SPDM session heartbeat is answered. -/
  | heartbeat (t sid : Nat)
  /-- R499: An SPDM session key is updated. -/
  | keyUpdate (t sid : Nat)
  /-- R499: An SPDM session ends. -/
  | endSession (t sid : Nat)
  /-- R505: A vendor-defined request installs a WRAP key through a secured session. -/
  | keyInstallWrap (t sid cls : Nat) (persist : Bool) (key : Bytes)
  /-- R523: The operating bundle is read, verified and its services released. -/
  | fwBundleLoad (f : Nat) (hdr : HostAns) (fields images : List HostAns)
  /-- R521: Boot and service status is returned. -/
  | fwStatus (f : Nat)
  /-- R526: A service image is verified and staged, or a rollback staged. -/
  | fwServiceUpdate (f : Nat) (ans : HostAns)
  /-- R527: A staged image is discarded and holds end. -/
  | fwServiceCancel (f : Nat)
  /-- R529: A service group is restarted on command. -/
  | fwServiceRestart (f : Nat)
  /-- R542: A configuration item is written to or removed from the journal. -/
  | fwConfigSet (f : Nat)
  /-- R542: A configuration item is returned. -/
  | fwConfigGet (f : Nat)
  /-- R543: Current rules, cassettes, profiles or port modes are written as defaults. -/
  | fwPersist (f : Nat)
  /-- R534: The log ring of a hierarchy is set or ended. -/
  | fwLogSet (f : Nat)
  /-- R536: A range of trace points is enabled or disabled. -/
  | fwTraceSet (f : Nat)
  /-- R547: DELETE objects are written for the selected journal areas. -/
  | fwJournalClear (f : Nat)
  /-- R526: At the first permitted moment, a staged service image becomes RUNNING. -/
  | serviceActivation (v : Nat)
  /-- R526: WAIT_MS expires before activation and the staged image is discarded. -/
  | updateWaitTimeout (v : Nat)
  /-- R529: A control core's watchdog expires and its group restarts. -/
  | watchdogExpire (core : Nat)
  /-- R529: A core reads uncorrectable memory or takes an unhandled exception and its group restarts. -/
  | coreFault (core : Nat) (memory : Bool)
  /-- R531: A restarted group serves again, settling its command records. -/
  | groupRestartComplete (v : Nat) (digestOk : Bool)
  /-- R539: MGB programs and commits one journal record slot. -/
  | journalWrite (good : Bool)
  /-- R544: The journal's live objects are copied to the other bank and sealed. -/
  | compaction
  /-- R536: An enabled trace point is passed, counted and logged. -/
  | tracePointPass (p core : Nat) (args : List Nat)
  /-- R552: Every 1 µs the limiter compares the estimate with the cap and adjusts K_BUDGET. -/
  | limiterTick (raw tile stor : Nat)
  /-- R549: Every 1 µs a falling effective k is lowered by at most 4. -/
  | kRampDown
  /-- R553: Every 100 µs the power agent measures M and updates the offset. -/
  | offsetUpdate (m e : Nat)
  /-- R554: Every 1 ms the model divergence is compared and conservative mode entered or left. -/
  | divergenceWindow (m e : Nat) (missing : Bool)
  /-- R550: A droop detector trips and K_DROOP rises on all wheels. -/
  | droopTrip
  /-- R550: HOLD passes after the last trip and K_DROOP begins to fall. -/
  | droopHoldExpire
  /-- R551: Every 10 µs the hottest sensor is read and K_THERMAL adjusted. -/
  | thermalSample (t : Nat)
  /-- R552: HOST_W is set. -/
  | pwrLimitSet (f : Nat)
  /-- R556: The H9 joins a peloton. -/
  | pelotonJoin (f : Nat)
  /-- R561: LEAVING is sent and membership ends. -/
  | pelotonLeave (f : Nat)
  /-- R571: Chainring fallback settings are set, or a planned leave or rejoin is started. -/
  | crSet (f : Nat)
  /-- R558: A CADENCE proposal arrives and is recorded for its round. -/
  | cadence (i : Nat)
  /-- R558: A peloton round finishes and the adopted cadence sets K_PELOTON. -/
  | roundFinish
  /-- R567: A chainring COUNT numbers this member and is forwarded. -/
  | countFrame (ttl src seq epoch : Nat) (body : Bytes) (ok : Bool)
  /-- R568: A chainring BUDGET sets RACK_W and is acknowledged. -/
  | budgetFrame (ttl src seq epoch : Nat) (body : Bytes) (ok : Bool)
  /-- R570: A chainring ACK ends retransmission of a FAULT and is forwarded. -/
  | ackFrame (ttl src seq epoch : Nat) (body : Bytes) (ok : Bool)
  /-- R565: A chainring FAULT of another member is forwarded, or its own stripped. -/
  | faultFrame (ttl src seq epoch : Nat) (body : Bytes) (ok : Bool)
  /-- R570: Every 5 ms an unacknowledged FAULT is sent again. -/
  | faultRetransmit (seq : Nat)
  /-- R569: No BUDGET within BUDGET_TIMEOUT_MS; RACK_W falls to the fallback. -/
  | budgetTimeout
  /-- R571: 2 ms after CR_BYPASS_N rises the member forwards and sends JOINED. -/
  | joinBypassSettled
  /-- R571: Every 1 s until numbered, JOINED is sent again. -/
  | joinedRepeat
  /-- R571: On the master's ACK or 10 ms after LEAVING, CR_BYPASS_N is driven low. -/
  | leaveBypassClose
  /-- R577: A soft device reset resets the hub and rim die W. -/
  | deviceSoftReset (f : Nat)
  /-- R577: The soft reset sequence ends and SC serves the mailbox. -/
  | softResetComplete (results : List TestResult) (failed spares : List Nat) (ok : Bool)
  /-- R586: Package standby is entered by mailbox request. -/
  | standbyEnter (f : Nat)
  /-- R610: Vendor-defined MCTP command 0x01 enters package standby. -/
  | mctpStandbyEnter
  /-- R586: Vendor-defined MCTP command 0x02 raises PWR_EN_MAIN and bring-up resumes. -/
  | standbyExit
  /-- R610: Vendor-defined MCTP command 0x03 returns five status registers. -/
  | getStatus
  /-- R593: One self-test is run on demand. -/
  | tstRun (f : Nat)
  /-- R594: Self-test result records are returned. -/
  | tstResults (f : Nat)
  /-- R597: Tray-retirement causes are removed. -/
  | trayRetireClear (f : Nat)
  /-- R602: A histogram class is copied and optionally cleared. -/
  | telHistRead (f : Nat)
  /-- R603: Flow sampling and timeouts are set. -/
  | telFlowSet (f : Nat)
  /-- R608: IPFIX export is configured. -/
  | telIpfixSet (f : Nat)
  /-- R604: Every cached flow is ended and exported. -/
  | telFlowFlush (f : Nat)
  /-- R607: The host telemetry ring is set or ended. -/
  | telRingSet (f : Nat)
  /-- R604: A flow without samples for IDLE_S ends and is exported. -/
  | flowIdleTimeout (i : Nat)
  /-- R604: ACTIVE_S after its last export a flow record is exported and restarted. -/
  | flowActiveTimeout (i : Nat)
  /-- R606: Every 600 s the template set is sent again. -/
  | templateRefresh
  /-- R609: The bus owner assigns the EID. -/
  | setEndpointId (dst op eid : Nat)
  /-- R609: The EID is returned. -/
  | getEndpointId (dst : Nat)
  /-- R609: The endpoint UUID is returned. -/
  | getEndpointUuid (dst : Nat)
  /-- R609: Supported MCTP versions are returned. -/
  | getMctpVersionSupport (dst type : Nat)
  /-- R609: Supported message types are returned. -/
  | getMessageTypeSupport (dst : Nat)
  /-- R609: Vendor-defined message support is returned. -/
  | getVendorDefinedMessageSupport (dst selector : Nat)
  /-- R611: PLDM GetTID is answered. -/
  | getTid
  /-- R611: PLDM SetTID sets the terminus ID. -/
  | setTid (tid : Nat)
  /-- R611: PLDM GetPLDMVersion is answered. -/
  | getPldmVersion (type : Nat)
  /-- R611: PLDM GetPLDMTypes is answered. -/
  | getPldmTypes
  /-- R611: PLDM GetPLDMCommands is answered. -/
  | getPldmCommands (type : Nat)
  /-- R612: The PLDM event receiver is named. -/
  | setEventReceiver (enable : Bool) (eid : Nat)
  /-- R611: A numeric sensor reading is returned. -/
  | getSensorReading (id : Nat)
  /-- R611: State sensor readings are returned. -/
  | getStateSensorReadings (id : Nat)
  /-- R611: PDR repository information is returned. -/
  | getPdrRepositoryInfo
  /-- R611: A PDR is returned. -/
  | getPdr (handle : Nat)
  /-- R611: Every 100 ms numeric sensors update, sending events on crossings. -/
  | sensorUpdate (temps : List Nat) (acks : Nat)
  /-- R613: PLDM firmware device descriptors are returned. -/
  | queryDeviceIdentifiers
  /-- R613: Firmware parameters are returned. -/
  | getFirmwareParameters
  /-- R613: A firmware update mode is entered. -/
  | requestUpdate (size : Nat)
  /-- R613: The component table is accepted. -/
  | passComponentTable (cls id : Nat)
  /-- R613: Transfer of the standby image component begins. -/
  | updateComponent (cls id size : Nat)
  /-- R613: Requested image data arrives and is written to the non-running copy. -/
  | requestFirmwareData (d : Bytes)
  /-- R613: Activation is reported to take effect at the next RESET_N. -/
  | activateFirmware (selfContained : Bool)
  /-- R613: PLDM firmware update status is returned. -/
  | pldmGetStatus
  /-- R613: The component update is cancelled. -/
  | cancelUpdateComponent
  /-- R613: The firmware update is cancelled. -/
  | cancelUpdate
  /-- R85: VDD_AON is removed; THERMTRIP_N is released, CR_BYPASS_N goes high-impedance and the package loses all state. -/
  | vddAonRemoved
  /-- R586: Within 1 ms of a requested entry, data paths are stopped, downstream PERST# and PWR_EN_MAIN go low and STANDBY_PENDING is cleared. -/
  | standbyEntered
  /-- R129: A peer-window request stops being in flight: it is performed in HBM, has left the target port, or has had its last completion sent, and OLDEST_LIVE and BUSY are updated. -/
  | windowRequestPerformed (i : Nat)
  /-- R282: No packet of a destroyed connection can still be placed, and the response of CONN_DESTROY, or the end of the spoke's or function's destruction, is written. -/
  | connDestroyComplete (c : Nat)
  /-- R293: After each SRTT without a fall, a Yekel connection's CWND rises by one packet, up to 256. -/
  | cwndRise (c : Nat)
  /-- R256: A shaper node's committed and peak buckets gain their rate up to the burst, applying any weight or rate change and letting skipped heads become eligible. -/
  | bucketRefill (sub : Nat)
  /-- R270: The port clock passes the end of a gate entry's interval and the next entry, with its gate mask, comes into force. -/
  | gateEntryChange (i : Nat)
  /-- R562: At the end of the 1 ms limit, the latest adopted cadence is posted as CADENCE_CHANGED. -/
  | cadenceChanged
  /-- R593: An on-demand self-test ends; its result record is written, BUSY clears, the tested unit returns to service or is retired, and the response is written. -/
  | testComplete (passed : Bool) (durationUs fails locator : Nat)
deriving DecidableEq, Repr

end Sys2Proof
end

