-- ==== Sys2Proof/Decode.lean ====
section
/-! DEFINITION. The command that a word spells by the table's bits.  The opcode table gives no row any bits, so no word
spells a command. -/

namespace Sys2Proof

/-- Log entry 4, DESIGN CHOICE. -/
def decodeTableWord (_nbits _w : Nat) : Option Instr := none

end Sys2Proof
end

