-- ==== Sys2Proof/Config.lean ====
section
/-! DEFINITION. What an implementation fixes, the published functions the spec only names, and the free values.
Every constant without a body is a value the spec leaves open: nothing in Lean can evaluate it. -/

namespace Sys2Proof.Config

/-- Free value number `n`: what the spec calls random, unspecified or opaque.  Applied to `State.freeCtr`
(log entry 2, DESIGN CHOICE). -/
opaque freeValue : Nat → Nat

/-- The four STRONG check bytes of a 64-byte block (R175 names the code and gives no generator)
(log entry 36, PRESUMED). -/
opaque strongCheck : List (BitVec 8) → Nat

/-- The eight LIGHT check bytes of a 64-byte block, byte i that of beat i (R175 gives no parity matrix)
(log entry 36, PRESUMED). -/
opaque lightCheck : List (BitVec 8) → Nat

/-- What the decoder of a code makes of a block and its stored check bits when they do not agree:
`none` when uncorrectable, otherwise the corrected data and the symbols or bits corrected
(log entry 36, PRESUMED). -/
opaque eccDecode : Bool → List (BitVec 8) → Nat → Option (List (BitVec 8) × Nat)

/-! Published algorithms that the spec names by their standard.  Keys, nonces and data are byte sequences. -/

/-- AES-GCM (NIST SP 800-38D) encryption: ciphertext followed by the 16-byte tag
(log entries 7, PRESUMED; 111, DESIGN CHOICE). -/
opaque aesGcmSeal (key iv aad pt : List (BitVec 8)) : List (BitVec 8)

/-- AES-GCM decryption of ciphertext followed by its tag: none when the tag does not verify
(log entries 7, PRESUMED; 111, DESIGN CHOICE). -/
opaque aesGcmOpen (key iv aad ct : List (BitVec 8)) : Option (List (BitVec 8))

/-- MACsec (IEEE 802.1AE) protection of a frame under an SA: key, SCI, packet number, XPN, salt, SSCI, AN
(log entry 7, PRESUMED). -/
opaque macsecSeal (key : List (BitVec 8)) (sci pn : Nat) (xpn : Bool) (salt ssci an : Nat) (frame : List (BitVec 8)) :
  List (BitVec 8)

/-- MACsec verification: the frame without SecTAG and ICV, or none when its ICV does not verify
(log entry 7, PRESUMED). -/
opaque macsecOpen (key : List (BitVec 8)) (sci pn : Nat) (xpn : Bool) (salt ssci an : Nat) (frame : List (BitVec 8)) :
  Option (List (BitVec 8))

/-- SHA-384 (FIPS 180-4) (log entries 7, PRESUMED; 118, DEDUCED). -/
opaque sha384 : List (BitVec 8) → List (BitVec 8)

/-- Ed25519 (RFC 8032) and ML-DSA-65 (FIPS 204) verification: public key, message, signature
(log entries 7, PRESUMED; 118, DEDUCED). -/
opaque edVerify (pub msg sig : List (BitVec 8)) : Bool
/-- Log entries 7, PRESUMED; 118, DEDUCED. -/
opaque mldsaVerify (pub msg sig : List (BitVec 8)) : Bool

/-! Values that the spec leaves to the implementation. -/

/-- Whether the unknown-SCI policy of the SecY of a sub-port is PASS (R222 names the policy and no command sets it)
(log entry 52, DEDUCED). -/
opaque secyPass (sub : Nat) : Bool

/-- The source MAC address of the frames that the H9 builds on a sub-port (log entry 78, DEDUCED). -/
opaque portMac (sub : Nat) : Nat

/-- The TTL or hop limit, and the IPv4 flags and fragment word, of the IP headers that the H9 builds
(log entries 78, DEDUCED; 168, DEDUCED). -/
opaque ipTtl : Nat
/-- Log entries 78, DEDUCED; 168, DEDUCED. -/
opaque ipFlags : Nat

/-- Which of several exact-match entries that hold in a version under one key a lookup finds
(log entry 48, DESIGN CHOICE). -/
opaque emPick (version : Nat) (key : List (BitVec 8)) : Nat

/-- The outer header that an outbound tunnel SA puts before an inner packet: no command gives its addresses
(log entries 55, PRESUMED; 64, DEDUCED). -/
opaque tunnelHeader (sa : Nat) (inner : List (BitVec 8)) : List (BitVec 8)

/-- R605: the UTC offset from PTP in nanoseconds that the network control plane holds (log entry 168, DEDUCED). -/
opaque utcOffset : Nat

/-- R361: which NaN a NaN result is (log entry 98, DESIGN CHOICE). -/
opaque nanPick : Nat

/-! What the NVM Express specifications leave to a controller and chapter 13 does not give. -/

/-- The Identify Controller structure of a controller, apart from the fields that R434 gives
(log entries 7, PRESUMED; 102, PRESUMED). -/
opaque nvmeIdentify (ctrl : Nat) : List (BitVec 8)

/-- The NGUID of a namespace (log entry 102, PRESUMED). -/
opaque nguid (nsid : Nat) : List (BitVec 8)

/-- The SMART / Health Information page of a controller, apart from its critical warning
(log entries 7, PRESUMED; 102, PRESUMED). -/
opaque nvmeSmart (ctrl : Nat) : List (BitVec 8)

/-! More published algorithms. -/

/-- GHASH (NIST SP 800-38D) under a hash key of a message of whole 16-byte blocks with its length block
(log entries 7, PRESUMED; 118, DEDUCED). -/
opaque ghash (h data : List (BitVec 8)) : List (BitVec 8)

/-- The public keys of a signing pair's seed, and signatures by it; `rnd` is ML-DSA's random input
(log entry 7, PRESUMED). -/
opaque edPublic (seed : List (BitVec 8)) : List (BitVec 8)
/-- Log entry 7, PRESUMED. -/
opaque mldsaPublic (seed : List (BitVec 8)) : List (BitVec 8)
/-- Log entries 7, PRESUMED; 118, DEDUCED. -/
opaque edSign (seed msg : List (BitVec 8)) : List (BitVec 8)
/-- Log entries 7, PRESUMED; 118, DEDUCED. -/
opaque mldsaSign (seed msg : List (BitVec 8)) (rnd : Nat) : List (BitVec 8)

/-- AES-KW (RFC 3394) wrapping and unwrapping: none when the integrity check fails
(log entries 7, PRESUMED; 123, DEDUCED). -/
opaque aesKwWrap (kek key : List (BitVec 8)) : List (BitVec 8)
/-- Log entries 7, PRESUMED; 123, DEDUCED. -/
opaque aesKwUnwrap (kek wrapped : List (BitVec 8)) : Option (List (BitVec 8))

/-- HKDF (RFC 5869) with SHA-384: secret, label, length (log entry 7, PRESUMED). -/
opaque hkdf (secret label : List (BitVec 8)) (n : Nat) : List (BitVec 8)

/-- DUS (R490): the device-unique secret, readable by nothing but key derivation (log entry 124, DESIGN CHOICE). -/
opaque dus : List (BitVec 8)

/-- SHA-384 of the boot ROM's version record (R497) (log entry 124, DESIGN CHOICE). -/
opaque romDigest : List (BitVec 8)

/-- The configuration record of register 5 (R497), as a function of GLB_STRAP, the three SVN floors and
FW_ANCHOR_REVOKE: the spec gives its contents and no layout (log entry 124, DESIGN CHOICE). -/
opaque configRecord (strap standby root service revoke : Nat) : List (BitVec 8)

/-- The debug record of register 6 (R497, R516): its contents are the level, the method and the key identity or
password, its layout is not given (log entry 124, DESIGN CHOICE). -/
opaque debugRecord (level method : Nat) (id : List (BitVec 8)) : List (BitVec 8)

/-- R588: the epoch of a connection number and the generation of a key index drawn after an HBM fill; `seed` names the
fill (log entry 73, DESIGN CHOICE). -/
opaque startEpoch (seed conn : Nat) : Nat
/-- Log entry 73, DESIGN CHOICE. -/
opaque startGen (seed index : Nat) : Nat

/-! The engine arithmetic of a chaining context (R509): mode, key and the 96-byte context. -/

/-- The ACC field after more additional data (`pay` false) or payload has been authenticated
(log entries 7, PRESUMED; 123, DEDUCED). -/
opaque aeadAcc (mode : Nat) (key ctx : List (BitVec 8)) (pay : Bool) (data : List (BitVec 8)) : List (BitVec 8)

/-- The next `n` keystream bytes (log entries 7, PRESUMED; 123, DEDUCED). -/
opaque aeadStream (mode : Nat) (key ctx : List (BitVec 8)) (n : Nat) : List (BitVec 8)

/-- The 16-byte tag (log entries 7, PRESUMED; 123, DEDUCED). -/
opaque aeadTag (mode : Nat) (key ctx : List (BitVec 8)) : List (BitVec 8)

/-! Attestation (R499-R501): what DSP0274 and the certificates give. -/

/-- The certificate chain of a slot, as its measurement register 3 fixes the Alias certificate
(log entries 7, PRESUMED; 130, PRESUMED). -/
opaque certChain (slot : Nat) (reg3 : List (BitVec 8)) : List (BitVec 8)

/-- The message that DSP0274 defines for a signature, from the exchange so far and the response without signature
(log entries 7, PRESUMED; 130, PRESUMED). -/
opaque spdmMessage (code : Nat) (transcript response : List (BitVec 8)) : List (BitVec 8)

/-- The parts of an SPDM response that DSP0274 defines and chapter 15 does not
(log entries 7, PRESUMED; 130, PRESUMED). -/
opaque spdmBody (code : Nat) (request : List (BitVec 8)) (rnd : Nat) : List (BitVec 8)

/-! Management (R609, R611): values that the spec gives no number for. -/

/-- The endpoint UUID (log entry 171, PRESUMED). -/
opaque endpointUuid : List (BitVec 8)

/-- The version entries of a supported MCTP message type, and those of a PLDM type, in DMTF's 4-byte form
(log entry 171, PRESUMED). -/
opaque mctpVersions (type : Nat) : List (BitVec 8)
/-- Log entry 171, PRESUMED. -/
opaque pldmVersions (type : Nat) : List (BitVec 8)

/-- The vendor-defined command set version that Get Vendor Defined Message Support returns
(log entry 171, PRESUMED). -/
opaque vendorSet : Nat

end Sys2Proof.Config
end

