-- ==== Sys2Proof/Machine/Operands.lean ====
section
/-! DEFINITION. Reading the fields of a payload, descriptor, packet or record, and writing them (R6: little-endian). -/

namespace Sys2Proof.Machine
open Sys2Proof

/-- Bits hi..lo of a number. -/
def bits (v hi lo : Nat) : Nat := v / 2 ^ lo % 2 ^ (hi + 1 - lo)

/-- Bit i of a number. -/
def bit (v i : Nat) : Bool := v / 2 ^ i % 2 == 1

/-- The number with bits hi..lo replaced by `x`. -/
def setBits (v hi lo x : Nat) : Nat :=
  let w := 2 ^ (hi + 1 - lo)
  v / 2 ^ (hi + 1) * 2 ^ (hi + 1) + (x % w) * 2 ^ lo + v % 2 ^ lo

/-- A Boolean as one bit. -/
def b2n (b : Bool) : Nat := if b then 1 else 0

/-- The little-endian value of a byte sequence. -/
def le : Bytes → Nat
  | [] => 0
  | b :: t => b.toNat + 256 * le t

/-- `n` little-endian bytes of a number. -/
def toLe : Nat → Nat → Bytes
  | 0, _ => []
  | n + 1, v => BitVec.ofNat 8 v :: toLe n (v / 256)

/-- The big-endian value of a byte sequence (published headers). -/
def be (b : Bytes) : Nat := b.foldl (fun a x => a * 256 + x.toNat) 0

/-- `n` big-endian bytes of a number. -/
def toBe (n v : Nat) : Bytes := (toLe n v).reverse

/-- `n` bytes at offset `off`; fewer when the sequence ends. -/
def slice (b : Bytes) (off n : Nat) : Bytes := (b.drop off).take n

/-- The little-endian field of `n` bytes at offset `off`. -/
def fld (b : Bytes) (off n : Nat) : Nat := le (slice b off n)

/-- The big-endian field of `n` bytes at offset `off`. -/
def fldBe (b : Bytes) (off n : Nat) : Nat := be (slice b off n)

/-- Byte, 16-, 32- and 64-bit fields. -/
def u8 (b : Bytes) (off : Nat) : Nat := fld b off 1
def u16 (b : Bytes) (off : Nat) : Nat := fld b off 2
def u32 (b : Bytes) (off : Nat) : Nat := fld b off 4
def u64 (b : Bytes) (off : Nat) : Nat := fld b off 8

/-- `n` zero bytes. -/
def zeros (n : Nat) : Bytes := List.replicate n 0

/-- A byte sequence cut or filled with zeros to `n` bytes. -/
def padTo (n : Nat) (b : Bytes) : Bytes := (b ++ zeros (n - b.length)).take n

/-- A sequence with the bytes from `off` replaced. -/
def patch (b : Bytes) (off : Nat) (x : Bytes) : Bytes := b.take off ++ x ++ b.drop (off + x.length)

/-- A counter that holds at its maximum. -/
def satAdd (w v n : Nat) : Nat := min (v + n) (2 ^ w - 1)

/-- Division rounded up. -/
def ceilDiv (a b : Nat) : Nat := (a + b - 1) / b

end Sys2Proof.Machine
end

