-- ==== Sys2Proof/Machine/Flags.lean ====
section
/-! DEFINITION. Status and detail codes and which of several established conditions is reported (R11-R15). -/

namespace Sys2Proof
open Sys2Proof.Machine

/-- R11, R15: the code of a status. -/
def Status.code : Status → Nat
  | .success => 0x00
  | .flushed => 0x01
  | .accessViolation => 0x02
  | .keyStale => 0x03
  | .regionRevoked => 0x04
  | .translationFault => 0x05
  | .poisoned => 0x06
  | .timeout => 0x07
  | .malformed => 0x08
  | .notPermitted => 0x09
  | .resource => 0x0A
  | .abortedByFw => 0x0B
  | .mediumError => 0x0C
  | .versionMismatch => 0x0D
  | .integrity => 0x0E
  | .retryLater => 0x0F
  | .linkContained => 0x80
  | .meterDrop => 0x90
  | .waitFailed => 0x98
  | .tileException => 0xA0
  | .cipherFault => 0xB0
  | .keyFailed => 0xB1
  | .rollback => 0xB2
  | .serviceDown => 0xC0

/-- The status a code names (R13: 0x10-0x7F never occur). -/
def Status.ofCode : Nat → Option Status
  | 0x00 => some .success
  | 0x01 => some .flushed
  | 0x02 => some .accessViolation
  | 0x03 => some .keyStale
  | 0x04 => some .regionRevoked
  | 0x05 => some .translationFault
  | 0x06 => some .poisoned
  | 0x07 => some .timeout
  | 0x08 => some .malformed
  | 0x09 => some .notPermitted
  | 0x0A => some .resource
  | 0x0B => some .abortedByFw
  | 0x0C => some .mediumError
  | 0x0D => some .versionMismatch
  | 0x0E => some .integrity
  | 0x0F => some .retryLater
  | 0x80 => some .linkContained
  | 0x90 => some .meterDrop
  | 0x98 => some .waitFailed
  | 0xA0 => some .tileException
  | 0xB0 => some .cipherFault
  | 0xB1 => some .keyFailed
  | 0xB2 => some .rollback
  | 0xC0 => some .serviceDown
  | _ => none

/-- R12, R15: the rank of a condition, ten per precedence number; a lower rank is reported first.  A detail code
comes directly before the status whose precedence it shares, and lower detail codes before higher ones. -/
def Status.rank : Status → Nat
  | .serviceDown => 5
  | .malformed => 10
  | .waitFailed => 15
  | .versionMismatch => 20
  | .notPermitted => 30
  | .regionRevoked => 40
  | .keyStale => 50
  | .meterDrop => 59
  | .accessViolation => 60
  | .translationFault => 70
  | .poisoned => 80
  | .rollback => 89
  | .integrity => 90
  | .cipherFault => 98
  | .keyFailed => 99
  | .mediumError => 100
  | .resource => 110
  | .linkContained => 119
  | .timeout => 120
  | .tileException => 125
  | .retryLater => 130
  | .flushed => 140
  | .abortedByFw => 150
  | .success => 1000

/-- R12: of two established conditions, the one reported. -/
def Status.worse (a b : Status) : Status := if b.rank < a.rank then b else a

/-- The condition reported among those established, SUCCESS when there is none. -/
def Machine.worst (l : List Status) : Status := l.foldl Status.worse .success

/-- The first condition of an ordered list of checks that holds, SUCCESS when none does. -/
def Machine.checks : List (Bool × Status) → Status
  | [] => .success
  | (c, st) :: t => if c then st else checks t

end Sys2Proof
end

