-- ==== Sys2Proof/Machine/RegTable.lean ====
section
/-! DEFINITION. The register map of BAR0 of PF0: one entry per register that the spec's register tables define, with
its offset, its array dimensions, its reset domain and its fields with access code and reset value.  A field whose
reset value the tables take from straps, journal, fuses or self-test has here the value without a journal record
(R184, R519) and with blank fuses; `Machine.Boot` overwrites it at a start. -/

namespace Sys2Proof.Machine

/-- R9: access codes. -/
inductive Access where
  | rw
  | ro
  | w1c
  | w1s
  | wo
  | rwc
deriving DecidableEq, Repr

/-- R10: reset domains. -/
inductive Domain where
  | por
  | pkg
  | soft
  | link
  | func
  | unit
deriving DecidableEq, Repr

/-- One field of a register. -/
structure RegField where
  hi : Nat
  lo : Nat
  acc : Access
  reset : Nat
deriving DecidableEq, Repr

/-- The registers. -/
inductive RegName where
  | glbId
  | glbD2dStatus
  | glbTimeSnap
  | glbTimeRec
  | glbBadAccess
  | pciCtlCfg
  | pciWinBase
  | pciWinLimit
  | pciWinTarget
  | pciWinAttr
  | pciWinCtl
  | pciWinGen
  | glbHeartbeat
  | memRegion
  | memHbmStat
  | memScrubCtl
  | memRawAddr
  | memRawData
  | memRawCheck
  | memRawCmd
  | pktDrop
  | pktPortCfg
  | pktFcCfg
  | pktShift
  | pktVerSlot
  | schGlobal
  | schOvh
  | schSubportCfg
  | schColorMap
  | schGateCtl
  | schGateTakeover
  | schGateBase
  | schGateCycle
  | schGateEntry
  | xptCnt
  | xptReorder
  | glbTrgStat
  | glbCntValue
  | glbCntStat
  | strSchedCfg
  | strStat
  | strPreempt
  | strTile
  | stoStat
  | ckpStat
  | ckpCnt
  | secStat
  | secEngineStat
  | fwmCoreStat
  | fwmServiceStat
  | fwmJournalStat
  | fwmLogStat
  | fwmTraceCnt
  | pwrStat
  | pwrCap
  | pwrWheel
  | pwrPeloton
  | pwrCrStat
  | pwrDroopCfg
  | pwrCnt
  | glbLowpwr
  | glbStrap
  | glbResetCause
  | tstStat
  | glbRetire
  | telPortCnt
  | telHist
  | telStat
deriving DecidableEq, Repr

/-- A register, or an array of registers (log entry 3, DESIGN CHOICE). -/
structure RegDef where
  name : RegName
  base : Nat
  dims : List (Nat × Nat)      -- (count, stride) of each index
  dom : Domain
  fields : List RegField
deriving DecidableEq, Repr

/-- The registers of chapter 00. -/
def regTable00 : List RegDef := [
  ⟨.glbId, 0, [], .por,
    [⟨15, 0, .ro, 0x1f9d⟩,
     ⟨23, 16, .ro, 1⟩,
     ⟨31, 24, .ro, 9⟩,
     ⟨39, 32, .ro, 0x11⟩,
     ⟨43, 40, .ro, 1⟩]⟩]

/-- The registers of chapter 01. -/
def regTable01 : List RegDef := [
  ⟨.glbD2dStatus, 0x180, [], .pkg,
    [⟨7, 0, .ro, 0⟩,
     ⟨15, 8, .ro, 0⟩,
     ⟨47, 16, .ro, 0⟩]⟩,
  ⟨.glbTimeSnap, 0x100, [], .soft,
    [⟨0, 0, .w1s, 0⟩,
     ⟨1, 1, .ro, 0⟩,
     ⟨2, 2, .w1c, 0⟩,
     ⟨4, 4, .rw, 0⟩,
     ⟨31, 16, .rw, 0⟩,
     ⟨63, 32, .ro, 0⟩]⟩,
  ⟨.glbTimeRec, 0x1000, [(128, 8)], .soft,
    [⟨63, 0, .ro, 0⟩]⟩,
  ⟨.glbBadAccess, 0x188, [], .soft,
    [⟨47, 0, .ro, 0⟩,
     ⟨50, 48, .ro, 0⟩,
     ⟨53, 52, .ro, 0⟩,
     ⟨54, 54, .ro, 0⟩]⟩]

/-- The registers of chapter 03. -/
def regTable03 : List RegDef := [
  ⟨.pciCtlCfg, 0x100000, [(10, 0x100)], .pkg,
    [⟨1, 0, .ro, 0⟩,
     ⟨3, 2, .ro, 0⟩,
     ⟨4, 4, .ro, 0⟩,
     ⟨7, 5, .rw, 5⟩,
     ⟨15, 8, .rw, 8⟩,
     ⟨16, 16, .rw, 1⟩,
     ⟨17, 17, .ro, 0⟩]⟩,
  ⟨.pciWinBase, 0x110000, [(40, 0x2000), (64, 0x20)], .soft,
    [⟨37, 16, .rw, 0⟩]⟩,
  ⟨.pciWinLimit, 0x110008, [(40, 0x2000), (64, 0x20)], .soft,
    [⟨37, 16, .rw, 0⟩]⟩,
  ⟨.pciWinTarget, 0x110010, [(40, 0x2000), (64, 0x20)], .soft,
    [⟨63, 16, .rw, 0⟩]⟩,
  ⟨.pciWinAttr, 0x110018, [(40, 0x2000), (64, 0x20)], .soft,
    [⟨0, 0, .rw, 0⟩,
     ⟨1, 1, .rw, 0⟩,
     ⟨7, 2, .rw, 0⟩,
     ⟨8, 8, .rw, 0⟩,
     ⟨9, 9, .rw, 0⟩,
     ⟨10, 10, .rw, 0⟩]⟩,
  ⟨.pciWinCtl, 0x111000, [(40, 0x2000)], .soft,
    [⟨0, 0, .w1s, 0⟩,
     ⟨1, 1, .ro, 0⟩,
     ⟨2, 2, .w1c, 0⟩,
     ⟨3, 3, .w1c, 0⟩,
     ⟨9, 4, .ro, 0⟩]⟩,
  ⟨.pciWinGen, 0x111008, [(40, 0x2000)], .soft,
    [⟨31, 0, .ro, 0⟩,
     ⟨63, 32, .ro, 0⟩]⟩]

/-- The registers of chapter 04. -/
def regTable04 : List RegDef := [
  ⟨.glbHeartbeat, 0x200, [], .func,
    [⟨0, 0, .w1s, 0⟩,
     ⟨2, 1, .ro, 0⟩,
     ⟨29, 16, .rw, 0x1f4⟩,
     ⟨63, 32, .ro, 0⟩]⟩]

/-- The registers of chapter 05. -/
def regTable05 : List RegDef := [
  ⟨.memRegion, 0x200000, [(64, 8)], .pkg,
    [⟨0, 0, .ro, 0⟩,
     ⟨1, 1, .ro, 0⟩,
     ⟨4, 2, .ro, 0⟩,
     ⟨5, 5, .ro, 0⟩,
     ⟨6, 6, .ro, 0⟩,
     ⟨24, 8, .ro, 0⟩,
     ⟨48, 32, .ro, 0⟩]⟩,
  ⟨.memHbmStat, 0x200200, [(6, 8)], .pkg,
    [⟨1, 0, .ro, 0⟩,
     ⟨2, 2, .ro, 0⟩,
     ⟨3, 3, .ro, 0⟩,
     ⟨15, 8, .ro, 0⟩,
     ⟨47, 16, .ro, 0⟩,
     ⟨63, 48, .ro, 0⟩]⟩,
  ⟨.memScrubCtl, 0x200300, [], .soft,
    [⟨0, 0, .rw, 1⟩,
     ⟨31, 16, .rw, 0x18⟩,
     ⟨63, 32, .ro, 0⟩]⟩,
  ⟨.memRawAddr, 0x201000, [], .soft,
    [⟨47, 6, .rw, 0⟩]⟩,
  ⟨.memRawData, 0x201008, [(8, 8)], .soft,
    [⟨63, 0, .rw, 0⟩]⟩,
  ⟨.memRawCheck, 0x201048, [], .soft,
    [⟨63, 0, .rw, 0⟩]⟩,
  ⟨.memRawCmd, 0x201050, [], .soft,
    [⟨1, 0, .wo, 0⟩,
     ⟨2, 2, .ro, 0⟩,
     ⟨5, 4, .ro, 0⟩,
     ⟨15, 8, .ro, 0⟩]⟩]

/-- The registers of chapter 06. -/
def regTable06 : List RegDef := [
  ⟨.pktDrop, 0x303000, [(32, 0x40), (8, 8)], .soft,
    [⟨63, 0, .ro, 0⟩]⟩,
  ⟨.pktPortCfg, 0x300000, [(8, 0x100)], .soft,
    [⟨1, 0, .rwc, 0⟩,
     ⟨2, 2, .rwc, 1⟩,
     ⟨3, 3, .rwc, 0⟩,
     ⟨5, 4, .rwc, 0⟩,
     ⟨6, 6, .w1s, 0⟩,
     ⟨7, 7, .w1c, 0⟩,
     ⟨21, 8, .rwc, 0x2400⟩,
     ⟨35, 32, .ro, 0⟩]⟩,
  ⟨.pktFcCfg, 0x301000, [(32, 8)], .soft,
    [⟨1, 0, .rw, 0⟩,
     ⟨15, 8, .rw, 0⟩,
     ⟨31, 16, .rw, 0x2000⟩,
     ⟨47, 32, .rw, 0x1800⟩]⟩,
  ⟨.pktShift, 0x302000, [], .soft,
    [⟨31, 0, .ro, 1⟩,
     ⟨63, 32, .ro, 1⟩]⟩,
  ⟨.pktVerSlot, 0x302008, [(4, 8)], .soft,
    [⟨31, 0, .ro, 0⟩,
     ⟨62, 32, .ro, 0⟩,
     ⟨63, 63, .ro, 0⟩]⟩]

/-- The registers of chapter 07. -/
def regTable07 : List RegDef := [
  ⟨.schGlobal, 0x400000, [], .soft,
    [⟨15, 0, .rw, 0x40⟩]⟩,
  ⟨.schOvh, 0x400100, [(16, 8)], .soft,
    [⟨6, 0, .rw, 0⟩]⟩,
  ⟨.schSubportCfg, 0x401000, [(32, 8)], .soft,
    [⟨7, 0, .rw, 0x80⟩,
     ⟨11, 8, .rw, 0⟩,
     ⟨23, 16, .rw, 0xa⟩,
     ⟨47, 32, .rw, 0⟩]⟩,
  ⟨.schColorMap, 0x402000, [(2, 8)], .soft,
    [⟨63, 0, .rw, 0⟩]⟩,
  ⟨.schGateCtl, 0x403000, [(8, 0x40)], .soft,
    [⟨0, 0, .rw, 0⟩,
     ⟨1, 1, .ro, 0⟩,
     ⟨2, 2, .ro, 0⟩,
     ⟨3, 3, .w1s, 0⟩,
     ⟨4, 4, .w1s, 0⟩,
     ⟨5, 5, .w1c, 0⟩,
     ⟨10, 8, .ro, 0⟩,
     ⟨26, 16, .rw, 0⟩,
     ⟨42, 32, .ro, 0⟩]⟩,
  ⟨.schGateTakeover, 0x403008, [(8, 0x40)], .soft,
    [⟨63, 0, .rw, 0⟩]⟩,
  ⟨.schGateBase, 0x403010, [(8, 0x40)], .soft,
    [⟨63, 0, .ro, 0⟩]⟩,
  ⟨.schGateCycle, 0x403018, [(8, 0x40)], .soft,
    [⟨31, 0, .ro, 0⟩]⟩,
  ⟨.schGateEntry, 0x420000, [(8, 0x4000), (2, 0x2000), (1024, 8)], .soft,
    [⟨7, 0, .rw, 0⟩,
     ⟨39, 8, .rw, 0⟩]⟩]

/-- The registers of chapter 08. -/
def regTable08 : List RegDef := [
  ⟨.xptCnt, 0x500000, [(16, 8)], .soft,
    [⟨63, 0, .ro, 0⟩]⟩,
  ⟨.xptReorder, 0x500100, [], .soft,
    [⟨31, 0, .ro, 0⟩,
     ⟨63, 32, .ro, 0⟩]⟩]

/-- The registers of chapter 09. -/
def regTable09 : List RegDef := [
  ⟨.glbTrgStat, 0x300, [], .soft,
    [⟨14, 0, .ro, 0⟩,
     ⟨31, 16, .ro, 0⟩,
     ⟨47, 32, .ro, 0⟩,
     ⟨63, 48, .ro, 0⟩]⟩,
  ⟨.glbCntValue, 0x40000, [(16384, 8)], .soft,
    [⟨63, 0, .ro, 0⟩]⟩,
  ⟨.glbCntStat, 0x60000, [(16384, 8)], .soft,
    [⟨10, 0, .ro, 0⟩,
     ⟨11, 11, .ro, 0⟩,
     ⟨12, 12, .ro, 0⟩,
     ⟨13, 13, .ro, 0⟩,
     ⟨14, 14, .ro, 0⟩,
     ⟨23, 16, .ro, 0⟩]⟩]

/-- The registers of chapter 10. -/
def regTable10 : List RegDef := [
  ⟨.strSchedCfg, 0x600000, [], .soft,
    [⟨15, 0, .rw, 0x1f4⟩,
     ⟨31, 16, .rw, 0x32⟩,
     ⟨47, 32, .rw, 0x3e8⟩,
     ⟨55, 48, .rw, 8⟩]⟩,
  ⟨.strStat, 0x600008, [], .soft,
    [⟨6, 0, .ro, 0⟩,
     ⟨22, 16, .ro, 0⟩,
     ⟨44, 32, .ro, 0⟩]⟩,
  ⟨.strPreempt, 0x600010, [], .soft,
    [⟨63, 0, .ro, 0⟩]⟩,
  ⟨.strTile, 0x601000, [(64, 8)], .soft,
    [⟨2, 0, .ro, 0⟩,
     ⟨3, 3, .ro, 0⟩,
     ⟨9, 4, .ro, 0⟩,
     ⟨26, 16, .ro, 0⟩,
     ⟨39, 32, .ro, 0⟩]⟩]

/-- The registers of chapter 13. -/
def regTable13 : List RegDef := [
  ⟨.stoStat, 0x700000, [], .soft,
    [⟨8, 0, .ro, 0⟩,
     ⟨26, 16, .ro, 0⟩,
     ⟨45, 32, .ro, 0⟩,
     ⟨55, 48, .ro, 0⟩]⟩]

/-- The registers of chapter 14. -/
def regTable14 : List RegDef := [
  ⟨.ckpStat, 0x800000, [], .soft,
    [⟨6, 0, .ro, 0⟩,
     ⟨14, 8, .ro, 0⟩,
     ⟨33, 16, .ro, 0⟩]⟩,
  ⟨.ckpCnt, 0x800100, [(8, 8)], .soft,
    [⟨63, 0, .ro, 0⟩]⟩]

/-- The registers of chapter 15. -/
def regTable15 : List RegDef := [
  ⟨.secStat, 0x900000, [], .pkg,
    [⟨2, 0, .ro, 0⟩,
     ⟨4, 3, .ro, 0⟩,
     ⟨5, 5, .ro, 0⟩,
     ⟨6, 6, .ro, 0⟩,
     ⟨7, 7, .ro, 0⟩,
     ⟨9, 8, .ro, 0⟩,
     ⟨24, 16, .ro, 0⟩,
     ⟨38, 32, .ro, 0⟩,
     ⟨45, 39, .ro, 0⟩,
     ⟨52, 46, .ro, 0⟩]⟩,
  ⟨.secEngineStat, 0x900008, [], .pkg,
    [⟨31, 0, .ro, 0⟩,
     ⟨63, 32, .ro, 0⟩]⟩]

/-- The registers of chapter 16. -/
def regTable16 : List RegDef := [
  ⟨.fwmCoreStat, 0xa02000, [(16, 8)], .pkg,
    [⟨3, 0, .ro, 0⟩,
     ⟨5, 4, .ro, 0⟩,
     ⟨31, 16, .ro, 0⟩,
     ⟨63, 32, .ro, 0⟩]⟩,
  ⟨.fwmServiceStat, 0xa02100, [(9, 8)], .pkg,
    [⟨2, 0, .ro, 0⟩,
     ⟨3, 3, .ro, 0⟩,
     ⟨15, 8, .ro, 0⟩,
     ⟨63, 32, .ro, 0⟩]⟩,
  ⟨.fwmJournalStat, 0xa02200, [], .pkg,
    [⟨0, 0, .ro, 0⟩,
     ⟨1, 1, .ro, 0⟩,
     ⟨2, 2, .ro, 0⟩,
     ⟨23, 8, .ro, 0⟩,
     ⟨42, 24, .ro, 0⟩,
     ⟨61, 43, .ro, 0⟩]⟩,
  ⟨.fwmLogStat, 0xa02208, [(2, 8)], .func,
    [⟨31, 0, .ro, 0⟩,
     ⟨63, 32, .ro, 0⟩]⟩,
  ⟨.fwmTraceCnt, 0xa10000, [(4096, 8)], .soft,
    [⟨31, 0, .ro, 0⟩,
     ⟨32, 32, .ro, 0⟩]⟩]

/-- The registers of chapter 17. -/
def regTable17 : List RegDef := [
  ⟨.pwrStat, 0xb00000, [], .soft,
    [⟨9, 0, .ro, 0x258⟩,
     ⟨21, 16, .ro, 0⟩,
     ⟨24, 24, .ro, 0⟩,
     ⟨25, 25, .ro, 0⟩,
     ⟨26, 26, .ro, 0⟩,
     ⟨27, 27, .ro, 0⟩,
     ⟨28, 28, .ro, 0⟩,
     ⟨29, 29, .ro, 0⟩,
     ⟨30, 30, .ro, 0⟩,
     ⟨31, 31, .ro, 0⟩,
     ⟨41, 32, .ro, 0⟩,
     ⟨51, 42, .ro, 0⟩,
     ⟨58, 52, .ro, 0⟩]⟩,
  ⟨.pwrCap, 0xb00008, [], .pkg,
    [⟨9, 0, .ro, 0x258⟩,
     ⟨25, 16, .ro, 0⟩,
     ⟨41, 32, .ro, 0x190⟩,
     ⟨63, 48, .ro, 0x3e8⟩]⟩,
  ⟨.pwrWheel, 0xb00100, [(4, 8)], .soft,
    [⟨5, 0, .ro, 0⟩,
     ⟨13, 8, .ro, 0⟩,
     ⟨21, 16, .ro, 0⟩,
     ⟨29, 24, .ro, 0⟩,
     ⟨37, 32, .ro, 0⟩]⟩,
  ⟨.pwrPeloton, 0xb00200, [], .soft,
    [⟨6, 0, .ro, 0x40⟩,
     ⟨14, 8, .ro, 0x40⟩,
     ⟨21, 16, .ro, 0⟩,
     ⟨47, 32, .ro, 0⟩,
     ⟨54, 48, .ro, 0⟩]⟩,
  ⟨.pwrCrStat, 0xb00300, [], .pkg,
    [⟨1, 0, .ro, 0⟩,
     ⟨14, 8, .ro, 0⟩,
     ⟨31, 16, .ro, 0⟩,
     ⟨47, 32, .ro, 0⟩]⟩,
  ⟨.pwrDroopCfg, 0xb00400, [], .soft,
    [⟨7, 0, .rw, 0x28⟩,
     ⟨13, 8, .rw, 0x20⟩,
     ⟨23, 16, .rw, 0xa⟩]⟩,
  ⟨.pwrCnt, 0xb01000, [(8, 8)], .soft,
    [⟨63, 0, .ro, 0⟩]⟩]

/-- The registers of chapter 18. -/
def regTable18 : List RegDef := [
  ⟨.glbLowpwr, 0x418, [], .soft,
    [⟨0, 0, .rw, 0⟩,
     ⟨1, 1, .rw, 0⟩,
     ⟨31, 16, .rw, 0x64⟩,
     ⟨32, 32, .ro, 0⟩,
     ⟨46, 40, .ro, 0⟩]⟩,
  ⟨.glbStrap, 0x400, [], .pkg,
    [⟨1, 0, .ro, 0⟩,
     ⟨2, 2, .ro, 0⟩,
     ⟨3, 3, .ro, 0⟩,
     ⟨6, 4, .ro, 0⟩,
     ⟨7, 7, .ro, 0⟩,
     ⟨8, 8, .ro, 0⟩,
     ⟨9, 9, .ro, 0⟩,
     ⟨17, 16, .ro, 0⟩,
     ⟨18, 18, .ro, 0⟩,
     ⟨19, 19, .ro, 0⟩]⟩,
  ⟨.glbResetCause, 0x408, [], .por,
    [⟨2, 0, .ro, 0⟩,
     ⟨8, 8, .w1c, 0⟩,
     ⟨9, 9, .w1c, 0⟩,
     ⟨10, 10, .w1c, 0⟩,
     ⟨31, 16, .ro, 0⟩]⟩,
  ⟨.tstStat, 0xc00000, [], .pkg,
    [⟨0, 0, .ro, 0⟩,
     ⟨17, 8, .ro, 0⟩,
     ⟨47, 32, .ro, 0⟩]⟩,
  ⟨.glbRetire, 0x410, [], .pkg,
    [⟨11, 0, .ro, 0⟩]⟩]

/-- The registers of chapter 19. -/
def regTable19 : List RegDef := [
  ⟨.telPortCnt, 0xd01000, [(40, 0x40), (8, 8)], .soft,
    [⟨63, 0, .ro, 0⟩]⟩,
  ⟨.telHist, 0xd02000, [(8, 0x100), (32, 8)], .soft,
    [⟨63, 0, .ro, 0⟩]⟩,
  ⟨.telStat, 0xd00000, [], .soft,
    [⟨18, 0, .ro, 0⟩,
     ⟨19, 19, .ro, 0⟩,
     ⟨20, 20, .ro, 0⟩,
     ⟨47, 32, .ro, 0⟩,
     ⟨55, 48, .ro, 0⟩,
     ⟨63, 56, .ro, 0⟩]⟩]

/-- Every register of BAR0 of PF0. -/
def regTable : List RegDef :=
  regTable00 ++ regTable01 ++ regTable03 ++ regTable04 ++ regTable05 ++ regTable06 ++ regTable07 ++ regTable08 ++ regTable09 ++ regTable10 ++ regTable13 ++ regTable14 ++ regTable15 ++ regTable16 ++ regTable17 ++ regTable18 ++ regTable19

end Sys2Proof.Machine
end

