-- ==== Sys2Proof/Machine/StateCtl.lean ====
section
/-! DEFINITION. The control side of the H9's state: security core, firmware and journal, power, chainring, board,
self-test and telemetry (chapters 15 to 19 of the spec). -/

namespace Sys2Proof.Machine
open Sys2Proof

/-! ## Security (chapter 15) -/

/-- The fuses (R490). DUS is readable by nothing and is not state that a command reads; derived keys are
functions of `Config` (log entries 3, DESIGN CHOICE; 124, DESIGN CHOICE). -/
structure Fuses where
  serial : Nat := 0
  fwAnchor : List Bytes := []           -- FW_ANCHOR[0-3]
  fwRevoke : Nat := 0
  svnStandby : Nat := 0                 -- bits blown
  svnRoot : Nat := 0
  svnService : Nat := 0
  dbgAnchor : Map Bytes := []           -- DBG_ANCHOR[0-3]; absent: zero
  dbgRevoke : Nat := 0
  pwdHash : Bytes := []                 -- empty: all zeros
  pwdDisable : Bool := false
  customerLock : Bool := false
deriving DecidableEq, Repr, Inhabited

/-- A key (R503).  Its place in the table is its index, and 2^16 + index for a SIGN_PAIR. -/
structure KeySlot where
  cls : Nat
  gen : Nat
  alg : Nat
  owner : Nat                           -- spoke
  persist : Bool := false
  failed : Bool := false
  value : Bytes                         -- the key; for a pair, its seed
  salt : Nat := 0
  counter : Nat := 1                    -- next invocation counter (R511)
  physical : Nat := 0                   -- physical slot
  busy : Bool := false                  -- being reinstalled (R508)
deriving DecidableEq, Repr, Inhabited

/-- An operation suppressed by an engine check and waiting to be run again (R508) (log entry 129, DEDUCED). -/
structure CipherFault where
  engine : Nat
  handle : Nat
  user : Nat                            -- 0 mailbox, 1 NVMe, 2 checkpoint, 3 packet or frame
  arg : Nat                             -- which operation of that user
  retried : Bool := false               -- the key is back in place and the operation runs again
deriving DecidableEq, Repr, Inhabited

/-- One entry of the measurement log (R497). -/
structure Measure where
  index : Nat
  type : Nat
  version : Nat
  svn : Nat
  digest : Bytes
  truncated : Bool := false
deriving DecidableEq, Repr, Inhabited

/-- An SPDM session (R499). -/
structure SpdmSession where
  id : Nat
  finished : Bool := false
  updates : Nat := 0
deriving DecidableEq, Repr, Inhabited

/-- Chapter 15. -/
structure SecState where
  fuses : Fuses := {}
  gens : Map Nat := []                  -- generation of each index; absent: 1
  keys : Map KeySlot := []
  quarantined : List Nat := []          -- physical slots
  nextPhysical : Nat := 0
  faults : List CipherFault := []
  ctxs : Map Bytes := []                -- chaining contexts: 96 bytes each (R509)
  serial : Nat := 1                     -- next export serial
  serials : List Nat := []              -- recorded serials of exports in modes 1, 3 and 5
  bootNonce : Bytes := []
  regs : Map Bytes := []                -- measurement registers; absent: zeros
  log : List Measure := []
  nonce : Option (Bytes × Nat) := none  -- unlock nonce and the time it was drawn
  unlockDelay : Nat := 0                -- no unlock is accepted before this time
  enrol : Map (List Bytes) := []        -- microcode key identities by function
  validated : List (Nat × Bytes × Bytes) := []   -- validated microcode tables: function, table digest, key identity
  logCut : Bool := false                -- the measurement log is truncated (R498)
  dusClosed : Bool := false             -- R595: the DUS path is closed until RESET_N
  spdmState : Nat := 0                  -- 0 none, 1 version, 2 capabilities, 3 negotiated
  sessions : List SpdmSession := []
  transcript : Bytes := []              -- the SPDM messages since GET_VERSION, which signatures cover
deriving DecidableEq, Repr, Inhabited

/-! ## Firmware and the journal (chapter 16) -/

/-- A verified image as the H9 keeps it. -/
structure Image where
  svn : Nat
  version : Nat
  digest : Bytes
deriving DecidableEq, Repr, Inhabited

/-- FWM_SERVICE_STAT.STATE. -/
inductive SvcState where
  | absent
  | running
  | staged
  | activating
  | restarting
  | failed
deriving DecidableEq, Repr, Inhabited

/-- A staged image and the update that awaits its activation (R526, R528). -/
structure Staged where
  image : Image
  fn : Nat
  seq : Nat
  hold : Bool
  deadline : Nat
  rollback : Bool
deriving DecidableEq, Repr, Inhabited

/-- A service (R517). -/
structure Service where
  state : SvcState := .absent
  image : Option Image := none
  prev : Option Image := none
  staged : Option Staged := none
  recent : List (Nat × Bool) := []      -- times of restarts under R529, and whether each counts towards the four of R532
  activatedAt : Nat := 0
  cause : Nat := 0                      -- cause of the restart in progress
  firstCore : Nat := 0
deriving DecidableEq, Repr, Inhabited

/-- A slot of the active journal bank (R538, R539) (log entry 135, DEDUCED). -/
inductive JSlot where
  | torn
  | record (type key seq objSeq part parts : Nat) (delete : Bool) (body : Bytes)
deriving DecidableEq, Repr, Inhabited

/-- The response that waits for a journal record's commit (R537). -/
structure JWait where
  fn : Nat                              -- a function, or 8 + an SPDM transport
  status : Status
  payload : Bytes
  async : Option Nat                    -- the command goes on after its response
  ends : Option (Nat × Nat) := none     -- OPCODE and SEQUENCE of a command that responded ASYNC and ends at this commit
deriving DecidableEq, Repr, Inhabited

/-- One object on its way to the journal: its parts not yet committed. -/
structure JWrite where
  type : Nat
  key : Nat
  delete : Bool := false
  parts : List Bytes                    -- bodies, at most 208 bytes each
  next : Nat := 0                       -- next part
  objSeq : Nat := 0
  attempts : Nat := 0
  wait : Option JWait := none
deriving DecidableEq, Repr, Inhabited

/-- A standby copy in SPI NOR (R520). -/
structure Copy where
  tagged : Bool
  seq : Nat := 0
  valid : Bool := true                  -- its image verifies under R494
  svn : Nat := 0
  version : Nat := 0
  digest : Bytes := []
deriving DecidableEq, Repr, Inhabited

/-- A log ring (R534) or the telemetry ring (R607). -/
structure RingCfg where
  addr : Nat
  log2 : Nat
  lowest : Nat := 0
  irqLevel : Nat := 7
  vector : Nat := 0
  next : Nat := 1                       -- next SEQ
  fn : Nat := 0                         -- telemetry ring: the PF0 that it was given
deriving DecidableEq, Repr, Inhabited

/-- A command record of a restarted group's service (R530): the function whose request it is, and its SEQUENCE. -/
structure CmdRecord where
  service : Nat
  fn : Nat
  seq : Nat
deriving DecidableEq, Repr, Inhabited

/-- Chapter 16. -/
structure FwmState where
  services : Map Service := []          -- by SERVICE; absent: `{}`
  groupState : Map Nat := []            -- by group: FWM_CORE_STAT.STATE; absent: 0 in reset
  records : List CmdRecord := []
  bundleTaken : Bool := false           -- a TYPE 2 image has been accepted since SC's reset
  root : Option Image := none
  bank : Nat := 0                       -- the active bank
  slots : List JSlot := [.record 1 0 1 1 0 1 false [1, 0]]   -- its slots, in order (R545: BANK_SEAL with GEN 1)
  jpend : List JWrite := []
  copyA : Copy := { tagged := true, seq := 1 }  -- (log entry 174, DEDUCED)
  copyB : Copy := { tagged := false }
  runB : Bool := false                  -- the running copy is B
  logs : Map RingCfg := []              -- by hierarchy
deriving DecidableEq, Repr, Inhabited

/-! ## Power (chapter 17) -/

/-- One peer of the peloton (R558). -/
structure Peer where
  lastR : Nat := 0
  lastC : Nat := 64
  silent : Nat := 0
  excluded : Bool := false
  seen : Bool := false
deriving DecidableEq, Repr, Inhabited

/-- Membership of a peloton (R556). -/
structure Peloton where
  id : Nat
  kLimit : Nat
  accelW : Nat
  spoke : Nat
  peers : Map Peer                      -- by connection
  round : Nat := 1
  started : Nat := 0
  adopted : Nat := 64
  posted : Option Nat := none           -- time of the last CADENCE_CHANGED
  pending : Bool := false               -- a change waits for the end of that 1 ms
  limitPosted : Bool := false
deriving DecidableEq, Repr, Inhabited

/-- A FAULT that the master has not acknowledged (R570). -/
structure CrFault where
  seq : Nat
  code : Nat
  detail : Nat
deriving DecidableEq, Repr, Inhabited

/-- Where the chainring's join or leave sequence stands (R571). -/
inductive CrPhase where
  | bypassed
  | settling                            -- CR_BYPASS_N high, 2 ms not yet over
  | joined
  | leaving (seq : Nat)
deriving DecidableEq, Repr, Inhabited

/-- Chapter 17. -/
structure PwrState where
  offset : Int := 0                     -- o of R553, in mW
  meanM : Nat := 0                      -- mean M of the last 100 µs, in mW
  meanE : Nat := 0                      -- mean E_raw of the last window, in mW
  overRun : Nat := 0                    -- consecutive windows over 15 %
  okRun : Nat := 0                      -- consecutive windows at or below 10 %
  hotTick : Nat := 0                    -- 10 µs samples at 100-103 °C since TILE's K_THERMAL last rose
  coolTick : Nat := 0                   -- 10 µs samples below 98 °C since it last fell
  droopUntil : Nat := 0
  peloton : Option Peloton := none
  crPhase : CrPhase := .bypassed
  crSeq : Nat := 0                      -- next SEQ originated
  crFaults : List CrFault := []
  lastShare : Option Nat := none
  lastBudget : Nat := 0                 -- time of the last BUDGET of the member's EPOCH
deriving DecidableEq, Repr, Inhabited

/-! ## Board, resets and self-test (chapters 2 and 18) -/

/-- One self-test result record (R594). -/
structure TestRec where
  res : TestResult
  time : Nat := 0
deriving DecidableEq, Repr, Inhabited

/-- Pins, power and reset state (log entry 178, DEDUCED). -/
structure Board where
  aon : Bool := false                   -- VDD_AON present
  resetN : Bool := false                -- RESET_N high
  pwrEn : Bool := false                 -- PWR_EN_MAIN
  pwrEnAt : Nat := 0                    -- time of its last rise or fall
  mainPg : Bool := false                -- MAIN_PG
  mainPgAt : Nat := 0
  thermTrip : Bool := false             -- THERMTRIP_N driven low
  bypassHigh : Bool := false            -- CR_BYPASS_N high
  perst : List Nat := []                -- hierarchies whose upstream PERST# is high
  perstAt : Map Nat := []               -- time at which it rose
  standbyImage : Bool := false          -- a standby image runs
  noPower : Bool := false               -- R68: PWR_EN_MAIN stays low until RESET_N
  railFault : Bool := false
  strapFault : Bool := false
  configFault : Bool := false           -- R99
  testEn : Bool := false
  standby : Bool := false               -- in package standby
  standbyFn : Option Nat := none        -- who requested the entry that is pending
  scReleased : Bool := false
  soft : Option Bool := none            -- a soft reset runs; HBM_TEST
  scan : Bool := false                  -- zeroisation has run (R595)
  corePllBad : Bool := false
  meshCorrected : Nat := 0              -- R21 (log entry 10, DEDUCED)
  meshUncorrectable : Nat := 0  -- (log entry 10, DEDUCED)
  d2dFails : Map Nat := []              -- consecutive failed replays by link * 8 + port (R25)
  snapLaunch : Nat := 0                 -- launch time of the snapshot in progress (R33)
  pll : List Nat := []                  -- failed references by UNIT of test 5
  unitStart : Map Nat := []             -- start time of each unit's local counter, by record index (R30)
  clockOffset : Map Nat := []           -- 1588 clocks: value at device time 0, by port (R32)
  tests : List TestRec := []            -- newest last, at most 512
  testRun : Option (Nat × Nat × Nat) := none   -- test, unit, function
  badLanes : List Nat := []             -- Ethernet lanes 0-31 and PCIe lanes 32 + L excluded since the last start (R592)
  deferred : List (Nat × Nat) := []     -- R576: 0 FLR of f, 1 SBR set of q, 2 SBR cleared of q, 3 PERST# low of h, 4 high (log entry 155, DEDUCED)
  retireDue : List Nat := []            -- hierarchies whose first HELLO of PF0 reports the causes (R597)
  bar4Log2 : Nat := 36                  -- default size of BAR4 since RESET_N (R104, R542)
  subsys : Nat := 0                     -- Subsystem ID since RESET_N (R100, R542)
  pmbus : Map Nat := []                 -- PMBus regulators since RESET_N, by number (R542)
deriving DecidableEq, Repr, Inhabited

/-! ## Telemetry and management (chapter 19) -/

/-- A flow key (R603). -/
structure FlowKey where
  v6 : Bool
  src : Nat
  dst : Nat
  proto : Nat
  sport : Nat
  dport : Nat
  dscp : Nat
  vlan : Nat
  sub : Nat
deriving DecidableEq, Repr, Inhabited

/-- A cached flow (R603, R605). -/
structure Flow where
  key : FlowKey
  octets : Nat := 0
  packets : Nat := 0
  first : Nat := 0
  last : Nat := 0
  seenAt : Nat := 0                     -- device time of the last sample
  exportedAt : Nat := 0                 -- device time of the last export or of its start
deriving DecidableEq, Repr, Inhabited

/-- The IPFIX configuration (R608). -/
structure Ipfix where
  v6 : Bool
  vlan : Bool
  sub : Nat
  dscp : Nat
  cls : Nat
  vid : Nat
  port : Nat
  domain : Nat
  src : Bytes
  dst : Bytes
  mac : Bytes
deriving DecidableEq, Repr, Inhabited

/-- A PLDM event not yet acknowledged (R612). -/
structure PldmEvent where
  sensor : Nat
  state : Nat
deriving DecidableEq, Repr, Inhabited

/-- The PLDM Type 5 update (R613). -/
inductive FwUpdate where
  | idle
  | learn                               -- update mode entered
  | ready                               -- component table passed
  | download (size : Nat)               -- `fwData` holds what has arrived
  | verified                            -- applied; waiting for activation
  | failed                              -- verification failed
deriving DecidableEq, Repr, Inhabited

/-- Chapter 19. -/
structure TelState where
  sampleN : Map Nat := []               -- by sub-port; absent: off
  activeS : Map Nat := []               -- by sub-port
  idleS : Map Nat := []                 -- by sub-port
  flows : List Flow := []
  ipfix : Option Ipfix := none
  seqs : Map Nat := []                  -- data records sent, by observation domain
  templateAt : Nat := 0                 -- when the template set was last sent
  templateDue : Bool := false           -- it is due after a restart of the service
  due : List (Flow × Nat × Nat) := []   -- records that wait for the end of a restart: flow, N, flowEndReason
  second : Nat := 0                     -- the second in which messages were last sent
  inSecond : Nat := 0                   -- messages sent in it
  dropped : Nat := 0                    -- export records dropped, before the division by 256
  ringLost : Nat := 0
  ring : Option RingCfg := none
  eid : Nat := 0                        -- 0: not assigned
  tid : Nat := 0
  receiver : Option Nat := none
  events : List PldmEvent := []
  alert : Bool := false                 -- SMB_ALERT_N low
  readings : Map Nat := []              -- numeric sensors at their last update
  readAt : Nat := 0                     -- when they were updated
  fwUpdate : FwUpdate := .idle
  fwChunk : Nat := 256                  -- transfer size of the update
  fwData : Bytes := []
deriving DecidableEq, Repr, Inhabited

end Sys2Proof.Machine
end

