-- ==== Sys2Proof/Machine/StateEmit.lean ====
section
/-! DEFINITION. What the H9 sends to the outside world: one constructor per kind of message, TLP, frame or pin
change that the spec names.  The state keeps them in the order sent (`State.out`); nothing in the model reads them. -/

namespace Sys2Proof.Machine
open Sys2Proof

/-- R120: the AER errors that the spec names. -/
inductive AerError where
  | poisonedTlp
  | completionTimeout
  | unexpectedCompletion
  | unsupportedRequest
  | acsViolation
  | surpriseDown
deriving DecidableEq, Repr, Inhabited

/-- One thing sent to the outside (log entries 8, DEDUCED; 178, DEDUCED; 180, DEDUCED). -/
inductive Emit where
  /-- A memory write to the host: function, PASID, whether AT = translated, address, data, EP. -/
  | memWrite (fn : Nat) (pasid : Option Nat) (ats : Bool) (addr : Nat) (data : Bytes) (ep : Bool)
  /-- A memory write to a downstream port's device. -/
  | peerWrite (fn : Nat) (addr : Nat) (data : Bytes) (ep : Bool)
  /-- A memory read request to the host. -/
  | memRead (fn : Nat) (pasid : Option Nat) (ats : Bool) (addr len tag : Nat)
  /-- A memory read request to a downstream port's device. -/
  | peerRead (fn : Nat) (addr len tag : Nat)
  /-- A page request (R206). -/
  | pageRequest (fn : Nat) (pasid : Option Nat) (page : Nat)
  /-- A 32-byte completion or event entry written at ring position `pos` (R141). -/
  | ringEntry (ring pos addr : Nat) (entry : Bytes)
  /-- An MSI or MSI-X message of a function on a vector (R113). -/
  | msi (fn vector : Nat) (x : Bool)
  /-- A completion returned to a requester on port `q`. -/
  | cpl (q tag : Nat) (st : CplStatus) (data : Bytes) (ep : Bool)
  /-- A request forwarded out of a port by a window or by the switch core; `rid` is its Requester ID: a function 0-7, 8
  for bus 0, device 0, function 0 of a root port's own space (R125), 9 for that of the port's own requester. -/
  | forward (port : Nat) (kind : ReqKind) (addr : Nat) (data : Bytes) (ep : Bool) (tag rid : Nat)
  /-- A completion of a configuration request. -/
  | cfgCpl (fn : Nat) (st : CplStatus) (value : Nat)
  /-- An ATS Invalidation Completion (R109). -/
  | invalidateCpl (fn : Nat)
  /-- An error reported through AER; `who` is a function 0-7, or 8 + q for a port. -/
  | aer (who : Nat) (e : AerError)
  /-- A port requests ASPM L1 or changes its width. -/
  | linkPm (q : Nat) (width : Nat) (l1 : Bool)
  /-- A downstream port's PERST# changes. -/
  | perst (q : Nat) (high : Bool)
  /-- A board pin changes: 0 PWR_EN_MAIN, 1 THERMTRIP_N, 2 CR_BYPASS_N, 3 SMB_ALERT_N. -/
  | pin (which : Nat) (high : Bool)
  /-- A chainring frame (R564): TYPE, TTL, SRC, SEQ, EPOCH, body. -/
  | chainring (type ttl src seq epoch : Nat) (body : Bytes)
  /-- A PLDM PlatformEventMessage: sensor and state or crossing (R612). -/
  | pldmEvent (sensor state : Nat)
  /-- A reply to an MCTP, PLDM, SPDM or vendor-defined request: message type, command, completion code, data. -/
  | mctp (type cmd code : Nat) (data : Bytes)
  /-- A PLDM Type 5 request that the H9 sends to the update agent: command, result or offset, length (R613). -/
  | pldmSend (cmd arg len : Nat)
  /-- Output of the JTAG instrument DBG_AUTH. -/
  | jtag (data : Bytes)
  /-- An SPDM response (R499): transport (DOE of PF0 of hierarchy 0 or 1, or 2 for MCTP), response code, its bytes. -/
  | spdm (transport code : Nat) (data : Bytes)
  /-- A frame leaves a sub-port, without FCS; `line` is false in near-end loopback (R219). -/
  | frame (sub : Nat) (data : Bytes) (line : Bool)
  /-- A PAUSE or PFC frame of a priority (R218): quanta 0xFFFF or zero. -/
  | pause (sub prio : Nat) (stop : Bool)
  /-- A packet handed to the network control plane (R232). -/
  | slowPath (sub : Nat) (data : Bytes)
  /-- A received frame returned to the line in far-end loopback (R219). -/
  | looped (sub : Nat) (data : Bytes)
  /-- A sub-port trains its link again (R214). -/
  | trained (sub : Nat)
  /-- A request to a backing (R441, R444): backing, NVMe opcode (01h write, 02h read, 08h write zeroes, 09h deallocate),
  request number, NSID, LBA and blocks there, FUA, and for a write the blocks with their metadata. -/
  | backing (b opc req bnsid lba nlb : Nat) (fua : Bool) (data : List Bytes)
  /-- The capsule of a request to a YEKEL backing (R442): connection, key index, generation, offset, tag, SQE. -/
  | capsule (conn key gen off tag : Nat) (sqe : Bytes)
  /-- A unit copied to the other side of a mirror (R449): namespace, unit, whether the side written is B. -/
  | resyncCopy (ns unit : Nat) (sideB : Bool)
  /-- Data of a checkpoint written to its store through NVF (R473, R474, R476): NSID, first LBA, bytes. -/
  | storeWrite (nsid lba : Nat) (data : Bytes)
deriving DecidableEq, Repr, Inhabited

end Sys2Proof.Machine
end

