-- ==== Sys2Proof/Machine/StateHost.lean ====
section
/-! DEFINITION. The host side of the H9's state: functions, ports, spokes, queues, operations, outstanding
requests, counters and trigger entries (chapters 3, 4, 5 and 9 of the spec). -/

namespace Sys2Proof.Machine
open Sys2Proof

/-- R165: the attach state of a function. -/
inductive Attach where
  | detached
  | attached
  | freewheel
deriving DecidableEq, Repr, Inhabited

/-- R153, R154: the mailbox of a function.  `req` is the request page, sparse (an unlisted byte reads 0);
`hdr0` and `hdr1` are the response page's header bytes 0-7 and 8-15, `resp` its payload (log entry 34, DEDUCED). -/
structure Mailbox where
  outstanding : Bool := false
  req : Map Byte := []
  hdr0 : Nat := 0
  hdr1 : Nat := 0x1_0000
  resp : Bytes := []
  posted : Nat := 0                     -- time of the post (R601)
deriving DecidableEq, Repr, Inhabited

/-- One of the eight functions: PF0-PF3 of hierarchy 0 (index 0-3) and of hierarchy 1 (index 4-7). -/
structure FnState where
  attach : Attach := .detached          -- R165
  timeoutMs : Nat := 500                -- GLB_HEARTBEAT.TIMEOUT_MS as written
  ignored : Nat := 0                    -- GLB_HEARTBEAT.IGNORED
  hbDue : Nat := 0                      -- time at which the heartbeat timer expires
  driver : Nat := 0                     -- driver instance of the last HELLO
  baseSpoke : Option Nat := none        -- R161
  bme : Bool := false                   -- Bus Master Enable
  mse : Bool := false                   -- Memory Space Enable
  msiEn : Bool := false
  msiCount : Nat := 1                   -- vectors enabled through Multiple Message Enable
  msixEn : Bool := false
  msixFnMask : Bool := false
  pasidEn : Bool := false
  atsEn : Bool := false
  priEn : Bool := false
  priAlloc : Nat := 0                   -- Outstanding Page Request Allocation
  d3hot : Bool := false
  flr : Bool := false                   -- an FLR is in progress (R133)
  bmeTime : Nat := 0                    -- time of the last clearing of Bus Master Enable (R130)
  bar0 : Nat := 0
  bar2 : Nat := 0
  bar4 : Nat := 0
  bar4Log2 : Nat := 36                  -- R104: log2 of BAR4's size, 64 GiB
  msix : Map Nat := []                  -- MSI-X table, by 64-bit word; see `msixDefault`
  pba : List Nat := []                  -- MSI-X vectors pending, rising
  msiPend : List Nat := []              -- MSI vectors held (R115), rising
  mb : Mailbox := {}
deriving DecidableEq, Repr, Inhabited

/-- State of the link of one port q. -/
inductive Link where
  | down
  | training
  | l0
  | l1
deriving DecidableEq, Repr, Inhabited

/-- One port, by port index q = 4n + j (R92). -/
structure Port where
  link : Link := .down
  width : Nat := 16                     -- current width in lanes
  fullWidth : Nat := 16
  l1En : Bool := false                  -- the host enabled ASPM L1
  l0pEn : Bool := false                 -- the host enabled L0p
  perst : Bool := false                 -- the port's PERST# is high (released)
  perstTime : Nat := 0                  -- time at which its PERST# last changed
  bme : Bool := false                   -- Bus Master Enable of the port (R132)
  memBase : Nat := 0                    -- Type 1 memory window, inclusive base
  memLimit : Nat := 0                   -- exclusive end; empty when 0
  secBus : Nat := 0
  subBus : Nat := 0
  dpcEn : Bool := false
  dpcCa : Bool := false                 -- DPC Completion Control: true = Completer Abort
  dpcTriggered : Bool := false          -- DPC Trigger Status
  contained : Bool := false             -- R121
  sbr : Bool := false                   -- the Secondary Bus Reset bit
  sbrActive : Bool := false             -- R615: from the bit set until L0 again
  acsRedirect : Bool := false           -- ACS P2P Request Redirect (R101)
  blocked : Bool := false               -- an uncorrectable link condition keeps the port out of use
deriving DecidableEq, Repr, Inhabited

/-- A function's spoke (R161, R162). -/
structure Spoke where
  fn : Nat
  base : Bool := false
  pasid : Nat := 0
  queueQuota : Nat := 131072
  counterQuota : Nat := 16384
  ptRoot : Nat := 0
  schWeight : Nat := 1
  tileWeight : Nat := 1
  tileLimit : Nat := 64000
  cir : Nat := 0
  pir : Nat := 0
  eventsLost : Nat := 0
deriving DecidableEq, Repr, Inhabited

/-- R145: queue kinds. -/
inductive QKind where
  | completion
  | event
  | packetSend
  | packetReceive
  | transport
  | streamJob
  | checkpoint
  | copy
  | nvme                                -- R431: a queue number held by a queue of a spoke controller
deriving DecidableEq, Repr, Inhabited

/-- R151: queue states other than FREE. -/
inductive QState where
  | stopped
  | active
  | frozen
  | error
deriving DecidableEq, Repr, Inhabited

/-- One update of a completion counter on its way to TRG (R316, R318) (log entry 179, DEDUCED). -/
structure CntUpdate where
  counter : Nat
  spoke : Nat
  fail : Option Status := none          -- marks the counter failed with this status
  amount : Nat := 0                     -- added to VALUE when `fail` is none
deriving DecidableEq, Repr, Inhabited

/-- An entry due to a completion or event ring (R140), before its PHASE bit is known. -/
structure Due where
  src : Option Nat := none              -- the work queue that produced it; none for an event
  cookie : Nat := 0
  count : Nat := 0
  status : Status := .success
  kind : Nat := 0
  flags : Nat := 0
  queue : Nat := 0x3FFFF
  consumer : Nat := 0
  detail : Nat := 0
  irq : Bool := false
  upd : Option CntUpdate := none        -- R317: the counter update that follows the entry
  since : Option Nat := none            -- start of the latency sample that it ends (R601)
  note : Option (Nat × Nat) := none     -- target notification: connection and message id (R299)
deriving DecidableEq, Repr, Inhabited

/-- A queue (R137-R152). -/
structure Queue where
  kind : QKind
  spoke : Nat
  state : QState := .stopped
  log2 : Nat := 4
  base : Nat := 0
  vector : Nat := 0
  cq : Option Nat := none
  pi : Nat := 0                         -- work ring: producer index; ring: write index
  consumer : Nat := 0
  fetched : Nat := 0                    -- descriptors fetched since creation (R325's i)
  armed : Bool := false
  bmeStop : Bool := false
  bad : Nat := 0                        -- BAD_DOORBELL
  waitEn : Bool := false
  waitCounter : Nat := 0
  waitRepeat : Bool := false
  waitThreshold : Nat := 0
  kindWord : Nat := 0
  kindBody : Bytes := []
  due : List Due := []                  -- rings: entries held, oldest first
  stopFn : Option Nat := none           -- a QUEUE_STOP of this function awaits the operations in progress
deriving DecidableEq, Repr, Inhabited

/-- Where an operation of a work queue stands. -/
inductive OpPhase where
  | fenced                              -- fetched, waiting for earlier descriptors (FENCE)
  | held                                -- held on a trigger entry (R330)
  | started
  | parked                              -- a page request is outstanding (R207)
  | done
deriving DecidableEq, Repr, Inhabited

/-- An operation: one descriptor between its fetch and its completion entry. -/
structure Op where
  queue : Nat
  index : Nat                           -- ring index of the descriptor
  consumer : Nat                        -- CONSUMER after this descriptor
  desc : Bytes
  phase : OpPhase := .started
  status : Status := .success
  bytes : Nat := 0                      -- bytes moved so far
  detail : Nat := 0
  flags : Nat := 0
  poisoned : Bool := false              -- a poison mark was met
  medium : Bool := false                -- an uncorrectable block was met
  reading : Bool := false               -- a tagged read is outstanding
  buf : Option (Bytes × Bool) := none   -- COPY: bytes read and not yet written, and whether they bear poison
  parkAddr : Nat := 0                   -- spoke address at which it parked
  posted : Bool := false                -- its buffer is posted, or its frame or message is queued to be sent
  since : Nat := 0                      -- start of its latency sample (R601)
  sampled : Bool := true                -- whether its entry ends a latency sample
deriving DecidableEq, Repr, Inhabited

/-- What an outstanding non-posted request of the H9 serves. -/
inductive Purpose where
  | copyRead (op : Nat) (va : Nat) (len : Nat)
  | forwarded (q : Nat) (reqTag : Nat) (win : Nat)
  | other (op : Nat)
deriving DecidableEq, Repr, Inhabited

/-- An outstanding non-posted request, by tag (R94, R95, R134). -/
structure Req where
  fn : Nat
  port : Nat
  purpose : Purpose
  issued : Nat
  pasid : Bool := false                 -- untranslated with a PASID (R203)
  quarantined : Bool := false
deriving DecidableEq, Repr, Inhabited

/-- A page request outstanding (R110, R206). -/
structure PageReq where
  fn : Nat
  pasid : Option Nat
  page : Nat
  sent : Bool
  since : Nat
  waiters : List Waiter                 -- in order
deriving DecidableEq, Repr, Inhabited

/-- What an address-translation-cache entry leads to (R202). -/
inductive Leaf where
  | host (addr : Nat) (pri : Bool)
  | peer (addr : Nat)
  | hbm (dev : Nat)
deriving DecidableEq, Repr, Inhabited

/-- One address-translation-cache entry: a page of a spoke's address space (R202). -/
structure AtcEntry where
  spoke : Nat
  page : Nat                            -- first address
  size : Nat
  leaf : Leaf
  rd : Bool
  wr : Bool
  slice : Nat := 0                      -- the slice that holds it (R44)
deriving DecidableEq, Repr, Inhabited

/-- A request through a peer window while it is in flight (R127, R129). -/
structure WinReq where
  q : Nat
  gen : Nat
  port : Bool                           -- kind PORT
  tag : Nat
  posted : Bool
deriving DecidableEq, Repr, Inhabited

/-- A completion counter in use (R315, R321, R322). -/
structure Counter where
  spoke : Nat
  value : Nat := 0
  failed : Bool := false
  failStatus : Status := .success
  irqArmed : Bool := false
  irqThreshold : Nat := 0
  vector : Nat := 0
  mirrorEn : Bool := false
  mirror : Nat := 0
  mirrorDue : Bool := false             -- a mirror write waits for Bus Master Enable or the thaw
  msgDue : Bool := false                -- its message waits on that mirror write
deriving DecidableEq, Repr, Inhabited

/-- A trigger entry bound to (spoke, T) (R329) (log entry 179, DEDUCED). -/
structure TrigEntry where
  spoke : Nat
  value : Nat
  count : Bool := false                 -- COUNT mode; otherwise RELEASE
  feedEn : Bool := false
  counter : Nat := 0
  failed : Bool := false
  failStatus : Status := .success
  credits : Nat := 0
  heads : List Nat := []                -- operations held, oldest first
deriving DecidableEq, Repr, Inhabited

/-- A STATE_SUMMARY continuation handed out as NEXT (R169) (log entry 31, DEDUCED). -/
structure Cursor where
  token : Nat
  fn : Nat
  all : Bool
  next : Nat                            -- index of the next record
deriving DecidableEq, Repr, Inhabited

/-- A command that responded ASYNC and ends with MAILBOX_DONE (R157). -/
structure AsyncCmd where
  fn : Nat
  opcode : Nat
  seq : Nat
  arg : Nat
deriving DecidableEq, Repr, Inhabited

/-- Chapters 3 and 4: PCI Express, queues, mailboxes and spokes. -/
structure HostState where
  fns : Map FnState := []               -- absent: `{}`
  ports : Map Port := []
  spokes : Map Spoke := []
  queues : Map Queue := []
  ops : Map Op := []
  nextOp : Nat := 0
  reqs : Map Req := []                  -- by 16,384 * port + tag
  pageReqs : List PageReq := []
  atc : List AtcEntry := []
  winReqs : Map WinReq := []
  nextWin : Nat := 0
  cursors : List Cursor := []
  asyncs : List AsyncCmd := []
  epoch : Nat := 0                      -- STATE_EPOCH (R168)
deriving DecidableEq, Repr, Inhabited

/-- Chapter 9: TRG. -/
structure TrgState where
  counters : Map Counter := []
  entries : Map TrigEntry := []         -- by spoke * 2^32 + T
  updates : List CntUpdate := []        -- updates that have reached TRG, oldest first (R318)
  unmatched : Nat := 0
  refused : Nat := 0
deriving DecidableEq, Repr, Inhabited

/-- One HBM region (R182, MEM_REGION). -/
structure Region where
  valid : Bool := true
  strong : Bool
  use : Nat
  base : Nat                            -- in 2 MiB units
  size : Nat                            -- in 2 MiB units
  test : Bool := false
  zeroing : Bool := false
deriving DecidableEq, Repr, Inhabited

/-- One entry of the runtime repair list (R193, MEM_REPAIR_LIST). -/
structure Repair where
  lane : Bool
  unrepairable : Bool := false
  stack : Nat
  channel : Nat
  pseudo : Nat
  bank : Nat
  row : Nat                             -- row, or pin for LANE
deriving DecidableEq, Repr, Inhabited

/-- R469: the protection of a 4 KiB granule of an overlapped shard's page: in HBM by device address, in host memory
by function and address.  `hit` when a write has met it; `old` is then the granule as it stood at the cut. -/
structure Prot where
  session : Nat
  page : Nat                            -- page of the page sequence
  part : Nat                            -- granule 0-15 of the page
  host : Option Nat                     -- function, for a granule of host memory
  addr : Nat
  hit : Bool := false
  old : Bytes := []
  mark : Status := .success             -- POISONED or MEDIUM_ERROR when its read found so
deriving DecidableEq, Repr, Inhabited

/-- Chapter 5: HBM and its regions. -/
structure MemState where
  hbm : List Host.Cell := []            -- bytes; an unlisted byte reads 0 (R188's fill)
  poison : List Nat := []               -- block numbers bearing the poison mark, rising
  uncorr : List Nat := []               -- block numbers whose stored bits are uncorrectable, rising
  rawCheck : Map Nat := []              -- check bits stored by WRITE_RAW, by block number
  regions : Map Region := []
  absent : Bool := false                -- R189
  repairs : List Repair := []
  corrRows : List (Nat × Nat × Nat) := []   -- (row key, address, time) of corrected blocks (R193)
  fresh : List Nat := []                -- blocks found uncorrectable that firmware has not yet taken up (R193, R194)
  pinHits : List (Nat × Nat) := []      -- (pin key, time) of corrections (R192)
  failing : List Nat := []              -- pins marked failing (R192), by pin key
  uncorrTimes : List Nat := []          -- times of uncorrectable counts in the last 24 hours (R194)
  scrubPos : Nat := 0
  refresh : Bool := false               -- every stack is in self-refresh
  prot : List Prot := []                -- R469 (log entry 113, DEDUCED)
deriving DecidableEq, Repr, Inhabited

end Sys2Proof.Machine
end

