-- ==== Sys2Proof/Machine/StateNet.lean ====
section
/-! DEFINITION. The network side of the H9's state: sub-ports, parsing and rule versions, the egress scheduling tree,
meters, and the transport engines (chapters 6 to 8 of the spec). -/

namespace Sys2Proof.Machine
open Sys2Proof

/-! ## Packets and classification (chapter 6) -/

/-- What the parser makes of a packet (R228-R233).  `fields` holds the field vector; an absent field reads zero. -/
structure Parsed where
  cls : Nat := 0
  fields : Map Bytes := []
  drop : Bool := false                  -- R231
  slow : Bool := false                  -- R230
  v6 : Bool := false
  ip : Option Nat := none               -- offset of the outermost IP header
  l4 : Option Nat := none               -- offset of the outermost UDP or TCP header
  inner : Option Nat := none            -- offset of the inner Ethernet header
  esp : Option Nat := none              -- offset of the ESP header
  ptp : Bool := false                   -- PTP with messageType 0-3
  fin : Bool := false                   -- TCP FIN or RST
  stop : Nat := 0                       -- end of the last recognised header
deriving DecidableEq, Repr, Inhabited

/-- A packet in an ingress pipeline. -/
structure Pkt where
  sub : Nat
  data : Bytes                          -- without FCS
  line : Nat                            -- its length on the line, FCS, SecTAG and ICV included (R259)
  tag : Nat                             -- its rule version (R245)
  prio : Nat := 0                       -- R216
  origin : Nat := 0                     -- where the depth count of its parse starts
  prot : Bool := false                  -- verified by MACsec or decrypted by IPsec
  second : Bool := false                -- in its second pass (R242)
  stamp : Nat := 0                      -- the port clock at its timestamp point
  parsed : Parsed := {}
deriving DecidableEq, Repr, Inhabited

/-- A packet that waits for an exact-match bucket (R237). -/
structure Lookup where
  pkt : Pkt
  profile : Nat
  key : Bytes
deriving DecidableEq, Repr, Inhabited

/-- A packet in a crypto cluster (R242): the SA and whether it is tunnel mode. -/
structure Decrypt where
  pkt : Pkt
  sa : Nat
deriving DecidableEq, Repr, Inhabited

/-- A frame of a flow-controlled priority that waits in the ingress buffer for posted buffers (R218, R227). -/
structure HeldFrame where
  sub : Nat
  prio : Nat
  queue : Nat
  data : Bytes
  flags : Nat
  detail : Nat
deriving DecidableEq, Repr, Inhabited

/-- An exact-match entry (R236) and the bucket that holds it. -/
structure EmEntry where
  profile : Nat
  key : Bytes
  lo : Nat                              -- FROM
  hi : Nat := 0                         -- TO
  opn : Bool := true
  action : Nat
  bucket : Nat
deriving DecidableEq, Repr, Inhabited

/-- A wildcard entry (R238). -/
structure AclEntry where
  profile : Nat
  key : Bytes
  mask : Bytes
  prio : Nat
  overrides : Bool
  egress : Bool
  lo : Nat
  hi : Nat := 0
  opn : Bool := true
  action : Nat
deriving DecidableEq, Repr, Inhabited

/-- The class map and the defaults of a version (R235); an absent class maps to profile 0, an absent default is
action 0. -/
structure RuleSet where
  classMap : Map (Nat × Nat × Nat) := []
  defaults : Map Nat := []
deriving DecidableEq, Repr, Inhabited

/-- A live rule version in its slot (R246, R247). -/
structure Version where
  number : Nat
  inFlight : Nat := 0
  rules : RuleSet := {}
deriving DecidableEq, Repr, Inhabited

/-- The staging lock and what has been staged for P besides entries (R243, R244). -/
structure Staging where
  fn : Nat
  rules : RuleSet
deriving DecidableEq, Repr, Inhabited

/-- A MACsec SA (R221). -/
structure MacsecSa where
  sub : Nat
  tx : Bool
  an : Nat
  channel : Nat
  xpn : Bool
  handle : Nat
  sci : Nat
  pn : Nat                              -- next packet number
  salt : Nat
  ssci : Nat
deriving DecidableEq, Repr, Inhabited

/-- An IPsec SA (R242). -/
structure IpsecSa where
  outbound : Bool
  tunnel : Bool
  spi : Nat
  handle : Nat
  salt : Nat
  next : Nat                            -- next sequence number to send, or the highest received plus 1
  seen : List Nat := []                 -- sequence numbers received within the window
deriving DecidableEq, Repr, Inhabited

/-- Chapter 6 (log entry 46, DEDUCED). -/
structure NetState where
  up : List Nat := []                   -- sub-ports whose link is up, rising
  mode : Map Nat := []                  -- RWC fields in effect by port: PKT_PORT_CFG[21:0]
  paused : Map Nat := []                -- time at which a pause ends, by sub-port * 8 + priority
  xoff : List Nat := []                 -- (sub-port * 8 + priority) for which PAUSE or PFC is in force
  slowCount : Map (Nat × Nat) := []     -- slow-path admissions by port: start of the second, packets
  profiles : Map Nat := []              -- field bitmaps by profile; absent: 0
  em : List EmEntry := []
  acl : Map AclEntry := []              -- by slot
  actions : Map Bytes := []             -- 64-byte entries; absent: zeros
  cache : List (Nat × Bytes) := []      -- keys in the exact-match cache (R237)
  current : Nat := 1
  vers : Map Version := [(0, { number := 1 })]   -- by slot k
  staging : Option Staging := none
  shifts : Nat := 0
  lookups : List Lookup := []
  decrypts : Map Decrypt := []
  nextDec : Nat := 0
  held : List HeldFrame := []
  macsec : List MacsecSa := []
  ipsec : Map IpsecSa := []
deriving DecidableEq, Repr, Inhabited

/-! ## Scheduling (chapter 7) -/

/-- A frame that waits for the scheduler.  `conn` and `psn` name the transport packet it carries; `ctl` marks
ACK, NAK and NAK_RETRY (R291). -/
structure TxFrame where
  op : Option Nat := none
  data : Bytes
  cls : Nat
  ts : Bool := false
  conn : Option (Nat × Nat) := none
  ctl : Bool := false
  tel : Bool := false                   -- a message of the telemetry service (R606)
deriving DecidableEq, Repr, Inhabited

/-- A node of the scheduling tree (R249, R254-R256).  Bucket levels are in units of 1 / 8,000,000 byte, so that a
rate of r kb/s adds r units per nanosecond (log entry 57, DEDUCED). -/
structure Node where
  weight : Nat := 1
  cir : Nat := 0
  pir : Nat := 0
  commit : Int := 0
  peak : Int := 0
  deficit : Int := 0
  topped : Bool := false
  ptr : Nat := 0                        -- key of the child at the pointer
deriving DecidableEq, Repr, Inhabited

/-- A meter (R262, R264, R267).  Levels are in units of 1 / 8,000,000 byte. -/
structure Meter where
  conf : Bool := false
  algo : Nat := 0
  aware : Bool := false
  ovh : Nat := 0
  owner : Nat := 0
  rateA : Nat := 0
  rateB : Nat := 0
  burstA : Nat := 0
  burstB : Nat := 0
  acts : List Nat := [0, 0, 0]
  levA : Nat := 0
  levB : Nat := 0
  last : Nat := 0                       -- time of the last refill
  pkts : List Nat := [0, 0, 0]
  octets : List Nat := [0, 0, 0]
deriving DecidableEq, Repr, Inhabited

/-- Chapter 7. -/
structure SchState where
  queues : Map (List TxFrame) := []     -- frames waiting, by PACKET_SEND queue
  xpt : Map (List TxFrame) := []        -- transport members, by (sub-port * 4096 + spoke) * 8 + class
  services : Map (Nat × Nat × Nat) := []     -- weight, CIR, PIR of a spoke's class, by spoke * 8 + class
  roots : Map Node := []                -- by sub-port
  subs : Map Node := []                 -- by sub-port * 4096 + spoke
  svcs : Map Node := []                 -- by (sub-port * 4096 + spoke) * 8 + class
  turn : Map Nat := []                  -- last member served of a service node: queue, or 2^17 for transport
  refilled : Map Nat := []              -- time of the last refill, by sub-port
  meters : Map Meter := []
deriving DecidableEq, Repr, Inhabited

/-! ## Transport (chapter 8) -/

/-- R281. -/
inductive ConnPhase where
  | init
  | active
  | error
deriving DecidableEq, Repr, Inhabited

/-- The parameters of CONN_CONNECT (R283). -/
structure ConnParams where
  v6 : Bool := false
  vlan : Bool := false
  cls : Nat := 0
  dscp : Nat := 0
  log2 : Nat := 8
  paths : Nat := 1
  subports : Nat := 0
  vid : Nat := 0
  pkey : Nat := 0
  local_ : Bytes := []
  remote : Bytes := []
  mac : Bytes := []
  rconn : Nat := 0
  repoch : Nat := 0
  rxCq : Nat := 0x3FFFF
  rxq : Nat := 0x3FFFF
  timeout : Nat := 8
  retryMs : Nat := 1
  retryLimit : Nat := 1
  rnrRetry : Nat := 0
  seed : Nat := 0
deriving DecidableEq, Repr, Inhabited

/-- The Yekel header and payload of a packet (R287). -/
structure YPkt where
  opcode : Nat
  poison : Bool := false
  ordered : Bool := false
  last : Bool := false
  ackReq : Bool := false
  first : Bool := false
  ece : Bool := false
  path : Nat := 0
  conn : Nat := 0
  epoch : Nat := 0
  psn : Nat := 0
  msg : Nat := 0
  offset : Nat := 0
  key : Nat := 0
  keyGen : Nat := 0
  payload : Bytes := []
  tag : Nat := 0
  ce : Bool := false
deriving DecidableEq, Repr, Inhabited

/-- A RoCEv2 packet (R308). -/
structure RPkt where
  opcode : Nat
  pkey : Nat := 0
  qp : Nat := 0
  ackReq : Bool := false
  psn : Nat := 0
  va : Nat := 0
  rkey : Nat := 0
  dmaLen : Nat := 0
  synd : Nat := 0
  imm : Nat := 0
  payload : Bytes := []
  ce : Bool := false
deriving DecidableEq, Repr, Inhabited

/-- A packet handed to a transport engine: the frame from its Ethernet header, and the sub-port. -/
structure RxPkt where
  sub : Nat
  data : Bytes
  parsed : Parsed
deriving DecidableEq, Repr, Inhabited

/-- A packet of a connection's own stream: Yekel or RoCEv2. -/
inductive Wire where
  | y (p : YPkt)
  | r (p : RPkt)
deriving DecidableEq, Repr, Inhabited

/-- A packet of the stream that is not yet released. -/
structure OutPkt where
  wire : Wire
  psn : Nat
  wr : Option Nat := none               -- the operation whose work request it belongs to
  nakFor : Option Nat := none           -- NAK: the PSN it rejects
  sent : Nat := 0
  order : Nat := 0                      -- place in the order of sending
  path : Nat := 0
  tries : Nat := 0
  after : Nat := 0                      -- released packets sent on its path after it
  resent : Bool := false
  waiting : Bool := false               -- no path yet for its retransmission
  retryFrom : Option Nat := none        -- time of the first NAK_RETRY of the current run (R306)
  retryAt : Option Nat := none          -- time at which it is sent again
  backoff : Nat := 10000                -- next wait in ns
deriving DecidableEq, Repr, Inhabited

/-- A work request in progress (R286, R296). -/
structure Work where
  op : Nat
  msg : Nat
  ordered : Bool
  read : Bool
  length : Nat
  local_ : Nat
  placed : Nat := 0                     -- read bytes placed
  respDone : Bool := false              -- the last response of a zero-length read has come
  status : Status := .success
  first : Nat                           -- its first PSN
  count : Nat                           -- its packets
deriving DecidableEq, Repr, Inhabited

/-- A message at the target whose outcome is not yet final (R299). -/
structure InMsg where
  msg : Nat
  ordered : Bool
  first : Option Nat := none
  last : Option Nat := none
  status : Status := .success           -- of its rejections
  poisoned : Bool := false
  bytes : Nat := 0
  tagged : Bool := false
  tag : Nat := 0
  notified : Bool := false              -- its notification has been handed to the ring
deriving DecidableEq, Repr, Inhabited

/-- State of one path (R290). -/
structure PathState where
  suspectUntil : Nat := 0
  markedUntil : Nat := 0
deriving DecidableEq, Repr, Inhabited

/-- The RoCEv2 side of a connection (R308-R312). -/
structure Roce where
  expected : Nat := 0                   -- expected PSN
  seqNak : Bool := false                -- a PSN Sequence Error NAK has been sent since the last in-order packet
  msn : Nat := 0
  recv : Option Nat := none             -- RECV operation of the message in progress
  recvOff : Nat := 0
  writeVa : Nat := 0
  writeKey : Nat := 0
  writeLeft : Nat := 0
  writeTotal : Nat := 0
  rnrTries : Nat := 0
  rnrAt : Option (Nat × Nat) := none    -- PSN and time at which sending resumes
  cnpSent : Option Nat := none
  cnpGot : Option Nat := none
  rate : Nat := 0                       -- sending rate in Mb/s; 0: the sub-port rate
deriving DecidableEq, Repr, Inhabited

/-- A connection (R277-R300). -/
structure Conn where
  spoke : Nat
  roce : Bool
  epoch : Nat
  phase : ConnPhase := .init
  par : ConnParams := {}
  psn : Nat := 0                        -- next PSN to assign
  txq : List OutPkt := []               -- not yet sent, in PSN order
  out : List OutPkt := []               -- unacknowledged
  order : Nat := 0
  nextPath : Nat := 0
  works : List Work := []
  msgO : Nat := 0                       -- next ordered message id
  msgU : Nat := 0                       -- next unordered message id
  done : Nat := 0                       -- ORDERED_DONE last received
  cwnd : Nat := 256
  fellAt : Option Nat := none           -- last fall for ECE
  halvedAt : Option Nat := none         -- last fall for a retransmission timeout
  rose : Nat := 0
  srtt : Nat := 0
  rttvar : Nat := 0
  rto : Nat := 0
  pathSt : Map PathState := []
  e : Nat := 0                          -- R292
  got : List Nat := []                  -- received PSNs ahead of E
  nak : List (Nat × Nat) := []          -- rejected PSNs whose NAK is not acknowledged, with the message id
  nextMsg : Nat := 0                    -- NEXT_MSG
  msgs : List InMsg := []
  stored : List YPkt := []              -- packets in the reorder store
  sinceAck : Nat := 0
  oldestAt : Option Nat := none         -- arrival of the oldest packet not yet acknowledged
  lastPsn : Nat := 0                    -- PSN of the packet that caused the next ACK
  ceSeen : Bool := false
  rc : Roce := {}
  dying : Option (Option (Nat × Nat)) := none   -- being destroyed; the function and SEQ whose response awaits it
deriving DecidableEq, Repr, Inhabited

/-- R302: the state of a key. -/
inductive KeyPhase where
  | active
  | revoking (fns : List Nat)           -- functions whose REGION_REVOKE awaits the end
  | revoked
deriving DecidableEq, Repr, Inhabited

/-- A region key (R302). -/
structure RegionKey where
  phase : KeyPhase := .active
  gen : Nat := 0
  spoke : Nat := 0
  read : Bool := false
  write : Bool := false
  addr : Nat := 0
  length : Nat := 0
deriving DecidableEq, Repr, Inhabited

/-- Chapter 8 (log entry 46, DEDUCED). -/
structure XptState where
  rx : Map RxPkt := []                  -- packets at the transport engines
  nextRx : Nat := 0
  conns : Map Conn := []
  epochs : Map Nat := []                -- epoch last used, by number; absent: as the last HBM fill left it (R588)
  seed : Option Nat := none             -- the last HBM fill: its index among the free values; none: no fill yet, all 0
  freed : List (Nat × Nat) := []        -- numbers freed with their time, oldest first
  keys : Map RegionKey := []            -- absent: FREE
  keyGens : Map Nat := []
  failed : List (Nat × Nat × Nat) := [] -- (spoke, page, end): pages whose page request failed (R207)
  ctxCache : Map (List Nat) := []       -- contexts cached, by strip
deriving DecidableEq, Repr, Inhabited

end Sys2Proof.Machine
end

