-- ==== Sys2Proof/Machine/StateStore.lean ====
section
/-! DEFINITION. The storage side of the H9's state: NVMe controllers, namespaces and backings, and checkpoint
sessions (chapters 13 and 14 of the spec). -/

namespace Sys2Proof.Machine
open Sys2Proof

/-! ## NVMe (chapter 13) -/

/-- A completion queue entry before its phase bit is known: SQ, CID, dword 0, status (SCT in [10:8], SC in [7:0],
DNR in [14]). -/
structure NvCqe where
  sq : Nat
  cid : Nat
  dw0 : Nat := 0
  status : Nat := 0
deriving DecidableEq, Repr, Inhabited

/-- An NVMe submission or completion queue. -/
structure NvQueue where
  base : Nat
  size : Nat                            -- entries
  head : Nat := 0
  tail : Nat := 0
  pass : Nat := 1                       -- CQ: phase tag of the entry at the tail
  cqid : Nat := 0                       -- SQ: its CQ
  ien : Bool := false
  vector : Nat := 0
  number : Option Nat := none           -- H9 queue number, for a spoke controller (R431)
  due : List NvCqe := []                -- CQ: entries held
deriving DecidableEq, Repr, Inhabited

/-- One entry of the Error Information log and of log C0h (R436). -/
structure NvErr where
  count : Nat
  sq : Nat
  cid : Nat
  status : Nat
  lba : Nat
  nsid : Nat
  code : Nat                            -- R11 status or detail code
  backing : Nat
  time : Nat
deriving DecidableEq, Repr, Inhabited

/-- A controller (R429).  Controllers 0 and 1 are those of PF2 of hierarchy 0 and 1. -/
structure Ctrl where
  fn : Nat                              -- function index of PF2
  spoke : Option Nat := none            -- the spoke of a spoke controller
  cc : Nat := 0
  rdy : Bool := false
  cfs : Bool := false
  shst : Nat := 0
  intm : Nat := 0                       -- interrupt mask
  aqa : Nat := 0
  asq : Nat := 0
  acq : Nat := 0
  grant : Option Nat := none            -- pairs granted by Number of Queues
  feats : Map Nat := []                 -- dword 11 of the features set, by identifier
  ivs : Map Nat := []                   -- Interrupt Vector Configuration: Coalescing Disable, by vector
  ps : Nat := 0                         -- power state (R450)
  aers : List Nat := []                 -- CIDs of event requests held, oldest first
  events : List Nat := []               -- asynchronous events not yet reported: dword 0 of their entries
  errs : List NvErr := []               -- newest last, at most 64
  errCount : Nat := 0
  warn : Nat := 0                       -- SMART critical warning
deriving DecidableEq, Repr, Inhabited

/-- What a request to a backing does. -/
inductive NvKind where
  | read
  | write
  | zero
  | dealloc
  | setBit
  | clearBit
  | repair                              -- the write-back of R447
deriving DecidableEq, Repr, Inhabited

/-- A piece of a command (R445): a range of namespace LBAs and its data as stored at the backing, with metadata. -/
structure NvPiece where
  slba : Nat
  nlb : Nat
  data : List Bytes := []               -- one entry per LBA
  sent : Bool := false
  left : Nat := 0                       -- sides that have not completed
  good : Nat := 0                       -- sides that have completed with success
  got : Option (List Bytes) := none     -- read: what came back
  retried : Bool := false               -- read: sent to the other side (R447)
deriving DecidableEq, Repr, Inhabited

/-- A fetched command. -/
structure NvCmd where
  ctrl : Nat
  sq : Nat
  cid : Nat
  sqe : Bytes
  started : Bool := false
  kind : NvKind := .read
  ns : Nat := 0
  pieces : List NvPiece := []
  issued : Bool := false                -- a request to a backing has been issued (R437)
  status : Nat := 0                     -- NVMe status of the first failure
  code : Nat := 0                       -- its R11 code
  back : Nat := 0
  wait : List Nat := []                 -- Flush: the commands it waits for
deriving DecidableEq, Repr, Inhabited

/-- A request outstanding at a backing. -/
structure NvReq where
  backing : Nat
  ns : Nat
  sideB : Bool
  kind : NvKind
  slba : Nat                            -- namespace LBA, or unit for a bitmap request
  nlb : Nat
  data : List Bytes := []
  cmd : Option Nat := none              -- none: discarded (R453), or not of a command
  piece : Nat := 0
  held : Bool := false                  -- not yet sent: HOLD_NEW holds new pieces for TCP backings (R525)
deriving DecidableEq, Repr, Inhabited

/-- One side of a namespace: backing and first LBA. -/
structure NsSide where
  backing : Nat
  start : Nat
  failed : Bool := false
  bits : List Nat := []                 -- units whose write-intent bit is set, rising (R446)
deriving DecidableEq, Repr, Inhabited

/-- A namespace (R438-R456). -/
structure Namespace where
  nsze : Nat
  lbaf : Nat
  pi : Nat := 0
  encrypt : Bool := false
  a : NsSide
  b : Option NsSide := none
  key : Nat := 0
  salt : Nat := 0
  counter : Nat := 1                    -- R452
  ctrls : List Nat := []
  lastFail : Status := .mediumError     -- status of the later failure, once both sides have failed (R448)
  resync : Option (Bool × List Nat) := none   -- the side being written is B; units to copy, rising (R449)
  waiting : List Nat := []              -- units whose bit is being set
  clearing : List Nat := []             -- units whose bit is being cleared
  lastWrite : Map Nat := []             -- by unit: time of the last write
deriving DecidableEq, Repr, Inhabited

/-- A backing (R441, R455).  `hdr` is its STO_BACKING_ADD payload. -/
structure Backing where
  hdr : Bytes
  lbaf : Nat
  nawupf : Nat
  nabspf : Nat
  nsze : Nat
  zeroes : Bool                         -- guarantees zeros on read after deallocation (R440)
  lostAt : Option Nat := none           -- R443
deriving DecidableEq, Repr, Inhabited

/-- Chapter 13. -/
structure NvmeState where
  ctrls : Map Ctrl := []
  sqs : Map NvQueue := []               -- by 65536 * CNTLID + QID
  cqs : Map NvQueue := []
  cmds : Map NvCmd := []
  nextCmd : Nat := 0
  reqs : Map NvReq := []
  nextReq : Nat := 0
  spaces : Map Namespace := []          -- by NSID
  backings : Map Backing := []
deriving DecidableEq, Repr, Inhabited

/-! ## Checkpoints (chapter 14) -/

/-- An entry of the shard table (R458). -/
structure Shard where
  device : Bool
  cls : Nat
  bf16 : Bool
  overlap : Bool
  member : Nat                          -- 255: none
  addr : Nat
  pages : Nat
deriving DecidableEq, Repr, Inhabited

/-- A kept page: its place in the page sequence, its stored bytes and, once written, its extent and hash. -/
structure KeptPage where
  page : Nat
  data : Bytes
  extent : Option Nat := none
  hash : Bytes := []
deriving DecidableEq, Repr, Inhabited

/-- What is known of a manifest (R476). -/
structure Manifest where
  ckpt : Nat
  step : Nat
  depth : Nat
  base : Nat
  dataEnd : Nat
  chainStart : Nat
deriving DecidableEq, Repr, Inhabited

/-- A checkpoint between its cut and its commit. -/
structure Ckpt where
  op : Option Nat                       -- the CAPTURE's operation; none once abandoned
  ckpt : Nat
  step : Nat
  full : Bool
  base : Nat                            -- BASE_CKPT
  depth : Nat
  cutAt : Nat
  limitMs : Nat
  noStall : Bool
  skip : List Nat := []                 -- pages whose dirty bit is clear, rising
  capturing : Bool := true
  seen : List Nat := []                 -- pages read, rising
  released : List Nat := []             -- members released
  kept : List KeptPage := []            -- in page-sequence order
  maps : List (Nat × Nat × Nat) := []   -- page maps written: shard, ring offset, blocks
  start : Option Nat := none            -- ring offset of its first object
  pos : Nat := 0                        -- ring offset after its last object
  manifest : Option Bytes := none       -- built and being written
deriving DecidableEq, Repr, Inhabited

/-- A restore in progress (R480-R483). -/
structure Restore where
  op : Nat
  slots : Map Bytes                     -- manifest slots as read
  maps : Map Bytes                      -- page maps as read, by ring offset
  cands : List Nat                      -- CKPT of the candidates not yet tried, newest first
  cur : Nat                             -- the candidate tried
  fallback : Bool := false
  firstStatus : Status := .success
  firstCkpt : Nat := 0
  plan : List (Nat × Nat × Nat × Bytes) := []   -- pages to read: page, extent, stored bytes, hash
  done : Map (Bytes × Bytes) := []      -- pages written: fingerprint and hash
deriving DecidableEq, Repr, Inhabited

/-- A session (R457-R463). -/
structure Session where
  spoke : Nat
  shards : List Shard
  nsid : Nat
  start : Nat
  blocks : Nat
  job : Nat
  quota : Nat                           -- bytes
  weight : Nat
  rate : Nat
  release : List Nat                    -- eight RELEASE fields
  signKey : Nat
  maxChain : Nat
  hashKey : Bytes                       -- H of R466
  index : Map (Bytes × Bytes) := []     -- by page: fingerprint, page hash
  base : Option Manifest := none        -- R463
  chain : Option Manifest := none       -- the protected chain's newest manifest (R479)
  newest : Nat := 0                     -- newest CKPT of the store and the session
  committed : Nat := 0
  step : Option Nat := none             -- newest capture or restore
  fullNext : Bool := false
  ckpts : List Ckpt := []               -- oldest first, at most two
  restore : Option Restore := none
deriving DecidableEq, Repr, Inhabited

/-- Chapter 14. -/
structure CkpState where
  sessions : Map Session := []
deriving DecidableEq, Repr, Inhabited

end Sys2Proof.Machine
end

