-- ==== Sys2Proof/Machine/StateStream.lean ====
section
/-! DEFINITION. The stream array's state: tiles, channels, jobs and the scheduler's accounts (chapters 10 and 11). -/

namespace Sys2Proof.Machine
open Sys2Proof

/-- An address generator (R378). `step` is its 22 bits as stored. -/
structure Gen where
  base : Nat := 0
  index : Nat := 0
  step : Nat := 0
  mod : Nat := 0
  mode : Nat := 0
deriving DecidableEq, Repr, Inhabited

/-- A flit with its sideband (R338). -/
structure Flit where
  data : Bytes
  valid : Nat
  last : Bool
  fault : Bool
deriving DecidableEq, Repr, Inhabited

/-- A validated custom-opcode table (R415): VALID, and the micro-ops of the entries, 16 each, in order. -/
structure Mcode where
  valid : Nat := 0
  uops : List Nat := []
deriving DecidableEq, Repr, Inhabited

/-- STR_TILE.STATE of a tile that is not retired. -/
inductive TilePhase where
  | free
  | loading
  | running
  | saving
  | restoring
  | clearing
deriving DecidableEq, Repr, Inhabited

/-- The registers and memory of a tile (R335, R378); absent registers are zero. -/
structure Tile where
  phase : TilePhase := .free
  gated : Bool := false
  freeAt : Nat := 0                     -- time since which it has been free
  job : Nat := 0
  stage : Nat := 0
  sram : List Host.Cell := []           -- job-owned SRAM; an unlisted byte is 0
  bad : List Nat := []                  -- 8-byte words that are uncorrectable or bear a poison mark, rising
  icache : Map Bytes := []              -- bundles filled from SRAM, by offset
  x : Map Nat := []
  p : Map Nat := []
  v : Map Nat := []
  a : Map (List Nat) := []
  g : Map Gen := []
  pf : Nat := 0
  faulted : Bool := false
  trap : Bool := false                  -- the predicate-fault mode (R411)
  pc : Nat := 0
  rng : Nat := 1                        -- R364
  mcode : Mcode := {}
  cnts : List (Nat × Nat) := []         -- counter updates that wait for earlier sink flits (R388)
deriving DecidableEq, Repr, Inhabited

/-- A stage of a job (R342). -/
structure Stage where
  program : Nat
  programLen : Nat
  units : Nat
  placeEn : Bool := false
  place : Nat := 0
  init : Nat := 0
  initLen : Nat := 0
  initOffset : Nat := 0
  ended : Bool := false
  tile : Option Nat := none
  saved : Option Tile := none           -- the register context that its slot holds
deriving DecidableEq, Repr, Inhabited

/-- A channel of a job (R338-R342). -/
structure Chan where
  srcMem : Bool
  dstMem : Bool
  srcStage : Nat := 0
  srcPort : Nat := 0
  dstStage : Nat := 0
  dstPort : Nat := 0
  depth : Nat := 0
  fifoOffset : Nat := 0
  memAddr : Nat := 0
  memLen : Nat := 0
  fifo : List Flit := []                -- oldest first; to a sink: flits not yet written
  offset : Nat := 0                     -- bytes that the memory stream has moved
  sentLast : Bool := false
  tookLast : Bool := false
  parked : Bool := false                -- R207
deriving DecidableEq, Repr, Inhabited

/-- Where an admitted job stands. -/
inductive JobPhase where
  | waiting
  | bound                               -- its tiles load, restore or run
  | saving
deriving DecidableEq, Repr, Inhabited

/-- A job admitted and not ended (R344). -/
structure Job where
  op : Nat
  queue : Nat
  spoke : Nat
  ctx : Nat
  runLimit : Nat
  seed : Nat
  arg : Nat
  mcode : Mcode := {}
  stages : List Stage
  chans : List Chan
  phase : JobPhase := .waiting
  boundAt : Nat := 0                    -- time of the last bind
  boundNs : Nat := 0                    -- bound time before it
  tileNs : Nat := 0                     -- tile-nanoseconds before it
  preempts : Nat := 0
  residue : Bool := false
  sinkBytes : Nat := 0
  marked : Option Nat := none           -- a sink wrote data marked FAULT: the DETAIL of the first
  movedAt : Nat := 0                    -- last bundle or stream movement
  stalledAt : Option Nat := none        -- since when a stream of it has been parked
  waitAt : Nat := 0                     -- since when it has waited for tiles
deriving DecidableEq, Repr, Inhabited

/-- A tile retirement that waits for its tile (R357). -/
structure Retiring where
  tile : Nat
  fn : Option (Nat × Nat) := none       -- the function and SEQ whose command it is
deriving DecidableEq, Repr, Inhabited

/-- Chapters 10 and 11. -/
structure StrState where
  jobs : Map Job := []                  -- in admission order
  nextJob : Nat := 0
  tiles : Map Tile := []
  vtime : Map Nat := []                 -- by spoke: R350's V in units of 2^-32 tile-nanosecond
  bucket : Map Int := []                -- by spoke: R349's bucket in units of 1/1000 tile-nanosecond
  accounted : Nat := 0                  -- time up to which the two are kept
  turn : Map Nat := []                  -- by spoke: the queue served last
  retiring : List Retiring := []
  retired : List Nat := []              -- tiles out of use, rising
  uncorr : Map (List (Nat × Nat)) := [] -- by tile: uncorrectable SRAM offsets and their times
deriving DecidableEq, Repr, Inhabited

end Sys2Proof.Machine
end

