-- ==== Sys2Proof/Machine/State.lean ====
section
/-! DEFINITION. The state of the H9, its stops and its state after reset. -/

namespace Sys2Proof.Machine
open Sys2Proof

/-- The state of the H9.  `pending` is the queue of commands waiting, first in, first out. -/
structure State where
  pending : List Instr := []
  now : Nat := 0                        -- nanoseconds of device time; the model's own field (log entries 1, DESIGN CHOICE; 177, DEDUCED)
  freeCtr : Nat := 0                    -- index of the next free value; the model's own field (log entry 2, DESIGN CHOICE)
  regs : Map Nat := []                  -- BAR0 registers held as words; absent: the reset value
  out : List Emit := []                 -- what the H9 has sent, oldest first; the model's own field (log entry 1, DESIGN CHOICE)
  host : HostState := {}
  trg : TrgState := {}
  mem : MemState := {}
  net : NetState := {}
  sch : SchState := {}
  xpt : XptState := {}
  str : StrState := {}
  nvme : NvmeState := {}
  ckp : CkpState := {}
  sec : SecState := {}
  fwm : FwmState := {}
  pwr : PwrState := {}
  brd : Board := {}
  tel : TelState := {}
deriving DecidableEq, Repr

/-- The faults of a step.  The spec answers every access it forbids with a status, so no command of this block
stops the model with a fault: the type has one constructor, which nothing raises. -/
inductive Fault where
  /-- Raised by no command.  Safe. -/
  | none
deriving DecidableEq, Repr

/-- The refusals of a step. -/
inductive Refusal where
  /-- Raised by exec for a command that has no meaning yet, by its mnemonic.  Safe. -/
  | notModelled (mnemonic : String)
deriving DecidableEq, Repr

/-- R184: the regions of HBM without a journal: FIRMWARE, TABLES, PTAB, REORDER, STAGING, PANNIER and JOBS
(log entry 3, DESIGN CHOICE). -/
def defaultRegions : Map Region := [
  (0, { strong := true, use := 4, base := 0, size := 2048 }),
  (1, { strong := true, use := 3, base := 2048, size := 256 }),
  (2, { strong := true, use := 6, base := 2304, size := 128 }),
  (3, { strong := false, use := 2, base := 2432, size := 2048 }),
  (4, { strong := false, use := 5, base := 4480, size := 1024 }),
  (5, { strong := true, use := 1, base := 5504, size := 49152 }),
  (6, { strong := true, use := 0, base := 54656, size := 55936 })]

/-- PCI_CTL_CFG of P2-P9 before the straps are sampled: the roles that the straps' pulls and an empty journal give
(R73, R96), downstream, P6-P9 in the hierarchy of P1 (log entries 3, DESIGN CHOICE; 163, PRESUMED). -/
def defaultRoles : Map Nat := [
  (0x100200, 0x108A1), (0x100300, 0x108A1), (0x100400, 0x108A1), (0x100500, 0x108A1),
  (0x100600, 0x108B1), (0x100700, 0x108B1), (0x100800, 0x108B1), (0x100900, 0x108B1)]

/-- The machine right after power-on (R575): VDD_AON is present and RESET_N is low (log entry 3, DESIGN CHOICE). -/
def State.reset : State := {
  regs := defaultRoles
  mem := { regions := defaultRegions }
  brd := { aon := true } }

end Sys2Proof.Machine
end

