-- ==== Sys2Proof/Machine/Ops.lean ====
section
/-! DEFINITION. The named operations over the state's tables, registers and HBM, and over its log of what it sends. -/

namespace Sys2Proof
open Sys2Proof.Machine

/-! ## Tables -/

/-- The entry of a table under a key. -/
def Map.get {β : Type} : List (Nat × β) → Nat → Option β
  | [], _ => none
  | (a, b) :: t, k => if a = k then some b else Map.get t k

/-- The table with a key's entry set, in rising key order. -/
def Map.put {β : Type} : List (Nat × β) → Nat → β → List (Nat × β)
  | [], k, v => [(k, v)]
  | (a, b) :: t, k, v =>
    if k < a then (k, v) :: (a, b) :: t
    else if k = a then (k, v) :: t
    else (a, b) :: Map.put t k v

/-- The table without a key's entry. -/
def Map.erase {β : Type} : List (Nat × β) → Nat → List (Nat × β)
  | [], _ => []
  | (a, b) :: t, k => if a = k then t else (a, b) :: Map.erase t k

/-- Whether a table has an entry under a key. -/
def Map.has {β : Type} (m : List (Nat × β)) (k : Nat) : Bool := (Map.get m k).isSome

/-- The table with a key's entry changed, unchanged where the key is absent. -/
def Map.modify {β : Type} (m : List (Nat × β)) (k : Nat) (f : β → β) : List (Nat × β) :=
  match Map.get m k with
  | some v => Map.put m k (f v)
  | none => m

/-- The keys and the entries of a table. -/
def Map.keys {β : Type} (m : List (Nat × β)) : List Nat := m.map Prod.fst
def Map.vals {β : Type} (m : List (Nat × β)) : List β := m.map Prod.snd

/-- Every key below the next: the canonical form of a table. -/
def Map.wf {β : Type} : List (Nat × β) → Bool
  | [] => true
  | [_] => true
  | (a, _) :: (b, y) :: t => decide (a < b) && Map.wf ((b, y) :: t)

/-- The lowest number from `k`, below `k + fuel`, that is not a key. -/
def Map.freeFrom {β : Type} (m : List (Nat × β)) (k : Nat) : Nat → Option Nat
  | 0 => none
  | n + 1 => if Map.has m k then Map.freeFrom m (k + 1) n else some k

/-- The lowest number below `n` that is not a key.  A table of m entries has one among the first m + 1 numbers. -/
def Map.lowestFree {β : Type} (m : List (Nat × β)) (n : Nat) : Option Nat :=
  match Map.freeFrom m 0 (m.length + 1) with
  | some k => if k < n then some k else none
  | none => none

/-- Sets of numbers, as rising lists. -/
def setIns : List Nat → Nat → List Nat
  | [], k => [k]
  | a :: t, k => if k < a then k :: a :: t else if k = a then a :: t else a :: setIns t k

def setDel (l : List Nat) (k : Nat) : List Nat := l.filter (· != k)

end Sys2Proof

namespace Sys2Proof.Machine
open Sys2Proof

/-- The outcome type of a command. -/
abbrev Outcome := Host.Outcome State Fault Refusal

/-! ## The log, free values and the epoch -/

/-- Send one thing to the outside world (log entry 8, DEDUCED). -/
def State.emit (s : State) (e : Emit) : State := { s with out := s.out ++ [e] }

/-- Send several, in order. -/
def State.emits (s : State) (l : List Emit) : State := { s with out := s.out ++ l }

/-- Draw a free value of `w` bits: the number and the state after the draw (log entry 2, DESIGN CHOICE). -/
def State.draw (s : State) (w : Nat) : Nat × State :=
  (Config.freeValue s.freeCtr % 2 ^ w, { s with freeCtr := s.freeCtr + 1 })

/-- Draw `n` free bytes (log entry 123, DEDUCED). -/
def State.drawBytes (s : State) (n : Nat) : Bytes × State :=
  let (v, s) := s.draw (8 * n)
  (toLe n v, s)

/-- R168: STATE_EPOCH increments, 64 bits wide. -/
def State.bump (s : State) : State := { s with host.epoch := (s.host.epoch + 1) % 2 ^ 64 }

/-! ## Registers held as words -/

/-- The index list of an offset in an array of the given dimensions. -/
def resolveDims : List (Nat × Nat) → Nat → Option (List Nat)
  | [], r => if r = 0 then some [] else none
  | (c, st) :: t, r =>
    if r / st < c then (resolveDims t (r % st)).map (r / st :: ·) else none

/-- The register at a BAR0 offset of PF0, with its indices. -/
def findReg (off : Nat) : Option (RegDef × List Nat) :=
  regTable.findSome? fun d =>
    if off < d.base then none else (resolveDims d.dims (off - d.base)).map (d, ·)

/-- The reset value of a register: its fields' reset values in place. -/
def RegDef.resetValue (d : RegDef) : Nat := d.fields.foldl (fun v f => setBits v f.hi f.lo f.reset) 0

/-- The word of a register at its reset value. -/
def regReset (off : Nat) : Nat :=
  match findReg off with
  | some (d, _) => d.resetValue
  | none => 0

/-- The word stored for a register. -/
def State.rget (s : State) (off : Nat) : Nat := (Map.get s.regs off).getD (regReset off)

/-- Store a register's word. -/
def State.rput (s : State) (off v : Nat) : State := { s with regs := Map.put s.regs off v }

/-- One field of a register. -/
def State.rfield (s : State) (off hi lo : Nat) : Nat := bits (s.rget off) hi lo

/-- Set one field of a register. -/
def State.rset (s : State) (off hi lo v : Nat) : State := s.rput off (setBits (s.rget off) hi lo v)

/-- Add to a field that holds at its maximum. -/
def State.rsat (s : State) (off hi lo n : Nat) : State :=
  s.rset off hi lo (satAdd (hi + 1 - lo) (s.rfield off hi lo) n)

/-- R10: return every register of the given domains to its reset value. -/
def State.rreset (s : State) (doms : List Domain) : State :=
  { s with regs := s.regs.filter fun p =>
      match findReg p.1 with
      | some (d, _) => !doms.contains d.dom
      | none => true }

/-! The offsets of the registers that operations name. -/
def aTimeSnap : Nat := 0x100
def aTimeRec : Nat := 0x1000
def aD2d : Nat := 0x180
def aBadAccess : Nat := 0x188
def aCtlCfg (n : Nat) : Nat := 0x100000 + 0x100 * n
def aWinBase (q w : Nat) : Nat := 0x110000 + 0x2000 * q + 0x20 * w
def aWinCtl (q : Nat) : Nat := 0x111000 + 0x2000 * q
def aWinGen (q : Nat) : Nat := 0x111008 + 0x2000 * q
def aHbmStat (x : Nat) : Nat := 0x200200 + 8 * x
def aScrub : Nat := 0x200300
def aRawAddr : Nat := 0x201000
def aRawData (k : Nat) : Nat := 0x201008 + 8 * k
def aRawCheck : Nat := 0x201048
def aRawCmd : Nat := 0x201050
def aPortCfg (i : Nat) : Nat := 0x300000 + 0x100 * i
def aFcCfg (s : Nat) : Nat := 0x301000 + 8 * s
def aDrop (s k : Nat) : Nat := 0x303000 + 0x40 * s + 8 * k
def aLowPwr : Nat := 0x418
def aStrap : Nat := 0x400
def aResetCause : Nat := 0x408
def aRetire : Nat := 0x410
/-- Log entry 176, DEDUCED. -/
def aPortCnt (q k : Nat) : Nat := 0xD01000 + 0x40 * q + 8 * k

def aHist (c b : Nat) : Nat := 0xD02000 + 0x100 * c + 8 * b

/-- R601: the histogram bucket of a sample in nanoseconds (log entry 176, DEDUCED). -/
def histBucket (ns : Nat) : Nat := min 31 (Nat.log2 ns)

/-- R601: count a latency sample that started at a time and ends now (log entry 176, DEDUCED). -/
def State.sample (s : State) (cls since : Nat) : State :=
  s.rsat (aHist cls (histBucket (s.now - since))) 63 0 1

/-- R43: count an access that is discarded or refused, with its kind and function. -/
def State.badAccess (s : State) (kind f : Nat) : State :=
  let s := s.rsat aBadAccess 47 0 1
  let s := s.rset aBadAccess 50 48 kind
  let s := s.rset aBadAccess 53 52 (f % 4)
  s.rset aBadAccess 54 54 (f / 4)

/-! ## Functions, spokes, ports -/

def State.fn (s : State) (f : Nat) : FnState := (Map.get s.host.fns f).getD {}
def State.setFn (s : State) (f : Nat) (x : FnState) : State := { s with host.fns := Map.put s.host.fns f x }
def State.modFn (s : State) (f : Nat) (g : FnState → FnState) : State := s.setFn f (g (s.fn f))

def State.port (s : State) (q : Nat) : Port := (Map.get s.host.ports q).getD {}
def State.setPort (s : State) (q : Nat) (x : Port) : State := { s with host.ports := Map.put s.host.ports q x }
def State.modPort (s : State) (q : Nat) (g : Port → Port) : State := s.setPort q (g (s.port q))

def State.spoke (s : State) (k : Nat) : Option Spoke := Map.get s.host.spokes k
def State.modSpoke (s : State) (k : Nat) (g : Spoke → Spoke) : State :=
  { s with host.spokes := Map.modify s.host.spokes k g }

def State.queue (s : State) (q : Nat) : Option Queue := Map.get s.host.queues q
def State.setQueue (s : State) (q : Nat) (x : Queue) : State := { s with host.queues := Map.put s.host.queues q x }
def State.modQueue (s : State) (q : Nat) (g : Queue → Queue) : State :=
  { s with host.queues := Map.modify s.host.queues q g }

def State.op (s : State) (o : Nat) : Option Op := Map.get s.host.ops o
def State.modOp (s : State) (o : Nat) (g : Op → Op) : State := { s with host.ops := Map.modify s.host.ops o g }

/-- The function of a spoke; 8 (no function) when the spoke does not exist. -/
def State.spokeFn (s : State) (k : Nat) : Nat := match s.spoke k with
  | some sp => sp.fn
  | none => 8

/-- The spoke number of the base spoke of PF0 of a hierarchy, the receiver of device events. -/
def State.pf0Base (s : State) (hier : Nat) : Option Nat := (s.fn (4 * hier)).baseSpoke

/-- Whether the memory of a function may be reached now: R130 (Bus Master Enable), R131 (D0), R133 (no FLR). -/
def State.canMaster (s : State) (f : Nat) : Bool :=
  let x := s.fn f
  x.bme && !x.d3hot && !x.flr

/-- Whether the work of a function's spokes is frozen (R166): the function is in FREEWHEEL, or a queue of it is. -/
def State.frozenFn (s : State) (f : Nat) : Bool :=
  (s.fn f).attach == .freewheel ||
    s.host.queues.any fun (_, q) => q.state == .frozen && s.spokeFn q.spoke == f

/-- R92, R96: role, hierarchy and bifurcation in effect of the controller of port q. -/
def State.portRole (s : State) (q : Nat) : Nat := s.rfield (aCtlCfg (q / 4)) 1 0
def State.portHier (s : State) (q : Nat) : Nat :=
  if s.portRole q = 0 then q / 4 else s.rfield (aCtlCfg (q / 4)) 4 4
def State.portExists (s : State) (q : Nat) : Bool :=
  let b := s.rfield (aCtlCfg (q / 4)) 3 2
  let r := s.portRole q
  decide (q < 40) && r != 3 &&
    (if r = 0 then q % 4 == 0 else decide (q % 4 < (if b = 0 then 1 else if b = 1 then 2 else 4)))

/-- The port that leads to a function's host: sub-link 0 of P0 or P1. -/
def upPort (f : Nat) : Nat := if f < 4 then 0 else 4

/-! ## HBM -/

/-- One byte of HBM (log entry 35, DESIGN CHOICE). -/
def Memory.read (m : List Host.Cell) (a : Nat) : Byte := (Map.get m a).getD 0

/-- HBM with one byte written; a zero byte is not listed (log entry 35, DESIGN CHOICE). -/
def Memory.write (m : List Host.Cell) (a : Nat) (b : Byte) : List Host.Cell :=
  if b = 0 then Map.erase m a else Map.put m a b

/-- HBM with consecutive bytes written. -/
def Memory.writeBytes (m : List Host.Cell) (a : Nat) : Bytes → List Host.Cell
  | [] => m
  | b :: t => Memory.writeBytes (Memory.write m a b) (a + 1) t

/-- Consecutive bytes of HBM. -/
def Memory.readBytes (m : List Host.Cell) (a : Nat) : Nat → Bytes
  | 0 => []
  | n + 1 => Memory.read m a :: Memory.readBytes m (a + 1) n

/-- The canonical form of HBM: addresses strictly rising, no byte listed that reads 0 anyway
(log entry 35, DESIGN CHOICE). -/
def Memory.wf (m : List Host.Cell) : Bool := Map.wf m && m.all fun c => c.2 != 0

/-- The size of HBM in bytes (R38). -/
def hbmSize : Nat := 0x36_0000_0000

/-- The block numbers that a byte range touches. -/
def blocksOf (a n : Nat) : List Nat :=
  if n = 0 then [] else (List.range ((a + n - 1) / 64 - a / 64 + 1)).map (a / 64 + ·)

/-- The regions of HBM: 64 indices. -/
def Region.baseByte (r : Region) : Nat := r.base * 0x20_0000
def Region.bytes (r : Region) : Nat := r.size * 0x20_0000
/-- R176: the exclusive end of a region's data area. -/
def Region.dataEnd (r : Region) : Nat :=
  if r.strong then r.baseByte + r.bytes / 16 * 15 else r.baseByte + r.bytes

/-- The region whose data area holds a whole byte range and which agents may reach (R182, R187). -/
def State.regionOf (s : State) (a n : Nat) : Option Region :=
  if s.mem.absent then none else
  (s.mem.regions.map Prod.snd).find? fun r =>
    r.valid && !r.test && !r.zeroing && decide (r.baseByte ≤ a) && decide (a + n ≤ r.dataEnd)

/-- Whether a byte range lies in the data area of a region of one of the given uses (R183). -/
def State.inUse (s : State) (uses : List Nat) (a n : Nat) : Bool :=
  match s.regionOf a n with
  | some r => uses.contains r.use
  | none => false

/-- The uses of R183. -/
def useJobs : Nat := 0
def usePannier : Nat := 1
def useReorder : Nat := 2
def useTables : Nat := 3
def useFirmware : Nat := 4
def useStaging : Nat := 5
def usePtab : Nat := 6

/-- R40: the stack of a device address. -/
def stackOf (a : Nat) : Nat := a / 4096 % 6
/-- R40: the address within the stack. -/
def stackAddr (a : Nat) : Nat := a / 4096 / 6 * 4096 + a % 4096
/-- R173: channel, column, bank and row of a stack address. -/
def channelOf (x : Nat) : Nat := x / 256 % 16
def columnOf (x : Nat) : Nat := x / 4096 % 8
def bankOf (x : Nat) : Nat := x / 4096 / 8 % 48
def rowOf (x : Nat) : Nat := x / 4096 / 384

/-- R176: the device address of the check bytes of the block that holds device address `a` of a STRONG region. -/
def checkAddr (r : Region) (a : Nat) : Nat :=
  let rb := r.baseByte
  let n := r.bytes / 4096
  let c := rb / 4096 + 15 * n / 16
  let j := (a - rb) / 4096
  let st := (rb / 4096 + j) % 6
  let t := j / 6
  let u := t / 16
  let h := c + (st + 6 - c % 6) % 6 + 6 * u
  h * 4096 + t % 16 * 256 + a % 4096 / 64 * 4

/-- R180: count an uncorrectable block and put the poison mark over it. -/
def State.uncorrectable (s : State) (blk : Nat) : State :=
  let s := { s with mem.poison := setIns s.mem.poison blk, mem.uncorr := setDel s.mem.uncorr blk,
                    mem.fresh := setIns s.mem.fresh blk }
  s.rsat (aHbmStat (stackOf (blk * 64))) 63 48 1

/-- What a read of HBM found besides its bytes. -/
inductive Found where
  | clean
  | poisoned
  | uncorrectable
deriving DecidableEq, Repr

/-- R180: read bytes of HBM: the state after it, the bytes, and the worst that it found. -/
def State.hbmRead (s : State) (a n : Nat) : State × Bytes × Found :=
  let d := Memory.readBytes s.mem.hbm a n
  let bs := blocksOf a n
  let unc := bs.filter s.mem.uncorr.contains
  let poi := bs.any s.mem.poison.contains
  let s' := unc.foldl State.uncorrectable { s with mem.refresh := false }
  (s', d, if unc != [] then .uncorrectable else if poi then .poisoned else .clean)

/-- The offset of CKP_CNT[k] (R486). -/
def aCkpCnt (k : Nat) : Nat := 0x800100 + 8 * k

/-- Whether a write of `n` bytes at `a` meets a protected granule of HBM (none) or of a function's host memory. -/
def Prot.meets (p : Prot) (h : Option Nat) (a n : Nat) : Bool :=
  p.host == h && !p.hit && decide (p.addr < a + n) && decide (a < p.addr + 4096)

/-- R470: a write meets protected granules: it is held, and each granule is kept as it stood for the capture. -/
def State.hitProt (s : State) (h : Option Nat) (a n : Nat) : State :=
  if !(s.mem.prot.any fun p => p.meets h a n) then s
  else
    let keep (sl : State × List Prot) (p : Prot) : State × List Prot :=
      if !p.meets h a n then (sl.1, sl.2 ++ [p])
      else match h with
        | some _ => (sl.1, sl.2 ++ [{ p with hit := true }])
        | none =>
          let (s, d, f) := sl.1.hbmRead p.addr 4096
          let m : Status := match f with
            | .clean => .success
            | .poisoned => .poisoned
            | .uncorrectable => .mediumError
          (s, sl.2 ++ [{ p with hit := true, old := d, mark := m }])
    let (s, l) := s.mem.prot.foldl keep (s, [])
    State.rsat { s with mem.prot := l } (aCkpCnt 3) 63 0 1

/-- R179-R181: store bytes in HBM.  A whole block written without poison loses its mark; a narrow write keeps it;
the read half of a narrow write that finds the block uncorrectable leaves the mark and counts the block.
With `ep` set, every block touched bears the mark (R116). -/
def State.hbmWrite (s : State) (a : Nat) (d : Bytes) (ep : Bool) : State :=
  let s := s.hitProt none a d.length
  let s := { s with mem.hbm := Memory.writeBytes s.mem.hbm a d, mem.refresh := false }
  (blocksOf a d.length).foldl (fun s blk =>
    let whole := decide (a ≤ blk * 64) && decide (blk * 64 + 64 ≤ a + d.length)
    let s := { s with mem.rawCheck := Map.erase s.mem.rawCheck blk }
    if ep then { s with mem.poison := setIns s.mem.poison blk, mem.uncorr := setDel s.mem.uncorr blk }
    else if whole then { s with mem.poison := setDel s.mem.poison blk, mem.uncorr := setDel s.mem.uncorr blk }
    else if s.mem.uncorr.contains blk then s.uncorrectable blk
    else s) s

/-! ## Address translation of spokes (R198-R203) -/

/-- What a spoke address leads to. -/
inductive Xlat where
  | ok (leaf : Leaf) (left : Nat)       -- the translated address, and the bytes from it to the end of its page
  | bad (st : Status)
deriving DecidableEq, Repr

/-- R200: reserved bits of a page-table entry at a level. -/
def pteReserved (e lvl : Nat) : Bool :=
  bits e 11 8 != 0 ||
  (if bit e 1 then (lvl != 0 && bit e 7) || bits e 3 2 == 3 || (bits e 3 2 == 2 && bits e 63 48 != 0)
   else bits e 7 2 != 0 || bits e 63 48 != 0)

/-- The port of a hierarchy's downstream ports that claims a bus address (R101). -/
def State.claims (s : State) (hier a : Nat) : Option Nat :=
  (s.host.ports.find? fun (q, p) =>
    s.portRole q == 1 && s.portHier q == hier && decide (p.memBase ≤ a) && decide (a < p.memLimit)).map Prod.fst

/-- The size of the page of a leaf at a level. -/
def pageSize (e lvl : Nat) : Nat :=
  if lvl = 2 then 2 ^ 30 else if lvl = 1 then 2 ^ 21 else if bit e 7 then 65536 else 4096

/-- One walk of a page table: level `lvl` and below, from the table at device address `tbl`. -/
def State.walk (s : State) (spoke fn va : Nat) : Nat → Nat → Except Status AtcEntry × State
  | 0, _ => (.error .translationFault, s)
  | n + 1, tbl =>
    let lvl := n
    if !s.inUse [usePtab] tbl 4096 then (.error .translationFault, s) else
    let (s, d, f) := s.hbmRead (tbl + 8 * (va / 2 ^ (12 + 9 * lvl) % 512)) 8
    let e := le d
    if f != .clean then (.error .translationFault, s)
    else if !bit e 0 || pteReserved e lvl then (.error .translationFault, s)
    else if !bit e 1 then
      if lvl = 0 then (.error .translationFault, s)
      else State.walk s spoke fn va n (bits e 63 12 * 4096)
    else if lvl = 3 then (.error .translationFault, s)
    else
      let sz := pageSize e lvl
      let tgt := bits e 63 12 * 4096
      if tgt % sz != 0 then (.error .translationFault, s)
      else
        let leaf := if bits e 3 2 = 0 then Leaf.host tgt (bit e 6)
          else if bits e 3 2 = 1 then Leaf.peer tgt else Leaf.hbm tgt
        (.ok { spoke := spoke, page := va / sz * sz, size := sz, leaf := leaf, rd := bit e 4, wr := bit e 5 }, s)

/-- R44: the slice that looks up an address of a spoke (log entry 17, DEDUCED). -/
def atcSlice (pasid va : Nat) : Nat := (pasid + va / 4096) % 8

/-- The entry of a slice for a spoke address (log entry 17, DEDUCED). -/
def State.atcFind (s : State) (slice spoke va : Nat) : Option AtcEntry :=
  s.host.atc.find? fun e => e.slice == slice && e.spoke == spoke && decide (e.page ≤ va) && decide (va < e.page + e.size)

/-- R44: cache an entry in its slice, which holds 2,048; which entry a full slice gives up is free
(log entry 17, DEDUCED). -/
def State.atcAdd (s : State) (e : AtcEntry) : State :=
  let mine := s.host.atc.filter fun x => x.slice == e.slice
  if mine.length < 2048 then { s with host.atc := s.host.atc ++ [e] }
  else
    let (d, s) := s.draw 16
    let victim := mine[d % mine.length]?
    { s with host.atc := (s.host.atc.filter fun x => some x != victim) ++ [e] }

/-- The permission and target checks of R200 on an entry, and the address at `va` (log entry 11, DEDUCED). -/
def State.useEntry (s : State) (fn : Nat) (e : AtcEntry) (va : Nat) (write : Bool) : Xlat :=
  let off := va - e.page
  if !(if write then e.wr else e.rd) then .bad .accessViolation
  else match e.leaf with
    | .hbm d => if s.inUse [useJobs] (d + off) 1 then .ok (.hbm (d + off)) (e.size - off) else .bad .accessViolation
    | .peer a => if (s.claims (fn / 4) (a + off)).isSome then .ok (.peer (a + off)) (e.size - off)
                 else .bad .accessViolation
    | .host a p => .ok (.host (a + off) p) (e.size - off)

/-- R198-R202: translate one address of a spoke.  A base spoke's addresses are bus addresses of its function. -/
def State.translate (s : State) (k va : Nat) (write : Bool) : Xlat × State :=
  match s.spoke k with
  | none => (.bad .accessViolation, s)
  | some sp =>
    if sp.base then (.ok (.host va (s.fn sp.fn).priEn) (4096 - va % 4096), s)
    else if va ≥ 2 ^ 48 then (.bad .accessViolation, s)
    else
      let i := atcSlice sp.pasid va
      match s.atcFind i k va with
      | some e => (s.useEntry sp.fn e va write, s)
      | none =>
        match State.walk s k sp.fn va 4 sp.ptRoot with
        | (.error st, s) => (.bad st, s)
        | (.ok e, s) => (s.useEntry sp.fn e va write, s.atcAdd { e with slice := i })

/-- The PASID that a spoke's requests carry (R112). -/
def Spoke.pasidOpt (sp : Spoke) : Option Nat := if sp.base then none else some sp.pasid

/-- How an access to a spoke's memory ended: bytes done, the status, whether poison was met, and whether the host's
ATS translation granted no access at that point. -/
structure AccRes where
  done : Nat := 0
  data : Bytes := []
  status : Status := .success
  poisoned : Bool := false
  medium : Bool := false
  noAccess : Bool := false
  pri : Bool := false
  page : Nat := 0                       -- the untranslated host page at which no access was granted
deriving DecidableEq, Repr, Inhabited

/-- R26: every die-to-die E port is out of service, so what needs rim die E completes with RESOURCE. -/
def State.rimDown (s : State) : Bool := s.rfield aD2d 15 8 == 255

/-- Whether the memory behind a function's port may be reached: contained ports and ports in reset answer
LINK_CONTAINED (R121, R615). -/
def State.portBlocked (s : State) (q : Nat) : Bool :=
  let p := s.port q
  p.contained || p.sbrActive

/-- Write one piece, within one page, through a leaf.  The writes are posted, so the answer counts only where ATS has to
translate the address first (R203) (log entry 43, DEDUCED). -/
def State.leafWrite (s : State) (sp : Spoke) (leaf : Leaf) (d : Bytes) (ep : Bool) (ans : HostAns) : State × AccRes :=
  match leaf with
  | .hbm a => (s.hbmWrite a d ep, { done := d.length })
  | .peer a =>
    match s.claims (sp.fn / 4) a with
    | none => (s, { status := .accessViolation })
    | some q =>
      if s.rimDown then (s, { status := .resource })
      else if s.portBlocked q then (s, { status := .linkContained })
      else (s.emit (.peerWrite sp.fn a d ep), { done := d.length })
  | .host a pri =>
    if !s.canMaster sp.fn then (s, { status := .flushed })
    else if s.rimDown then (s, { status := .resource })
    else if !sp.base && !(s.fn sp.fn).pasidEn then (s, { status := .translationFault })
    else match ans, (s.fn sp.fn).atsEn with
      | .fail st, true => (s, { status := st })
      | .noAccess, true => (s, { noAccess := true, pri := pri, status := .translationFault, page := a / 4096 })
      | _, ats =>
        ((s.hitProt (some sp.fn) a d.length).emit (.memWrite sp.fn sp.pasidOpt ats a d ep), { done := d.length })

/-- Write bytes at a spoke address, page by page; stops at the first piece that fails.  `fuel` bounds the pages. -/
def State.spokeWriteLoop (s : State) (k : Nat) (ep : Bool) (ans : HostAns) : Nat → Nat → Bytes → State × AccRes
  | 0, _, _ => (s, {})
  | n + 1, va, d =>
    if d = [] then (s, {}) else
    match s.spoke k with
    | none => (s, { status := .accessViolation })
    | some sp =>
      match s.translate k va true with
      | (.bad st, s) => (s, { status := st })
      | (.ok leaf left, s) =>
        let piece := d.take (min left (4096 - va % 4096))
        let (s, r) := s.leafWrite sp leaf piece ep ans
        if r.status != .success then (s, r)
        else
          let (s, r') := State.spokeWriteLoop s k ep ans n (va + piece.length) (d.drop piece.length)
          (s, { r' with done := r.done + r'.done })

/-- Write bytes at a spoke address. -/
def State.spokeWrite (s : State) (k va : Nat) (d : Bytes) (ep : Bool) (ans : HostAns) : State × AccRes :=
  State.spokeWriteLoop s k ep ans (d.length / 4096 + 2) va d

/-- Read one piece, within one page, through a leaf; host and peer bytes come from the answer, from offset `off`
(log entry 43, DEDUCED). -/
def State.leafRead (s : State) (sp : Spoke) (leaf : Leaf) (n off : Nat) (ans : HostAns) : State × AccRes :=
  match leaf with
  | .hbm a =>
    let (s, d, f) := s.hbmRead a n
    (s, { done := n, data := d, poisoned := f == .poisoned, medium := f == .uncorrectable })
  | .peer a =>
    match s.claims (sp.fn / 4) a with
    | none => (s, { status := .accessViolation })
    | some q =>
      if s.rimDown then (s, { status := .resource })
      else if s.portBlocked q then (s, { status := .linkContained })
      else match ans with
        | .fail st => (s, { status := st })
        | .noAccess => (s, { status := .accessViolation })
        | .ok d ep => (s, { done := n, data := padTo n (d.drop off), poisoned := ep })
  | .host a pri =>
    if !s.canMaster sp.fn then (s, { status := .flushed })
    else if s.rimDown then (s, { status := .resource })
    else if !sp.base && !(s.fn sp.fn).pasidEn then (s, { status := .translationFault })
    else match ans with
      | .fail st => (s, { status := st })
      | .noAccess =>
        if (s.fn sp.fn).atsEn then (s, { noAccess := true, pri := pri, status := .translationFault, page := a / 4096 })
        else (s, { status := if sp.base then .accessViolation else .translationFault })
      | .ok d ep => (s, { done := n, data := padTo n (d.drop off), poisoned := ep })

/-- Read bytes at a spoke address, page by page; the host's and peers' bytes are the answer's
at the same positions. -/
def State.spokeReadLoop (s : State) (k : Nat) (ans : HostAns) : Nat → Nat → Nat → Nat → State × AccRes
  | 0, _, _, _ => (s, {})
  | fuel + 1, va, n, off =>
    if n = 0 then (s, {}) else
    match s.spoke k with
    | none => (s, { status := .accessViolation })
    | some sp =>
      match s.translate k va false with
      | (.bad st, s) => (s, { status := st })
      | (.ok leaf left, s) =>
        let m := min n (min left (4096 - va % 4096))
        let (s, r) := s.leafRead sp leaf m off ans
        if r.status != .success then (s, r)
        else
          let (s, r') := State.spokeReadLoop s k ans fuel (va + m) (n - m) (off + m)
          (s, { r' with done := r.done + r'.done, data := r.data ++ r'.data,
                        poisoned := r.poisoned || r'.poisoned, medium := r.medium || r'.medium })

/-- Read bytes at a spoke address. -/
def State.spokeRead (s : State) (k va n : Nat) (ans : HostAns) : State × AccRes :=
  State.spokeReadLoop s k ans (n / 4096 + 2) va n 0

/-! ## Page requests (R110, R206) -/

/-- The page requests of a function that have been sent. -/
def State.pagesSent (s : State) (f : Nat) : Nat := (s.host.pageReqs.filter fun p => p.fn == f && p.sent).length

/-- R110: whether a function may send another page request. -/
def State.mayPage (s : State) (f : Nat) : Bool := decide (s.pagesSent f < min 1024 (s.fn f).priAlloc)

/-- R206: raise a page request for a host page, or share one already outstanding. -/
def State.pageRequest (s : State) (f : Nat) (pasid : Option Nat) (page : Nat) (w : Waiter) : State :=
  let same (p : PageReq) : Bool := p.fn == f && p.pasid == pasid && p.page == page
  if s.host.pageReqs.any same then
    { s with host.pageReqs := s.host.pageReqs.map fun p =>
        if same p && !p.waiters.contains w then { p with waiters := p.waiters ++ [w] } else p }
  else
    let go := s.mayPage f
    let r : PageReq := { fn := f, pasid := pasid, page := page, sent := go, since := s.now, waiters := [w] }
    let s := { s with host.pageReqs := s.host.pageReqs ++ [r] }
    if go then s.emit (.pageRequest f pasid page) else s

/-- R206: whether an access that met no ATS access raises a page request. -/
def State.pages (s : State) (k : Nat) (r : AccRes) : Bool :=
  let x := s.fn (s.spokeFn k)
  r.noAccess && r.pri && x.priEn && x.atsEn

/-- R206: the page request of an access of a spoke. -/
def State.pageFor (s : State) (k : Nat) (r : AccRes) (w : Waiter) : State :=
  s.pageRequest (s.spokeFn k) ((s.spoke k).bind Spoke.pasidOpt) r.page w

end Sys2Proof.Machine
end

