-- ==== Sys2Proof/Machine/QueueOps.lean ====
section
/-! DEFINITION. Interrupts, ring entries, events, operations, completion counters and trigger entries: the shared
operations that every chapter's commands use (R113-R115, R137-R152, R166, R314-R333). -/

namespace Sys2Proof.Machine
open Sys2Proof

/-! ## Interrupts (R113-R115) -/

/-- The low word of an MSI-X vector's second table entry word: bit 32 is the Mask bit, set at reset. -/
def msixDefault (w : Nat) : Nat := if w % 2 = 1 then 2 ^ 32 else 0

/-- A 64-bit word of the MSI-X table (log entries 3, DESIGN CHOICE; 23, DEDUCED). -/
def FnState.msixWord (x : FnState) (w : Nat) : Nat := (Map.get x.msix w).getD (msixDefault w)

/-- Whether an MSI-X vector is masked. -/
def FnState.masked (x : FnState) (v : Nat) : Bool := x.msixFnMask || bit (x.msixWord (2 * v + 1)) 32

/-- R113, R115: an event on vector `v` of function `f` sends its message, is held pending, or is lost. -/
def State.interrupt (s : State) (f v : Nat) : State :=
  let x := s.fn f
  if x.msixEn then
    if s.canMaster f && !x.masked v then s.emit (.msi f v true)
    else s.setFn f { x with pba := setIns x.pba v }
  else if x.msiEn then
    let v := v % x.msiCount
    if s.canMaster f then s.emit (.msi f v false)
    else s.setFn f { x with msiPend := setIns x.msiPend v }
  else s

/-- R115: send every held message that may now leave. -/
def State.sendHeld (s : State) (f : Nat) : State :=
  if !s.canMaster f then s else
  let x := s.fn f
  if x.msixEn then
    let go := x.pba.filter fun v => !x.masked v
    (s.setFn f { x with pba := x.pba.filter x.masked }).emits (go.map fun v => .msi f v true)
  else if x.msiEn then
    (s.setFn f { x with msiPend := [] }).emits (x.msiPend.map fun v => .msi f v false)
  else s

/-! ## Ring entries and events (R140-R144, R167) -/

/-- The number of entries of a queue. -/
def Queue.size (q : Queue) : Nat := 2 ^ q.log2

/-- R142: the entries written and not released. -/
def Queue.used (q : Queue) : Nat := (q.pi + 2 ^ 32 - q.consumer) % 2 ^ 32

/-- R145: the KIND byte. -/
def QKind.code : QKind → Nat
  | .completion => 0x01
  | .event => 0x02
  | .packetSend => 0x10
  | .packetReceive => 0x11
  | .transport => 0x12
  | .streamJob => 0x20
  | .checkpoint => 0x30
  | .copy => 0x40
  | .nvme => 0x00

def QKind.ofCode : Nat → Option QKind
  | 0x01 => some .completion
  | 0x02 => some .event
  | 0x10 => some .packetSend
  | 0x11 => some .packetReceive
  | 0x12 => some .transport
  | 0x20 => some .streamJob
  | 0x30 => some .checkpoint
  | 0x40 => some .copy
  | _ => none

/-- R601: the latency class of a queue kind. -/
def QKind.histClass : QKind → Option Nat
  | .packetSend => some 0
  | .packetReceive => some 1
  | .transport => some 2
  | .streamJob => some 3
  | .checkpoint => some 4
  | .copy => some 5
  | _ => none

/-- Whether a kind is a ring that the H9 writes. -/
def QKind.isRing : QKind → Bool
  | .completion => true
  | .event => true
  | _ => false

/-- The 32 bytes of an entry with its phase bit (R140). -/
def Due.bytes (d : Due) (phase : Nat) : Bytes :=
  toLe 8 d.cookie ++ toLe 4 (min d.count (2 ^ 32 - 1)) ++ toLe 1 d.status.code ++ toLe 1 d.kind ++
  toLe 2 (d.flags % 2 ^ 15 + phase * 2 ^ 15) ++ toLe 4 d.queue ++ toLe 4 d.consumer ++ toLe 8 d.detail

/-- R141: the phase of the entry at a write index: 1 in the first pass, inverted on every later pass. -/
def Queue.phase (q : Queue) : Nat := (q.pi / q.size + 1) % 2

/-- R130, R142, R152, R166: whether an entry due to a ring must be held (log entry 25, DEDUCED). -/
def State.entryHeld (s : State) (r : Queue) (d : Due) : Bool :=
  let f := s.spokeFn r.spoke
  r.state != .active || decide (r.size ≤ r.used) || !s.canMaster f ||
  (match d.src with
   | none => (s.fn f).attach == .freewheel
   | some w => match s.queue w with
     | some q => q.state == .frozen
     | none => false)

/-- R601: end the latency sample of an operation of a kind. -/
def State.sampleKind (s : State) (k : QKind) (since : Option Nat) : State :=
  match k.histClass, since with
  | some c, some t => s.sample c t
  | _, _ => s

/-- Write one entry to a ring, with its interrupt and the counter update that follows it (R141, R144, R317).
An entry whose page has been requested waits (R206): its status is RETRY_LATER. -/
def State.writeEntry (s : State) (ri : Nat) (r : Queue) (d : Due) (ans : HostAns) : State × Status :=
  let pos := r.pi % r.size
  let (s, a) := s.spokeWrite r.spoke (r.base + 32 * pos) (d.bytes r.phase) false ans
  if a.status != .success then
    if s.pages r.spoke a then (s.pageFor r.spoke a (.ring ri), .retryLater) else (s, a.status)
  else
    let s := s.emit (.ringEntry ri pos (r.base + 32 * pos) (d.bytes r.phase))
    let s := s.modQueue ri fun q => { q with pi := (q.pi + 1) % 2 ^ 32, armed := false }
    let s := if d.irq || r.armed || r.kind == .event then s.interrupt (s.spokeFn r.spoke) r.vector else s
    let s := s.sampleKind ((QKind.ofCode d.kind).getD .completion) d.since
    match d.upd with
    | some u => ({ s with trg.updates := s.trg.updates ++ [u] }, .success)
    | none => (s, .success)

/-- Write the due entries of a ring that may be written, in order; the entries kept, and the failure if one occurs. -/
def State.flushList (s : State) (ri : Nat) (ans : HostAns) : List Due → State × List Due × Option Status
  | [] => (s, [], none)
  | d :: t =>
    match s.queue ri with
    | none => (s, [], none)
    | some r =>
      if s.entryHeld r d then
        let (s, k, e) := State.flushList s ri ans t
        (s, d :: k, e)
      else match s.writeEntry ri r d ans with
        | (s, .success) => State.flushList s ri ans t
        | (s, .retryLater) => (s, d :: t, none)
        | (s, st) => (s, d :: t, some st)

/-- Flush a ring; a failed write puts it in ERROR (R151, R152). -/
def State.flushRing (s : State) (ri : Nat) (ans : HostAns) : State × Option Status :=
  match s.queue ri with
  | none => (s, none)
  | some r =>
    let (s, keep, e) := s.flushList ri ans r.due
    let s := s.modQueue ri fun q => { q with due := keep, state := if e.isSome then .error else q.state }
    (if e.isSome then s.bump else s, e)

/-- The event ring of a spoke. -/
def State.eventRing (s : State) (k : Nat) : Option Nat :=
  (s.host.queues.find? fun (_, q) => q.kind == .event && q.spoke == k).map Prod.fst

/-- R143: count an event that is dropped. -/
def State.dropEvent (s : State) (k : Nat) : State :=
  s.modSpoke k fun sp => { sp with eventsLost := satAdd 32 sp.eventsLost 1 }

/-- Post an event to a spoke: code, words A and B, status and the queue concerned (R140, R143, R167). -/
def State.postEvent (s : State) (k code a b : Nat) (st : Status) (queue : Nat) : State :=
  match s.eventRing k with
  | none => s.dropEvent k
  | some ri =>
    match s.queue ri with
    | none => s.dropEvent k
    | some r =>
      if r.state != .active || decide (r.size ≤ r.used + r.due.length) then s.dropEvent k
      else
        let d : Due := { cookie := a, count := code, status := st, kind := 2, queue := queue, consumer := k, detail := b }
        let s := s.modQueue ri fun q => { q with due := q.due ++ [d] }
        (s.flushRing ri (.ok [] false)).1

/-- Post a device event to PF0's base spoke of a hierarchy, when there is one. -/
def State.postPf0 (s : State) (hier code a b : Nat) (st : Status) (queue : Nat) : State :=
  match s.pf0Base hier with
  | some k => s.postEvent k code a b st queue
  | none => s

/-- Post a device event to PF0's base spoke of both hierarchies. -/
def State.postBoth (s : State) (code a b : Nat) (st : Status) : State :=
  (s.postPf0 0 code a b st 0x3FFFF).postPf0 1 code a b st 0x3FFFF

/-- R151: a queue enters ERROR: QUEUE_ERROR with the status and the ring index that failed
(log entry 26, DEDUCED). -/
def State.queueError (s : State) (qi : Nat) (st : Status) (idx : Nat) : State :=
  match s.queue qi with
  | none => s
  | some q =>
    let s := (s.modQueue qi fun q => { q with state := .error }).bump
    s.postEvent q.spoke 0x0101 st.code idx st qi

/-- Flush a completion ring and report its failure (log entry 26, DEDUCED). -/
def State.flush (s : State) (ri : Nat) (ans : HostAns) : State :=
  match s.flushRing ri ans with
  | (s, none) => s
  | (s, some st) =>
    match s.queue ri with
    | some r => s.postEvent r.spoke 0x0101 st.code r.pi st ri
    | none => s

/-- Flush every ring of a function's spokes. -/
def State.flushFn (s : State) (f : Nat) : State :=
  (s.host.queues.filter fun (_, q) => q.kind.isRing && s.spokeFn q.spoke == f).foldl
    (fun s p => s.flush p.1 (.ok [] false)) s

/-! ## Counters (R315-R322) -/

/-- Store a counter. -/
def State.setCounter (s : State) (c : Nat) (x : Counter) : State :=
  { s with trg.counters := Map.put s.trg.counters c x }

/-- Store a trigger entry. -/
def State.setEntry (s : State) (key : Nat) (e : TrigEntry) : State :=
  { s with trg.entries := Map.put s.trg.entries key e }

/-- R322: the mirror write of a counter, and the message that follows it (R321)
(log entries 81, DEDUCED; 83, DEDUCED). -/
def State.mirrorWrite (s : State) (c : Nat) (ans : HostAns) : State :=
  match Map.get s.trg.counters c with
  | none => s
  | some x =>
    let f := s.spokeFn x.spoke
    if !x.mirrorEn then s
    else if !s.canMaster f || s.frozenFn f then
      s.setCounter c { x with mirrorDue := true }
    else
      let (s, r) := s.spokeWrite x.spoke x.mirror (toLe 8 x.value) false ans
      let ok := r.status == .success
      let s := s.setCounter c { x with mirrorDue := false, msgDue := false, mirrorEn := ok }
      let s := if x.msgDue then s.interrupt f x.vector else s
      if ok then s else s.postEvent x.spoke 0x0122 c x.mirror r.status 0x3FFFF

/-- R321: an armed counter that has reached its threshold is disarmed; its message is marked due
(log entry 81, DEDUCED). -/
def State.counterIrq (s : State) (c : Nat) (ans : HostAns) : State :=
  match Map.get s.trg.counters c with
  | none => s
  | some x =>
    let hit := x.irqArmed && decide (x.irqThreshold ≤ x.value)
    let s := if hit then
        s.setCounter c { x with irqArmed := false, msgDue := x.mirrorEn }
      else s
    let s := s.mirrorWrite c ans
    if hit && !x.mirrorEn then s.interrupt (s.spokeFn x.spoke) x.vector else s

/-- The key of a trigger entry. -/
def trigKey (spoke t : Nat) : Nat := spoke * 2 ^ 32 + t

/-- Finish an operation with a status, bytes moved and detail; an operation already finished keeps its outcome. -/
def State.finish (s : State) (o : Nat) (st : Status) (n detail : Nat) : State :=
  s.modOp o fun x => if x.phase == .done then x else
    { x with phase := .done, status := st, bytes := n, detail := detail }

/-- R326: the DETAIL of WAIT_FAILED. -/
def waitDetail (st : Status) (trigger : Bool) (n : Nat) : Nat := st.code + 256 * b2n trigger + 2 ^ 32 * n

/-- R330: release held heads while credits last, heads of ACTIVE queues in the order held (log entry 84, DEDUCED). -/
def State.release (s : State) (key : Nat) : Nat → State
  | 0 => s
  | n + 1 =>
    match Map.get s.trg.entries key with
    | none => s
    | some e =>
      if e.failed || e.credits = 0 then s else
      let ready := e.heads.find? fun o => match s.op o with
        | some x => match s.queue x.queue with
          | some q => q.state == .active
          | none => false
        | none => false
      match ready with
      | none => s
      | some o =>
        let s := s.setEntry key { e with credits := e.credits - 1, heads := e.heads.filter (· != o) }
        State.release (s.modOp o fun x => { x with phase := .started, since := s.now }) key n

/-- R331: a RELEASE entry fails: the event once, and every head held on it completes WAIT_FAILED. -/
def State.entryFail (s : State) (key : Nat) (st : Status) : State :=
  match Map.get s.trg.entries key with
  | none => s
  | some e =>
    if e.failed then s else
    let s := s.setEntry key { e with failed := true, failStatus := st, heads := [] }
    let s := e.heads.foldl (fun s o => s.finish o .waitFailed 0 (waitDetail st true e.value)) s
    s.postEvent e.spoke 0x0121 e.value e.credits st 0x3FFFF

/-- The trigger entries that a counter feeds (R329). -/
def State.fedBy (s : State) (c : Nat) : List Nat :=
  (s.trg.entries.filter fun (_, e) => e.feedEn && e.counter == c).map Prod.fst

/-- R329: add credits to an entry and release. -/
def State.addCredits (s : State) (key n : Nat) : State :=
  match Map.get s.trg.entries key with
  | none => s
  | some e =>
    let s := s.setEntry key { e with credits := satAdd 32 e.credits n }
    s.release key e.heads.length

/-- Count an update that is refused (R316, R317). -/
def State.refuseUpdate (s : State) : State := { s with trg.refused := satAdd 16 s.trg.refused 1 }

/-- R319: mark a counter failed. -/
def State.counterFail (s : State) (c : Nat) (st : Status) : State :=
  match Map.get s.trg.counters c with
  | none => s
  | some x =>
    if x.failed then s else
    let s := s.setCounter c { x with failed := true, failStatus := st }
    let s := s.postEvent x.spoke 0x0120 c x.value st 0x3FFFF
    (s.fedBy c).foldl (fun s k => s.entryFail k st) s

/-- R316, R315: add an amount to a counter, feed its entries, mirror and interrupt. -/
def State.counterAdd (s : State) (c n : Nat) (ans : HostAns) : State :=
  match Map.get s.trg.counters c with
  | none => s
  | some x =>
    let s := s.setCounter c { x with value := satAdd 64 x.value n }
    let s := (s.fedBy c).foldl (fun s k => s.addCredits k n) s
    s.counterIrq c ans

/-- R318: apply one update, or refuse it when the spoke no longer owns the counter
(log entries 80, DESIGN CHOICE; 81, DEDUCED). -/
def State.applyUpdate (s : State) (u : CntUpdate) (ans : HostAns) : State :=
  match Map.get s.trg.counters u.counter with
  | none => s.refuseUpdate
  | some x =>
    if x.spoke != u.spoke then s.refuseUpdate
    else match u.fail with
      | some st => (s.counterFail u.counter st).mirrorWrite u.counter ans
      | none => s.counterAdd u.counter u.amount ans

/-- An update reaches TRG (R318) (log entry 80, DESIGN CHOICE). -/
def State.sendUpdate (s : State) (u : CntUpdate) : State := { s with trg.updates := s.trg.updates ++ [u] }

/-- R322: when Bus Master Enable is set and the freeze has ended, the current values of a function's mirrors are
written once. -/
def State.thawMirrors (s : State) (f : Nat) : State :=
  (s.trg.counters.filter fun (_, x) => x.mirrorDue && s.spokeFn x.spoke == f).foldl
    (fun s p => s.mirrorWrite p.1 (.ok [] false)) s

/-! ## Operations (R138, R139, R148-R152, R317, R326, R330) -/

/-- The common header of a descriptor (R138). -/
def dOpcode (d : Bytes) : Nat := u8 d 0
def dSignal (d : Bytes) : Bool := bit (u8 d 1) 0
def dFence (d : Bytes) : Bool := bit (u8 d 1) 1
def dIrq (d : Bytes) : Bool := bit (u8 d 1) 2
def dCounter (d : Bytes) : Nat := bits (u16 d 2) 13 0
def dCounterEn (d : Bytes) : Bool := bit (u16 d 2) 15
def dKindWord (d : Bytes) : Nat := u32 d 4
def dCookie (d : Bytes) : Nat := u64 d 8

/-- R7: a non-zero reserved bit of the common header. -/
def headerReserved (d : Bytes) : Bool := bits (u8 d 1) 7 3 != 0 || bit (u16 d 2) 14

/-- The operations of a queue that have not completed. -/
def State.opsOf (s : State) (q : Nat) : List Nat :=
  (s.host.ops.filter fun (_, o) => o.queue == q).map Prod.fst

/-- R284: the trigger value of a TRANSPORT descriptor. -/
def dTrigger (d : Bytes) : Nat := u32 d 52

/-- Start an operation: the checks made when a descriptor starts (R317), then the hold on its trigger entry (R330).
A triggered request whose CONN is not a connection of its spoke, or is in ERROR, is not held (R281, R284)
(log entry 82, DEDUCED). -/
def State.startOp (s : State) (o : Nat) : State :=
  match s.op o with
  | none => s
  | some x =>
    match s.queue x.queue with
    | none => s
    | some q =>
      let owns := match Map.get s.trg.counters (dCounter x.desc) with
        | some c => c.spoke == q.spoke
        | none => false
      if dCounterEn x.desc && !owns then s.finish o .notPermitted 0 0
      else if q.kind == .transport && dTrigger x.desc != 0 && dOpcode x.desc != 0x20 then
        let key := trigKey q.spoke (dTrigger x.desc)
        let conn := match Map.get s.xpt.conns (u32 x.desc 16 % 2 ^ 24) with
          | some k => if k.spoke = q.spoke && k.dying.isNone then some k.phase else none
          | none => none
        match Map.get s.trg.entries key with
        | none => s.finish o .notPermitted 0 0
        | some e =>
          if e.count || conn.isNone then s.finish o .notPermitted 0 0
          else if conn == some .error then s.finish o .flushed 0 0
          else if e.failed then s.finish o .waitFailed 0 (waitDetail e.failStatus true e.value)
          else
            let s := s.modOp o fun x => { x with phase := .held }
            let s := s.setEntry key { e with heads := e.heads ++ [o] }
            s.release key (e.heads.length + 1)
      else s.modOp o fun x => { x with phase := .started, since := if q.kind == .copy || q.kind == .packetSend then x.since else s.now }

/-- Start the operation that FENCE holds back, once it is the only one left (R138). -/
def State.startFenced (s : State) (q : Nat) : State :=
  match s.opsOf q with
  | [o] => match s.op o with
    | some x => if x.phase == .fenced then s.startOp o else s
    | none => s
  | _ => s

/-- Take an operation out of the heads held on trigger entries (R332). -/
def State.unhold (s : State) (o : Nat) : State :=
  let es := s.trg.entries.map fun (k, e) => (k, { e with heads := e.heads.filter (· != o) })
  { s with trg.entries := es }

/-- The counter update of a finished operation (R316). -/
def Op.update (x : Op) (spoke : Nat) : Option CntUpdate :=
  if !dCounterEn x.desc then none
  else if x.status == .success then some { counter := dCounter x.desc, spoke := spoke, amount := 1 }
  else
    let st := if x.status == .waitFailed then (Status.ofCode (bits x.detail 7 0)).getD .waitFailed else x.status
    some { counter := dCounter x.desc, spoke := spoke, fail := some st }

/-- R317: whether the counter update of an operation refused at its start is withheld. -/
def State.updateOf (s : State) (x : Op) (q : Queue) : Option CntUpdate :=
  match x.update q.spoke with
  | none => none
  | some u =>
    match Map.get s.trg.counters u.counter with
    | some c => if c.spoke == q.spoke then some u else (if x.status == .notPermitted then none else some u)
    | none => if x.status == .notPermitted then none else some u

/-- R139, R140, R317: an operation that has finished leaves its queue: its completion entry falls due, and its
counter update follows the entry. -/
def State.retire (s : State) (o : Nat) (ans : HostAns) : State :=
  match s.op o with
  | none => s
  | some x =>
    if x.phase != .done then s else
    match s.queue x.queue with
    | none => { s with host.ops := Map.erase s.host.ops o }
    | some q =>
      let upd := s.updateOf x q
      let s := { s with host.ops := Map.erase s.host.ops o }
      let s := match q.cq, dSignal x.desc || x.status != .success || q.kind == .packetReceive with
        | some r, true =>
          let d : Due := { src := some x.queue, cookie := dCookie x.desc, count := x.bytes, status := x.status,
                           kind := q.kind.code, flags := x.flags, queue := x.queue, consumer := x.consumer,
                           detail := x.detail, irq := dIrq x.desc, upd := upd,
                           since := if x.sampled then some x.since else none }
          (s.modQueue r fun rq => { rq with due := rq.due ++ [d] }).flush r ans
        | _, _ =>
          let s := s.sampleKind q.kind (if x.sampled then some x.since else none)
          match upd with
          | some u => s.sendUpdate u
          | none => s
      s.startFenced x.queue

/-- R142, R152: whether the completion ring of a queue is full or in ERROR. -/
def State.stalled (s : State) (q : Queue) : Bool :=
  match q.cq with
  | none => false
  | some r => match s.queue r with
    | some rq => rq.state == .error || decide (rq.size ≤ rq.used)
    | none => false

/-- An operation whose command may act now: it has started and its queue is neither frozen nor gone. -/
def State.running (s : State) (o : Nat) (k : QKind) : Option (Op × Queue) :=
  match s.op o with
  | none => none
  | some x => match s.queue x.queue with
    | none => none
    | some q => if q.kind == k && x.phase == .started && q.state != .frozen then some (x, q) else none

/-- The final status of an operation that met poison or an uncorrectable block besides `st` (R12, R116, R180). -/
def withMarks (st : Status) (poisoned medium : Bool) : Status :=
  worst [st, if poisoned then .poisoned else .success, if medium then .mediumError else .success]

/-- R207: an operation parks at a spoke address; bytes before it stand. -/
def State.parkOp (s : State) (o va : Nat) (k : Nat) (r : AccRes) : State :=
  (s.modOp o fun x => { x with phase := .parked, parkAddr := va }).pageFor k r (.op o)

/-! ## Destruction and freezing (R130, R133, R160, R166) -/

/-- Abandon an operation: no entry, no interrupt (R160). -/
def State.abandonOp (s : State) (o : Nat) : State :=
  let s := s.unhold o
  let pr := s.host.pageReqs.map fun p => { p with waiters := p.waiters.filter (· != .op o) }
  let rq := s.host.reqs.map fun (t, r) =>
    match r.purpose with
    | .copyRead o' _ _ => (t, if o' = o then { r with purpose := .other o } else r)
    | _ => (t, r)
  { s with host.ops := Map.erase s.host.ops o, host.pageReqs := pr, host.reqs := rq }

/-- R249: whether a spoke still has a member on a sub-port, in a class if one is given (log entry 57, DEDUCED). -/
def State.hasMember (s : State) (sub spoke : Nat) (cls : Option Nat) : Bool :=
  spoke == 2048 ||
  (s.host.queues.any fun (_, q) => q.kind == .packetSend && q.spoke == spoke && bits q.kindWord 4 0 == sub &&
    (match cls with
     | some c => bits q.kindWord 10 8 == c
     | none => true)) ||
  s.sch.xpt.any fun (k, l) => l != [] && k / 8 == sub * 4096 + spoke &&
    (match cls with
     | some c => k % 8 == c
     | none => true)

/-- R258: nodes that have been removed lose their buckets and deficits. -/
def State.pruneNodes (s : State) : State :=
  { s with sch.subs := s.sch.subs.filter fun (k, _) => s.hasMember (k / 4096) (k % 4096) none
           sch.svcs := s.sch.svcs.filter fun (k, _) => s.hasMember (k / 8 / 4096) (k / 8 % 4096) (some (k % 8))
           sch.turn := s.sch.turn.filter fun (k, _) => s.hasMember (k / 8 / 4096) (k / 8 % 4096) (some (k % 8)) }

/-- R160: destroy a queue; the number of operations abandoned.  Entries it had due are discarded. -/
def State.destroyQueue (s : State) (q : Nat) : State × Nat :=
  let l := s.opsOf q
  let s := l.foldl State.abandonOp s
  let qs := (Map.erase s.host.queues q).map fun (k, r) =>
    (k, { r with due := r.due.filter fun d => d.src != some q })
  let s := { s with host.queues := qs, sch.queues := Map.erase s.sch.queues q }
  (s.pruneNodes.bump, l.length)

/-- R166: every queue of a function's spokes moves to FROZEN.  Completion and event rings keep their state (R151)
(log entry 25, DEDUCED). -/
def State.freezeFn (s : State) (f : Nat) : State :=
  let qs := s.host.queues.map fun (k, q) =>
    if s.spokeFn q.spoke == f && !q.kind.isRing && (q.state == .active || q.state == .stopped)
    then (k, { q with state := .frozen }) else (k, q)
  State.bump { s with host.queues := qs }

end Sys2Proof.Machine
end

