-- ==== Sys2Proof/Machine/CtlOps.lean ====
section
/-! DEFINITION. Operations of the control side that other chapters use: local counters, the configuration journal,
tray retirement, chainring faults, management events, log records. -/

namespace Sys2Proof.Machine
open Sys2Proof

/-! ## Local counters and clocks (R27, R30-R32, R37) -/

/-- R27, R37: the nominal frequency of the unit with a record index, as cycles per `d` nanoseconds
(log entry 165, DEDUCED). -/
def unitFreq (i : Nat) : Nat × Nat :=
  if i < 64 then (8, 5)
  else if i < 80 then (12, 5)
  else if i = 80 then (4, 5)
  else if i = 81 then (2, 1)
  else if i = 82 then (27, 20)
  else if i < 89 then (6, 5)
  else if i < 97 then (85, 64)
  else if i < 105 then (1, 1)
  else if i < 115 then (1, 1)
  else if i = 115 then (1, 5)
  else (0, 1)

/-- R30: the local counter of a unit (log entries 1, DESIGN CHOICE; 165, DEDUCED). -/
def State.counterOf (s : State) (i : Nat) : Nat :=
  (s.now - (Map.get s.brd.unitStart i).getD 0) * (unitFreq i).1 / (unitFreq i).2 % 2 ^ 64

/-- R32: the 1588 clock of port Ei (log entry 1, DESIGN CHOICE). -/
def State.ptp (s : State) (i : Nat) : Nat := ((Map.get s.brd.clockOffset i).getD 0 + s.now) % 2 ^ 64

/-- R30: restart the local counters of units (log entry 165, DEDUCED). -/
def State.restartUnits (s : State) (l : List Nat) : State :=
  { s with brd.unitStart := l.foldl (fun m i => Map.put m i s.now) s.brd.unitStart }

/-! ## The configuration journal (R538-R546) -/

/-- The bodies of an object's parts (R541). -/
def jParts : Nat → Bytes → List Bytes
  | 0, b => [b.take 208]
  | n + 1, b => if b.length ≤ 208 then [b] else b.take 208 :: jParts n (b.drop 208)

/-- The highest SEQ in the journal. -/
def jMaxSeq (l : List JSlot) : Nat := l.foldl (fun m x => match x with
  | .record _ _ q _ _ _ _ _ => max m q
  | .torn => m) 0

/-- R540: the body of part `i` of an object. -/
def jPart (l : List JSlot) (type key objSeq parts : Nat) (del : Bool) (i : Nat) : Option Bytes :=
  l.findSome? fun x => match x with
    | .record t k _ o p n d b => if t = type ∧ k = key ∧ o = objSeq ∧ p = i ∧ n = parts ∧ d = del then some b else none
    | .torn => none

/-- A complete object of the journal. -/
structure JObj where
  type : Nat
  key : Nat
  seq : Nat
  delete : Bool
  parts : Nat
  body : Bytes
deriving DecidableEq, Repr

/-- R540: the complete objects of a bank (log entry 135, DEDUCED). -/
def jComplete (l : List JSlot) : List JObj :=
  l.filterMap fun x => match x with
    | .record t k q o 0 n d _ =>
      if q != o then none else
      let bs := (List.range n).map (jPart l t k o n d)
      if bs.all Option.isSome then some ⟨t, k, o, d, n, (bs.filterMap id).flatten⟩ else none
    | _ => none

/-- R540: the objects in effect: for each (TYPE, KEY) the complete object with the highest SEQ, unless a DELETE
(log entry 135, DEDUCED). -/
def jEffective (l : List JSlot) : List JObj :=
  let c := jComplete l
  c.filter fun o => !o.delete && c.all fun o' => !(o'.type == o.type && o'.key == o.key && decide (o.seq < o'.seq))

/-- The body of the object in effect under (TYPE, KEY). -/
def State.jGet (s : State) (type key : Nat) : Option Bytes :=
  ((jEffective s.fwm.slots).find? fun o => o.type == type && o.key == key).map JObj.body

/-- The objects in effect of a type: keys and bodies. -/
def State.jAll (s : State) (type : Nat) : List (Nat × Bytes) :=
  ((jEffective s.fwm.slots).filter fun o => o.type == type).map fun o => (o.key, o.body)

/-- R544: slots of a bank, slots used, slots of objects in effect. -/
def jBankSlots : Nat := 262144
def State.jUsed (s : State) : Nat := s.fwm.slots.length
def State.jLive (s : State) : Nat := (jEffective s.fwm.slots).foldl (fun n o => n + o.parts) 0

/-- R544: whether an object of a body's size may be written. -/
def State.jRoom (s : State) (bytes : Nat) : Bool :=
  let n := max 1 (ceilDiv bytes 208)
  let waiting := s.fwm.jpend.foldl (fun a w => a + w.parts.length) 0
  decide (s.jUsed + waiting + n ≤ jBankSlots) && decide (s.jLive + waiting + n ≤ 131072)

/-- Hand an object to MGB; its record slots are then programmed one by one (JOURNAL_WRITE)
(log entry 134, DEDUCED). -/
def State.journal (s : State) (type key : Nat) (del : Bool) (body : Bytes) (wait : Option JWait) : State :=
  let w : JWrite := { type := type, key := key, delete := del, parts := jParts (body.length / 208) body, wait := wait }
  { s with fwm.jpend := s.fwm.jpend ++ [w] }

/-- R542: a configuration item, with its default. -/
def State.cfgItem (s : State) (item dflt : Nat) : Nat :=
  match s.jGet 2 item with
  | some b => u64 b 8
  | none => dflt

/-- R542: the spoke limit of a function. -/
def State.spokeLimit (s : State) (f : Nat) : Nat := s.cfgItem (0x0120 + f % 4) 2048

/-! ## Reports: management events, the chainring, log records -/

/-- R612: SMB_ALERT_N is low on SMBus while an event is unacknowledged. -/
def State.setAlert (s : State) : State := { s with tel.alert := s.tel.events != [] && bit (s.rget aStrap) 3 }

/-- R612: an event: at most 32 stay unacknowledged, the oldest dropped; it is sent once a receiver is named
(log entry 173, DEDUCED). -/
def State.pldm (s : State) (sensor st : Nat) : State :=
  let l := s.tel.events ++ [PldmEvent.mk sensor st]
  let s := State.setAlert { s with tel.events := l.drop (l.length - 32) }
  if s.tel.receiver.isSome then s.emit (.pldmEvent sensor st) else s

/-- The SRC that a member's frames carry (R564). -/
def State.crSrc (s : State) : Nat :=
  if s.rfield 0xB00300 1 0 = 3 then s.rfield 0xB00300 14 8 else 0xFFFF

/-- Whether the member receives and forwards (R571). -/
def State.crOpen (s : State) : Bool :=
  match s.pwr.crPhase with
  | .joined => true
  | .leaving _ => true
  | _ => false

/-- Send a frame of the member's own on the chainring. -/
def State.crSend (s : State) (type seq : Nat) (body : Bytes) : State :=
  if s.crOpen then s.emit (.chainring type 64 s.crSrc seq (s.rfield 0xB00300 31 16) body) else s

/-- R566: the body of a FAULT. -/
def State.faultBody (s : State) (code detail : Nat) : Bytes :=
  toLe 2 code ++ zeros 6 ++ toLe 8 s.sec.fuses.serial ++ toLe 8 detail

/-- R570: send a FAULT and keep it until it is acknowledged. -/
def State.crFault (s : State) (code detail : Nat) : State :=
  let seq := s.pwr.crSeq
  let s := { s with pwr.crSeq := (seq + 1) % 65536,
                    pwr.crFaults := s.pwr.crFaults ++ [CrFault.mk seq code detail] }
  s.crSend 4 seq (s.faultBody code detail)

/-- R597: report a tray-retirement cause bit that is newly set. -/
def State.retireTray (s : State) (cause : Nat) : State :=
  let old := s.rget aRetire
  if bit old cause then s
  else
    let new := old + 2 ^ cause
    let s := (s.rput aRetire new).journal 0x0B01 0 false (toLe 2 new) none
    let s := s.postBoth 0x0B01 new cause .success
    ((s.crFault 0x0030 new).pldm 32 2).bump

/-! ## Repair of HBM (R192-R194) -/

/-- The place of a row: stack, channel, bank and row of a device address (R173). -/
def rowKey (a : Nat) : Nat :=
  let x := stackAddr a
  ((stackOf a * 16 + channelOf x) * 48 + bankOf x) * 32768 + rowOf x

/-- The 8 bytes of a repair-list entry. -/
def Repair.word (r : Repair) : Nat :=
  b2n r.lane + 4 * b2n r.unrepairable + 8 * r.stack + 64 * r.channel + 1024 * r.pseudo + 2048 * r.bank + 131072 * r.row

/-- R193: add an entry to the repair list and to the journal, or count it as a failed repair when the list is full. -/
def State.addRepair (s : State) (r : Repair) : State :=
  let n := s.mem.repairs.length
  if s.mem.repairs.any fun x => { x with unrepairable := false } == r then s
  else if 512 ≤ n then (s.rsat (aHbmStat r.stack) 15 8 1).retireTray 4
  else State.journal { s with mem.repairs := s.mem.repairs ++ [r] } 0x0202 n false (toLe 8 r.word) none

/-- A ROW entry for the row of a device address. -/
def rowRepair (a : Nat) : Repair :=
  let x := stackAddr a
  { lane := false, stack := stackOf a, channel := channelOf x, pseudo := 0, bank := bankOf x, row := rowOf x }

def dayNs : Nat := 86_400_000_000_000

/-- R193, R194: firmware takes up the blocks found uncorrectable: their rows enter the repair list, and more than the
threshold within 24 hours retires the tray (log entry 37, DEDUCED). -/
def State.hbmReport (s : State) : State :=
  match s.mem.fresh with
  | [] => s
  | l =>
    let old := s.mem.uncorrTimes.filter fun t => decide (s.now < t + dayNs)
    let times := old ++ l.map fun _ => s.now
    let s : State := { s with mem.fresh := [], mem.uncorrTimes := times }
    let s := l.foldl (fun s b => s.addRepair (rowRepair (64 * b))) s
    if s.cfgItem 0x0200 32 < times.length then s.retireTray 3 else s

/-! ## Log records -/

/-- R534, R535: one log record to a hierarchy's ring (log entries 143, DEDUCED; 144, DEDUCED). -/
def State.logTo (s : State) (h src sev kind code : Nat) (args : List Nat) : State :=
  match Map.get s.fwm.logs h with
  | none => s
  | some r =>
    if kind = 0 ∧ sev < r.lowest then s
    else
      let f := 4 * h
      if !s.canMaster f || (s.fn f).attach == .freewheel then s.rsat (0xA02208 + 8 * h) 31 0 1
      else
        let t := s.counterOf (if src < 16 then 64 + src else if src = 16 then 80 else 115)
        let t := if src ≥ 16 then s.counterOf 115 else t
        let b := toLe 8 r.next ++ toLe 8 t ++ toLe 1 src ++ toLe 1 sev ++ toLe 1 kind ++ toLe 1 0 ++ toLe 4 code ++
          padTo 40 (args.flatMap (toLe 8))
        let s := s.emit (.memWrite f none (s.fn f).atsEn (r.addr + (r.next - 1) % 2 ^ r.log2 * 64) b false)
        let s := { s with fwm.logs := Map.put s.fwm.logs h { r with next := r.next + 1 } }
        let s := s.rset (0xA02208 + 8 * h) 63 32 (r.next + 1)
        if r.irqLevel ≤ sev ∧ r.irqLevel < 7 then s.interrupt f r.vector else s

/-- Every record goes to each ring that is set. -/
def State.log (s : State) (src sev kind code : Nat) (args : List Nat) : State :=
  (s.logTo 0 src sev kind code args).logTo 1 src sev kind code args

/-- R561: a peer of the peloton is excluded: cause 0 silent, 1 connection, 2 leaving. -/
def State.excludePeer (s : State) (c cause : Nat) : State :=
  match s.pwr.peloton with
  | none => s
  | some g =>
    match Map.get g.peers c with
    | none => s
    | some p =>
      if p.excluded then s
      else
        let s := { s with pwr.peloton := some { g with peers := Map.put g.peers c { p with excluded := true } } }
        s.postEvent g.spoke 0x0A05 (c + 2 ^ 24 * cause) p.lastR .success 0x3FFFF

/-! ## Key handles (R503, R504) -/

/-- The place of a handle's index in the key table (log entry 125, DEDUCED). -/
def keyPlace (h : Nat) : Nat := if bits h 19 16 = 6 then 2 ^ 16 + bits h 15 0 else bits h 15 0

/-- The key that a handle names. -/
def State.keyOf (s : State) (h : Nat) : Option KeySlot :=
  match Map.get s.sec.keys (keyPlace h) with
  | some k => if k.gen = bits h 31 20 ∧ k.cls = bits h 19 16 then some k else none
  | none => none

/-- R504: the checks of a handle, for the classes that a command accepts and the spoke that it acts for. -/
def State.keyCheck (s : State) (h : Nat) (classes : List Nat) (owner : Nat) : Status :=
  let c := bits h 19 16
  if c = 0 ∨ 7 ≤ c ∨ (if c = 6 then 64 else 32768) ≤ bits h 15 0 then .malformed
  else match s.keyOf h with
    | none => .keyStale
    | some k =>
      if !classes.contains c || k.owner != owner then .notPermitted
      else if k.failed then .keyFailed
      else .success

/-- The bytes of a key that an engine may use now: none when the handle names no key or a FAILED one. -/
def State.keyBytes (s : State) (h : Nat) : Option Bytes :=
  match s.keyOf h with
  | some k => if k.failed then none else some k.value
  | none => none

/-! ## Signing pairs and derived keys (R490, R493, R502) -/

/-- The public keys and the key identity of a signing pair: its value is the two 32-byte seeds. -/
def pairEd (v : Bytes) : Bytes := padTo 32 (Config.edPublic (v.take 32))
def pairMl (v : Bytes) : Bytes := padTo 1952 (Config.mldsaPublic (v.drop 32))
def keyIdentity (v : Bytes) : Bytes := padTo 48 (Config.sha384 (pairEd v ++ pairMl v))

/-- The signatures of a pair. -/
def pairEdSign (v msg : Bytes) : Bytes := padTo 64 (Config.edSign (v.take 32) msg)
def pairMlSign (v msg : Bytes) (rnd : Nat) : Bytes := padTo 3309 (Config.mldsaSign (v.drop 32) msg rnd)

/-- The bytes of an ASCII label. -/
def ascii (t : String) : Bytes := t.toList.map fun c => BitVec.ofNat 8 c.toNat

/-- R502: a key of 32 bytes derived from DUS. -/
def derive (label : Bytes) : Bytes := padTo 32 (Config.hkdf Config.dus label 32)
def storeKek : Bytes := derive (ascii "DLH9 kwrap store")
def State.ctxKek (s : State) : Bytes := derive (ascii "DLH9 kwrap ctx" ++ s.sec.bootNonce)
/-- The Alias pair (R500). -/
def State.aliasPair (s : State) : Bytes :=
  let r := padTo 48 ((Map.get s.sec.regs 3).getD [])
  derive (ascii "DLH9 alias ed" ++ r) ++ derive (ascii "DLH9 alias mldsa" ++ r)

/-! ## Measurements (R497, R498) -/

/-- Extend a measurement register and log it; past 4,096 entries the last becomes the truncation mark. -/
def State.measure (s : State) (i type version svn : Nat) (d : Bytes) : State :=
  let r := padTo 48 ((Map.get s.sec.regs i).getD [])
  let e : Measure := { index := i, type := type, version := version, svn := svn, digest := d }
  let full := decide (4096 ≤ s.sec.log.length)
  let l := if full then s.sec.log.take 4095 ++ [{ e with truncated := true }] else s.sec.log ++ [e]
  { s with sec.regs := Map.put s.sec.regs i (padTo 48 (Config.sha384 (r ++ d))), sec.log := l, sec.logCut := s.sec.logCut || full }

/-! ## Services (R517, R521, R524) -/

def State.service (s : State) (v : Nat) : Service := (Map.get s.fwm.services v).getD {}
def State.setService (s : State) (v : Nat) (x : Service) : State :=
  { s with fwm.services := Map.put s.fwm.services v x }

/-- SEC_STAT.BOOT. -/
def State.boot (s : State) : Nat := s.rfield 0x900000 2 0

/-- R521: whether SC's ROM serves the mailboxes: SC has been released and the firmware core not yet. -/
def State.romServes (s : State) : Bool := s.brd.scReleased && decide (s.boot < 3)

/-- Whether a service performs requests now. -/
def State.serves (s : State) (v : Nat) : Bool :=
  if s.brd.scan || s.brd.soft.isSome then false
  else if v = 6 then s.boot == 3
  else match (s.service v).state with
    | .running => true
    | .staged => !(match (s.service v).staged with
        | some g => g.hold && (v == 0 || v == 2 || v == 8)
        | none => false)
    | _ => false

/-- R525: whether new work of a service is held back for a pending update. -/
def State.heldNew (s : State) (v : Nat) : Bool := match (s.service v).staged with
  | some g => g.hold
  | none => false

/-- R524: whether requests to a service are answered SERVICE_DOWN (log entry 153, DEDUCED). -/
def State.serviceDown (s : State) (v : Nat) : Bool :=
  v != 6 && ((s.service v).state == .absent || (s.service v).state == .failed)

end Sys2Proof.Machine
end

