-- ==== Sys2Proof/Machine/MailboxTable.lean ====
section
/-! DEFINITION. The mailbox commands: opcode, the payload lengths it defines, and the payload bits its table gives as
reserved or zero (R156). -/

namespace Sys2Proof.Machine
open Sys2Proof

/-- A mailbox command's form.  `zero` lists (offset, bytes, mask): in each of those bytes the masked bits are zero. -/
structure MbCmd where
  opcode : Nat
  lengths : List Nat
  zero : List (Nat × Nat × Nat) := []
deriving DecidableEq, Repr

/-- Chapter 4: queues and spokes. -/
def mbTable04 : List MbCmd := [
  ⟨0x0001, [16], [(12, 4, 0xFF)]⟩,
  ⟨0x0002, [0], []⟩,
  ⟨0x0010, [24], [(12, 1, 0xFE), (13, 3, 0xFF)]⟩,
  ⟨0x0101, [48], [(0, 1, 0xFC), (1, 3, 0xFF), (6, 1, 0xF0), (7, 1, 0xFF), (10, 1, 0xFC), (11, 1, 0xFF), (13, 1, 0x80),
    (14, 2, 0xFF), (22, 2, 0xFF), (30, 1, 0xFE), (31, 1, 0xFF)]⟩,
  ⟨0x0102, [4], [(2, 2, 0xFF)]⟩,
  ⟨0x0103, [56], [(2, 6, 0xFF), (8, 1, 0xFC), (9, 3, 0xFF), (14, 1, 0xF0), (15, 1, 0xFF), (18, 1, 0xFC), (19, 1, 0xFF),
    (21, 1, 0x80), (22, 2, 0xFF), (30, 2, 0xFF), (38, 1, 0xFE), (39, 1, 0xFF)]⟩,
  ⟨0x0110, [64], [(1, 1, 0xFC), (3, 1, 0xF8), (5, 1, 0xFF), (7, 1, 0xF0), (18, 1, 0xFC), (19, 1, 0xFF), (25, 1, 0x40),
    (26, 1, 0xFE), (27, 5, 0xFF)]⟩,
  ⟨0x0111, [4], []⟩,
  ⟨0x0112, [4], []⟩,
  ⟨0x0113, [4], []⟩]

/-- Chapter 9: counters and trigger entries. -/
def mbTable09 : List MbCmd := [
  ⟨0x0120, [4], [(2, 2, 0xFF)]⟩,
  ⟨0x0121, [4], [(2, 2, 0xFF)]⟩,
  ⟨0x0122, [32], [(2, 1, 0xF0), (3, 1, 0xFF), (5, 1, 0xF0), (6, 2, 0xFF)]⟩,
  ⟨0x0123, [16], [(2, 6, 0xFF)]⟩,
  ⟨0x0124, [4], [(2, 2, 0xFF)]⟩,
  ⟨0x0130, [16], [(2, 1, 0xFC), (3, 1, 0xFF), (10, 6, 0xFF)]⟩,
  ⟨0x0131, [8], [(2, 2, 0xFF)]⟩,
  ⟨0x0132, [8], [(2, 2, 0xFF)]⟩]

/-- Chapter 5: HBM. -/
def mbTable05 : List MbCmd := [
  ⟨0x0201, [16], [(1, 1, 0xE0), (2, 2, 0xFF), (12, 4, 0xFF)]⟩,
  ⟨0x0210, [4], [(1, 1, 0xFE), (2, 2, 0xFF)]⟩,
  ⟨0x0220, [24], [(2, 6, 0xFF)]⟩,
  ⟨0x0230, [4], []⟩]

/-- Chapter 6: rules, MACsec and IPsec. -/
def mbTable06 : List MbCmd := [
  ⟨0x0301, [0], []⟩,
  ⟨0x0302, [0], []⟩,
  ⟨0x0303, [0], []⟩,
  ⟨0x0310, [56], [(1, 3, 0xFF)]⟩,
  ⟨0x0311, [56], [(1, 3, 0xFF)]⟩,
  ⟨0x0320, [112], [(10, 1, 0xFC), (12, 4, 0xFF)]⟩,
  ⟨0x0321, [4], []⟩,
  ⟨0x0330, [72], [(4, 4, 0xFF)]⟩,
  ⟨0x0331, [8], [(1, 3, 0xFF)]⟩,
  ⟨0x0332, [8], [(4, 4, 0xFF)]⟩,
  ⟨0x0340, [16], [(1, 7, 0xFF)]⟩,
  ⟨0x0350, [32], [(1, 1, 0xF0)]⟩,
  ⟨0x0360, [24], [(2, 1, 0xFC), (3, 1, 0xFF)]⟩]

/-- Chapter 7: scheduling and meters. -/
def mbTable07 : List MbCmd := [
  ⟨0x0370, [24], [(2, 1, 0xF8), (3, 1, 0xFF), (6, 2, 0xFF)]⟩,
  ⟨0x0380, [40], [(4, 1, 0xF0), (5, 1, 0xF0), (6, 1, 0xFC), (7, 1, 0xFF), (35, 5, 0xFF)]⟩,
  ⟨0x0381, [4], []⟩]

/-- Chapter 8: connections and regions. -/
def mbTable08 : List MbCmd := [
  ⟨0x0401, [4], [(2, 1, 0xFE), (3, 1, 0xFF)]⟩,
  ⟨0x0402, [96], [(3, 1, 0xFC), (4, 1, 0xF8), (5, 1, 0xC0), (6, 1, 0xF0), (13, 1, 0xF0), (54, 2, 0xFF),
    (70, 1, 0xFC), (71, 1, 0xFF), (74, 1, 0xFC), (75, 1, 0xFF), (81, 3, 0xFF), (85, 1, 0xC0), (86, 10, 0xFF)]⟩,
  ⟨0x0403, [4], [(3, 1, 0xFF)]⟩,
  ⟨0x0404, [4], [(3, 1, 0xFF)]⟩,
  ⟨0x0410, [32], [(1, 1, 0xF8), (2, 1, 0xFC), (3, 1, 0xFF), (22, 2, 0xFF), (24, 8, 0xFF)]⟩,
  ⟨0x0411, [8], [(6, 2, 0xFF)]⟩]

/-- Chapter 10: tiles. -/
def mbTable10 : List MbCmd := [
  ⟨0x0501, [4], [(0, 1, 0xC0), (1, 1, 0xFE), (2, 2, 0xFF)]⟩]

/-- Chapter 13: storage. -/
def mbTable13 : List MbCmd := [
  ⟨0x0601, [320], [(0, 1, 0xFC), (1, 1, 0xFC), (3, 1, 0xFC), (7, 1, 0xFF), (12, 1, 0x80), (13, 1, 0xFF),
    (15, 1, 0xF8), (34, 30, 0xFF)]⟩,
  ⟨0x0602, [4], [(1, 3, 0xFF)]⟩,
  ⟨0x0610, [48], [(2, 1, 0xF8), (3, 1, 0xF0), (6, 2, 0xFF), (36, 12, 0xFF)]⟩,
  ⟨0x0611, [4], [(2, 2, 0xFF)]⟩,
  ⟨0x0612, [8], [(4, 1, 0xFE), (5, 3, 0xFF)]⟩,
  ⟨0x0620, [32], [(2, 2, 0xFF), (24, 8, 0xFF)]⟩,
  ⟨0x0621, [4], [(2, 2, 0xFF)]⟩,
  ⟨0x0630, [16], [(3, 1, 0xFF), (5, 3, 0xFF)]⟩]

/-- Chapter 14: checkpoints. -/
def mbTable14 : List MbCmd := [
  ⟨0x0701, [80], [(1, 1, 0xF8), (3, 1, 0xFE), (41, 3, 0xFF), (47, 1, 0xFE), (49, 1, 0x40), (51, 1, 0x40),
    (53, 1, 0x40), (55, 1, 0x40), (57, 1, 0x40), (59, 1, 0x40), (61, 1, 0x40), (63, 1, 0x40), (68, 1, 0xC0),
    (69, 11, 0xFF)]⟩,
  ⟨0x0702, [4], [(1, 3, 0xFF)]⟩,
  ⟨0x0703, [8], [(1, 1, 0xFF), (6, 2, 0xFF)]⟩,
  ⟨0x0704, [4], [(1, 3, 0xFF)]⟩]

/-- Chapter 15: keys, ciphers, debug and fuses. -/
def mbTable15 : List MbCmd := [
  ⟨0x0801, [8], [(2, 1, 0xFE), (3, 1, 0xFF), (6, 2, 0xFF)]⟩,
  ⟨0x0802, [56], [(2, 1, 0xFE), (3, 1, 0xFF), (6, 2, 0xFF), (12, 4, 0xFF)]⟩,
  ⟨0x0803, [4], []⟩,
  ⟨0x0804, [4], []⟩,
  ⟨0x0805, [8], []⟩,
  ⟨0x0810, [52], [(1, 1, 0xFE), (2, 2, 0xFF)]⟩,
  ⟨0x0820, [20], [(5, 3, 0xFF)]⟩,
  ⟨0x0821, [32], [(2, 1, 0xFE), (3, 5, 0xFF), (28, 4, 0xFF)]⟩,
  ⟨0x0822, [20], [(2, 2, 0xFF)]⟩,
  ⟨0x0823, [16], [(2, 2, 0xFF)]⟩,
  ⟨0x0824, [16], [(4, 4, 0xFF)]⟩,
  ⟨0x0830, [0], []⟩,
  ⟨0x0831, [16, 36], []⟩,
  ⟨0x0832, [1], []⟩,
  ⟨0x0850, [4], [(1, 3, 0xFF)]⟩,
  ⟨0x0851, [52], [(1, 3, 0xFF)]⟩]

/-- Chapter 16: firmware and configuration. -/
def mbTable16 : List MbCmd := [
  ⟨0x0901, [16], [(12, 4, 0xFF)]⟩,
  ⟨0x0902, [0], []⟩,
  ⟨0x0903, [24], [(4, 1, 0xFC), (5, 3, 0xFF)]⟩,
  ⟨0x0904, [4], []⟩,
  ⟨0x0905, [4], []⟩,
  ⟨0x0910, [16], [(2, 1, 0xFE), (3, 5, 0xFF)]⟩,
  ⟨0x0911, [4], [(2, 2, 0xFF)]⟩,
  ⟨0x0920, [4], [(0, 1, 0xF0), (1, 3, 0xFF)]⟩,
  ⟨0x0930, [24], [(11, 1, 0xFF), (14, 10, 0xFF)]⟩,
  ⟨0x0931, [8], [(4, 1, 0xFE), (5, 3, 0xFF)]⟩,
  ⟨0x0940, [4], [(1, 1, 0xF0), (2, 2, 0xFF)]⟩]

/-- Chapter 17: power. -/
def mbTable17 : List MbCmd := [
  ⟨0x0A01, [4], [(2, 1, 0xFE), (3, 1, 0xFF)]⟩,
  ⟨0x0A10, [268], [(10, 6, 0xFF)]⟩,
  ⟨0x0A11, [0], []⟩,
  ⟨0x0A20, [8], [(4, 1, 0xF8), (5, 3, 0xFF)]⟩]

/-- Chapter 18: resets and self-test. -/
def mbTable18 : List MbCmd := [
  ⟨0x0005, [4], [(0, 1, 0xFE), (1, 3, 0xFF)]⟩,
  ⟨0x0006, [0], []⟩,
  ⟨0x0B10, [8], [(1, 1, 0xFF), (4, 4, 0xFF)]⟩,
  ⟨0x0B11, [4], []⟩,
  ⟨0x0B12, [4], [(1, 1, 0xF0), (2, 2, 0xFF)]⟩]

/-- Chapter 19: telemetry. -/
def mbTable19 : List MbCmd := [
  ⟨0x0B20, [4], [(1, 1, 0xFE), (2, 2, 0xFF)]⟩,
  ⟨0x0B30, [16], [(10, 6, 0xFF)]⟩,
  ⟨0x0B31, [64], [(0, 1, 0xF8), (1, 1, 0xE0), (2, 1, 0xC0), (3, 1, 0xF8), (12, 4, 0xFF), (54, 10, 0xFF)]⟩,
  ⟨0x0B32, [0], []⟩,
  ⟨0x0B40, [16], [(9, 1, 0xFF), (12, 4, 0xFF)]⟩]

/-- Every mailbox command (log entry 27, DEDUCED). -/
def mbTable : List MbCmd :=
  mbTable04 ++ mbTable09 ++ mbTable05 ++ mbTable06 ++ mbTable07 ++ mbTable08 ++ mbTable10 ++ mbTable13 ++ mbTable14 ++ mbTable15 ++ mbTable16 ++ mbTable17 ++ mbTable18 ++ mbTable19

end Sys2Proof.Machine
end

