-- ==== Sys2Proof/Machine/MailboxOps.lean ====
section
/-! DEFINITION. The mailbox: the post, its checks, and the performance and response of a request (R153-R158). -/

namespace Sys2Proof.Machine
open Sys2Proof

/-- A 64-bit word of a function's request page. -/
def Mailbox.word (m : Mailbox) (off : Nat) : Nat :=
  le ((List.range 8).map fun i => (Map.get m.req (off + i)).getD 0)

/-- The fields of the request header (R153). -/
def Mailbox.hdr0w (m : Mailbox) : Nat := m.word 0
def Mailbox.hdr1w (m : Mailbox) : Nat := m.word 8
def Mailbox.major (m : Mailbox) : Nat := bits m.hdr0w 7 0
def Mailbox.minor (m : Mailbox) : Nat := bits m.hdr0w 15 8
def Mailbox.opcode (m : Mailbox) : Nat := bits m.hdr0w 31 16
def Mailbox.length (m : Mailbox) : Nat := bits m.hdr0w 47 32
def Mailbox.seq (m : Mailbox) : Nat := bits m.hdr0w 63 48
def Mailbox.reqStatus (m : Mailbox) : Nat := bits m.hdr1w 15 0
def Mailbox.irq (m : Mailbox) : Bool := bit m.hdr1w 16
def Mailbox.service (m : Mailbox) : Nat := bits m.hdr1w 63 32

/-- The payload of the request. -/
def Mailbox.payload (m : Mailbox) : Bytes :=
  (List.range m.length).map fun i => (Map.get m.req (16 + i)).getD 0

/-- Store bytes in the request page. -/
def Mailbox.write (m : Mailbox) (off : Nat) (d : Bytes) : Mailbox :=
  { m with req := (d.zipIdx).foldl (fun r (b, i) => if b = 0 then Map.erase r (off + i) else Map.put r (off + i) b) m.req }

/-- R154, R156, R157: the mailbox with a response in its response page: MESSAGE 1 with the request's OPCODE, LENGTH,
SEQUENCE, STATUS, DONE, ASYNC and SERVICE. -/
def Mailbox.answerWith (m : Mailbox) (st : Status) (payload : Bytes) (async : Bool) : Mailbox :=
  { m with outstanding := false, resp := payload,
           hdr0 := 3 + 2 ^ 8 + 2 ^ 16 * m.opcode + 2 ^ 32 * payload.length + 2 ^ 48 * m.seq,
           hdr1 := st.code + 2 ^ 16 + 2 ^ 17 * b2n async + 2 ^ 32 * m.service }

/-- R14, R154, R156: write the response page and set DONE; interrupt on vector 0 when the request asked for it. -/
def State.respond (s : State) (f : Nat) (st : Status) (payload : Bytes) (async : Bool) : State :=
  let x := s.fn f
  let s := s.setFn f { x with mb := x.mb.answerWith st payload async }
  let s := s.sample 7 x.mb.posted
  if x.mb.irq then s.interrupt f 0 else s

/-- The outcome of performing a request: the state, the status, the response payload; `async` when the command goes
on after its response; `wait` when the response comes later (log entry 134, DEDUCED). -/
structure Reply where
  st : State
  status : Status := .success
  payload : Bytes := []
  async : Option Nat := none
  wait : Bool := false
  journal : List (Nat × Nat × Bool × Bytes) := []

/-- A refused request: nothing changes. -/
def Reply.err (s : State) (st : Status) : Reply := { st := s, status := st }

/-- A request performed. -/
def Reply.ok (s : State) (p : Bytes) : Reply := { st := s, payload := p }

/-- Whether the outstanding request of function `f` has been accepted already and its response is awaited: for a journal
record, a queue's operations, a connection, a revocation, a tile or a test. -/
def State.accepted (s : State) (f : Nat) : Bool :=
  (s.fwm.jpend.any fun w => match w.wait with
    | some x => x.fn == f && x.ends.isNone
    | none => false) ||
  (s.host.queues.any fun (_, q) => q.stopFn == some f) ||
  (s.xpt.conns.any fun (_, c) => match c.dying with
    | some (some (g, _)) => g == f
    | _ => false) ||
  (s.xpt.keys.any fun (_, k) => match k.phase with
    | .revoking l => l.contains f
    | _ => false) ||
  (s.str.retiring.any fun r => match r.fn with
    | some (g, _) => g == f
    | none => false) ||
  (match s.brd.testRun with
   | some (_, _, g) => g == f
   | none => false)

/-- Whether the outstanding request of function `f` has this opcode and is served now: by SC's ROM before the
firmware core is released (R521), by its service afterwards. -/
def State.performable (s : State) (f opc : Nat) : Bool :=
  let m := (s.fn f).mb
  m.outstanding && m.opcode == opc && !s.accepted f &&
  (if s.romServes then opc == 0x0901 || opc == 0x0902 else s.serves m.service)

/-- Answer a request, noting a command that goes on after its response (R157) (log entry 6, DESIGN CHOICE). -/
def State.answer (s : State) (f : Nat) (st : Status) (p : Bytes) (async : Option Nat) : State :=
  let m := (s.fn f).mb
  if !m.outstanding then s
  else match async with
    | none => s.respond f st p false
    | some a =>
      let s := { s with host.asyncs := s.host.asyncs ++ [AsyncCmd.mk f m.opcode m.seq a] }
      s.respond f st p true

/-- Write the journal objects of a command; the last carries the response that awaits its commit. -/
def State.journalAll (s : State) (w : JWait) : List (Nat × Nat × Bool × Bytes) → State
  | [] => s
  | [(t, k, d, b)] => s.journal t k d b (some w)
  | (t, k, d, b) :: l => State.journalAll (s.journal t k d b none) w l

/-- Perform the outstanding request of function `f` when its opcode is `opc`, and respond (R154, R157)
(log entry 6, DESIGN CHOICE). -/
def State.perform (s : State) (f opc : Nat) (body : Bytes → State → Reply) : State :=
  if !s.performable f opc then s
  else
    let r := body (s.fn f).mb.payload s
    if r.wait then r.st
    else if r.journal != [] then r.st.journalAll ⟨f, r.status, r.payload, r.async, none⟩ r.journal
    else r.st.answer f r.status r.payload r.async

/-- R157: the commands selected end: each is taken off the list and posts MAILBOX_DONE to its function's base spoke. -/
def State.asyncDone (s : State) (p : AsyncCmd → Bool) (st : Status) : State :=
  let l := s.host.asyncs.filter p
  let s := { s with host.asyncs := s.host.asyncs.filter fun a => !p a }
  l.foldl (fun s a =>
    match (s.fn a.fn).baseSpoke with
    | some k => s.postEvent k 0x0003 (a.seq + 2 ^ 16 * st.code) 0 .success 0x3FFFF
    | none => s) s

/-- R155: the service and the functions of an opcode's range. -/
def serviceOf (opc : Nat) : Option (Nat × List Nat) :=
  match opc / 256 with
  | 0 => some (0, [0, 1, 2, 3])
  | 1 => some (0, [0, 1, 2, 3])
  | 2 => some (0, [0, 1, 2, 3])
  | 9 => some (0, [0])
  | 3 => some (1, [0, 1])
  | 4 => some (2, [0, 1, 3])
  | 5 => some (3, [0, 3])
  | 6 => some (4, [0, 2])
  | 7 => some (5, [0, 3])
  | 8 => some (6, [0])
  | 10 => some (7, [0])
  | 11 => some (8, [0, 1, 2, 3])
  | _ => none

/-- Whether a payload meets the zero fields of its command (R7, R156) (log entry 27, DEDUCED). -/
def zerosOk (p : Bytes) (l : List (Nat × Nat × Nat)) : Bool :=
  l.all fun (off, n, mask) => (slice p off n).all fun b => b.toNat &&& mask == 0

/-- R156, step 1. -/
def Mailbox.versionBad (m : Mailbox) : Bool := m.major != 3 || decide (m.minor > 1)

/-- R156, step 2 (log entry 27, DEDUCED). -/
def Mailbox.formBad (m : Mailbox) : Bool :=
  match mbTable.find? (fun c => c.opcode == m.opcode), serviceOf m.opcode with
  | some c, some (svc, _) =>
    m.service != svc || !c.lengths.contains m.length || bits m.hdr1w 31 17 != 0 || m.reqStatus != 0 ||
    !zerosOk m.payload c.zero
  | _, _ => true

/-- The opcodes that only PF0 may issue, besides those of a range that R155 gives to PF0: R185, R196, R241, the commands
of chapters 10, 13, 18 and 19 (log entry 33, DEDUCED). -/
def pf0Only (opc : Nat) : Bool :=
  opc / 256 == 0x0B ||
  [0x0005, 0x0006, 0x0201, 0x0210, 0x0331, 0x0332, 0x0340, 0x0350, 0x0360, 0x0501, 0x0601, 0x0602, 0x0610, 0x0611].contains opc

/-- R155, R156, step 3: whether a function may issue a command (log entries 6, DESIGN CHOICE; 33, DEDUCED). -/
def Mailbox.fnOk (m : Mailbox) (f : Nat) : Bool :=
  match serviceOf m.opcode with
  | some (_, fs) => fs.contains (f % 4) && (f % 4 == 0 || !pf0Only m.opcode)
  | none => false

/-- What becomes of a posted request at once: an answer, or `none` when it waits to be performed.
SC's ROM checks as R521 says; SERVICE_DOWN replaces every other status (R524); otherwise R156 in order, with only
HELLO permitted outside ATTACHED (R165).  While nothing serves the mailbox, the request waits
(log entry 33, DEDUCED). -/
def State.requestCheck (s : State) (f : Nat) : Option Status :=
  let x := s.fn f
  let m := x.mb
  if s.brd.scan || s.brd.soft.isSome || !s.brd.scReleased || s.boot = 4 then none
  else if s.romServes then
    if m.versionBad then some .versionMismatch
    else if m.opcode == 0x0901 || m.opcode == 0x0902 then
      if m.formBad then some .malformed else if f % 4 != 0 then some .notPermitted else none
    else some .retryLater
  else if s.serviceDown m.service && (m.service == 7 || m.service == 8 || decide (m.service < 6)) then some .serviceDown
  else if m.versionBad then some .versionMismatch
  else if m.formBad then some .malformed
  else if !m.fnOk f || (x.attach != .attached && m.opcode != 1) then some .notPermitted
  else none

/-- The lowest number that is not in use below a bound, by a test. -/
def lowestWhere (p : Nat → Bool) (n : Nat) : Option Nat := (List.range n).find? p

/-- Whether the calling function may name a spoke: its own, or for PF0 any of its hierarchy (R323, R159). -/
def State.mayNameSpoke (s : State) (f k : Nat) : Bool :=
  match s.spoke k with
  | some sp => sp.fn == f || (f % 4 == 0 && sp.fn / 4 == f / 4)
  | none => false

end Sys2Proof.Machine
end

