-- ==== Sys2Proof/Machine/Counters.lean ====
section
/-! DEFINITION. Chapter 9: completion counters and trigger entries. -/

namespace Sys2Proof.Machine
open Sys2Proof

/-- Whether the calling function may name a counter. -/
def State.mayNameCounter (s : State) (f : Nat) (c : Counter) : Bool := s.mayNameSpoke f c.spoke

/-- COUNTER_ALLOC (R315, R323). -/
def State.counterAlloc (s : State) (f : Nat) (p : Bytes) : Reply :=
  let k := u16 p 0
  match s.spoke k with
  | none => Reply.err s .malformed
  | some sp =>
    if !s.mayNameSpoke f k then Reply.err s .notPermitted
    else if sp.counterQuota ≤ (s.trg.counters.filter fun (_, c) => c.spoke == k).length then Reply.err s .resource
    else match Map.lowestFree s.trg.counters 16384 with
      | none => Reply.err s .resource
      | some c => Reply.ok (s.setCounter c { spoke := k }) (toLe 2 c ++ zeros 2)

def execCounterAlloc (f : Nat) (s : State) : Outcome := .next (s.perform f 0x0120 fun p s => s.counterAlloc f p)

/-- R323: whether a queue's WAIT or a trigger entry names a counter. -/
def State.counterNamed (s : State) (c : Nat) : Bool :=
  (s.host.queues.any fun (_, q) => q.waitEn && q.waitCounter == c) ||
  s.trg.entries.any fun (_, e) => (e.count || e.feedEn) && e.counter == c

/-- COUNTER_FREE (R323). -/
def State.counterFree (s : State) (f : Nat) (p : Bytes) : Reply :=
  let c := u16 p 0
  match Map.get s.trg.counters c with
  | none => Reply.err s .malformed
  | some x =>
    if !s.mayNameCounter f x || s.counterNamed c then Reply.err s .notPermitted
    else Reply.ok { s with trg.counters := Map.erase s.trg.counters c } []

def execCounterFree (f : Nat) (s : State) : Outcome := .next (s.perform f 0x0121 fun p s => s.counterFree f p)

/-- COUNTER_SET (R321-R323): SET_VALUE first, then CLEAR_FAILED, then the arming and the mirror.  A message that waits
on a mirror write is sent at once when the command disables the mirror (log entry 81, DEDUCED). -/
def State.counterSet (s : State) (f : Nat) (p : Bytes) : Reply :=
  let c := u16 p 0
  let fl := u8 p 2
  match Map.get s.trg.counters c with
  | none => Reply.err s .malformed
  | some x =>
    if bit fl 3 && u64 p 24 % 8 != 0 then Reply.err s .malformed
    else if !s.mayNameCounter f x then Reply.err s .notPermitted
    else
      let s := if x.msgDue && !bit fl 3 then s.interrupt (s.spokeFn x.spoke) x.vector else s
      let y : Counter := { x with
        value := if bit fl 0 then u64 p 8 else x.value
        failed := x.failed && !bit fl 1
        failStatus := if bit fl 1 then .success else x.failStatus
        irqArmed := bit fl 2
        irqThreshold := if bit fl 2 then u64 p 16 else x.irqThreshold
        vector := if bit fl 2 then bits (u16 p 4) 11 0 else x.vector
        mirrorEn := bit fl 3
        mirror := if bit fl 3 then u64 p 24 else x.mirror
        mirrorDue := x.mirrorDue && bit fl 3
        msgDue := x.msgDue && bit fl 3 }
      Reply.ok ((s.setCounter c y).counterIrq c (.ok [] false)) []

def execCounterSet (f : Nat) (s : State) : Outcome := .next (s.perform f 0x0122 fun p s => s.counterSet f p)

/-- COUNTER_ADD (R316, R323). -/
def State.counterAddCmd (s : State) (f : Nat) (p : Bytes) : Reply :=
  let c := u16 p 0
  match Map.get s.trg.counters c with
  | none => Reply.err s .malformed
  | some x =>
    if u64 p 8 = 0 then Reply.err s .malformed
    else if !s.mayNameCounter f x then Reply.err s .notPermitted
    else
      let s := s.counterAdd c (u64 p 8) (.ok [] false)
      Reply.ok s (toLe 8 (match Map.get s.trg.counters c with
        | some y => y.value
        | none => 0))

def execCounterAdd (f : Nat) (s : State) : Outcome := .next (s.perform f 0x0123 fun p s => s.counterAddCmd f p)

/-- COUNTER_READ (R323). -/
def State.counterRead (s : State) (f : Nat) (p : Bytes) : Reply :=
  match Map.get s.trg.counters (u16 p 0) with
  | none => Reply.err s .malformed
  | some x =>
    if !s.mayNameCounter f x then Reply.err s .notPermitted
    else Reply.ok s (toLe 8 x.value ++ toLe 1 (if x.failed then x.failStatus.code else 0) ++
      toLe 1 (b2n x.failed + 2 * b2n x.irqArmed + 4 * b2n x.mirrorEn) ++ zeros 6)

def execCounterRead (f : Nat) (s : State) : Outcome := .next (s.perform f 0x0124 fun p s => s.counterRead f p)

/-- COUNTER_UPDATE (R318): TRG applies the update that reached it first (log entry 80, DESIGN CHOICE). -/
def State.counterUpdate (s : State) (ans : HostAns) : State :=
  match s.trg.updates with
  | [] => s
  | u :: t => { s with trg.updates := t }.applyUpdate u ans

def execCounterUpdate (ans : HostAns) (s : State) : Outcome := .next (s.counterUpdate ans)

/-- MIRROR_WRITE_FAILED (R321, R322): the mirror is disabled, a message that waited on it is sent, then the event
(log entry 83, DEDUCED). -/
def State.mirrorFailed (s : State) (c : Nat) (st : Status) : State :=
  match Map.get s.trg.counters c with
  | none => s
  | some x =>
    if !x.mirrorEn then s
    else
      let s := s.setCounter c { x with mirrorEn := false, mirrorDue := false, msgDue := false }
      let s := if x.msgDue then s.interrupt (s.spokeFn x.spoke) x.vector else s
      s.postEvent x.spoke 0x0122 c x.mirror st 0x3FFFF

def execMirrorWriteFailed (c : Nat) (st : Status) (s : State) : Outcome := .next (s.mirrorFailed c st)

/-- TRIGGER_BIND (R329). -/
def State.triggerBind (s : State) (f : Nat) (p : Bytes) : Reply :=
  let k := u16 p 0
  let count := bit (u8 p 2) 0
  let feed := bit (u8 p 2) 1
  let t := u32 p 4
  let c := u16 p 8
  let owns := match Map.get s.trg.counters c with
    | some x => x.spoke == k
    | none => false
  if (s.spoke k).isNone || t = 0 || (feed && count) || (!feed && !count && c != 0) then Reply.err s .malformed
  else if !s.mayNameSpoke f k || Map.has s.trg.entries (trigKey k t) || ((feed || count) && !owns) then
    Reply.err s .notPermitted
  else if 32768 ≤ s.trg.entries.length then Reply.err s .resource
  else Reply.ok (s.setEntry (trigKey k t) { spoke := k, value := t, count := count, feedEn := feed, counter := c }) []

def execTriggerBind (f : Nat) (s : State) : Outcome := .next (s.perform f 0x0130 fun p s => s.triggerBind f p)

/-- R332: unbind an entry: its heads complete FLUSHED (log entry 84, DEDUCED). -/
def State.unbind (s : State) (key : Nat) : State :=
  match Map.get s.trg.entries key with
  | none => s
  | some e =>
    let s := { s with trg.entries := Map.erase s.trg.entries key }
    e.heads.foldl (fun s o => s.finish o .flushed 0 0) s

/-- TRIGGER_UNBIND (R332). -/
def State.triggerUnbind (s : State) (f : Nat) (p : Bytes) : Reply :=
  let k := u16 p 0
  let key := trigKey k (u32 p 4)
  match Map.get s.trg.entries key with
  | none => Reply.err s .malformed
  | some e =>
    if !s.mayNameSpoke f k then Reply.err s .notPermitted
    else Reply.ok (s.unbind key) (toLe 4 e.heads.length ++ toLe 4 e.credits)

def execTriggerUnbind (f : Nat) (s : State) : Outcome := .next (s.perform f 0x0131 fun p s => s.triggerUnbind f p)

/-- TRIGGER_RESET (R331): the failure is cleared and the credits discarded; held heads stay held. -/
def State.triggerReset (s : State) (f : Nat) (p : Bytes) : Reply :=
  let k := u16 p 0
  let key := trigKey k (u32 p 4)
  match Map.get s.trg.entries key with
  | none => Reply.err s .malformed
  | some e =>
    if !s.mayNameSpoke f k then Reply.err s .notPermitted
    else Reply.ok (s.setEntry key { e with failed := false, failStatus := .success, credits := 0 }) (toLe 4 e.credits)

def execTriggerReset (f : Nat) (s : State) : Outcome := .next (s.perform f 0x0132 fun p s => s.triggerReset f p)

/-- R328, R329, R331: a trigger message of a spoke becomes final (log entry 84, DEDUCED). -/
def State.triggerMessage (s : State) (spoke t : Nat) (st : Status) : State :=
  let key := trigKey spoke t
  match Map.get s.trg.entries key with
  | none => { s with trg.unmatched := satAdd 16 s.trg.unmatched 1 }
  | some e =>
    if e.count then
      let s := if st == .success || e.failed then s else s.setEntry key { e with failed := true, failStatus := st }
      s.sendUpdate { counter := e.counter, spoke := spoke, fail := if st == .success then none else some st, amount := 1 }
    else if st == .success then s.addCredits key 1
    else s.entryFail key st

/-- R332, R334: unbind all entries of a spoke and free all of its counters. -/
def State.freeTrg (s : State) (k : Nat) : State :=
  let s := (s.trg.entries.filter fun (_, e) => e.spoke == k).foldl (fun s e => s.unbind e.1) s
  { s with trg.counters := s.trg.counters.filter fun (_, c) => c.spoke != k }

end Sys2Proof.Machine
end

