-- ==== Sys2Proof/Machine/NvBase.lean ====
section
/-! DEFINITION. Chapter 13, the controllers' machinery: NVMe status codes, completion entries and asynchronous events,
data pointers, and the fetch of commands (R429-R436). -/

namespace Sys2Proof.Machine
open Sys2Proof

/-! ## Tables -/

def State.ctrl (s : State) (c : Nat) : Option Ctrl := Map.get s.nvme.ctrls c
def State.setCtrl (s : State) (c : Nat) (x : Ctrl) : State := { s with nvme.ctrls := Map.put s.nvme.ctrls c x }
def State.modCtrl (s : State) (c : Nat) (g : Ctrl → Ctrl) : State := { s with nvme.ctrls := Map.modify s.nvme.ctrls c g }
def State.space (s : State) (n : Nat) : Option Namespace := Map.get s.nvme.spaces n
def State.setSpace (s : State) (n : Nat) (x : Namespace) : State := { s with nvme.spaces := Map.put s.nvme.spaces n x }
def State.modSpace (s : State) (n : Nat) (g : Namespace → Namespace) : State :=
  { s with nvme.spaces := Map.modify s.nvme.spaces n g }
def State.nvCmd (s : State) (i : Nat) : Option NvCmd := Map.get s.nvme.cmds i
def State.modCmd (s : State) (i : Nat) (g : NvCmd → NvCmd) : State := { s with nvme.cmds := Map.modify s.nvme.cmds i g }

/-- The key of a queue of a controller. -/
def nvKey (c q : Nat) : Nat := 65536 * c + q

/-- A PF controller is there whenever its hierarchy is (R429): CNTLID 0 and 1. -/
def State.theCtrl (s : State) (c : Nat) : Option Ctrl :=
  match s.ctrl c with
  | some x => some x
  | none => if c < 2 then some { fn := 4 * c + 2 } else none

/-- Whether a controller may reach its memory and report: not while Bus Master Enable is clear or its function is in
freewheel (R453). -/
def State.nvUp (s : State) (x : Ctrl) : Bool :=
  x.rdy && !x.cfs && s.canMaster x.fn && (s.fn x.fn).attach != .freewheel

/-! ## Status (R436) -/

/-- Status codes as (SCT, SC, DNR) (log entry 102, PRESUMED). -/
def nvSt (sct sc : Nat) (dnr : Bool) : Nat := 256 * sct + sc + 16384 * b2n dnr

def nvInvalidOpcode : Nat := nvSt 0 0x01 true
def nvInvalidField : Nat := nvSt 0 0x02 true
def nvInternal : Nat := nvSt 0 0x06 false
def nvAbortRequested : Nat := nvSt 0 0x07 true
def nvSqDeleted : Nat := nvSt 0 0x08 true
def nvInvalidNs : Nat := nvSt 0 0x0B true
def nvSequence : Nat := nvSt 0 0x0C true
def nvSglSegment : Nat := nvSt 0 0x0D true
def nvSglLength : Nat := nvSt 0 0x0F true
def nvSglType : Nat := nvSt 0 0x11 true
def nvPrpOffset : Nat := nvSt 0 0x13 true
def nvInterrupted : Nat := nvSt 0 0x21 false
def nvLbaRange : Nat := nvSt 0 0x80 true
def nvCqInvalid : Nat := nvSt 1 0x00 true
def nvQid : Nat := nvSt 1 0x01 true
def nvQsize : Nat := nvSt 1 0x02 true
def nvAerLimit : Nat := nvSt 1 0x05 true
def nvVector : Nat := nvSt 1 0x08 true
def nvCqDeletion : Nat := nvSt 1 0x0C true
def nvNotSaveable : Nat := nvSt 1 0x0D true
def nvPiInvalid : Nat := nvSt 1 0x81 true
def nvGuard : Nat := nvSt 2 0x82 true
def nvAppTag : Nat := nvSt 2 0x83 true
def nvRefTag : Nat := nvSt 2 0x84 true

/-- The NVMe status that an R11 condition gives a command; `write` for one that writes to a backing. -/
def nvOf (st : Status) (write : Bool) : Nat :=
  match st with
  | .success => 0
  | .malformed => nvInvalidField
  | .notPermitted => nvSt 2 0x86 true
  | .accessViolation => nvSt 0 0x04 true
  | .translationFault => nvSt 0 0x04 true
  | .poisoned => nvSt 0 0x04 true
  | .mediumError => if write then nvSt 2 0x80 true else nvSt 2 0x81 true
  | .integrity => if write then nvInternal else nvSt 2 0x81 true
  | .timeout => nvSt 3 0x00 false
  | .flushed => nvInterrupted
  | .retryLater => nvInterrupted
  | _ => nvInternal

/-! ## Completion entries and events -/

/-- The 16 bytes of a completion entry. -/
def NvCqe.bytes (e : NvCqe) (sqhd phase : Nat) : Bytes :=
  toLe 4 e.dw0 ++ zeros 4 ++ toLe 2 sqhd ++ toLe 2 e.sq ++ toLe 2 e.cid ++ toLe 2 (2 * e.status + phase)

/-- Write bytes to a controller's memory: bus addresses of PF2 without PASID, or its spoke's space (R429). -/
def State.nvWrite (s : State) (x : Ctrl) (va : Nat) (d : Bytes) (ans : HostAns) : State × AccRes :=
  match x.spoke with
  | some k => s.spokeWrite k va d false ans
  | none => s.leafWrite { fn := x.fn, base := true } (.host va (s.fn x.fn).priEn) d false ans

/-- Read bytes of a controller's memory; the answer's bytes from `off` on are those of host memory. -/
def State.nvRead (s : State) (x : Ctrl) (va n off : Nat) (ans : HostAns) : State × AccRes :=
  match x.spoke with
  | some k => s.spokeReadLoop k ans (n / 4096 + 2) va n off
  | none => s.leafRead { fn := x.fn, base := true } (.host va (s.fn x.fn).priEn) n off ans

/-- Write the entries due to a completion queue while it has room; a failed write sets CSTS.CFS. -/
def State.nvFlushLoop (s : State) (c q : Nat) (ans : HostAns) : Nat → State
  | 0 => s
  | n + 1 =>
    match s.theCtrl c, Map.get s.nvme.cqs (nvKey c q) with
    | some x, some k =>
      match k.due with
      | [] => s
      | e :: t =>
        if !s.nvUp x || (k.tail + 1) % k.size = k.head then s
        else
          let hd := match Map.get s.nvme.sqs (nvKey c e.sq) with
            | some sq => sq.head
            | none => 0
          let (s, r) := s.nvWrite x (k.base + 16 * k.tail) (e.bytes hd k.pass) ans
          if r.status != .success then s.modCtrl c fun x => { x with cfs := true }
          else
            let wrap := decide (k.tail + 1 = k.size)
            let k := { k with due := t, tail := (k.tail + 1) % k.size, pass := if wrap then 1 - k.pass else k.pass }
            let s := { s with nvme.cqs := Map.put s.nvme.cqs (nvKey c q) k }
            let masked := !(s.fn x.fn).msixEn && bit x.intm k.vector
            let s := if k.ien && !masked then s.interrupt x.fn k.vector else s
            State.nvFlushLoop s c q ans n
    | _, _ => s

def State.nvFlush (s : State) (c q : Nat) (ans : HostAns) : State :=
  match Map.get s.nvme.cqs (nvKey c q) with
  | some k => s.nvFlushLoop c q ans k.due.length
  | none => s

/-- Post a completion entry of a command of a submission queue. -/
def State.nvPost (s : State) (c sq cid dw0 status : Nat) (ans : HostAns) : State :=
  match Map.get s.nvme.sqs (nvKey c sq) with
  | none => s
  | some q =>
    let add (k : NvQueue) : NvQueue := { k with due := k.due ++ [NvCqe.mk sq cid dw0 status] }
    State.nvFlush { s with nvme.cqs := Map.modify s.nvme.cqs (nvKey c q.cqid) add } c q.cqid ans

/-- The Asynchronous Event Configuration bit that lets a notice or SMART event through; errors are always reported. -/
def Ctrl.reports (x : Ctrl) (type bitNo : Nat) : Bool :=
  type == 0 || bit ((Map.get x.feats 0x0B).getD 0x1FF) bitNo

/-- Report an asynchronous event: complete the oldest request held, or keep the event. -/
def State.nvEvent (s : State) (c type info log bitNo : Nat) : State :=
  match s.theCtrl c with
  | none => s
  | some x =>
    let dw := type + 256 * info + 65536 * log
    if !x.rdy || !x.reports type bitNo then s
    else match x.aers with
      | [] => s.modCtrl c fun x => if x.events.contains dw then x else { x with events := x.events ++ [dw] }
      | cid :: t => (s.modCtrl c fun x => { x with aers := t }).nvPost c 0 cid dw 0 (.ok [] false)

/-- Free the H9 queue number of an NVMe queue (R431). -/
def State.freeNumber (s : State) (n : Option Nat) : State :=
  match n with
  | some q => { s with host.queues := Map.erase s.host.queues q }
  | none => s

/-! ## The end of a command -/

/-- R454: the shutdown of a controller completes once none of its commands is left and no intent bit is being cleared. -/
def State.shutdownCheck (s : State) (c : Nat) : State :=
  match s.theCtrl c with
  | none => s
  | some x =>
    if x.shst ≠ 1 then s
    else
      let busy := s.nvme.cmds.any fun (_, k) => k.ctrl == c
      let bits := s.nvme.spaces.any fun (_, n) => n.ctrls.contains c && n.clearing != []
      if busy || bits then s else s.setCtrl c { x with shst := 2 }

/-- R436: record a failure in the error logs (log entry 110, DEDUCED). -/
def State.nvLogError (s : State) (k : NvCmd) (status code : Nat) : State :=
  s.modCtrl k.ctrl fun x =>
    let e : NvErr := { count := x.errCount + 1, sq := k.sq, cid := k.cid, status := status, lba := u64 k.sqe 40,
                       nsid := u32 k.sqe 4, code := code, backing := k.back, time := s.counterOf 81 }
    let l := x.errs ++ [e]
    { x with errCount := x.errCount + 1, errs := l.drop (l.length - 64) }

/-- The R11 code recorded for a failure that the NVMe specification names itself. -/
def nvCodeOf (status code : Nat) : Nat := if code = 0 ∧ status ≠ 0 then Status.malformed.code else code

/-- Commands of a Flush that waits: it completes when none is left (R444). -/
def State.flushDone (s : State) (gone : Nat) : State :=
  let s : State := { s with nvme.cmds := s.nvme.cmds.map fun (i, k) => (i, { k with wait := k.wait.filter (· != gone) }) }
  let l := s.nvme.cmds.filter fun (_, k) => k.started && u8 k.sqe 0 == 0 && k.sq != 0 && k.wait == []
  l.foldl (fun s (p : Nat × NvCmd) =>
    State.nvPost { s with nvme.cmds := Map.erase s.nvme.cmds p.1 } p.2.ctrl p.2.sq p.2.cid 0 0 (.ok [] false)) s

/-- Complete a command: its entry, the logs, the Flushes that wait for it and a shutdown. -/
def State.nvDone (s : State) (i : Nat) (dw0 status code : Nat) (ans : HostAns) : State :=
  match s.nvCmd i with
  | none => s
  | some k =>
    let s := if status = 0 then s else s.nvLogError k status (nvCodeOf status code)
    let s : State := { s with nvme.cmds := Map.erase s.nvme.cmds i }
    ((s.nvPost k.ctrl k.sq k.cid dw0 status ans).flushDone i).shutdownCheck k.ctrl

/-- Complete a command with a status of R11. -/
def State.nvFail (s : State) (i : Nat) (st : Status) (write : Bool) : State :=
  s.nvDone i 0 (nvOf st write) st.code (.ok [] false)

/-- R453: abandon commands: nothing is posted, and what is outstanding at a backing is discarded when it completes. -/
def State.nvAbandon (s : State) (p : NvCmd → Bool) : State :=
  let ids := (s.nvme.cmds.filter fun (_, k) => p k).map Prod.fst
  let drop (r : NvReq) : NvReq := match r.cmd with
    | some i => if ids.contains i then { r with cmd := none } else r
    | none => r
  let s : State := { s with nvme.cmds := s.nvme.cmds.filter fun (i, _) => !ids.contains i
                            nvme.reqs := s.nvme.reqs.map fun (n, r) => (n, drop r) }
  ids.foldl State.flushDone s

/-! ## Data pointers (R435) -/

/-- The memory page size of a controller. -/
def Ctrl.pageBytes (x : Ctrl) : Nat := if x.spoke.isSome then 4096 else 2 ^ (12 + bits x.cc 10 7)

/-- What a data pointer describes: address and length of each piece, or an NVMe status. -/
abbrev NvPtr := Except Nat (List (Nat × Nat))

/-- The entries of a PRP list, read from memory page by page: `n` entries for `left` bytes from `ptr` on. -/
def State.prpList (s : State) (x : Ctrl) (ans : HostAns) : Nat → Nat → Nat → Nat → State × NvPtr
  | 0, _, _, _ => (s, .error nvInvalidField)
  | fuel + 1, ptr, left, off =>
    let p := x.pageBytes
    let n := ceilDiv left p
    let cap := (p - ptr % p) / 8
    let m := min n cap
    let (s, r) := s.nvRead x ptr (8 * m) off ans
    if r.status != .success then (s, .error (nvOf r.status false))
    else
      let es := (List.range m).map fun i => fld r.data (8 * i) 8
      if es.any fun e => e % p != 0 then (s, .error nvPrpOffset)
      else if n ≤ cap then
        (s, .ok (es.zipIdx.map fun (e, i) => (e, min p (left - i * p))))
      else
        let k := m - 1
        match State.prpList s x ans fuel (es.getD k 0) (left - k * p) (off + 8 * m) with
        | (s, .error e) => (s, .error e)
        | (s, .ok l) => (s, .ok (((es.take k).map fun e => (e, p)) ++ l))

/-- The pieces of a PRP data pointer (log entry 102, PRESUMED). -/
def State.prps (s : State) (x : Ctrl) (sqe : Bytes) (len : Nat) (ans : HostAns) : State × NvPtr :=
  let p := x.pageBytes
  let a := u64 sqe 24
  let b := u64 sqe 32
  let first := p - a % p
  if a % 4 ≠ 0 then (s, .error nvPrpOffset)
  else if len ≤ first then (s, .ok [(a, len)])
  else if len - first ≤ p then
    if b % p ≠ 0 then (s, .error nvPrpOffset) else (s, .ok [(a, first), (b, len - first)])
  else if b % 8 ≠ 0 then (s, .error nvPrpOffset)
  else match s.prpList x ans 8 b (len - first) 0 with
    | (s, .error e) => (s, .error e)
    | (s, .ok l) => (s, .ok ((a, first) :: l))

/-- The Data Block descriptors of an SGL segment: `n` descriptors at `ptr`; the last of a segment may name the next. -/
def State.sglSeg (s : State) (x : Ctrl) (ans : HostAns) : Nat → Nat → Nat → Bool → Nat → State × NvPtr
  | 0, _, _, _, _ => (s, .error nvSglSegment)
  | fuel + 1, ptr, n, last, off =>
    let (s, r) := s.nvRead x ptr (16 * n) off ans
    if r.status != .success then (s, .error (nvOf r.status false))
    else
      let ds := (List.range n).map fun i => slice r.data (16 * i) 16
      let blocks := ds.filter fun d => u8 d 15 == 0
      let l := blocks.map fun d => (u64 d 0, u32 d 8)
      if ds.dropLast.any fun d => u8 d 15 != 0 then (s, .error nvSglType)
      else if l.any fun e => e.1 % 4 != 0 || e.2 % 4 != 0 then (s, .error nvInvalidField)
      else match ds.getLast? with
        | none => (s, .error nvSglSegment)
        | some d =>
          let t := u8 d 15
          if t = 0 then (s, .ok l)
          else if last || (t != 0x20 && t != 0x30) then (s, .error nvSglType)
          else if u32 d 8 % 16 ≠ 0 ∨ u32 d 8 = 0 then (s, .error nvSglSegment)
          else match State.sglSeg s x ans fuel (u64 d 0) (u32 d 8 / 16) (t == 0x30) (off + 16 * n) with
            | (s, .error e) => (s, .error e)
            | (s, .ok m) => (s, .ok (l ++ m))

/-- The pieces of an SGL data pointer, cut to the length of the transfer. -/
def sglCut : Nat → List (Nat × Nat) → List (Nat × Nat)
  | _, [] => []
  | n, (a, k) :: t => if n = 0 then [] else (a, min k n) :: sglCut (n - k) t

/-- Log entry 102, PRESUMED. -/
def State.sgls (s : State) (x : Ctrl) (sqe : Bytes) (len : Nat) (ans : HostAns) : State × NvPtr :=
  let t := u8 sqe 39
  let a := u64 sqe 24
  let n := u32 sqe 32
  let fin (s : State) (l : List (Nat × Nat)) : State × NvPtr :=
    if l.foldl (fun k e => k + e.2) 0 < len then (s, .error nvSglLength) else (s, .ok (sglCut len l))
  if t = 0 then if a % 4 ≠ 0 ∨ n % 4 ≠ 0 then (s, .error nvInvalidField) else fin s [(a, n)]
  else if t ≠ 0x20 ∧ t ≠ 0x30 then (s, .error nvSglType)
  else if n % 16 ≠ 0 ∨ n = 0 then (s, .error nvSglSegment)
  else match s.sglSeg x ans 64 a (n / 16) (t == 0x30) 0 with
    | (s, .error e) => (s, .error e)
    | (s, .ok l) => fin s l

/-- The pieces of a command's data pointer: PRPs in every command, SGLs in I/O commands only. -/
def State.dataPtr (s : State) (x : Ctrl) (k : NvCmd) (len : Nat) (ans : HostAns) : State × NvPtr :=
  let psdt := bits (u8 k.sqe 1) 7 6
  if len = 0 then (s, .ok [])
  else if psdt = 0 then s.prps x k.sqe len ans
  else if psdt = 1 && k.sq != 0 then s.sgls x k.sqe len ans
  else (s, .error nvInvalidField)

/-- Gather the bytes of the pieces, or say how the access failed. -/
def State.gather (s : State) (x : Ctrl) (ans : HostAns) : Nat → List (Nat × Nat) → State × AccRes
  | _, [] => (s, {})
  | off, (a, n) :: t =>
    let (s, r) := s.nvRead x a n off ans
    if r.status != .success then (s, r)
    else
      let (s, r') := State.gather s x ans (off + n) t
      (s, { r' with data := r.data ++ r'.data, poisoned := r.poisoned || r'.poisoned, medium := r.medium || r'.medium })

/-- Spread bytes over the pieces. -/
def State.scatter (s : State) (x : Ctrl) (ans : HostAns) : Bytes → List (Nat × Nat) → State × AccRes
  | _, [] => (s, {})
  | d, (a, n) :: t =>
    let (s, r) := s.nvWrite x a (d.take n) ans
    if r.status != .success then (s, r) else State.scatter s x ans (d.drop n) t

/-- R206: whether a failed access of a controller raises a page request; the request, with the command waiting
(log entry 105, DEDUCED). -/
def State.nvPage (s : State) (x : Ctrl) (i : Nat) (r : AccRes) : Option State :=
  let f := s.fn x.fn
  if !(r.noAccess && r.pri && f.priEn && f.atsEn) then none
  else some (s.pageRequest x.fn (x.spoke.bind fun k => (s.spoke k).bind Spoke.pasidOpt) r.page (.nv i))

/-- End a command whose access to memory failed; one whose page was requested waits to be performed again
(log entry 105, DEDUCED). -/
def State.nvAccess (s : State) (x : Ctrl) (i : Nat) (r : AccRes) : State :=
  match s.nvPage x i r with
  | some s => s
  | none => s.nvFail i r.status false

/-- Write a command's answer to its data pointer and complete it. -/
def State.nvReply (s : State) (x : Ctrl) (i : Nat) (k : NvCmd) (d : Bytes) (lists ans : HostAns) : State :=
  match s.dataPtr x k d.length lists with
  | (s, .error e) => s.nvDone i 0 e 0 (.ok [] false)
  | (s, .ok l) =>
    match s.scatter x ans d l with
    | (s, r) => if r.status != .success then s.nvAccess x i r else s.nvDone i 0 0 0 (.ok [] false)

/-! ## Fetching commands -/

/-- R433: the opcodes of a set. -/
def nvAdmin : List Nat := [0x00, 0x01, 0x02, 0x04, 0x05, 0x06, 0x08, 0x09, 0x0A, 0x0C]
def nvIo : List Nat := [0x00, 0x01, 0x02, 0x08, 0x09]

/-- A fetched entry becomes a command; an opcode that is not supported, a fused operation or an SGL in an admin command
is answered at once (log entry 103, DEDUCED). -/
def State.nvTake (s : State) (c q : Nat) (sqe : Bytes) : State :=
  let i := s.nvme.nextCmd
  let k : NvCmd := { ctrl := c, sq := q, cid := u16 sqe 2, sqe := sqe }
  let s : State := { s with nvme.cmds := Map.put s.nvme.cmds i k, nvme.nextCmd := i + 1 }
  if !(if q = 0 then nvAdmin else nvIo).contains (u8 sqe 0) then s.nvDone i 0 nvInvalidOpcode 0 (.ok [] false)
  else if bits (u8 sqe 1) 1 0 != 0 || bits (u8 sqe 1) 7 6 > 1 then s.nvDone i 0 nvInvalidField 0 (.ok [] false)
  else s

/-- Fetch commands of a submission queue, one for each answer, up to its tail (log entry 103, DEDUCED). -/
def State.nvFetch (s : State) (c q : Nat) : List HostAns → State
  | [] => s
  | a :: t =>
    match s.theCtrl c, Map.get s.nvme.sqs (nvKey c q) with
    | some x, some sq =>
      if !s.nvUp x || x.shst != 0 || sq.head = sq.tail then s
      else
        match s.nvRead x (sq.base + 64 * sq.head) 64 0 a with
        | (s, r) =>
          if r.status != .success || r.poisoned || r.medium then s.modCtrl c fun x => { x with cfs := true }
          else
            let s : State := { s with nvme.sqs := Map.put s.nvme.sqs (nvKey c q) { sq with head := (sq.head + 1) % sq.size } }
            State.nvFetch (s.nvTake c q r.data) c q t
    | _, _ => s

/-- NVME_SQ_DOORBELL (R430, R431): the tail; a value at or above the size is discarded and reported. -/
def State.nvSqDoorbell (s : State) (c q tail : Nat) (ans : List HostAns) : State :=
  match s.theCtrl c, Map.get s.nvme.sqs (nvKey c q) with
  | some x, some sq =>
    if !x.rdy then s
    else if sq.size ≤ tail then s.nvEvent c 0 1 1 0
    else State.nvFetch { s with nvme.sqs := Map.put s.nvme.sqs (nvKey c q) { sq with tail := tail } } c q ans
  | some x, none => if x.rdy then s.nvEvent c 0 0 1 0 else s
  | none, _ => s

def execNvmeSqDoorbell (c q tail : Nat) (ans : List HostAns) (s : State) : Outcome := .next (s.nvSqDoorbell c q tail ans)

/-- NVME_CQ_DOORBELL (R431): the head may not pass entries that have not been written. -/
def State.nvCqDoorbell (s : State) (c q head : Nat) : State :=
  match s.theCtrl c, Map.get s.nvme.cqs (nvKey c q) with
  | some x, some k =>
    if !x.rdy then s
    else if k.size ≤ head || (k.tail + k.size - k.head) % k.size < (head + k.size - k.head) % k.size then s.nvEvent c 0 1 1 0
    else State.nvFlush { s with nvme.cqs := Map.put s.nvme.cqs (nvKey c q) { k with head := head } } c q (.ok [] false)
  | some x, none => if x.rdy then s.nvEvent c 0 0 1 0 else s
  | none, _ => s

def execNvmeCqDoorbell (c q head : Nat) (s : State) : Outcome := .next (s.nvCqDoorbell c q head)

/-- The NVMe queue that holds an H9 queue number: controller, queue identifier, whether it is a CQ (R431). -/
def State.nvNumber (s : State) (n : Nat) : Option (Nat × Nat × Bool) :=
  match s.nvme.sqs.find? fun p => p.2.number == some n with
  | some p => some (p.1 / 65536, p.1 % 65536, false)
  | none => match s.nvme.cqs.find? fun p => p.2.number == some n with
    | some p => some (p.1 / 65536, p.1 % 65536, true)
    | none => none

/-- R430, R453: reset a controller: its commands are abandoned, its I/O queues and features are gone. -/
def State.nvReset (s : State) (c : Nat) : State :=
  let s := s.nvAbandon fun k => k.ctrl == c
  let mine (p : Nat × NvQueue) : Bool := p.1 / 65536 == c
  let io (p : Nat × NvQueue) : Bool := p.1 % 65536 != 0
  let nums := ((s.nvme.sqs.filter mine) ++ (s.nvme.cqs.filter mine)).filter io
  let s := nums.foldl (fun s p => s.freeNumber p.2.number) s
  let s : State := { s with nvme.sqs := s.nvme.sqs.filter fun p => !mine p
                            nvme.cqs := s.nvme.cqs.filter fun p => !mine p }
  s.modCtrl c fun x => { x with rdy := false, cfs := false, shst := 0, grant := none, feats := [], ivs := [], ps := 0,
                                aers := [], events := [], intm := 0 }

/-- A command that a row performs: fetched, not started, of the row's opcode and set; I/O commands wait in PS3 (R450)
(log entry 103, DEDUCED). -/
def State.nvReady (s : State) (i opc : Nat) (admin : Bool) : Option (NvCmd × Ctrl) :=
  match s.nvCmd i with
  | none => none
  | some k =>
    match s.theCtrl k.ctrl with
    | none => none
    | some x =>
      if k.started || u8 k.sqe 0 != opc || (k.sq == 0) != admin || !s.nvUp x || (!admin && x.ps == 3) then none else some (k, x)

/-- Perform a fetched command. -/
def State.nvRun (s : State) (i opc : Nat) (admin : Bool) (f : NvCmd → Ctrl → State → State) : State :=
  match s.nvReady i opc admin with
  | some (k, x) => f k x s
  | none => s

end Sys2Proof.Machine
end

