-- ==== Sys2Proof/Machine/NvAdmin.lean ====
section
/-! DEFINITION. Chapter 13: the admin commands (R432-R434, R437, R450). -/

namespace Sys2Proof.Machine
open Sys2Proof

/-! ## Queues (R431, R432) -/

/-- The I/O queues in use device-wide and of a controller. -/
def ioQueues (m : Map NvQueue) : Nat := (m.filter fun p => p.1 % 65536 != 0).length
def ioQueuesOf (m : Map NvQueue) (c : Nat) : Nat := (m.filter fun p => p.1 / 65536 == c && p.1 % 65536 != 0).length

/-- Take an H9 queue number for a queue of a spoke controller, within the quota of its spoke (R431). -/
def State.takeNumber (s : State) (x : Ctrl) : Option (Option Nat × State) :=
  match x.spoke with
  | none => some (none, s)
  | some k =>
    let quota := match s.spoke k with
      | some sp => sp.queueQuota
      | none => 0
    if quota ≤ (s.host.queues.filter fun (_, q) => q.spoke == k).length then none
    else match Map.lowestFree s.host.queues 131072 with
      | none => none
      | some n => some (some n, s.setQueue n { kind := .nvme, spoke := k, state := .active })

/-- Whether an I/O queue identifier lies outside a controller's grant (R432) (log entry 106, DESIGN CHOICE). -/
def Ctrl.qidBad (x : Ctrl) (q : Nat) : Bool := q == 0 || decide (x.grant.getD 512 < q)

/-- CREATE_IO_COMPLETION_QUEUE. -/
def State.nvCreateCq (s : State) (i : Nat) (k : NvCmd) (x : Ctrl) : State :=
  let q := u16 k.sqe 40
  let size := u16 k.sqe 42 + 1
  let fl := u32 k.sqe 44
  let st := if x.qidBad q || Map.has s.nvme.cqs (nvKey k.ctrl q) || decide (8192 ≤ ioQueues s.nvme.cqs) then nvQid
    else if size < 2 then nvQsize
    else if !bit fl 0 then nvInvalidField
    else if u64 k.sqe 24 % x.pageBytes != 0 then nvPrpOffset
    else if bit fl 1 && 2048 ≤ bits fl 31 16 then nvVector
    else 0
  if st ≠ 0 then s.nvDone i 0 st 0 (.ok [] false)
  else match s.takeNumber x with
    | none => s.nvDone i 0 nvInternal Status.resource.code (.ok [] false)
    | some (n, s) =>
      let nq : NvQueue := { base := u64 k.sqe 24, size := size, ien := bit fl 1, vector := bits fl 31 16, number := n }
      State.nvDone { s with nvme.cqs := Map.put s.nvme.cqs (nvKey k.ctrl q) nq } i 0 0 0 (.ok [] false)

def execCreateIoCompletionQueue (i : Nat) (s : State) : Outcome := .next (s.nvRun i 0x05 true fun k x s => s.nvCreateCq i k x)

/-- CREATE_IO_SUBMISSION_QUEUE. -/
def State.nvCreateSq (s : State) (i : Nat) (k : NvCmd) (x : Ctrl) : State :=
  let q := u16 k.sqe 40
  let size := u16 k.sqe 42 + 1
  let fl := u32 k.sqe 44
  let cq := bits fl 31 16
  let st := if x.qidBad q || Map.has s.nvme.sqs (nvKey k.ctrl q) || decide (8192 ≤ ioQueues s.nvme.sqs) then nvQid
    else if size < 2 then nvQsize
    else if cq == 0 || !Map.has s.nvme.cqs (nvKey k.ctrl cq) then nvCqInvalid
    else if !bit fl 0 then nvInvalidField
    else if u64 k.sqe 24 % x.pageBytes != 0 then nvPrpOffset
    else 0
  if st ≠ 0 then s.nvDone i 0 st 0 (.ok [] false)
  else match s.takeNumber x with
    | none => s.nvDone i 0 nvInternal Status.resource.code (.ok [] false)
    | some (n, s) =>
      let nq : NvQueue := { base := u64 k.sqe 24, size := size, cqid := cq, number := n }
      State.nvDone { s with nvme.sqs := Map.put s.nvme.sqs (nvKey k.ctrl q) nq } i 0 0 0 (.ok [] false)

def execCreateIoSubmissionQueue (i : Nat) (s : State) : Outcome := .next (s.nvRun i 0x01 true fun k x s => s.nvCreateSq i k x)

/-- DELETE_IO_SUBMISSION_QUEUE (R453): its commands are abandoned, with the status that R436 gives
(log entry 107, DEDUCED). -/
def State.nvDeleteSq (s : State) (i : Nat) (k : NvCmd) : State :=
  let q := u16 k.sqe 40
  match Map.get s.nvme.sqs (nvKey k.ctrl q) with
  | none => s.nvDone i 0 nvQid 0 (.ok [] false)
  | some sq =>
    if q = 0 then s.nvDone i 0 nvQid 0 (.ok [] false)
    else
      let mine (y : NvCmd) : Bool := y.ctrl == k.ctrl && y.sq == q
      let l := s.nvme.cmds.filter fun (_, y) => mine y
      let s := s.nvAbandon mine
      let s := l.foldl (fun s (p : Nat × NvCmd) => s.nvPost k.ctrl q p.2.cid 0 nvSqDeleted (.ok [] false)) s
      let s := s.freeNumber sq.number
      State.nvDone { s with nvme.sqs := Map.erase s.nvme.sqs (nvKey k.ctrl q) } i 0 0 0 (.ok [] false)

def execDeleteIoSubmissionQueue (i : Nat) (s : State) : Outcome := .next (s.nvRun i 0x00 true fun k _ s => s.nvDeleteSq i k)

/-- DELETE_IO_COMPLETION_QUEUE. -/
def State.nvDeleteCq (s : State) (i : Nat) (k : NvCmd) : State :=
  let q := u16 k.sqe 40
  match Map.get s.nvme.cqs (nvKey k.ctrl q) with
  | none => s.nvDone i 0 nvQid 0 (.ok [] false)
  | some cq =>
    if q = 0 then s.nvDone i 0 nvQid 0 (.ok [] false)
    else if s.nvme.sqs.any fun p => p.1 / 65536 == k.ctrl && p.1 % 65536 != 0 && p.2.cqid == q then
      s.nvDone i 0 nvCqDeletion 0 (.ok [] false)
    else
      let s := s.freeNumber cq.number
      State.nvDone { s with nvme.cqs := Map.erase s.nvme.cqs (nvKey k.ctrl q) } i 0 0 0 (.ok [] false)

def execDeleteIoCompletionQueue (i : Nat) (s : State) : Outcome := .next (s.nvRun i 0x04 true fun k _ s => s.nvDeleteCq i k)

/-! ## Log pages (R434, R436) -/

/-- An entry of the Error Information log (log entry 110, DEDUCED). -/
def NvErr.bytes (e : NvErr) : Bytes :=
  toLe 8 e.count ++ toLe 2 e.sq ++ toLe 2 e.cid ++ toLe 2 (2 * e.status) ++ toLe 2 0xFFFF ++ toLe 8 e.lba ++ toLe 4 e.nsid ++
  toLe 1 (if e.status = 0 then 0 else 0xC0) ++ zeros 35

/-- An entry of log page C0h (log entry 110, DEDUCED). -/
def NvErr.vendor (e : NvErr) : Bytes :=
  toLe 2 e.sq ++ toLe 2 e.cid ++ toLe 4 e.nsid ++ toLe 1 e.code ++ toLe 1 e.backing ++ zeros 6 ++ toLe 8 e.time ++ zeros 8

/-- The Commands Supported and Effects log: CSUPP, and LBCC for the commands that change blocks. -/
def nvEffects : Bytes :=
  ((List.range 256).flatMap fun o => toLe 4 (b2n (nvAdmin.contains o))) ++
  ((List.range 256).flatMap fun o => toLe 4 (b2n (nvIo.contains o) + 2 * b2n (o == 1 || o == 8 || o == 9))) ++ zeros 2048

/-- A log page's content (log entry 102, PRESUMED). -/
def State.nvLog (s : State) (c : Nat) (x : Ctrl) (lid : Nat) : Option Bytes :=
  match lid with
  | 0x01 => some (padTo 4096 (x.errs.reverse.flatMap NvErr.bytes))
  | 0x02 => some (toLe 1 x.warn ++ padTo 511 ((Config.nvmeSmart c).drop 1))
  | 0x03 => some (toLe 1 1 ++ zeros 7 ++ toLe 8 (match (s.service 4).image with
      | some im => im.version
      | none => 0) ++ zeros 496)
  | 0x05 => some nvEffects
  | 0xC0 => some (padTo 2048 (x.errs.reverse.flatMap NvErr.vendor))
  | _ => none

/-- GET_LOG_PAGE. -/
def State.nvGetLog (s : State) (i : Nat) (k : NvCmd) (x : Ctrl) (lists ans : HostAns) : State :=
  let d10 := u32 k.sqe 40
  let lid := bits d10 7 0
  let n := (bits d10 31 16 + 65536 * bits (u32 k.sqe 44) 15 0 + 1) * 4
  let off := u64 k.sqe 48
  let nsid := u32 k.sqe 4
  match s.nvLog k.ctrl x lid with
  | none => s.nvDone i 0 nvInvalidField 0 (.ok [] false)
  | some d =>
    if lid = 2 ∧ nsid ≠ 0 ∧ nsid ≠ 0xFFFFFFFF then s.nvDone i 0 nvInvalidField 0 (.ok [] false)
    else if off % 4 ≠ 0 ∨ d.length < off ∨ 0x20_0000 < n then s.nvDone i 0 nvInvalidField 0 (.ok [] false)
    else s.nvReply x i k (padTo n (d.drop off)) lists ans

def execGetLogPage (i : Nat) (lists ans : HostAns) (s : State) : Outcome :=
  .next (s.nvRun i 0x02 true fun k x s => s.nvGetLog i k x lists ans)

/-! ## Identify (R434, R438-R440, R445, R450) -/

/-- R438: bytes of data and of metadata of an LBA format. -/
def lbaBytes (f : Nat) : Nat := if f < 2 then 512 else 4096
def lbaMeta (f : Nat) : Nat := if f = 1 ∨ f = 3 then 16 else if f = 4 then 32 else 0

/-- The largest power of two that is at most `n` (1 when `n` is 0). -/
def pow2Floor (n : Nat) : Nat := 2 ^ Nat.log2 (max 1 n)

/-- The largest power of two, up to `m`, that divides `n`. -/
def pow2Div (n m : Nat) : Nat := Nat.gcd n m

/-- R446: LBAs of the bitmap area of a mirrored namespace. -/
def Namespace.bitmapLbas (n : Namespace) : Nat := if n.b.isSome then 0x10_0000 / lbaBytes n.lbaf else 0

/-- R445: LBAs of the atomic range: 256 KiB, or the largest aligned power of two that the backings guarantee. -/
def State.atomLbas (s : State) (n : Namespace) : Nat :=
  let full := 0x4_0000 / lbaBytes n.lbaf
  let of (d : NsSide) : Nat := match Map.get s.nvme.backings d.backing with
    | none => full
    | some b =>
      let m := min full (min (pow2Floor (b.nawupf + 1)) (pow2Floor (b.nabspf + 1)))
      pow2Div (d.start + n.bitmapLbas) m
  match n.b with
  | none => of n.a
  | some d => min (of n.a) (of d)

/-- Identify Namespace (log entry 102, PRESUMED). -/
def State.nvIdNs (s : State) (nsid : Nat) (n : Namespace) : Bytes :=
  let at1 := s.atomLbas n - 1
  let fmt (f rp : Nat) : Bytes := toLe 2 (lbaMeta f) ++ toLe 1 (if f < 2 then 9 else 12) ++ toLe 1 rp
  let h := toLe 8 n.nsze ++ toLe 8 n.nsze ++ toLe 8 n.nsze ++ toLe 1 2 ++ toLe 1 4 ++ toLe 1 n.lbaf ++ toLe 1 2 ++ toLe 1 0x17 ++
    toLe 1 n.pi ++ zeros 3 ++ toLe 1 0x19 ++ toLe 2 0 ++ toLe 2 at1 ++ toLe 2 0 ++ toLe 2 0 ++ toLe 2 0 ++ toLe 2 at1
  let h := padTo 104 h ++ padTo 16 (Config.nguid nsid)
  padTo 4096 (padTo 128 h ++ fmt 0 2 ++ fmt 1 2 ++ fmt 2 0 ++ fmt 3 0 ++ fmt 4 0)

/-- A power state descriptor (R450): maximum power in centiwatts, non-operational, entry and exit latency in µs. -/
def nvPowerState (mp : Nat) (nops : Bool) (en ex : Nat) : Bytes :=
  padTo 32 (toLe 2 mp ++ toLe 1 0 ++ toLe 1 (2 * b2n nops) ++ toLe 4 en ++ toLe 4 ex)

/-- Identify Controller: the fields of R434, over what the controller otherwise reports (log entry 102, PRESUMED). -/
def nvIdCtrl (c : Nat) : Bytes :=
  let b := padTo 4096 (Config.nvmeIdentify c)
  let set (l : List (Nat × Bytes)) (b : Bytes) : Bytes := l.foldl (fun b p => patch b p.1 p.2) b
  set [(0, toLe 2 0x1F9D), (2, toLe 2 0x1F9D), (77, toLe 1 9), (78, toLe 2 c), (80, toLe 4 0x0002_0000),
    (84, toLe 4 2000000), (88, toLe 4 1000000), (256, toLe 2 0), (258, toLe 1 3), (259, toLe 1 3), (260, toLe 1 3),
    (262, toLe 1 63), (263, toLe 1 3), (265, toLe 1 0), (512, toLe 1 0x66), (513, toLe 1 0x44), (516, toLe 4 1024),
    (520, toLe 2 0x000C), (522, toLe 2 0), (525, toLe 1 0), (526, toLe 2 0), (528, toLe 2 0), (536, toLe 4 2),
    (2048, nvPowerState 2500 false 0 0 ++ nvPowerState 1500 false 10 10 ++ nvPowerState 800 false 10 10 ++
      nvPowerState 100 true 10 50)] b

/-- IDENTIFY. -/
def State.nvIdentify (s : State) (i : Nat) (k : NvCmd) (x : Ctrl) (lists ans : HostAns) : State :=
  let nsid := u32 k.sqe 4
  let seen : List (Nat × Namespace) := s.nvme.spaces.filter fun (_, n) => n.ctrls.contains k.ctrl
  let bad := nsid = 0 ∨ 1024 < nsid
  match u8 k.sqe 40 with
  | 0x00 =>
    if bad then s.nvDone i 0 nvInvalidNs 0 (.ok [] false)
    else match Map.get seen nsid with
      | some n => s.nvReply x i k (s.nvIdNs nsid n) lists ans
      | none => s.nvReply x i k (zeros 4096) lists ans
  | 0x01 => s.nvReply x i k (nvIdCtrl k.ctrl) lists ans
  | 0x02 =>
    if 0xFFFFFFFE ≤ nsid then s.nvDone i 0 nvInvalidNs 0 (.ok [] false)
    else s.nvReply x i k (padTo 4096 ((seen.filter fun p => decide (nsid < p.1)).flatMap fun p => toLe 4 p.1)) lists ans
  | 0x03 =>
    if bad ∨ !Map.has seen nsid then s.nvDone i 0 nvInvalidNs 0 (.ok [] false)
    else s.nvReply x i k (padTo 4096 (toLe 1 2 ++ toLe 1 16 ++ zeros 2 ++ padTo 16 (Config.nguid nsid))) lists ans
  | _ => s.nvDone i 0 nvInvalidField 0 (.ok [] false)

def execIdentify (i : Nat) (lists ans : HostAns) (s : State) : Outcome :=
  .next (s.nvRun i 0x06 true fun k x s => s.nvIdentify i k x lists ans)

/-! ## Abort, features and events -/

/-- ABORT (R437): a command that has issued no request to a backing ends with Command Abort Requested. -/
def State.nvAbort (s : State) (i : Nat) (k : NvCmd) : State :=
  let sq := u16 k.sqe 40
  let cid := u16 k.sqe 42
  match s.nvme.cmds.find? fun (j, y) => j != i && y.ctrl == k.ctrl && y.sq == sq && y.cid == cid && !y.issued with
  | some (j, _) => (s.nvDone j 0 nvAbortRequested 0 (.ok [] false)).nvDone i 0 0 0 (.ok [] false)
  | none =>
    match s.theCtrl k.ctrl with
    | some x =>
      if sq = 0 ∧ x.aers.contains cid then
        let s := s.modCtrl k.ctrl fun x => { x with aers := x.aers.filter (· != cid) }
        (s.nvPost k.ctrl 0 cid 0 nvAbortRequested (.ok [] false)).nvDone i 0 0 0 (.ok [] false)
      else s.nvDone i 1 0 0 (.ok [] false)
    | none => s.nvDone i 1 0 0 (.ok [] false)

def execAbort (i : Nat) (s : State) : Outcome := .next (s.nvRun i 0x08 true fun k _ s => s.nvAbort i k)

/-- SET_FEATURES (R432, R434, R450).  A change from PS3 lets the held I/O commands start
(log entry 106, DESIGN CHOICE). -/
def State.nvSetFeature (s : State) (i : Nat) (k : NvCmd) (x : Ctrl) : State :=
  let fid := u8 k.sqe 40
  let v := u32 k.sqe 44
  let ok (s : State) : State := s.nvDone i 0 0 0 (.ok [] false)
  let bad : State := s.nvDone i 0 nvInvalidField 0 (.ok [] false)
  let keep : State := ok (s.modCtrl k.ctrl fun x => { x with feats := Map.put x.feats fid v })
  if bit (u32 k.sqe 40) 31 then s.nvDone i 0 nvNotSaveable 0 (.ok [] false)
  else match fid with
    | 0x01 => if bits v 2 0 = 7 then bad else keep
    | 0x02 => if 3 < bits v 4 0 then bad else ok (s.modCtrl k.ctrl fun x => { x with ps := bits v 4 0 })
    | 0x04 => keep
    | 0x05 => if bit v 16 then bad else keep
    | 0x07 =>
      let n := min (bits v 15 0) (bits v 31 16) + 1
      if bits v 15 0 = 65535 ∨ bits v 31 16 = 65535 then bad
      else if ioQueuesOf s.nvme.sqs k.ctrl + ioQueuesOf s.nvme.cqs k.ctrl ≠ 0 then s.nvDone i 0 nvSequence 0 (.ok [] false)
      else
        let free := 8192 - max (ioQueues s.nvme.sqs) (ioQueues s.nvme.cqs)
        let g := min n (min 512 free)
        if g = 0 then s.nvDone i 0 nvInternal Status.resource.code (.ok [] false)
        else (s.modCtrl k.ctrl fun x => { x with grant := some g }).nvDone i ((g - 1) * 65537) 0 0 (.ok [] false)
    | 0x08 => keep
    | 0x09 => ok (s.modCtrl k.ctrl fun x => { x with ivs := Map.put x.ivs (bits v 15 0) (bits v 16 16) })
    | 0x0A => keep
    | 0x0B => keep
    | _ => bad

def execSetFeatures (i : Nat) (s : State) : Outcome := .next (s.nvRun i 0x09 true fun k x s => s.nvSetFeature i k x)

/-- GET_FEATURES. -/
def State.nvGetFeature (s : State) (i : Nat) (k : NvCmd) (x : Ctrl) : State :=
  let fid := u8 k.sqe 40
  let held := (Map.get x.feats fid).getD 0
  let dw := match fid with
    | 0x02 => some x.ps
    | 0x07 => some ((x.grant.getD 512 - 1) * 65537)
    | 0x09 => some (bits (u32 k.sqe 44) 15 0 + 65536 * (Map.get x.ivs (bits (u32 k.sqe 44) 15 0)).getD 0)
    | 0x0B => some ((Map.get x.feats 0x0B).getD 0x1FF)
    | _ => if [0x01, 0x04, 0x05, 0x08, 0x0A].contains fid then some held else none
  match dw with
  | some v => s.nvDone i v 0 0 (.ok [] false)
  | none => s.nvDone i 0 nvInvalidField 0 (.ok [] false)

def execGetFeatures (i : Nat) (s : State) : Outcome := .next (s.nvRun i 0x0A true fun k x s => s.nvGetFeature i k x)

/-- ASYNCHRONOUS_EVENT_REQUEST (R434: AERL 3, so four are held). -/
def State.nvAer (s : State) (i : Nat) (k : NvCmd) (x : Ctrl) : State :=
  if 4 ≤ x.aers.length then s.nvDone i 0 nvAerLimit 0 (.ok [] false)
  else match x.events with
    | e :: t => (s.modCtrl k.ctrl fun x => { x with events := t }).nvDone i e 0 0 (.ok [] false)
    | [] =>
      let s : State := { s with nvme.cmds := Map.erase s.nvme.cmds i }
      s.modCtrl k.ctrl fun x => { x with aers := x.aers ++ [k.cid] }

def execAsynchronousEventRequest (i : Nat) (s : State) : Outcome := .next (s.nvRun i 0x0C true fun k x s => s.nvAer i k x)

end Sys2Proof.Machine
end

