-- ==== Sys2Proof/Machine/NvIo.lean ====
section
/-! DEFINITION. Chapter 13: the I/O commands, backings, mirrors, protection information and encryption at rest
(R438-R452). -/

namespace Sys2Proof.Machine
open Sys2Proof

/-! ## Protection information (R439, R440) -/

/-- One bit of the CRC of the 16-bit guard (T10 DIF, polynomial 0x8BB7). -/
def guardStep (c : Nat) : Nat := if 32768 ≤ c then ((2 * c) % 65536) ^^^ 0x8BB7 else 2 * c

/-- The 16-bit guard of a byte sequence (log entry 102, PRESUMED). -/
def guard16 (d : Bytes) : Nat :=
  d.foldl (fun c b => let x := c ^^^ (b.toNat * 256); guardStep (guardStep (guardStep (guardStep (guardStep (guardStep (guardStep (guardStep x)))))))) 0

/-- The bytes that the guard covers: an encrypted block's plaintext, otherwise the block and the metadata before the PI. -/
def Namespace.guarded (n : Namespace) (d m : Bytes) : Bytes := if n.encrypt then d else d ++ m.take (m.length - 8)

/-- The metadata with its protection information generated (PRACT). -/
def Namespace.makePi (n : Namespace) (d m : Bytes) (app ref : Nat) : Bytes :=
  m.take (m.length - 8) ++ toBe 2 (guard16 (n.guarded d m)) ++ toBe 2 app ++ toBe 4 ref

/-- The check of one block's protection information: an NVMe status, 0 when it passes.  `prchk` is [2] guard,
[1] application tag, [0] reference tag. -/
def Namespace.checkPi (n : Namespace) (d m : Bytes) (prchk app mask ref : Nat) (read : Bool) : Nat :=
  let p := m.drop (m.length - 8)
  let g := fldBe p 0 2
  let a := fldBe p 2 2
  let r := fldBe p 4 4
  if read && a == 0xFFFF && (n.pi != 3 || r == 0xFFFFFFFF) then 0
  else if bit prchk 2 && g != guard16 (n.guarded d m) then nvGuard
  else if bit prchk 1 && (a &&& mask) != (app &&& mask) then nvAppTag
  else if bit prchk 0 && n.pi != 3 && r != ref then nvRefTag
  else 0

/-- The fields of an I/O command: LBA, blocks, PRACT, PRCHK, reference tag, application tag and mask. -/
def ioLba (e : Bytes) : Nat := u64 e 40
def ioNlb (e : Bytes) : Nat := u16 e 48 + 1
def ioPract (e : Bytes) : Bool := bit (u32 e 48) 29
def ioPrchk (e : Bytes) : Nat := bits (u32 e 48) 28 26
def ioRef (e : Bytes) (i : Nat) (n : Namespace) : Nat := if n.pi = 3 then u32 e 56 else (u32 e 56 + i) % 2 ^ 32

/-- The namespace that a command names, attached to its controller. -/
def State.ioSpace (s : State) (k : NvCmd) : Option Namespace :=
  match s.space (u32 k.sqe 4) with
  | some n => if n.ctrls.contains k.ctrl then some n else none
  | none => none

/-- The checks of an I/O command's range and PI fields; 0 when they pass. -/
def ioCheck (n : Namespace) (e : Bytes) (moves : Bool) : Nat :=
  if n.nsze < ioLba e + ioNlb e then nvLbaRange
  else if moves && decide (0x20_0000 < ioNlb e * lbaBytes n.lbaf) then nvInvalidField
  else if n.pi = 3 && bit (ioPrchk e) 0 then nvPiInvalid
  else if n.pi = 1 && bit (ioPrchk e) 0 && u32 e 56 != ioLba e % 2 ^ 32 then nvPiInvalid
  else if moves && lbaMeta n.lbaf != 0 && u64 e 16 % 4 != 0 then nvInvalidField
  else 0

/-! ## Requests to backings (R441-R444, R446) -/

/-- LBAs of a 64 MiB unit, and the units of a range (R446). -/
def Namespace.unitLbas (n : Namespace) : Nat := 0x400_0000 / lbaBytes n.lbaf
def Namespace.unitsOf (n : Namespace) (lba k : Nat) : List Nat :=
  let u := n.unitLbas
  if k = 0 then [] else (List.range ((lba + k - 1) / u - lba / u + 1)).map (lba / u + ·)

/-- A side of a namespace. -/
def Namespace.side (n : Namespace) (b : Bool) : Option NsSide := if b then n.b else some n.a
def Namespace.setSide (n : Namespace) (b : Bool) (d : NsSide) : Namespace := if b then { n with b := some d } else { n with a := d }
def Namespace.sides (n : Namespace) : List (Bool × NsSide) := (false, n.a) :: (match n.b with
  | some d => [(true, d)]
  | none => [])

/-- The sides that writes go to: those in service, and the one being resynchronised (R449). -/
def Namespace.targets (n : Namespace) : List (Bool × NsSide) :=
  n.sides.filter fun p => !p.2.failed || (match n.resync with
    | some (b, _) => b == p.1
    | none => false)

/-- The side that reads go to (R447, R449). -/
def Namespace.reader (n : Namespace) : Option (Bool × NsSide) := n.sides.find? fun p => !p.2.failed

/-- The block of a side's bitmap that holds a unit's bit, and its content (R446). -/
def bitmapBlock (f : Nat) (l : List Nat) (u : Nat) : Nat × Bytes :=
  let bytes := lbaBytes f
  let blk := u / 8 / bytes
  let byte (i : Nat) : Byte := BitVec.ofNat 8 ((List.range 8).foldl (fun a j =>
    a + b2n (l.contains (8 * (blk * bytes + i) + j)) * 2 ^ j) 0)
  (blk, (List.range bytes).map byte ++ zeros (lbaMeta f))

/-- The NVMe opcode of a request. -/
def NvKind.opc : NvKind → Nat
  | .read => 2
  | .zero => 8
  | .dealloc => 9
  | _ => 1

/-- KIND and PATH of a backing (R455). -/
def Backing.kind (b : Backing) : Nat := bits (u8 b.hdr 0) 1 0
def Backing.path (b : Backing) : Nat := bits (u32 b.hdr 4) 23 0

/-- Send a request to its backing while the path is up; otherwise it waits for reconnection (R443).  To a YEKEL backing
the capsule goes first (R442) (log entry 104, DEDUCED). -/
def State.emitReq (s : State) (id : Nat) (r : NvReq) : State :=
  match Map.get s.nvme.backings r.backing, s.space r.ns with
  | some b, some n =>
    if b.lostAt.isSome || r.held then s
    else match n.side r.sideB with
      | none => s
      | some d =>
        let bm := bitmapBlock n.lbaf (if r.kind == .setBit then setIns d.bits r.slba else setDel d.bits r.slba) r.slba
        let isBit := r.kind == .setBit || r.kind == .clearBit
        let kind := if r.kind == .dealloc && !b.zeroes then NvKind.zero else r.kind
        let lba := if isBit then d.start + bm.1 else d.start + n.bitmapLbas + r.slba
        let data := if isBit then [bm.2] else r.data
        let nlb := if isBit then 1 else r.nlb
        let fua := kind != .read && kind != .dealloc
        let s := if b.kind = 3 then
            let (v, s) := s.draw 64
            let sqe := toLe 1 kind.opc ++ toLe 1 0x40 ++ toLe 2 (id % 65536) ++ toLe 4 (u32 b.hdr 8) ++ zeros 16 ++ toLe 8 v ++
              toLe 8 (nlb * (lbaBytes n.lbaf + lbaMeta n.lbaf) + 0x40 * 2 ^ 56) ++ toLe 8 lba ++
              toLe 4 (nlb - 1 + 2 ^ 30 * b2n fua) ++ zeros 12
            s.emit (.capsule b.path (u32 b.hdr 16) (u16 b.hdr 20) (64 * (id % 65536 % max 1 (bits (u16 b.hdr 14) 10 0)))
              0x4E56_0001 sqe)
          else s
        s.emit (.backing r.backing kind.opc id (u32 b.hdr 8) lba nlb fua data)
  | _, _ => s

/-- Issue a request. -/
def State.sendReq (s : State) (r : NvReq) : State :=
  let id := s.nvme.nextReq
  let tcp := match Map.get s.nvme.backings r.backing with
    | some b => b.kind == 1
    | none => false
  let r := { r with held := tcp && s.heldNew 4 }
  State.emitReq { s with nvme.reqs := Map.put s.nvme.reqs id r, nvme.nextReq := id + 1 } id r

/-- Whether a request writes blocks of a namespace. -/
def NvReq.writes (r : NvReq) : Bool := r.kind == .write || r.kind == .zero || r.kind == .dealloc || r.kind == .repair

/-- R447: whether a write of another command, or of none, that overlaps a range's aligned 256 KiB ranges is outstanding. -/
def State.overlapped (s : State) (ns : Nat) (n : Namespace) (i slba nlb : Nat) : Bool :=
  let w := 0x4_0000 / lbaBytes n.lbaf
  s.nvme.reqs.any fun (_, r) => r.ns == ns && r.writes && r.cmd != some i &&
    decide (r.slba / w ≤ (slba + nlb - 1) / w) && decide (slba / w ≤ (r.slba + r.nlb - 1) / w)

/-- R446: ask for the intent bits of units that are clear; true when all of them stand set. -/
def State.intentBits (s : State) (ns : Nat) (n : Namespace) (l : List Nat) : State × Bool :=
  let ready (u : Nat) : Bool := !n.waiting.contains u && !n.clearing.contains u && n.targets.all fun p => p.2.bits.contains u
  let ask := l.filter fun u => !ready u && !n.waiting.contains u && !n.clearing.contains u
  let s := s.modSpace ns fun n => { n with waiting := n.waiting ++ ask }
  let s := ask.foldl (fun s u => n.targets.foldl (fun s p =>
    s.sendReq { backing := p.2.backing, ns := ns, sideB := p.1, kind := .setBit, slba := u, nlb := 1 }) s) s
  (s, l.all ready)

/-- Change piece `j` of a command. -/
def State.modPiece (s : State) (i j : Nat) (g : NvPiece → NvPiece) : State :=
  s.modCmd i fun k => { k with pieces := k.pieces.zipIdx.map fun (p, x) => if x = j then g p else p }

/-- Send one piece of a write when it may go. -/
def State.trySend (s : State) (i j : Nat) (k : NvCmd) (p : NvPiece) : State :=
  match s.space k.ns with
  | none => s
  | some n =>
    let ts := n.targets
    let go (s : State) : State :=
      let s := s.modPiece i j fun p => { p with sent := true, left := ts.length }
      let s := s.modCmd i fun k => { k with issued := true }
      ts.foldl (fun s t => s.sendReq
        { backing := t.2.backing, ns := k.ns, sideB := t.1, kind := k.kind, slba := p.slba, nlb := p.nlb, data := p.data,
          cmd := some i, piece := j }) s
    if ts = [] then
      (s.modPiece i j fun p => { p with sent := true, left := 0 }).modCmd i fun k =>
        { k with status := nvOf n.lastFail true, code := n.lastFail.code }
    else if n.b.isNone then go s
    else
      match s.intentBits k.ns n (n.unitsOf p.slba p.nlb) with
      | (s, false) => s
      | (s, true) => if s.overlapped k.ns n i p.slba p.nlb then s else go s

/-- A write completes once every piece has been sent and has completed at every side (R444). -/
def State.settleWrite (s : State) (i : Nat) : State :=
  match s.nvCmd i with
  | none => s
  | some k =>
    if k.started && k.kind != .read && k.pieces.all fun p => p.sent && p.left == 0 then
      if u8 k.sqe 0 = 0 ∧ k.sq ≠ 0 then s else s.nvDone i 0 k.status k.code (.ok [] false)
    else s

/-- Send what may be sent, in fetch order. -/
def State.nvPump (s : State) : State :=
  let ids := (s.nvme.cmds.filter fun (_, k) => k.started && k.kind != .read && k.pieces.any fun p => !p.sent).map Prod.fst
  ids.foldl (fun s i =>
    match s.nvCmd i with
    | none => s
    | some k =>
      let s := (k.pieces.zipIdx).foldl (fun s (pj : NvPiece × Nat) =>
        if pj.1.sent then s else s.trySend i pj.2 k pj.1) s
      s.settleWrite i) s

/-! ## Writes (R444, R445, R451, R452) -/

/-- R445: cut a range at the boundaries of `w` LBAs. -/
def cutRange (w : Nat) : Nat → Nat → Nat → List (Nat × Nat)
  | 0, _, _ => []
  | fuel + 1, lba, n =>
    if n = 0 then [] else
    let m := min n (w - lba % w)
    (lba, m) :: cutRange w fuel (lba + m) (n - m)

/-- The committed LIMIT of a namespace's counter (R452). -/
def State.nsLimit (s : State) (ns : Nat) : Nat :=
  match s.jGet 0x0610 ns with
  | some b => u64 b 0
  | none => 0

/-- R452: ask for a record with LIMIT + 2^32 unless one is on its way. -/
def State.renewLimit (s : State) (ns : Nat) : State :=
  if s.fwm.jpend.any fun w => w.type == 0x0610 && w.key == ns then s
  else s.journal 0x0610 ns false (toLe 8 (s.nsLimit ns + 2 ^ 32)) none

/-- R451: a block encrypted: data with the tag, counter and PI bytes as stored (log entry 111, DESIGN CHOICE). -/
def sealBlock (key : Bytes) (salt ctr nsid lba : Nat) (d m : Bytes) : Bytes :=
  let pi := slice m 24 8
  let c := Config.aesGcmSeal key (toLe 4 salt ++ toLe 8 ctr) (toLe 4 nsid ++ toLe 8 lba ++ pi) d
  padTo 4096 c ++ padTo 16 (c.drop 4096) ++ toLe 8 ctr ++ pi

/-- R451, R452, R440: a stored block opened: data and metadata, none for INTEGRITY (log entry 111, DESIGN CHOICE). -/
def openBlock (key : Bytes) (n : Namespace) (nsid lba : Nat) (b : Bytes) : Option (Bytes × Bytes) :=
  let d := b.take 4096
  let m := padTo 32 (b.drop 4096)
  let ctr := fld m 16 8
  if b.all (· == 0) then
    some (zeros 4096, zeros 24 ++ (if n.pi = 0 then zeros 8 else zeros 2 ++ List.replicate 6 0xFF))
  else if ctr = 0 ∨ n.counter ≤ ctr then none
  else match Config.aesGcmOpen key (toLe 4 n.salt ++ toLe 8 ctr) (toLe 4 nsid ++ toLe 8 lba ++ slice m 24 8) (d ++ m.take 16) with
    | none => none
    | some p => some (p, m)

/-- Start a command that writes: its pieces are stored and what may go is sent. -/
def State.startWrite (s : State) (i ns : Nat) (kind : NvKind) (ps : List NvPiece) : State :=
  let s := s.modCmd i fun k => { k with started := true, ns := ns, kind := kind, pieces := ps }
  let s := ps.foldl (fun s p => s.modSpace ns fun n =>
    { n with lastWrite := if n.b.isSome then (n.unitsOf p.slba p.nlb).foldl (fun m u => Map.put m u s.now) n.lastWrite else [] }) s
  if ps = [] then s.nvDone i 0 0 0 (.ok [] false) else s.nvPump

/-- The blocks of a write with their metadata, after PRACT or the checks; an NVMe status where one fails. -/
def ioBlocks (n : Namespace) (e : Bytes) (data mdat : Bytes) : Except Nat (List (Bytes × Bytes)) :=
  let db := lbaBytes n.lbaf
  let mb := lbaMeta n.lbaf
  let blk (i : Nat) : Except Nat (Bytes × Bytes) :=
    let d := slice data (i * db) db
    let m := slice mdat (i * mb) mb
    if n.pi = 0 then .ok (d, m)
    else if ioPract e then .ok (d, n.makePi d m (u16 e 60) (ioRef e i n))
    else
      let st := n.checkPi d m (ioPrchk e) (u16 e 60) (u16 e 62) (ioRef e i n) false
      if st = 0 then .ok (d, m) else .error st
  (List.range (ioNlb e)).mapM blk

/-- NVME_WRITE: the data is staged, protected, encrypted in full, cut and sent. -/
def State.nvmeWrite (s : State) (i : Nat) (k : NvCmd) (x : Ctrl) (lists ans : HostAns) : State :=
  let nsid := u32 k.sqe 4
  match s.ioSpace k with
  | none => s.nvDone i 0 nvInvalidNs 0 (.ok [] false)
  | some n =>
    let nlb := ioNlb k.sqe
    let st := ioCheck n k.sqe true
    let bytes := nlb * lbaBytes n.lbaf
    let full := n.encrypt && decide (s.nsLimit nsid < n.counter + nlb)
    if st ≠ 0 then s.nvDone i 0 st 0 (.ok [] false)
    else if full then s.renewLimit nsid
    else match s.dataPtr x k bytes lists with
      | (s, .error e) => s.nvDone i 0 e 0 (.ok [] false)
      | (s, .ok l) =>
        let (s, r) := s.gather x ans 0 l
        let (s, m) := if lbaMeta n.lbaf = 0 then (s, ({} : AccRes))
          else s.nvRead x (u64 k.sqe 16) (nlb * lbaMeta n.lbaf) bytes ans
        if r.status != .success then s.nvAccess x i r
        else if m.status != .success then s.nvAccess x i m
        else if r.poisoned || m.poisoned then s.nvFail i .poisoned true
        else if r.medium || m.medium then s.nvFail i .mediumError true
        else match ioBlocks n k.sqe r.data m.data with
          | .error st => s.nvDone i 0 st 0 (.ok [] false)
          | .ok bl =>
            let lba := ioLba k.sqe
            match (if n.encrypt then s.keyBytes n.key else some []) with
            | none => s.nvDone i 0 nvInternal Status.keyFailed.code (.ok [] false)
            | some key =>
              let st := if n.encrypt then
                  bl.zipIdx.map fun (b, j) => sealBlock key n.salt (n.counter + j) nsid (lba + j) b.1 b.2
                else bl.map fun b => b.1 ++ b.2
              let s := if n.encrypt then
                  let s := s.modSpace nsid fun n => { n with counter := n.counter + nlb }
                  if s.nsLimit nsid ≤ n.counter + nlb + 2 ^ 31 then s.renewLimit nsid else s
                else s
              let cut := cutRange (s.atomLbas n) nlb lba nlb
              s.startWrite i nsid .write (cut.map fun (a, m) => { slba := a, nlb := m, data := (st.drop (a - lba)).take m })

def execNvmeWrite (i : Nat) (lists ans : HostAns) (s : State) : Outcome :=
  .next (s.nvRun i 0x01 false fun k x s => s.nvmeWrite i k x lists ans)

/-- WRITE_ZEROES (R440, R444). -/
def State.writeZeroes (s : State) (i : Nat) (k : NvCmd) : State :=
  match s.ioSpace k with
  | none => s.nvDone i 0 nvInvalidNs 0 (.ok [] false)
  | some n =>
    let st := ioCheck n k.sqe false
    if st ≠ 0 then s.nvDone i 0 st 0 (.ok [] false)
    else
      let cut := cutRange (s.atomLbas n) (ioNlb k.sqe) (ioLba k.sqe) (ioNlb k.sqe)
      s.startWrite i (u32 k.sqe 4) .zero (cut.map fun (a, m) => { slba := a, nlb := m })

def execWriteZeroes (i : Nat) (s : State) : Outcome := .next (s.nvRun i 0x08 false fun k _ s => s.writeZeroes i k)

/-- DATASET_MANAGEMENT (R433, R440): Deallocate; without it the command has no effect. -/
def State.dataset (s : State) (i : Nat) (k : NvCmd) (x : Ctrl) (lists ans : HostAns) : State :=
  match s.ioSpace k with
  | none => s.nvDone i 0 nvInvalidNs 0 (.ok [] false)
  | some n =>
    let nr := u8 k.sqe 40 + 1
    match s.dataPtr x k (16 * nr) lists with
    | (s, .error e) => s.nvDone i 0 e 0 (.ok [] false)
    | (s, .ok l) =>
      let (s, r) := s.gather x ans 0 l
      if r.status != .success then s.nvAccess x i r
      else if r.poisoned then s.nvFail i .poisoned true
      else
        let rs := (List.range nr).map fun j => (fld r.data (16 * j + 8) 8, fld r.data (16 * j + 4) 4)
        if rs.any fun p => decide (n.nsze < p.1 + p.2) then s.nvDone i 0 nvLbaRange 0 (.ok [] false)
        else if !bit (u32 k.sqe 44) 2 then s.nvDone i 0 0 0 (.ok [] false)
        else s.startWrite i (u32 k.sqe 4) .dealloc ((rs.filter fun p => p.2 != 0).map fun p => { slba := p.1, nlb := p.2 })

def execDatasetManagement (i : Nat) (lists ans : HostAns) (s : State) : Outcome :=
  .next (s.nvRun i 0x09 false fun k x s => s.dataset i k x lists ans)

/-- FLUSH (R444): completes when every write of the namespace fetched before it has completed. -/
def State.nvFlushCmd (s : State) (i : Nat) (k : NvCmd) : State :=
  let nsid := u32 k.sqe 4
  if nsid ≠ 0xFFFFFFFF ∧ (s.ioSpace k).isNone then s.nvDone i 0 nvInvalidNs 0 (.ok [] false)
  else
    let mine (y : NvCmd) : Bool := y.sq != 0 && (u8 y.sqe 0 == 1 || u8 y.sqe 0 == 8) &&
      (if nsid = 0xFFFFFFFF then (match s.space (u32 y.sqe 4) with
        | some n => n.ctrls.contains k.ctrl
        | none => false) else u32 y.sqe 4 == nsid)
    let l := (s.nvme.cmds.filter fun (j, y) => decide (j < i) && mine y).map Prod.fst
    if l = [] then s.nvDone i 0 0 0 (.ok [] false)
    else s.modCmd i fun k => { k with started := true, kind := .write, wait := l }

def execFlush (i : Nat) (s : State) : Outcome := .next (s.nvRun i 0x00 false fun k _ s => s.nvFlushCmd i k)

/-! ## Reads (R447, R451, R452) -/

/-- Send a read to the side in service; with none, it fails. -/
def State.sendRead (s : State) (i : Nat) (k : NvCmd) (p : NvPiece) : State :=
  match s.space k.ns with
  | none => s
  | some n =>
    match n.reader with
    | none => s.nvFail i n.lastFail false
    | some (b, d) => s.sendReq { backing := d.backing, ns := k.ns, sideB := b, kind := .read, slba := p.slba, nlb := p.nlb, cmd := some i }

/-- NVME_READ. -/
def State.nvmeRead (s : State) (i : Nat) (k : NvCmd) : State :=
  match s.ioSpace k with
  | none => s.nvDone i 0 nvInvalidNs 0 (.ok [] false)
  | some n =>
    let st := ioCheck n k.sqe true
    if st ≠ 0 then s.nvDone i 0 st 0 (.ok [] false)
    else
      let p : NvPiece := { slba := ioLba k.sqe, nlb := ioNlb k.sqe, sent := true }
      let s := s.modCmd i fun k => { k with started := true, issued := true, kind := .read, ns := u32 k.sqe 4, pieces := [p] }
      s.sendRead i { k with ns := u32 k.sqe 4 } p

def execNvmeRead (i : Nat) (s : State) : Outcome := .next (s.nvRun i 0x02 false fun k _ s => s.nvmeRead i k)

/-- The blocks that came back, as the host sees them; an NVMe status and R11 code where one fails. -/
def State.readBlocks (s : State) (n : Namespace) (nsid : Nat) (e : Bytes) (bl : List Bytes) : Except (Nat × Nat) (List (Bytes × Bytes)) :=
  let db := lbaBytes n.lbaf
  let mb := lbaMeta n.lbaf
  let key := if n.encrypt then s.keyBytes n.key else some []
  let one (i : Nat) : Except (Nat × Nat) (Bytes × Bytes) :=
    let b := padTo (db + mb) (bl.getD i [])
    let o := match key with
      | none => Except.error (nvInternal, Status.keyFailed.code)
      | some key =>
        if n.encrypt then match openBlock key n nsid (ioLba e + i) b with
          | some p => .ok p
          | none => .error (nvOf .integrity false, Status.integrity.code)
        else .ok (b.take db, b.drop db)
    match o with
    | .error x => .error x
    | .ok (d, m) =>
      let st := if n.pi = 0 then 0 else n.checkPi d m (ioPrchk e) (u16 e 60) (u16 e 62) (ioRef e i n) true
      if st = 0 then .ok (d, m) else .error (st, Status.integrity.code)
  (List.range (ioNlb e)).mapM one

/-- Deliver a read's data to the host and complete it; one whose page was requested is performed again once the page
is there (R206, R207) (log entry 105, DEDUCED). -/
def State.finishRead (s : State) (i : Nat) (bl : List Bytes) (lists ans : HostAns) : State :=
  match s.nvCmd i with
  | none => s
  | some k =>
    match s.theCtrl k.ctrl, s.space k.ns with
    | some x, some n =>
      match s.readBlocks n k.ns k.sqe bl with
      | .error (st, c) => s.nvDone i 0 st c (.ok [] false)
      | .ok l =>
        let d := l.flatMap Prod.fst
        match s.dataPtr x k d.length lists with
        | (s, .error e) => s.nvDone i 0 e 0 (.ok [] false)
        | (s, .ok ps) =>
          let (s, r) := s.scatter x ans d ps
          let (s, m) := if lbaMeta n.lbaf = 0 then (s, ({} : AccRes)) else s.nvWrite x (u64 k.sqe 16) (l.flatMap Prod.snd) ans
          let bad := if r.status != .success then r else m
          if bad.status != .success then
            match s.nvPage x i bad with
            | some s => s.modCmd i fun k => { k with started := false, pieces := [] }
            | none => s.nvFail i bad.status false
          else s.nvDone i 0 0 0 (.ok [] false)
    | _, _ => s

/-! ## Mirrors (R446-R449) -/

/-- Post a storage event to PF2's base spoke in each hierarchy to which a namespace is attached. -/
def State.storageEvent (s : State) (n : Namespace) (code a b : Nat) : State :=
  [0, 1].foldl (fun s h =>
    let here := n.ctrls.any fun c => match s.theCtrl c with
      | some x => x.fn / 4 == h
      | none => false
    match here, (s.fn (4 * h + 2)).baseSpoke with
    | true, some k => s.postEvent k code a b .success 0x3FFFF
    | _, _ => s) s

/-- A side's share of a piece has completed. -/
def State.pieceDone (s : State) (i j : Nat) (st : Status) (back : Nat) : State :=
  let s := s.modPiece i j fun p => { p with left := p.left - 1, good := p.good + b2n (st == .success) }
  match s.nvCmd i with
  | none => s
  | some k =>
    match k.pieces[j]? with
    | none => s
    | some p =>
      let s := if p.left = 0 ∧ p.good = 0 ∧ k.status = 0 then
          s.modCmd i fun k => { k with status := nvOf st true, code := st.code, back := back }
        else s
      s.settleWrite i

/-- R448: a side is marked FAILED: what it has outstanding completes on the other side; SMART warning bit 2 and
MIRROR_DEGRADED. -/
def State.failSide (s : State) (ns : Nat) (sideB : Bool) (st : Status) : State :=
  match s.space ns with
  | none => s
  | some n =>
    match n.side sideB, n.b with
    | some d, some _ =>
      let target := match n.resync with
        | some (b, _) => b == sideB
        | none => false
      if d.failed && !target then s
      else
        let n := { n.setSide sideB { d with failed := true } with
          resync := (if target then none else n.resync), lastFail := st }
        let gone := s.nvme.reqs.filter fun (_, r) => r.ns == ns && r.sideB == sideB
        let s : State := { s with nvme.reqs := s.nvme.reqs.filter fun (_, r) => !(r.ns == ns && r.sideB == sideB) }
        let left (k : NvKind) (u : Nat) : Bool := s.nvme.reqs.any fun (_, r) => r.ns == ns && r.kind == k && r.slba == u
        let n := { n with waiting := n.waiting.filter (left .setBit), clearing := n.clearing.filter (left .clearBit) }
        let s := s.setSpace ns n
        let s := n.ctrls.foldl (fun s c =>
          (s.modCtrl c fun x => { x with warn := x.warn ||| 4 }).nvEvent c 1 0 2 2) s
        let s := s.storageEvent n 0x0601 (ns + 65536 * b2n sideB) d.backing
        let s := gone.foldl (fun s (p : Nat × NvReq) =>
          match p.2.cmd with
          | none => s
          | some i =>
            if p.2.kind == .read then
              match s.nvCmd i with
              | some k => match k.pieces[0]? with
                | some q => s.sendRead i k q
                | none => s
              | none => s
            else if p.2.writes then s.pieceDone i p.2.piece st d.backing
            else s) s
        s.nvPump
    | _, _ => s

/-- The completion of a bitmap write: the bit stands as written; the units that wait go on. -/
def State.bitDone (s : State) (r : NvReq) (st : Status) : State :=
  let s := if st == .success then
      s.modSpace r.ns fun n => match n.side r.sideB with
        | some d => n.setSide r.sideB { d with bits := if r.kind == .setBit then setIns d.bits r.slba else setDel d.bits r.slba }
        | none => n
    else s
  let left := s.nvme.reqs.any fun (_, x) => x.ns == r.ns && x.kind == r.kind && x.slba == r.slba
  let s := if left then s else s.modSpace r.ns fun n =>
    if r.kind == .setBit then { n with waiting := n.waiting.filter (· != r.slba) }
    else { n with clearing := n.clearing.filter (· != r.slba) }
  let s := if st == .success then s else s.failSide r.ns r.sideB st
  let s := s.nvPump
  match s.space r.ns with
  | some n => n.ctrls.foldl State.shutdownCheck s
  | none => s

/-- The completion of a read at a side: a medium error is read from the other side in service (R447). -/
def State.readDone (s : State) (i : Nat) (r : NvReq) (st : Status) (data : List Bytes) (lists ans : HostAns) : State :=
  match s.nvCmd i, s.space r.ns with
  | some k, some n =>
    let other := n.side (!r.sideB)
    let up := match other with
      | some d => !d.failed
      | none => false
    let retried := k.pieces.any NvPiece.retried
    match other with
    | some d =>
      if st == .mediumError && up && !retried then
        let s := s.modPiece i 0 fun p => { p with retried := true }
        s.sendReq { r with backing := d.backing, sideB := !r.sideB }
      else if st == .success then
        let s := if retried then
            s.sendReq { r with backing := d.backing, sideB := !r.sideB, kind := .repair, data := data, cmd := none }
          else s
        s.finishRead i data lists ans
      else (s.modCmd i fun k => { k with back := r.backing }).nvFail i st false
    | none =>
      if st == .success then s.finishRead i data lists ans
      else (s.modCmd i fun k => { k with back := r.backing }).nvFail i st false
  | _, _ => s

/-- BACKING_COMPLETION (R444, R446-R448): a request completes at its backing (log entry 104, DEDUCED). -/
def State.backingCompletion (s : State) (id : Nat) (st : Status) (data : List Bytes) (lists ans : HostAns) : State :=
  match Map.get s.nvme.reqs id with
  | none => s
  | some r =>
    let down := match Map.get s.nvme.backings r.backing with
      | some b => b.lostAt.isSome
      | none => true
    if down then s
    else
      let s : State := { s with nvme.reqs := Map.erase s.nvme.reqs id }
      if r.kind == .setBit || r.kind == .clearBit then s.bitDone r st
      else if r.kind == .repair then (if st == .success then s else s.failSide r.ns r.sideB st).nvPump
      else match r.cmd with
        | none => (if r.writes && st != .success then s.failSide r.ns r.sideB st else s).nvPump
        | some i =>
          if r.kind == .read then s.readDone i r st data lists ans
          else
            let s := s.pieceDone i r.piece st r.backing
            (if st == .success then s else s.failSide r.ns r.sideB st).nvPump

def execBackingCompletion (id : Nat) (st : Status) (data : List Bytes) (lists ans : HostAns) (s : State) : Outcome :=
  .next (s.backingCompletion id st data lists ans)

/-- R443: the path to a backing is lost. -/
def State.pathLoss (s : State) (b : Nat) : State :=
  { s with nvme.backings := Map.modify s.nvme.backings b fun x => { x with lostAt := some (x.lostAt.getD s.now) } }

def execBackingPathLoss (b : Nat) (s : State) : Outcome := .next (s.pathLoss b)

/-- BACKING_RECONNECT (R443): the requests not answered are issued again, as the same commands with the same data. -/
def State.reconnect (s : State) (b : Nat) : State :=
  match Map.get s.nvme.backings b with
  | none => s
  | some x =>
    if x.lostAt.isNone then s
    else
      let s : State := { s with nvme.backings := Map.put s.nvme.backings b { x with lostAt := none } }
      (s.nvme.reqs.filter fun (_, r) => r.backing == b).foldl (fun s p => s.emitReq p.1 p.2) s

def execBackingReconnect (b : Nat) (s : State) : Outcome := .next (s.reconnect b)

/-- LOSS_TMO of a backing in nanoseconds. -/
def Backing.lossNs (x : Backing) : Nat := bits (u16 x.hdr 2) 9 0 * 1_000_000_000

/-- LOSS_TMO_EXPIRE (R443): the commands that wait on the backing complete TIMEOUT. -/
def State.lossExpire (s : State) (b : Nat) : State :=
  match Map.get s.nvme.backings b with
  | none => s
  | some x =>
    match x.lostAt with
    | none => s
    | some t =>
      let s : State := { s with now := max s.now (t + x.lossNs) }
      let l := s.nvme.reqs.filter fun (_, r) => r.backing == b
      let s : State := { s with nvme.reqs := s.nvme.reqs.filter fun (_, r) => r.backing != b }
      l.foldl (fun s (p : Nat × NvReq) =>
        match p.2.cmd with
        | none => s
        | some i =>
          let s := s.modCmd i fun k => { k with back := b }
          if p.2.kind == .read then s.nvFail i .timeout false else s.pieceDone i p.2.piece .timeout b) s

def execLossTmoExpire (b : Nat) (s : State) : Outcome := .next (s.lossExpire b)

/-- MIRROR_PATH_TIMEOUT (R448): a side's path has been lost for 2 s. -/
def State.mirrorTimeout (s : State) (ns : Nat) (sideB : Bool) : State :=
  match s.space ns with
  | none => s
  | some n =>
    match n.side sideB, n.b with
    | some d, some _ =>
      match (Map.get s.nvme.backings d.backing).bind Backing.lostAt with
      | some t => State.failSide { s with now := max s.now (t + 2_000_000_000) } ns sideB .timeout
      | none => s
    | _, _ => s

def execMirrorPathTimeout (ns : Nat) (sideB : Bool) (s : State) : Outcome := .next (s.mirrorTimeout ns sideB)

/-- INTENT_BIT_CLEAR (R446): a unit without a write for 5 s has its bit cleared in both bitmaps. -/
def State.clearIntent (s : State) (ns u : Nat) (wait : Nat) : State :=
  match s.space ns with
  | none => s
  | some n =>
    match n.b with
    | none => s
    | some b =>
      let busy := s.nvme.reqs.any fun (_, r) => r.ns == ns && r.writes && (n.unitsOf r.slba r.nlb).contains u
      if n.a.failed || b.failed || !(n.a.bits.contains u || b.bits.contains u) || n.waiting.contains u || n.clearing.contains u || busy then s
      else
        let s : State := { s with now := max s.now ((Map.get n.lastWrite u).getD 0 + wait) }
        let s := s.modSpace ns fun n => { n with clearing := n.clearing ++ [u] }
        n.sides.foldl (fun s p =>
          s.sendReq { backing := p.2.backing, ns := ns, sideB := p.1, kind := .clearBit, slba := u, nlb := 1 }) s

def execIntentBitClear (ns u : Nat) (s : State) : Outcome := .next (s.clearIntent ns u 5_000_000_000)

/-- R449: start a resynchronisation of a side; `whole` when nothing is known of what it holds
(log entry 108, DEDUCED). -/
def State.startResync (s : State) (ns : Nat) (n : Namespace) (sideB whole : Bool) : State :=
  match n.side sideB, n.side (!sideB) with
  | some d, some o =>
    let units := if whole then List.range (ceilDiv (n.nsze * lbaBytes n.lbaf) 0x400_0000)
      else d.bits.foldl setIns o.bits
    s.setSpace ns { n.setSide sideB { d with failed := true, bits := o.bits } with resync := some (sideB, units) }
  | _, _ => s

/-- RESYNC_COMPLETE (R449): every unit has been copied; MIRROR_SYNCED ends the command that started it
(log entry 108, DEDUCED). -/
def State.resyncComplete (s : State) (ns : Nat) : State :=
  match s.space ns with
  | none => s
  | some n =>
    match n.resync with
    | none => s
    | some (sideB, l) =>
      match n.side sideB, n.side (!sideB) with
      | some d, some o =>
        if o.failed then s
        else
          let s := s.emits (l.map fun u => Emit.resyncCopy ns u sideB)
          let s := s.setSpace ns { n.setSide sideB { d with failed := false, bits := o.bits } with resync := none }
          let s := s.storageEvent n 0x0602 ns l.length
          s.asyncDone (fun a => a.opcode == 0x0630 && a.arg == ns) .success
      | _, _ => s

def execResyncComplete (ns : Nat) (s : State) : Outcome := .next (s.resyncComplete ns)

/-- R449, R452: the start of the storage service after power-on: each counter resumes at its LIMIT and asks for the
next; a namespace whose side A has a bit set resynchronises B from A. -/
def State.startSpaces (s : State) : State :=
  s.nvme.spaces.foldl (fun s (p : Nat × Namespace) =>
    let s := if p.2.encrypt then
        (s.modSpace p.1 fun n => { n with counter := s.nsLimit p.1 }).renewLimit p.1
      else s
    match s.space p.1 with
    | none => s
    | some n =>
      if n.b.isSome && !n.a.failed && n.a.bits != [] && n.resync.isNone then s.startResync p.1 n true false else s) s

end Sys2Proof.Machine
end

