-- ==== Sys2Proof/Machine/NvSto.lean ====
section
/-! DEFINITION. Chapter 13: the controllers' registers and life, the STO mailbox commands, and what resets, Bus Master
Enable and the destruction of spokes do to controllers (R429-R431, R438, R441, R453-R456). -/

namespace Sys2Proof.Machine
open Sys2Proof

/-! ## Controller registers (R430) -/

/-- CC fields that an enable accepts. -/
def ccOk (cc : Nat) : Bool :=
  bits cc 19 16 == 6 && bits cc 23 20 == 4 && bits cc 6 4 == 0 && bits cc 13 11 == 0 && decide (bits cc 10 7 ≤ 4)

/-- CONTROLLER_ENABLE: CC is written with EN = 1. -/
def State.ctrlEnable (s : State) (h cc : Nat) : State :=
  match s.theCtrl h with
  | none => s
  | some x =>
    if 2 ≤ h ∨ bit x.cc 0 then s
    else
      let cc := setBits cc 0 0 1 % 2 ^ 24
      s.setCtrl h { x with cc := cc, rdy := false, cfs := !ccOk cc, shst := 0 }

def execControllerEnable (h cc : Nat) (s : State) : Outcome := .next (s.ctrlEnable h cc)

/-- CONTROLLER_READY: within 2 s of the enable the admin queues stand and CSTS.RDY rises. -/
def State.ctrlReady (s : State) (h : Nat) : State :=
  match s.theCtrl h with
  | none => s
  | some x =>
    if 2 ≤ h ∨ !bit x.cc 0 ∨ x.rdy ∨ x.cfs then s
    else
      let sq : NvQueue := { base := x.asq / 4096 * 4096, size := bits x.aqa 11 0 + 1, cqid := 0 }
      let cq : NvQueue := { base := x.acq / 4096 * 4096, size := bits x.aqa 27 16 + 1, ien := true, vector := 0 }
      let s := s.setCtrl h { x with rdy := true }
      { s with nvme.sqs := Map.put s.nvme.sqs (nvKey h 0) sq, nvme.cqs := Map.put s.nvme.cqs (nvKey h 0) cq }

def execControllerReady (h : Nat) (s : State) : Outcome := .next (s.ctrlReady h)

/-- CONTROLLER_RESET (R453): CC.EN is cleared; AQA, ASQ and ACQ keep their values. -/
def State.ctrlReset (s : State) (h : Nat) : State :=
  match s.theCtrl h with
  | none => s
  | some x =>
    if 2 ≤ h ∨ !bit x.cc 0 then s
    else (s.nvReset h).modCtrl h fun x => { x with cc := setBits x.cc 0 0 0 }

def execControllerReset (h : Nat) (s : State) : Outcome := .next (s.ctrlReset h)

/-- SHUTDOWN (R454): CC.SHN is written. -/
def State.ctrlShutdown (s : State) (h shn : Nat) : State :=
  match s.theCtrl h with
  | none => s
  | some x =>
    if 2 ≤ h ∨ shn = 0 ∨ 3 ≤ shn then s
    else
      let s := s.setCtrl h { x with cc := setBits x.cc 15 14 shn, shst := 1 }
      let l := s.nvme.spaces.filter fun (_, n) => n.ctrls.contains h
      let s := l.foldl (fun s (p : Nat × Namespace) =>
        (p.2.a.bits.foldl setIns (match p.2.b with
          | some d => d.bits
          | none => [])).foldl (fun s u => s.clearIntent p.1 u 0) s) s
      s.shutdownCheck h

def execShutdown (h shn : Nat) (s : State) : Outcome := .next (s.ctrlShutdown h shn)

/-- CAP of a PF controller. -/
def nvCap : Nat := 0xFFFF + 2 ^ 16 + 30 * 2 ^ 24 + 2 ^ 37 + 4 * 2 ^ 52

/-- A 32-bit register of a PF controller (log entry 102, PRESUMED). -/
def Ctrl.reg32 (x : Ctrl) (off : Nat) : Nat :=
  match off with
  | 0x00 => nvCap % 2 ^ 32
  | 0x04 => nvCap / 2 ^ 32
  | 0x08 => 0x0002_0000
  | 0x0C => x.intm
  | 0x10 => x.intm
  | 0x14 => x.cc
  | 0x1C => b2n x.rdy + 2 * b2n x.cfs + 4 * x.shst
  | 0x24 => x.aqa
  | 0x28 => x.asq % 2 ^ 32
  | 0x2C => x.asq / 2 ^ 32
  | 0x30 => x.acq % 2 ^ 32
  | 0x34 => x.acq / 2 ^ 32
  | _ => 0

/-- Whether an offset of PF2's BAR0 below 0x1_0000 is occupied: the register set, and the doorbells. -/
def nvOccupied (off : Nat) : Bool :=
  decide (off < 0x3C + 4) || off == 0x40 || off == 0xE00 || (decide (0x1000 ≤ off) && decide (off < 0x1000 + 8 * 513))

/-- A read of the register set of controller `h`. -/
def State.nvRegRead (s : State) (h off : Nat) : Nat :=
  match s.theCtrl h with
  | some x => if 0x1000 ≤ off then 0 else x.reg32 off
  | none => 0

/-- A write of CC: enable, reset or shutdown by what changes. -/
def State.writeCc (s : State) (h v : Nat) : State :=
  match s.theCtrl h with
  | none => s
  | some x =>
    if bit v 0 && !bit x.cc 0 then s.ctrlEnable h v
    else if !bit v 0 && bit x.cc 0 then (s.ctrlReset h).modCtrl h fun x => { x with cc := setBits v 0 0 0 % 2 ^ 24 }
    else if bits v 15 14 ≠ 0 ∧ bits x.cc 15 14 ≠ bits v 15 14 then s.ctrlShutdown h (bits v 15 14)
    else s.setCtrl h { x with cc := v % 2 ^ 24 }

/-- A 32-bit write to the register set or a doorbell of controller `h`. -/
def State.nvRegWrite (s : State) (h off v : Nat) : State :=
  if 0x1000 ≤ off then
    let y := (off - 0x1000) / 8
    if off % 8 = 0 then s.nvSqDoorbell h y (v % 65536) [] else s.nvCqDoorbell h y (v % 65536)
  else match s.theCtrl h with
    | none => s
    | some x =>
      match off with
      | 0x0C => s.setCtrl h { x with intm := x.intm ||| v }
      | 0x10 => s.setCtrl h { x with intm := x.intm &&& (2 ^ 32 - 1 - v % 2 ^ 32) }
      | 0x14 => s.writeCc h v
      | 0x24 => s.setCtrl h { x with aqa := v &&& 0x0FFF_0FFF }
      | 0x28 => s.setCtrl h { x with asq := setBits x.asq 31 0 (v / 4096 * 4096) }
      | 0x2C => s.setCtrl h { x with asq := setBits x.asq 63 32 v }
      | 0x30 => s.setCtrl h { x with acq := setBits x.acq 31 0 (v / 4096 * 4096) }
      | 0x34 => s.setCtrl h { x with acq := setBits x.acq 63 32 v }
      | _ => s

/-- R431: a doorbell page write that names an NVMe queue of a spoke controller. -/
def State.nvDoorbell (s : State) (n : Nat) (ring : Bool) (index : Nat) : State :=
  match s.nvNumber n with
  | none => s
  | some (c, q, cq) => if ring != cq then s.nvEvent c 0 0 1 0 else if cq then s.nvCqDoorbell c q index else s.nvSqDoorbell c q index []

/-! ## Destruction, Bus Master Enable, resets -/

/-- Destroy a spoke controller: its queues, their numbers and its commands go. -/
def State.dropCtrl (s : State) (c : Nat) : State :=
  let adm := (s.nvme.sqs.filter fun p => p.1 == nvKey c 0) ++ (s.nvme.cqs.filter fun p => p.1 == nvKey c 0)
  let s := adm.foldl (fun s p => s.freeNumber p.2.number) s
  let s := s.nvReset c
  { s with nvme.ctrls := Map.erase s.nvme.ctrls c
           nvme.spaces := s.nvme.spaces.map fun (i, n) => (i, { n with ctrls := n.ctrls.filter (· != c) }) }

/-- The controllers of a spoke, and of a function's spokes. -/
def State.nvSpokeGone (s : State) (k : Nat) : State :=
  (s.nvme.ctrls.filter fun (_, x) => x.spoke == some k).foldl (fun s p => s.dropCtrl p.1) s

/-- FLR of PF2, or a reset that takes its FUNC domain: the register set returns to its reset value. -/
def State.nvFuncReset (s : State) (f : Nat) : State :=
  if f % 4 ≠ 2 then s
  else
    let h := f / 4
    let s := s.nvReset h
    { s with nvme.ctrls := Map.erase s.nvme.ctrls h }

/-- R453, R130: Bus Master Enable of PF2 is cleared: every command fetched ends FLUSHED, its entry held
(log entry 107, DEDUCED). -/
def State.nvBmeClear (s : State) (f : Nat) : State :=
  let mine (k : NvCmd) : Bool := match s.theCtrl k.ctrl with
    | some x => x.fn == f
    | none => false
  let l := s.nvme.cmds.filter fun (_, k) => mine k
  let s := s.nvAbandon mine
  l.foldl (fun s (p : Nat × NvCmd) =>
    (s.nvLogError p.2 nvInterrupted Status.flushed.code).nvPost p.2.ctrl p.2.sq p.2.cid 0 nvInterrupted (.ok [] false)) s

/-- R453: the held entries of a function's controllers are written once it may be reached again
(log entry 107, DEDUCED). -/
def State.nvResume (s : State) (f : Nat) : State :=
  let mine (p : Nat × NvQueue) : Bool := match s.theCtrl (p.1 / 65536) with
    | some x => x.fn == f
    | none => false
  (s.nvme.cqs.filter mine).foldl (fun s p => s.nvFlush (p.1 / 65536) (p.1 % 65536) (.ok [] false)) s

/-! ## Mailbox commands (R438, R441, R449, R455, R456) -/

/-- Whether a caller may name a controller: PF0 any, PF2 its own and those of its spokes. -/
def State.mayNameCtrl (s : State) (f c : Nat) : Bool :=
  f % 4 == 0 || (match s.theCtrl c with
    | some x => x.fn == f
    | none => false)

/-- Whether a caller may name a namespace: PF0 any, PF2 those attached to its controllers. -/
def State.mayNameSpace (s : State) (f : Nat) (n : Namespace) : Bool := f % 4 == 0 || n.ctrls.any (s.mayNameCtrl f)

/-- The connections that a ROCE or YEKEL backing may use: ACTIVE, of PF2's base spoke, and of its kind. -/
def State.backConn (s : State) (c : Nat) (roce : Bool) : Bool :=
  match Map.get s.xpt.conns c with
  | none => false
  | some x => x.phase == .active && x.roce == roce &&
    [2, 6].any fun f => (s.fn f).baseSpoke == some x.spoke

/-- R455: the MALFORMED conditions of STO_BACKING_ADD. -/
def State.backingBad (s : State) (p : Bytes) : Bool :=
  let kind := bits (u8 p 0) 1 0
  let tmo := bits (u16 p 2) 9 0
  let path := bits (u32 p 4) 23 0
  let q := bits (u16 p 12) 6 0
  let d := bits (u16 p 14) 10 0
  tmo = 0 || decide (600 < tmo) || q = 0 || decide (64 < q) || decide (d < 16) || decide (1024 < d) ||
  (kind != 1 && (u16 p 32 != 0 || bits (u8 p 1) 1 0 != 0)) ||
  (kind == 0 && (slice p 64 256).any (· != 0)) || (kind == 3 && (slice p 22 10).any (· != 0)) ||
  (match kind with
   | 0 => decide (63 < path) || !(s.portExists (bits path 5 0)) || s.portRole (bits path 5 0) != 2
   | 1 => decide (31 < path)
   | 2 => !s.backConn path true
   | _ => !s.backConn path false)

/-- STO_BACKING_ADD: `st` and the rest are the outcome of connecting to the backing and identifying it
(log entries 104, DEDUCED; 109, DEDUCED). -/
def State.backingAdd (s : State) (f : Nat) (st : Status) (lbaf nawupf nabspf nsze : Nat) (zeroes : Bool) (p : Bytes) : Reply :=
  if s.backingBad p then Reply.err s .malformed
  else if f % 4 ≠ 0 then Reply.err s .notPermitted
  else match Map.lowestFree s.nvme.backings 256 with
    | none => Reply.err s .resource
    | some b =>
      if st != .success then Reply.err s st
      else
        let x : Backing := { hdr := p, lbaf := lbaf % 5, nawupf := nawupf % 65536, nabspf := nabspf % 65536,
                             nsze := nsze % 2 ^ 64, zeroes := zeroes }
        { st := { s with nvme.backings := Map.put s.nvme.backings b x }, journal := [(0x0601, b, false, p)],
          payload := toLe 1 b ++ toLe 1 x.lbaf ++ toLe 2 x.nawupf ++ toLe 2 x.nabspf ++ zeros 2 ++ toLe 8 x.nsze }

def execStoBackingAdd (f : Nat) (st : Status) (lbaf nawupf nabspf nsze : Nat) (zeroes : Bool) (s : State) : Outcome :=
  .next (s.perform f 0x0601 fun p s => s.backingAdd f st lbaf nawupf nabspf nsze zeroes p)

/-- STO_BACKING_REMOVE. -/
def State.backingRemove (s : State) (f : Nat) (p : Bytes) : Reply :=
  let b := u8 p 0
  if !Map.has s.nvme.backings b then Reply.err s .malformed
  else if f % 4 ≠ 0 || s.nvme.spaces.any (fun (_, n) => n.sides.any fun d => d.2.backing == b) then Reply.err s .notPermitted
  else { st := { s with nvme.backings := Map.erase s.nvme.backings b }, journal := [(0x0601, b, true, [])] }

def execStoBackingRemove (f : Nat) (s : State) : Outcome := .next (s.perform f 0x0602 fun p s => s.backingRemove f p)

/-- The LBAs of a side's range, with its bitmap area (R446). -/
def Namespace.range (n : Namespace) (d : NsSide) : Nat × Nat := (d.start, d.start + n.bitmapLbas + n.nsze)

/-- The namespace that a STO_NS_CREATE payload describes. -/
def nsOf (p : Bytes) (salt : Nat) : Namespace :=
  let mirror := bit (u8 p 3) 3
  let b : Option NsSide := if mirror then some { backing := u8 p 5, start := u64 p 24 } else none
  { nsze := u64 p 8, lbaf := bits (u8 p 2) 2 0, pi := bits (u8 p 3) 1 0, encrypt := bit (u8 p 3) 2, b := b,
    a := { backing := u8 p 4, start := u64 p 16 }, key := u32 p 32, salt := salt }

/-- The payload that describes a namespace, as its journal record holds it. -/
def nsBody (nsid : Nat) (n : Namespace) : Bytes :=
  let d := n.b.getD { backing := 0, start := 0 }
  toLe 2 nsid ++ toLe 1 n.lbaf ++ toLe 1 (n.pi + 4 * b2n n.encrypt + 8 * b2n n.b.isSome) ++ toLe 1 n.a.backing ++
  toLe 1 d.backing ++ zeros 2 ++ toLe 8 n.nsze ++ toLe 8 n.a.start ++ toLe 8 d.start ++ toLe 4 n.key ++ zeros 12

/-- R456, step 1 (log entry 109, DEDUCED). -/
def State.nsBad (s : State) (p : Bytes) (n : Namespace) : Bool :=
  let id := u16 p 0
  (id != 0xFFFF && (id = 0 || decide (1024 < id))) || decide (4 < n.lbaf) || n.nsze = 0 ||
  (n.encrypt && n.lbaf != 4) || (!n.encrypt && n.key != 0) || (n.pi != 0 && lbaMeta n.lbaf == 0) ||
  (n.b.isNone && (u8 p 5 != 0 || u64 p 24 != 0)) ||
  n.sides.any fun d => match Map.get s.nvme.backings d.2.backing with
    | none => true
    | some b => b.lbaf != n.lbaf || decide (b.nsze < (n.range d.2).2)

/-- Whether a namespace's ranges meet another's on the same backing, or each other (log entry 109, DEDUCED). -/
def State.nsOverlap (s : State) (n : Namespace) : Bool :=
  let meets (x : Namespace) (a : NsSide) (y : Namespace) (b : NsSide) : Bool :=
    a.backing == b.backing && decide ((x.range a).1 < (y.range b).2) && decide ((y.range b).1 < (x.range a).2)
  (n.sides.any fun d => s.nvme.spaces.any fun (_, m) => m.sides.any fun e => meets n d.2 m e.2) ||
  (match n.b with
   | some b => meets n n.a n b
   | none => false)

/-- STO_NS_CREATE: SALT is a free value (log entries 109, DEDUCED; 111, DESIGN CHOICE). -/
def State.nsCreate (s : State) (f : Nat) (p : Bytes) : Reply :=
  let (salt, s1) := s.draw 32
  let n := nsOf p salt
  let id := u16 p 0
  let keySt := if n.encrypt then (match s.pf0Base (f / 4) with
    | some k => s.keyCheck n.key [2] k
    | none => .notPermitted) else .success
  if s.nsBad p n || (n.encrypt && keySt == .malformed) then Reply.err s .malformed
  else if f % 4 ≠ 0 || (id != 0xFFFF && Map.has s.nvme.spaces id) || s.nsOverlap n || keySt == .notPermitted then
    Reply.err s .notPermitted
  else if keySt != .success then Reply.err s keySt
  else
    let pick := if id = 0xFFFF then lowestWhere (fun i => i != 0 && !Map.has s.nvme.spaces i) 1025 else some id
    match pick with
    | none => Reply.err s .resource
    | some nsid =>
      if 1024 ≤ s.nvme.spaces.length then Reply.err s .resource
      else
        let lim := if n.encrypt then [(0x0610, nsid, false, toLe 8 (2 ^ 32))] else []
        { st := s1.setSpace nsid n, payload := toLe 4 nsid, journal := lim ++ [(0x0602, nsid, false, nsBody nsid n)] }

def execStoNsCreate (f : Nat) (s : State) : Outcome := .next (s.perform f 0x0610 fun p s => s.nsCreate f p)

/-- STO_NS_DELETE. -/
def State.nsDelete (s : State) (f : Nat) (p : Bytes) : Reply :=
  let id := u16 p 0
  match s.space id with
  | none => Reply.err s .malformed
  | some n =>
    if f % 4 ≠ 0 || n.ctrls != [] then Reply.err s .notPermitted
    else
      let lim := if n.encrypt then [(0x0610, id, true, [])] else []
      { st := { s with nvme.spaces := Map.erase s.nvme.spaces id
                       nvme.reqs := s.nvme.reqs.filter fun (_, r) => r.ns != id },
        journal := lim ++ [(0x0602, id, true, [])] }

def execStoNsDelete (f : Nat) (s : State) : Outcome := .next (s.perform f 0x0611 fun p s => s.nsDelete f p)

/-- STO_NS_ATTACH: Namespace Attribute Changed goes to the controller (R438). -/
def State.nsAttach (s : State) (f : Nat) (p : Bytes) : Reply :=
  let id := u16 p 0
  let c := u16 p 2
  let det := bit (u8 p 4) 0
  match s.space id, s.theCtrl c with
  | some n, some _ =>
    if !s.mayNameCtrl f c || !s.mayNameSpace f n then Reply.err s .notPermitted
    else if n.ctrls.contains c != det then Reply.ok s []
    else
      let s := s.setSpace id { n with ctrls := if det then n.ctrls.filter (· != c) else setIns n.ctrls c }
      { st := s.nvEvent c 2 0 4 8, journal := [(0x0603, id + 65536 * c, det, if det then [] else p)] }
  | _, _ => Reply.err s .malformed

def execStoNsAttach (f : Nat) (s : State) : Outcome := .next (s.perform f 0x0612 fun p s => s.nsAttach f p)

/-- Two neighbouring free H9 queue numbers, the lowest. -/
def State.freePair (s : State) : Option Nat :=
  lowestWhere (fun n => !Map.has s.host.queues n && !Map.has s.host.queues (n + 1)) (min 131071 (2 * s.host.queues.length + 2))

/-- STO_CTRL_CREATE. -/
def State.ctrlCreate (s : State) (f : Nat) (p : Bytes) : Reply :=
  let k := u16 p 0
  let n := u16 p 4
  let m := u16 p 6
  match s.spoke k with
  | none => Reply.err s .malformed
  | some sp =>
    if n = 0 || decide (4095 < n) || m = 0 || decide (4095 < m) || u64 p 8 % 4096 != 0 || u64 p 16 % 4096 != 0 || sp.base ||
        sp.fn % 4 != 2 then Reply.err s .malformed
    else if (f % 4 ≠ 0 && sp.fn != f) || !s.mayNameSpoke f k && f % 4 != 0 || s.nvme.ctrls.any (fun (_, x) => x.spoke == some k) then
      Reply.err s .notPermitted
    else if sp.queueQuota < s.host.queues.foldl (fun a q => a + b2n (q.2.spoke == k)) 0 + 2 then Reply.err s .resource
    else match lowestWhere (fun c => decide (2 ≤ c) && !Map.has s.nvme.ctrls c) 256, s.freePair with
      | some c, some q =>
        let s := (s.setQueue q { kind := .nvme, spoke := k, state := .active }).setQueue (q + 1) { kind := .nvme, spoke := k, state := .active }
        let s := s.setCtrl c { fn := sp.fn, spoke := some k, cc := 0x46_0001, rdy := true }
        let sq : NvQueue := { base := u64 p 8, size := n + 1, number := some q }
        let cq : NvQueue := { base := u64 p 16, size := m + 1, number := some (q + 1) }
        let s : State := { s with nvme.sqs := Map.put s.nvme.sqs (nvKey c 0) sq, nvme.cqs := Map.put s.nvme.cqs (nvKey c 0) cq }
        { st := s, payload := toLe 2 c ++ zeros 2 ++ toLe 4 q, journal := [(0x0604, c, false, p)] }
      | _, _ => Reply.err s .resource

def execStoCtrlCreate (f : Nat) (s : State) : Outcome := .next (s.perform f 0x0620 fun p s => s.ctrlCreate f p)

/-- STO_CTRL_DESTROY. -/
def State.ctrlDestroy (s : State) (f : Nat) (p : Bytes) : Reply :=
  let c := u16 p 0
  match s.ctrl c with
  | none => Reply.err s .malformed
  | some x =>
    if x.spoke.isNone then Reply.err s .malformed
    else if !s.mayNameCtrl f c then Reply.err s .notPermitted
    else { st := s.dropCtrl c, journal := [(0x0604, c, true, [])] }

def execStoCtrlDestroy (f : Nat) (s : State) : Outcome := .next (s.perform f 0x0621 fun p s => s.ctrlDestroy f p)

/-- STO_MIRROR_REATTACH: the side, on its own backing or a replacement, is resynchronised (R449). -/
def State.mirrorReattach (s : State) (f : Nat) (p : Bytes) : Reply :=
  let id := u16 p 0
  let sb := u8 p 2 == 1
  let b := u8 p 4
  let fresh := b != 0xFF
  match s.space id with
  | none => Reply.err s .malformed
  | some n =>
    match n.side sb, n.side (!sb), n.b with
    | some d, some o, some _ =>
      let d' : NsSide := if fresh then { d with backing := b, start := u64 p 8 } else d
      let n' := n.setSide sb d'
      let off := match Map.get s.nvme.backings d'.backing with
        | none => true
        | some x => x.lbaf != n.lbaf || decide (x.nsze < (n'.range d').2)
      if decide (1 < u8 p 2) || (!fresh && u64 p 8 != 0) || off then Reply.err s .malformed
      else
        let clash := fresh && State.nsOverlap { s with nvme.spaces := Map.erase s.nvme.spaces id } n'
        if s.heldNew 4 then Reply.err s .retryLater
        else if !s.mayNameSpace f n || !d.failed || o.failed || n.resync.isSome || clash then Reply.err s .notPermitted
        else { st := s.startResync id n' sb fresh, async := some id, journal := [(0x0602, id, false, nsBody id n')] }
    | _, _, _ => Reply.err s .malformed

def execStoMirrorReattach (f : Nat) (s : State) : Outcome := .next (s.perform f 0x0630 fun p s => s.mirrorReattach f p)

end Sys2Proof.Machine
end

