-- ==== Sys2Proof/Machine/Numbers.lean ====
section
/-! DEFINITION. The number formats of the stream array: exact values, decoding, rounding, comparison (R358-R368, R393). -/

namespace Sys2Proof.Machine
open Sys2Proof

/-- A floating-point datum: a value is (-1)^neg * m * 2^e. -/
inductive Num where
  | nan
  | inf (neg : Bool)
  | fin (neg : Bool) (m : Nat) (e : Int)
deriving DecidableEq, Repr, Inhabited

/-- What the codes at the top of a format's range stand for (R358). -/
inductive Top where
  | ieee                                -- infinities and NaNs
  | e4m3                                -- one NaN, no infinity
  | finite                              -- neither
deriving DecidableEq, Repr

/-- A floating-point format. -/
structure Fmt where
  ex : Nat                              -- exponent bits
  man : Nat                             -- mantissa bits
  bias : Nat
  top : Top
deriving DecidableEq, Repr

def fp32 : Fmt := ⟨8, 23, 127, .ieee⟩
def bf16 : Fmt := ⟨8, 7, 127, .ieee⟩
def fp16 : Fmt := ⟨5, 10, 15, .ieee⟩
def e4m3 : Fmt := ⟨4, 3, 7, .e4m3⟩
def e5m2 : Fmt := ⟨5, 2, 15, .ieee⟩
def e2m3 : Fmt := ⟨2, 3, 1, .finite⟩
def e3m2 : Fmt := ⟨3, 2, 3, .finite⟩
def e2m1 : Fmt := ⟨2, 1, 1, .finite⟩

/-- R393: a format code is a floating-point or an integer format. -/
def fmtOf : Nat → Option Fmt
  | 0 => some fp32
  | 1 => some bf16
  | 2 => some fp16
  | 7 => some e4m3
  | 8 => some e5m2
  | 9 => some e2m3
  | 10 => some e3m2
  | 11 => some e2m1
  | _ => none

/-- R393: element widths in half bytes; 0 for a reserved code. -/
def fmtHalf (f : Nat) : Nat := ([8, 4, 4, 2, 4, 8, 16, 2, 2, 2, 2, 1] : List Nat).getD f 0

/-- Whether a code is an integer format. -/
def isInt (f : Nat) : Bool := decide (3 ≤ f) && decide (f ≤ 6)

/-- The exponent of the lowest mantissa bit of a subnormal. -/
def Fmt.qmin (f : Fmt) : Int := 1 - (f.bias : Int) - f.man

/-- The largest finite value: mantissa and exponent. -/
def Fmt.maxM (f : Fmt) : Nat := if f.top = .e4m3 then 2 ^ (f.man + 1) - 2 else 2 ^ (f.man + 1) - 1
def Fmt.maxE (f : Fmt) : Int :=
  (2 ^ f.ex : Nat) - (if f.top = .ieee then 2 else 1) - (f.bias : Int) - f.man

/-- Decode the bits of a format. -/
def Fmt.decode (f : Fmt) (b : Nat) : Num :=
  let neg := bit b (f.ex + f.man)
  let ex := b / 2 ^ f.man % 2 ^ f.ex
  let m := b % 2 ^ f.man
  let all := 2 ^ f.ex - 1
  if f.top = .ieee ∧ ex = all then (if m = 0 then .inf neg else .nan)
  else if f.top = .e4m3 ∧ ex = all ∧ m = 2 ^ f.man - 1 then .nan
  else if ex = 0 then .fin neg m f.qmin
  else .fin neg (m + 2 ^ f.man) ((ex : Int) - f.bias - f.man)

/-- The sign bit and fields put together. -/
def Fmt.pack (f : Fmt) (neg : Bool) (ex m : Nat) : Nat := b2n neg * 2 ^ (f.ex + f.man) + ex * 2 ^ f.man + m

/-- R361: NaN payloads are not preserved: which NaN a NaN result is, is a free value of the implementation
(log entry 98, DESIGN CHOICE). -/
def Fmt.nanBits (f : Fmt) : Nat :=
  match f.top with
  | .finite => 0
  | .e4m3 => f.pack (bit Config.nanPick 0) (2 ^ f.ex - 1) (2 ^ f.man - 1)
  | .ieee => f.pack (bit Config.nanPick 0) (2 ^ f.ex - 1) (1 + Config.nanPick / 2 % (2 ^ f.man - 1))

/-- The bits of an infinity, where the format has one. -/
def Fmt.infBits (f : Fmt) (neg : Bool) : Nat := f.pack neg (2 ^ f.ex - 1) 0

/-- The bits of a finite value m * 2^e that the format holds, with e at least `qmin`. -/
def Fmt.encode (f : Fmt) (neg : Bool) (m : Nat) (e : Int) : Nat :=
  if m < 2 ^ f.man then f.pack neg 0 m
  else f.pack neg (e + f.bias + f.man).toNat (m - 2 ^ f.man)

def Fmt.maxBits (f : Fmt) (neg : Bool) : Nat := f.encode neg f.maxM f.maxE

/-- R362: rounding modes: 0 RNE, 1 RTZ, 2 stochastic. -/
def roundUp (rnd r16 m rem shift : Nat) : Bool :=
  if rnd = 0 then decide (2 ^ shift < 2 * rem) || (2 * rem == 2 ^ shift && m % 2 == 1 && rem != 0)
  else if rnd = 1 then false
  else decide (r16 < rem * 2 ^ 16 / 2 ^ shift)

/-- R362, R363: m * 2^e as an integer multiple of 2^q. -/
def roundAt (rnd r16 m : Nat) (e q : Int) : Nat :=
  if q ≤ e then m * 2 ^ (e - q).toNat
  else
    let sh := (q - e).toNat
    let k := m / 2 ^ sh
    if roundUp rnd r16 k (m % 2 ^ sh) sh then k + 1 else k

/-- What happens above the largest finite value: saturation, the special value of R361, or IEEE 754's rule. -/
inductive Over where
  | sat
  | special
  | ieee
deriving DecidableEq, Repr

/-- The bits of a result outside the range. -/
def Fmt.overflow (f : Fmt) (o : Over) (rnd : Nat) (neg : Bool) : Nat :=
  match f.top, o with
  | .finite, _ => f.maxBits neg
  | _, .sat => f.maxBits neg
  | .e4m3, _ => f.nanBits
  | .ieee, .special => f.infBits neg
  | .ieee, .ieee => if rnd = 1 then f.maxBits neg else f.infBits neg

/-- R358-R363: round a datum to a format. -/
def Fmt.round (f : Fmt) (o : Over) (rnd r16 : Nat) : Num → Nat
  | .nan => f.nanBits
  | .inf neg => if o = .ieee then f.infBits neg else f.overflow o 0 neg
  | .fin neg m e =>
    if m = 0 then f.pack neg 0 0
    else
      let q := max ((Nat.log2 m : Int) + e - f.man) f.qmin
      let k := roundAt rnd r16 m e q
      let k' := if 2 ^ (f.man + 1) ≤ k then k / 2 else k
      let q' := if 2 ^ (f.man + 1) ≤ k then q + 1 else q
      if f.maxE < q' ∨ (f.maxE = q' ∧ f.maxM < k') then f.overflow o rnd neg else f.encode neg k' q'

/-! ## Exact arithmetic -/

/-- The signed mantissa of a finite datum at an exponent not above its own. -/
def scaled (neg : Bool) (m : Nat) (e q : Int) : Int :=
  let v : Int := m * 2 ^ (e - q).toNat
  if neg then -v else v

/-- A finite datum from a signed mantissa; a zero takes the given sign. -/
def ofScaled (v : Int) (e : Int) (zneg : Bool) : Num := if v = 0 then .fin zneg 0 0 else .fin (decide (v < 0)) v.natAbs e

def Num.neg : Num → Num
  | .nan => .nan
  | .inf n => .inf (!n)
  | .fin n m e => .fin (!n) m e

/-- Exact sum. -/
def Num.add : Num → Num → Num
  | .nan, _ => .nan
  | _, .nan => .nan
  | .inf a, .inf b => if a = b then .inf a else .nan
  | .inf a, _ => .inf a
  | _, .inf b => .inf b
  | .fin na ma ea, .fin nb mb eb =>
    let q := min ea eb
    ofScaled (scaled na ma ea q + scaled nb mb eb q) q (na && nb)

/-- Exact product. -/
def Num.mul : Num → Num → Num
  | .nan, _ => .nan
  | _, .nan => .nan
  | .inf a, .inf b => .inf (a != b)
  | .inf a, .fin b m _ => if m = 0 then .nan else .inf (a != b)
  | .fin a m _, .inf b => if m = 0 then .nan else .inf (a != b)
  | .fin na ma ea, .fin nb mb eb => .fin (na != nb) (ma * mb) (ea + eb)

/-- Whether one datum is below another; false with a NaN. -/
def Num.lt : Num → Num → Bool
  | .nan, _ => false
  | _, .nan => false
  | .inf a, .inf b => a && !b
  | .inf a, .fin _ _ _ => a
  | .fin _ _ _, .inf b => !b
  | .fin na ma ea, .fin nb mb eb =>
    let q := min ea eb
    decide (scaled na ma ea q < scaled nb mb eb q)

def Num.isNan : Num → Bool
  | .nan => true
  | _ => false

def Num.isFin : Num → Bool
  | .fin _ _ _ => true
  | _ => false

/-- Whether two data are equal as values; false with a NaN. -/
def Num.eq (a b : Num) : Bool := !a.isNan && !b.isNan && !a.lt b && !b.lt a

/-- The sign of a datum. -/
def Num.sign : Num → Bool
  | .nan => false
  | .inf n => n
  | .fin n _ _ => n

/-- IEEE 754 minimumNumber and maximumNumber; -0 lies below +0. -/
def Num.below (a b : Num) : Bool := a.lt b || (a.eq b && a.sign && !b.sign)
def Num.minNumber (a b : Num) : Num := if a.isNan then b else if b.isNan then a else if b.below a then b else a
def Num.maxNumber (a b : Num) : Num := if a.isNan then b else if b.isNan then a else if a.below b then b else a

/-- The magnitude. -/
def Num.abs : Num → Num
  | .nan => .nan
  | .inf _ => .inf false
  | .fin _ m e => .fin false m e

/-- An integer as a datum. -/
def Num.ofInt (v : Int) : Num := .fin (decide (v < 0)) v.natAbs 0

/-- Two's-complement reading of `w` bits. -/
def toSigned (w v : Nat) : Int := if v % 2 ^ w < 2 ^ (w - 1) then (v % 2 ^ w : Nat) else (v % 2 ^ w : Nat) - (2 ^ w : Nat)

/-- `w` bits of an integer. -/
def ofSigned (w : Nat) (v : Int) : Nat := (v % (2 ^ w : Nat)).toNat

/-- R395: a datum to a `w`-bit integer, saturating; NaN gives 0. -/
def roundInt (w rnd r16 : Nat) : Num → Nat
  | .nan => 0
  | .inf n => ofSigned w (if n then -(2 ^ (w - 1) : Nat) else (2 ^ (w - 1) : Nat) - 1)
  | .fin n m e =>
    let k : Int := roundAt rnd r16 m e 0
    let v := if n then -k else k
    ofSigned w (max (-(2 ^ (w - 1) : Nat)) (min ((2 ^ (w - 1) : Nat) - 1) v))

/-- Decode an element of a format code. -/
def decodeElem (f b : Nat) : Num :=
  match fmtOf f with
  | some t => t.decode b
  | none => .ofInt (toSigned (4 * fmtHalf f) b)

/-- R365, R371: the result of an operation on FP32, BF16 or FP16: exact, then rounded once
(log entry 95, DEDUCED). -/
def roundArith (f : Nat) (nsat : Bool) (rnd r16 : Nat) (x : Num) : Nat :=
  match fmtOf f with
  | some t => t.round (if f = 0 then .ieee else if nsat then .special else .sat) rnd r16 x
  | none => 0

/-- R395: convert a datum to a format code. -/
def convertTo (f : Nat) (nsat : Bool) (rnd r16 : Nat) (x : Num) : Nat :=
  match fmtOf f with
  | some t => t.round (if f = 0 then .ieee else if nsat then .special else .sat) rnd r16 x
  | none => roundInt (4 * fmtHalf f) rnd r16 x

/-! ## Bounds (R368) -/

/-- A finite datum as a mantissa at a low exponent. -/
def Num.at (q : Int) : Num → Int
  | .fin n m e => scaled n m e q
  | _ => 0

/-- The lowest exponent among data. -/
def lowExp (l : List Num) (d : Int) : Int := l.foldl (fun q x => match x with
  | .fin _ _ e => min q e
  | _ => q) d

/-- R368: |c - s| is at most n u / (1 - n u) times the sum of magnitudes, with u = 2^-lg
(log entry 96, DESIGN CHOICE). -/
def within (lg : Nat) (l : List Num) (c : Num) : Bool :=
  let q := lowExp (c :: l) 0
  let n := l.length
  let s := l.foldl (fun a x => a + x.at q) 0
  let m := l.foldl (fun a x => a + (x.at q).natAbs) 0
  decide ((c.at q - s).natAbs * (2 ^ lg - n) ≤ n * m)

/-- The accumulation in order, each step rounded to FP32. -/
def sequentialSum (rnd : Nat) (l : List Num) (acc : Nat) : Nat :=
  l.foldl (fun a x => fp32.round .ieee rnd 0 ((fp32.decode a).add x)) acc

/-- R368, R370: an FP32 accumulation in unspecified order: a free value `c` where it keeps the bound, the value
accumulated in order otherwise.  Finite terms whose sum in order overflows give no bound, so the result is free
(log entry 96, DESIGN CHOICE). -/
def anyOrderSum (rnd c : Nat) (l : List Num) (acc : Nat) : Nat :=
  let t := sequentialSum rnd l acc
  let x := fp32.decode (c % 2 ^ 32)
  match fp32.decode t, x with
  | .fin _ _ _, .fin _ _ _ => if within (if rnd = 1 then 23 else 24) (fp32.decode acc :: l) x then c % 2 ^ 32 else t
  | .fin _ _ _, _ => t
  | _, _ => if (fp32.decode acc :: l).all Num.isFin then c % 2 ^ 32 else t

/-! ## MX blocks (R359, R360) -/

/-- R360: the exponent of the scale of a block whose largest magnitude is m * 2^e, for a largest element M * 2^t. -/
def mxScale (m : Nat) (e : Int) (mM : Nat) (t : Int) : Int :=
  let k := e + Nat.log2 m - t - Nat.log2 mM
  let q := min e (t + k)
  let k := if m * 2 ^ (e - q).toNat ≤ mM * 2 ^ (t + k - q).toNat then k else k + 1
  max k (-127)

/-- The largest element of an MX element format: MXINT8 for code 3. -/
def mxMax (f : Nat) : Nat × Int :=
  match fmtOf f with
  | some t => (t.maxM, t.maxE)
  | none => (127, -6)

/-- The largest magnitude of a block: none when it holds a NaN or an infinity. -/
def blockMax (l : List Num) : Option (Nat × Int) :=
  l.foldl (fun a x => match a, x with
    | some (m, e), .fin _ m' e' => if (Num.fin false m e).lt (.fin false m' e') then some (m', e') else some (m, e)
    | _, _ => none) (some (0, 0))

/-- R360: quantise one element of a block of scale exponent `k`. -/
def mxElem (f : Nat) (k : Int) (rnd r16 : Nat) (x : Num) : Nat :=
  let y := match x with
    | .fin n m e => Num.fin n m (e - k)
    | z => z
  match fmtOf f with
  | some t => t.round .sat rnd r16 y
  | none => match y with
    | .fin n m e => roundInt 8 rnd r16 (.fin n m (e + 6))
    | _ => 0

/-- R359: decode an element with its E8M0 scale. -/
def mxDecode (f scale b : Nat) : Num :=
  if scale = 255 then .nan
  else
    let y := match fmtOf f with
      | some t => t.decode b
      | none => match Num.ofInt (toSigned 8 b) with
        | .fin n m e => .fin n m (e - 6)
        | z => z
    match y with
    | .fin n m e => .fin n m (e + scale - 127)
    | z => z

end Sys2Proof.Machine
end

