-- ==== Sys2Proof/Machine/Vector.lean ====
section
/-! DEFINITION. Elements of vector registers and the vector operations of Lysys (R379, R380, R393-R397). -/

namespace Sys2Proof.Machine
open Sys2Proof

/-- A vector register is a number of 2,048 bits.  Element i of a width of `h` half bytes. -/
def elem (v h i : Nat) : Nat := v / 2 ^ (4 * h * i) % 2 ^ (4 * h)

/-- The number whose first `n` elements of `h` half bytes are given. -/
def buildElems (h n : Nat) (f : Nat → Nat) : Nat :=
  (List.range n).foldl (fun v i => v + f i % 2 ^ (4 * h) * 2 ^ (4 * h * i)) 0

/-- Whether element i is active under a guard: the bit of its lowest byte lane (R379). -/
def active (pg h i : Nat) : Bool := bit pg (h * i / 2)

/-- R379: a guarded write of whole registers of elements. -/
def guarded (pg : Nat) (z : Bool) (h old new : Nat) : Nat :=
  buildElems h (512 / h) fun i => if active pg h i then elem new h i else if z then 0 else elem old h i

/-- R380: the byte-lane bits of active elements for which a result holds. -/
def predOf (pg h n : Nat) (f : Nat → Bool) : Nat :=
  (List.range n).foldl (fun v i =>
    if active pg h i && f i then v + (2 ^ (h / 2) - 1) * 2 ^ (h / 2 * i) else v) 0

/-- The integer square root, by `n` bits. -/
def isqrtLoop (x : Nat) : Nat → Nat → Nat
  | 0, r => r
  | n + 1, r => let c := r + 2 ^ n; isqrtLoop x n (if c * c ≤ x then c else r)
def isqrt (x : Nat) : Nat := isqrtLoop x (Nat.log2 x / 2 + 1) 0

/-- A quotient with a sticky bit below it. -/
def sticky (q : Nat) (exact : Bool) : Nat := 2 * q + b2n (!exact)

/-- 1/x of a finite non-zero datum, rounded to FP32 (log entry 97, DESIGN CHOICE). -/
def recipOf (n : Bool) (m : Nat) (e : Int) : Nat :=
  let k := 64 + Nat.log2 m
  fp32.round .ieee 0 0 (.fin n (sticky (2 ^ k / m) (2 ^ k % m == 0)) (-(k : Int) - e - 1))

/-- 1/sqrt x of a finite positive datum, rounded to FP32 (log entry 97, DESIGN CHOICE). -/
def rsqrtOf (m : Nat) (e : Int) : Nat :=
  let (m, e) := if e % 2 = 0 then (m, e) else (2 * m, e - 1)
  let k := 64 + Nat.log2 m
  let x := 2 ^ (2 * k) / m
  let r := isqrt x
  fp32.round .ieee 0 0 (.fin false (sticky r (r * r == x && 2 ^ (2 * k) % m == 0)) (-(k : Int) - e / 2 - 1))

def num1 : Num := .fin false 1 0
def twoTo (e : Int) : Num := .fin false 1 e

/-- R397: an approximating operation in FP32 on a datum, with a free 32-bit candidate.  VRCP and VRSQRT take the
candidate where it keeps their bound; the others take it wherever IEEE 754 gives no special value
(log entry 97, DESIGN CHOICE). -/
def approx32 (opc c : Nat) (x : Num) : Nat :=
  let free := c % 2 ^ 32
  let y := fp32.decode free
  if x.isNan then fp32.nanBits
  else if opc = 0x30 then
    match x with
    | .inf n => if n then 0 else fp32.infBits false
    | _ => free
  else if opc = 0x31 then
    match x with
    | .inf n => if n then fp32.nanBits else fp32.infBits false
    | .fin n m _ => if m = 0 then fp32.infBits true else if n then fp32.nanBits else free
    | .nan => free
  else if opc = 0x32 then
    match x with
    | .inf n => fp32.round .ieee 0 0 (.fin n 0 0)
    | .fin n m e =>
      if m = 0 then fp32.infBits n
      else if !((y.mul x).isNan) && !(twoTo (-23)).lt ((y.mul x).add num1.neg).abs then free
      else recipOf n m e
    | .nan => free
  else if opc = 0x33 then
    match x with
    | .inf n => if n then fp32.nanBits else 0
    | .fin n m e =>
      if m = 0 then fp32.infBits n
      else if n then fp32.nanBits
      else
        let p := (y.mul y).mul x
        let lo := (num1.add (twoTo (-22)).neg)
        let hi := num1.add (twoTo (-22))
        if !y.sign && !p.isNan && !p.lt (lo.mul lo) && !(hi.mul hi).lt p then free else rsqrtOf m e
    | .nan => free
  else
    match x with
    | .inf n => fp32.round .ieee 0 0 (.fin n 1 0)
    | .fin n m _ => if m = 0 then fp32.round .ieee 0 0 (.fin n 0 0) else free
    | .nan => free

/-- What an elementwise operation computes with: format, target, saturation, rounding, and its free values. -/
structure VCtl where
  fmt : Nat
  fmt2 : Nat := 0
  nsat : Bool := false
  rnd : Nat := 0
  xs : Nat := 0
  ctr : Nat := 0
deriving Repr

/-- The 16 random bits of lane i under stochastic rounding: a free value (R363) (log entry 96, DESIGN CHOICE). -/
def VCtl.r16 (k : VCtl) (i : Nat) : Nat := if k.rnd = 2 then Config.freeValue (k.ctr + i) % 65536 else 0

/-- One element of an elementwise operation (R394, R397); `i` is its index (log entry 95, DEDUCED). -/
def vElem (opc : Nat) (k : VCtl) (i a b c : Nat) : Nat :=
  let w := 4 * fmtHalf k.fmt
  let int := isInt k.fmt
  let na := decodeElem k.fmt a
  let nb := decodeElem k.fmt b
  let nc := decodeElem k.fmt c
  let fp (x : Num) : Nat := roundArith k.fmt k.nsat k.rnd (k.r16 i) x
  let sa := toSigned w a
  let sb := toSigned w b
  match opc with
  | 0x00 => if int then a + b else fp (na.add nb)
  | 0x01 => if int then ofSigned w (sa - sb) else fp (na.add nb.neg)
  | 0x02 => if int then a * b else fp (na.mul nb)
  | 0x03 => if int then a * b + c else fp ((na.mul nb).add nc)
  | 0x04 => if int then (if sb < sa then b else a) else
      if na.isNan && nb.isNan then ((fmtOf k.fmt).map Fmt.nanBits).getD 0 else
      if na.isNan || (!nb.isNan && nb.below na) then b else a
  | 0x05 => if int then (if sa < sb then b else a) else
      if na.isNan && nb.isNan then ((fmtOf k.fmt).map Fmt.nanBits).getD 0 else
      if na.isNan || (!nb.isNan && na.below nb) then b else a
  | 0x06 => if int then ofSigned w (if sa < 0 then -sa else sa) else a % 2 ^ (w - 1)
  | 0x07 => if int then ofSigned w (-sa) else a ^^^ 2 ^ (w - 1)
  | 0x08 => a &&& b
  | 0x09 => a ||| b
  | 0x0A => a ^^^ b
  | 0x0B => a * 2 ^ (b % w)
  | 0x0C => ofSigned w (sa / (2 ^ (b % w) : Nat))
  | 0x0D => a
  | 0x0E => k.xs
  | 0x0F => i
  | _ => roundArith k.fmt k.nsat k.rnd (k.r16 i) (fp32.decode (approx32 opc (Config.freeValue (k.ctr + 1024 + i)) na))

/-- The formats that an operation accepts (R394-R398). -/
def vAccepts (opc fmt fmt2 : Nat) : Bool :=
  let mx (f : Nat) : Bool := f == 3 || (decide (7 ≤ f) && decide (f ≤ 11))
  if opc ≤ 0x0A ∨ opc = 0x0D ∨ opc = 0x0E then decide (fmt ≤ 6)
  else if opc ≤ 0x0C ∨ opc = 0x0F then isInt fmt
  else if opc = 0x10 then decide (fmt ≤ 6) && decide (fmt2 ≤ 6)
  else if opc ≤ 0x1A then decide (fmt ≤ 6)
  else if opc = 0x1B then fmt == 0 || fmt == 5
  else if opc = 0x20 then decide (fmt ≤ 11) && decide (fmt2 ≤ 11)
  else if opc = 0x21 then decide (fmt ≤ 1) && mx fmt2
  else if opc = 0x22 then mx fmt && decide (fmt2 ≤ 1)
  else if opc ≤ 0x24 then true
  else if opc ≤ 0x34 then decide (fmt ≤ 2)
  else decide (fmt ≤ 3)

/-- The low bytes of the vector majors that exist (R394). -/
def vExists (opc : Nat) : Bool :=
  decide (opc ≤ 0x10) || (decide (0x18 ≤ opc) && decide (opc ≤ 0x1B)) || (decide (0x20 ≤ opc) && decide (opc ≤ 0x24)) ||
  (decide (0x30 ≤ opc) && decide (opc ≤ 0x34)) || opc == 0x40

/-- An elementwise operation on whole registers. -/
def vMap (opc : Nat) (k : VCtl) (a b c : Nat) : Nat :=
  let h := fmtHalf k.fmt
  buildElems h (512 / h) fun i => vElem opc k i (elem a h i) (elem b h i) (elem c h i)

/-- R394: the comparison of VCMP. -/
def vCompare (k : VCtl) (a b : Nat) : Bool :=
  let w := 4 * fmtHalf k.fmt
  let x := if isInt k.fmt then Num.ofInt (toSigned w a) else decodeElem k.fmt a
  let y := if isInt k.fmt then Num.ofInt (toSigned w b) else decodeElem k.fmt b
  match k.fmt2 with
  | 0 => x.eq y
  | 1 => !x.eq y
  | 2 => x.lt y
  | 3 => x.lt y || x.eq y
  | 4 => y.lt x
  | 5 => y.lt x || x.eq y
  | _ => x.isNan || y.isNan

/-- The active elements of a register, with their indices. -/
def activeElems (pg fmt a : Nat) : List (Nat × Nat) :=
  let h := fmtHalf fmt
  ((List.range (512 / h)).filter fun i => active pg h i).map fun i => (i, elem a h i)

/-- The best datum of a list under a comparison, with its lane; NaN is ignored. -/
def bestOf (better : Num → Num → Bool) (fmt : Nat) (l : List (Nat × Nat)) : Option (Nat × Nat) :=
  l.foldl (fun r x =>
    let y := decodeElem fmt x.2
    if y.isNan then r
    else match r with
      | none => some x
      | some z => if better y (decodeElem fmt z.2) then some x else r) none

/-- R394: VRSUM, VRMAX, VRMIN and VRMAXI (log entry 98, DESIGN CHOICE). -/
def vReduce (opc : Nat) (k : VCtl) (pg a : Nat) : Nat :=
  let h := fmtHalf k.fmt
  let l := activeElems pg k.fmt a
  let inf (n : Bool) : Nat := match fmtOf k.fmt with
    | some t => t.infBits n
    | none => Config.freeValue k.ctr % 2 ^ (4 * h)
  match opc with
  | 0x18 =>
    if isInt k.fmt then l.foldl (fun s x => s + x.2) 0 % 2 ^ (4 * h)
    else
      let t := anyOrderSum (if k.rnd = 0 then 0 else 1) (Config.freeValue k.ctr) (l.map fun x => decodeElem k.fmt x.2) 0
      if k.fmt = 0 then t else roundArith k.fmt k.nsat k.rnd (k.r16 1) (fp32.decode t)
  | 0x19 => ((bestOf (fun x y => y.below x) k.fmt l).map Prod.snd).getD (inf true)
  | 0x1A => ((bestOf (fun x y => x.below y) k.fmt l).map Prod.snd).getD (inf false)
  | _ => match bestOf (fun x y => y.below x) k.fmt l with
    | some (i, x) => x + i * 2 ^ 32
    | none => (if k.fmt = 0 then fp32.infBits true else 2 ^ 31) + 0xFFFF_FFFF * 2 ^ 32

/-- R395: VCVT, with the guard and Z on destination elements. -/
def vConvert (k : VCtl) (pg : Nat) (z : Bool) (old a : Nat) : Nat :=
  let h1 := fmtHalf k.fmt
  let h2 := fmtHalf k.fmt2
  buildElems h2 (512 / max h1 h2) fun i =>
    if active pg h2 i then convertTo k.fmt2 k.nsat k.rnd (k.r16 i) (decodeElem k.fmt (elem a h1 i))
    else if z then 0 else elem old h2 i

/-- R396: one block of VMXQ: the elements and the scale byte (log entry 98, DESIGN CHOICE). -/
def quantBlock (k : VCtl) (a b : Nat) : (Nat → Nat) × Nat :=
  let h := fmtHalf k.fmt
  let x (i : Nat) : Num := decodeElem k.fmt (elem a h (32 * b + i))
  match blockMax ((List.range 32).map x) with
  | none => (fun i => Config.freeValue (k.ctr + 64 + 32 * b + i), 255)
  | some (m, e) =>
    if m = 0 then (fun i => mxElem k.fmt2 0 k.rnd 0 (x i), 0)
    else
      let (mM, t) := mxMax k.fmt2
      let s := mxScale m e mM t
      (fun i => mxElem k.fmt2 s k.rnd (k.r16 (32 * b + i)) (x i), (s + 127).toNat)

/-- R396: VMXQ, VMXD, VPACK6, VUNPK6. -/
def vMx (opc : Nat) (k : VCtl) (a : Nat) : Nat :=
  match opc with
  | 0x21 =>
    let (f0, s0) := quantBlock k a 0
    let (f1, s1) := quantBlock k a 1
    buildElems (fmtHalf k.fmt2) 64 (fun i => if i < 32 then f0 i else f1 (i - 32)) + s0 * 2 ^ 1984 + s1 * 2 ^ 1992
  | 0x22 =>
    buildElems (fmtHalf k.fmt2) 64 fun i =>
      convertTo k.fmt2 k.nsat k.rnd (k.r16 i)
        (mxDecode k.fmt (a / 2 ^ (1984 + 8 * (i / 32)) % 256) (elem a (fmtHalf k.fmt) i))
  | 0x23 => (List.range 256).foldl (fun v j => v + elem a 2 j % 64 * 2 ^ (6 * j)) 0
  | _ => buildElems 2 256 fun j => a / 2 ^ (6 * j) % 64

end Sys2Proof.Machine
end

