-- ==== Sys2Proof/Machine/Checkpoint.lean ====
section
/-! DEFINITION. Chapter 14: checkpoint sessions, capture, drain and commit, and restore. -/

namespace Sys2Proof.Machine
open Sys2Proof

def State.session (s : State) (k : Nat) : Option Session := Map.get s.ckp.sessions k
def State.setSession (s : State) (k : Nat) (x : Session) : State := { s with ckp.sessions := Map.put s.ckp.sessions k x }
def State.modSession (s : State) (k : Nat) (g : Session → Session) : State :=
  { s with ckp.sessions := Map.modify s.ckp.sessions k g }

/-! ## Shards and pages (R457, R458) -/

/-- Pages of a session, and the first page of each shard. -/
def pagesOf (l : List Shard) : Nat := l.foldl (fun n x => n + x.pages) 0
def firstPage (l : List Shard) (i : Nat) : Nat := pagesOf (l.take i)

/-- The shard of a page of the page sequence, and the page's index in it. -/
def shardOf : List Shard → Nat → Option (Shard × Nat)
  | [], _ => none
  | x :: t, p => if p < x.pages then some (x, p) else shardOf t (p - x.pages)

/-- The shard-table entry at an index; `none` where it breaks R458. -/
def shardEntry (b : Bytes) (i : Nat) : Option Shard :=
  let e := slice b (64 * i) 64
  let x : Shard := {
    device := bit (u8 e 0) 0, cls := bits (u8 e 1) 1 0, bf16 := bit (u8 e 1) 2, overlap := bit (u8 e 1) 3,
    member := u8 e 2, addr := u64 e 8, pages := u64 e 16 / 65536 }
  let bad := bits (u8 e 0) 7 1 != 0 || bits (u8 e 1) 7 4 != 0 || (slice e 3 5).any (· != 0) || (slice e 24 40).any (· != 0) ||
    x.cls == 3 || (x.cls != 2 && x.bf16) || (decide (7 < x.member) && x.member != 255) || (x.overlap && x.member != 255) ||
    x.addr % 65536 != 0 || u64 e 16 % 65536 != 0 || u64 e 16 == 0 || decide (2 ^ 32 < u64 e 16)
  if bad then none else some x

/-- The pages of a member (8: none) in page-sequence order that have not been read, as a search from page 0. -/
def nextPage (l : List Shard) (seen skip : List Nat) (lane : Nat) : Option Nat :=
  (List.range (pagesOf l)).find? fun p =>
    !seen.contains p && !skip.contains p && (match shardOf l p with
      | some (x, _) => if lane < 8 then x.member == lane else x.member == 255
      | none => false)

/-! ## Narrowing and widening (R472) -/

/-- The narrowing conversions: RNE, non-saturating, from FP32 or BF16 to E4M3; `c` numbers free values
(log entry 122, DEDUCED). -/
def ckpCtl (src c : Nat) : VCtl := { fmt := src, fmt2 := 7, nsat := true, rnd := 0, ctr := c }

/-- Elements of `w` bytes of a page. -/
def elems (w : Nat) (b : Bytes) : List Nat := (List.range (b.length / w)).map fun i => fld b (w * i) w

/-- The stored bytes of a page in its shard's class (log entry 122, DEDUCED). -/
def narrow (x : Shard) (c : Nat) (b : Bytes) : Bytes :=
  match x.cls with
  | 0 => b
  | 1 => (elems 4 b).flatMap fun v => toLe 2 (convertTo 1 true 0 0 (decodeElem 0 v))
  | _ =>
    let w := if x.bf16 then 2 else 4
    let k := ckpCtl (if x.bf16 then 1 else 0) c
    let blocks := (List.range (b.length / (32 * w))).map fun j => quantBlock { k with ctr := c + 128 * j } (fld b (32 * w * j) (32 * w)) 0
    (blocks.flatMap fun q => (List.range 32).map fun i => BitVec.ofNat 8 (q.1 i)) ++ blocks.map fun q => BitVec.ofNat 8 q.2

/-- A stored page widened to its source format. -/
def widen (x : Shard) (b : Bytes) : Bytes :=
  match x.cls with
  | 0 => padTo 65536 b
  | 1 => (elems 2 (padTo 32768 b)).flatMap fun v => toLe 4 (convertTo 0 true 0 0 (decodeElem 1 v))
  | _ =>
    let w := if x.bf16 then 2 else 4
    let n := 65536 / w
    (List.range n).flatMap fun i =>
      toLe w (convertTo (if x.bf16 then 1 else 0) true 0 0 (mxDecode 7 (u8 b (n + i / 32)) (u8 b i)))

/-- Stored bytes of a page, and the quota that it takes (R468). -/
def storedBytes (x : Shard) : Nat := if x.cls = 0 then 65536 else if x.cls = 1 then 32768 else if x.bf16 then 33792 else 16896
def roundPage (n : Nat) : Nat := ceilDiv n 4096 * 4096

/-- Pannier bytes in use by a session, index included (R460, R468). -/
def Session.pannier (x : Session) : Nat :=
  64 * pagesOf x.shards +
    x.ckpts.foldl (fun n c => c.kept.foldl (fun n k => if k.extent.isNone then n + roundPage k.data.length else n) n) 0

/-! ## Access to a shard's memory -/

/-- Read `n` bytes of a shard at an offset; host bytes are the answer's from `off`. -/
def State.shardRead (s : State) (k : Nat) (x : Shard) (a n off : Nat) (ans : HostAns) : State × AccRes :=
  if x.device then
    if s.inUse [useJobs] (x.addr + a) n then
      let (s, d, f) := s.hbmRead (x.addr + a) n
      (s, { done := n, data := d, poisoned := f == .poisoned, medium := f == .uncorrectable })
    else (s, { status := .accessViolation })
  else s.spokeReadLoop k ans (n / 4096 + 2) (x.addr + a) n off

/-- Read a page for a capture: granules that a protected write has met are read as they stood at the cut (R470)
(log entries 112, DEDUCED; 113, DEDUCED). -/
def State.pageRead (s : State) (k sess : Nat) (x : Shard) (page inShard : Nat) (ans : HostAns) : State × AccRes :=
  (List.range 16).foldl (fun (sr : State × AccRes) g =>
    if sr.2.status != .success then sr
    else
      match sr.1.mem.prot.find? fun p => p.session == sess && p.page == page && p.part == g && p.hit && p.host.isNone with
      | some p => (sr.1, { sr.2 with data := sr.2.data ++ p.old, poisoned := sr.2.poisoned || p.mark == .poisoned,
                                     medium := sr.2.medium || p.mark == .mediumError })
      | none =>
        let (s, r) := sr.1.shardRead k x (65536 * inShard + 4096 * g) 4096 (4096 * g) ans
        (s, { r with data := sr.2.data ++ r.data, poisoned := sr.2.poisoned || r.poisoned, medium := sr.2.medium || r.medium }))
    (s, {})

/-- Write bytes of a shard. -/
def State.shardWrite (s : State) (k : Nat) (x : Shard) (a : Nat) (d : Bytes) (ans : HostAns) : State × AccRes :=
  if x.device then
    if s.inUse [useJobs] (x.addr + a) d.length then (s.hbmWrite (x.addr + a) d false, { done := d.length })
    else (s, { status := .accessViolation })
  else s.spokeWrite k (x.addr + a) d false ans

/-- R469: the protections of an overlapped shard's pages at the cut; the status that ends the capture
(log entry 113, DEDUCED). -/
def State.protect (s : State) (k sess : Nat) (x : Shard) (first : Nat) : State × Status :=
  (List.range (16 * x.pages)).foldl (fun (sr : State × Status) g =>
    let page := first + g / 16
    let add (s : State) (h : Option Nat) (a : Nat) : State :=
      { s with mem.prot := s.mem.prot ++ [{ session := sess, page := page, part := g % 16, host := h, addr := a }] }
    if sr.2 != .success then sr
    else if x.device then (add sr.1 none (x.addr + 4096 * g), .success)
    else match sr.1.translate k (x.addr + 4096 * g) false with
      | (.ok (.hbm d) _, s) => (add s none d, .success)
      | (.ok (.host a _) _, s) => (add s (some (s.spokeFn k)) a, .success)
      | (.ok (.peer _) _, s) => (s, .accessViolation)
      | (.bad st, s) => (s, st)) (s, .success)

/-- Remove the protections of a session's page, or of all its pages. -/
def State.unprotect (s : State) (sess : Nat) (page : Option Nat) : State :=
  { s with mem.prot := s.mem.prot.filter fun p => !(p.session == sess && (page.isNone || page == some p.page)) }

/-! ## Manifests (R476, R477, R481) -/

/-- R481, step 1. -/
def manForm (b : Bytes) : Bool :=
  let n := u16 b 6
  u32 b 0 == 0x4E41_4D43 && u16 b 4 == 1 && decide (1 ≤ n) && decide (n ≤ 256) && u32 b 52 == 128 + 128 * n

/-- R481, step 2 (log entry 118, DEDUCED). -/
def manSigned (seed b : Bytes) : Bool :=
  let n := u32 b 52
  let t := b.drop n
  let msg := b.take (n + 48)
  slice t 0 48 == keyIdentity seed && Config.edVerify (pairEd seed) msg (slice t 48 64) &&
  Config.mldsaVerify (pairMl seed) msg (slice t 112 3309)

/-- What is kept of a manifest. -/
def manOf (b : Bytes) : Manifest :=
  { ckpt := u64 b 8, step := u64 b 32, depth := u8 b 48, base := u64 b 16, dataEnd := u64 b 56, chainStart := u64 b 64 }

/-- The bytes of a slot, as a read of it answers (log entry 112, DEDUCED). -/
def slotRead : HostAns → Except Status Bytes
  | .ok d false => .ok (padTo 65536 d)
  | .ok _ true => .error .poisoned
  | .fail st => .error st
  | .noAccess => .error .mediumError

/-! ## Opening and closing a session (R460, R461) -/

/-- The data area of the PANNIER regions. -/
def State.pannierBytes (s : State) : Nat :=
  (Map.vals s.mem.regions).foldl (fun n r => if r.valid && r.use == usePannier then n + (r.dataEnd - r.baseByte) else n) 0

/-- R460, step 1, apart from the shard entries (log entry 115, DEDUCED). -/
def State.openBad (s : State) (p : Bytes) : Bool :=
  let w := u16 p 44
  let r := u16 p 46
  (s.spoke (u16 p 0)).isNone || decide (2047 < u16 p 0) || u16 p 2 = 0 || decide (256 < u16 p 2) || decide (u64 p 16 < 2048) ||
  u8 p 40 = 0 || decide (160 < u8 p 40) || (slice p 41 3).any (· != 0) || w = 0 || r = 0 || decide (400 < r) ||
  ((List.range 8).any fun m => bit (u16 p (48 + 2 * m)) 14) || u8 p 68 = 0 || decide (32 < u8 p 68) ||
  (match s.space (u32 p 4) with
   | none => true
   | some n => lbaBytes n.lbaf != 4096 || n.ctrls == [] || decide (n.nsze < u64 p 8 + u64 p 16))

/-- The newest manifest of the slots that verifies under steps 1 and 2. -/
def newestManifest (seed : Bytes) (slots : List Bytes) : Option Manifest :=
  (slots.filter fun b => manForm b && manSigned seed b).foldl (fun m b => match m with
    | none => some (manOf b)
    | some x => if x.ckpt < u64 b 8 then some (manOf b) else m) none

/-- CKP_SESSION_OPEN: `table` answers the read of the shard table, `slots` the reads of the manifest slots
(log entries 112, DEDUCED; 115, DEDUCED). -/
def State.sessionOpen (s : State) (f : Nat) (table : HostAns) (slots : List HostAns) (p : Bytes) : Reply :=
  let k := u16 p 0
  let n := u16 p 2
  let (s1, r) := s.spokeRead k (u64 p 24) (64 * n) table
  let tst := withMarks r.status r.poisoned r.medium
  let es := (List.range n).map (shardEntry r.data)
  let shards := es.filterMap id
  let key := u32 p 64
  let keySt := s.keyCheck key [6] k
  let release := (List.range 8).map fun m => u16 p (48 + 2 * m)
  let ownsRel := release.all fun x => !bit x 15 || (match Map.get s.trg.counters (bits x 13 0) with
    | some c => c.spoke == k
    | none => false)
  let pf0Base := (s.spoke k).any fun sp => sp.base && sp.fn % 4 == 0
  let overlap := s.ckp.sessions.any fun (_, x) => x.nsid == u32 p 4 &&
    decide (x.start < u64 p 8 + u64 p 16) && decide (u64 p 8 < x.start + x.blocks)
  let quota := u8 p 40 * 2 ^ 30
  let held := s.ckp.sessions.foldl (fun a x => a + x.2.quota) 0
  let sl := (List.range 64).map fun i => slotRead (slots.getD i (.fail .mediumError))
  let slotSt := (sl.filterMap fun x => match x with
    | .error st => some st
    | .ok _ => none).head?.getD .success
  let bytes := sl.filterMap fun x => match x with
    | .ok b => some b
    | .error _ => none
  let st := checks [
    (s.openBad p || (tst == .success && es.any Option.isNone) || keySt == .malformed, .malformed),
    (!s.mayNameSpoke f k || ((shards.any Shard.device) && !pf0Base) || !ownsRel || keySt == .notPermitted || overlap, .notPermitted),
    (keySt != .success, keySt),
    (decide (64 ≤ s.ckp.sessions.length) || decide (s.pannierBytes < held + quota) || decide (quota < 64 * pagesOf shards), .resource),
    (tst != .success, tst),
    (slotSt != .success, slotSt)]
  if st != .success then Reply.err s st
  else match Map.lowestFree s.ckp.sessions 64 with
    | none => Reply.err s .resource
    | some i =>
      let (h, s2) := s1.drawBytes 16
      let m := newestManifest ((s.keyBytes key).getD []) bytes
      let newest := (m.map Manifest.ckpt).getD 0
      let x : Session := {
        spoke := k, shards := shards, nsid := u32 p 4, start := u64 p 8, blocks := u64 p 16, job := u64 p 32, quota := quota,
        weight := u16 p 44, rate := u16 p 46, release := release, signKey := key, maxChain := u8 p 68, hashKey := h,
        chain := m, newest := newest, committed := newest }
      Reply.ok (s2.setSession i x) (toLe 1 i ++ zeros 7 ++ toLe 8 newest)

def execCkpSessionOpen (f : Nat) (table : HostAns) (slots : List HostAns) (s : State) : Outcome :=
  .next (s.perform f 0x0701 fun p s => s.sessionOpen f table slots p)

/-- CKP_SESSION_CLOSE. -/
def State.sessionClose (s : State) (f : Nat) (p : Bytes) : Reply :=
  match s.session (u8 p 0) with
  | none => Reply.err s .malformed
  | some x =>
    if !s.mayNameSpoke f x.spoke || x.ckpts != [] || x.restore.isSome then Reply.err s .notPermitted
    else Reply.ok { s with ckp.sessions := Map.erase s.ckp.sessions (u8 p 0) } []

def execCkpSessionClose (f : Nat) (s : State) : Outcome := .next (s.perform f 0x0702 fun p s => s.sessionClose f p)

/-- CKP_DRAIN_SET. -/
def State.drainSet (s : State) (f : Nat) (p : Bytes) : Reply :=
  match s.session (u8 p 0) with
  | none => Reply.err s .malformed
  | some x =>
    if u16 p 2 = 0 ∨ u16 p 4 = 0 ∨ 400 < u16 p 4 then Reply.err s .malformed
    else if !s.mayNameSpoke f x.spoke then Reply.err s .notPermitted
    else Reply.ok (s.setSession (u8 p 0) { x with weight := u16 p 2, rate := u16 p 4 }) []

def execCkpDrainSet (f : Nat) (s : State) : Outcome := .next (s.perform f 0x0703 fun p s => s.drainSet f p)

/-- The state byte of a session (R484). -/
def Session.stateByte (x : Session) : Nat :=
  b2n (x.ckpts.any Ckpt.capturing) + 2 * b2n (x.ckpts.any fun c => c.start.isSome || !c.capturing) + 4 * b2n x.restore.isSome +
  8 * b2n x.fullNext

/-- Blocks of a store's data ring, and where the next object would go (R459, R479). -/
def Session.ring (x : Session) : Nat := x.blocks - 1024
/-- Log entry 116, DEDUCED. -/
def Session.pos (x : Session) : Nat :=
  match x.ckpts.find? fun c => c.start.isSome with
  | some c => c.pos
  | none => (x.chain.map Manifest.dataEnd).getD 0
/-- The start of the protected chain (log entry 116, DEDUCED). -/
def Session.guardAt (x : Session) : Option Nat :=
  match x.chain with
  | some m => some m.chainStart
  | none => (x.ckpts.find? fun c => c.start.isSome).bind Ckpt.start

/-- Ring blocks that are free. -/
def Session.freeBlocks (x : Session) : Nat :=
  match x.guardAt with
  | none => x.ring
  | some c => if c ≤ x.pos then x.ring - (x.pos - c) else c - x.pos

/-- CKP_QUERY. -/
def State.ckpQuery (s : State) (f : Nat) (p : Bytes) : Reply :=
  match s.session (u8 p 0) with
  | none => Reply.err s .malformed
  | some x =>
    if !s.mayNameSpoke f x.spoke then Reply.err s .notPermitted
    else Reply.ok s (toLe 1 x.stateByte ++ toLe 1 ((x.base.map Manifest.depth).getD 0) ++ zeros 6 ++ toLe 8 x.committed ++
      toLe 8 (x.step.getD 0) ++ toLe 8 x.pannier ++ toLe 8 x.freeBlocks)

def execCkpQuery (f : Nat) (s : State) : Outcome := .next (s.perform f 0x0704 fun p s => s.ckpQuery f p)

/-! ## Capture (R462-R471) -/

/-- R467: release a member: its counter, then CKP_RELEASED. -/
def State.releaseMember (s : State) (k : Nat) (x : Session) (ckpt m : Nat) : State :=
  let r := x.release.getD m 0
  let s := if bit r 15 then s.sendUpdate { counter := bits r 13 0, spoke := x.spoke, amount := 1 } else s
  s.postEvent x.spoke 0x0701 (k + 256 * m) ckpt .success 0x3FFFF

/-- The checkpoint in capture of a session. -/
def Session.inCapture (x : Session) : Option Ckpt := x.ckpts.find? Ckpt.capturing

/-- Change the checkpoint with a number. -/
def Session.modCkpt (x : Session) (n : Nat) (g : Ckpt → Ckpt) : Session :=
  { x with ckpts := x.ckpts.map fun c => if c.ckpt = n then g c else c }

/-- R467: release the members whose shards have been read, and end the capture phase when every shard has. -/
def State.capAdvance (s : State) (k n : Nat) : State :=
  match s.session k with
  | none => s
  | some x =>
    match x.ckpts.find? fun c => c.ckpt == n with
    | none => s
    | some c =>
      if !c.capturing then s
      else
        let due := (List.range 8).filter fun m => !c.released.contains m && (nextPage x.shards c.seen c.skip m).isNone
        let s := s.setSession k (x.modCkpt n fun c => { c with released := c.released ++ due })
        let s := due.foldl (fun s m => s.releaseMember k x n m) s
        if (List.range 9).all fun m => (nextPage x.shards c.seen c.skip m).isNone then
          let s := s.modSession k fun x => { (x.modCkpt n fun c => { c with capturing := false }) with
            base := some { ckpt := n, step := c.step, depth := c.depth, base := c.base, dataEnd := 0, chainStart := 0 } }
          (s.unprotect k none).postEvent x.spoke 0x0702 k n .success 0x3FFFF
        else s

/-- Drop a checkpoint that fails or is abandoned: protections go, members are released, FULL_NEXT is set
(log entry 116, DEDUCED). -/
def State.dropCkpt (s : State) (k n : Nat) : State :=
  match s.session k with
  | none => s
  | some x =>
    match x.ckpts.find? fun c => c.ckpt == n with
    | none => s
    | some c =>
      let s := if c.capturing then s.unprotect k none else s
      let s := s.setSession k { x with ckpts := x.ckpts.filter fun c => c.ckpt != n, fullNext := true, base := x.chain }
      ((List.range 8).filter fun m => !c.released.contains m).foldl (fun s m => s.releaseMember k x n m) s

/-- R471: a checkpoint fails, and with it those that have it as their base (log entry 114, DEDUCED). -/
def State.failCkpt (s : State) (k n : Nat) (st : Status) : Nat → State
  | 0 => s
  | fuel + 1 =>
    match s.session k with
    | none => s
    | some x =>
      match x.ckpts.find? fun c => c.ckpt == n with
      | none => s
      | some c =>
        let s := (s.dropCkpt k n).postEvent x.spoke 0x0704 k n st 0x3FFFF
        let s := match c.op with
          | some o => s.finish o st 0 n
          | none => s
        ((x.ckpts.filter fun d => d.base == n && d.ckpt != n).map Ckpt.ckpt).foldl (fun s m => State.failCkpt s k m st fuel) s

/-- The bits of a dirty bitmap that are clear, as pages. -/
def clearPages (n : Nat) (b : Bytes) : List Nat := (List.range n).filter fun j => !bit (u8 b (j / 8)) (j % 8)

/-- CAPTURE: the cut (R462-R464, R469).  `ans` answers the read of the dirty bitmap
(log entries 114, DEDUCED; 115, DEDUCED; 121, DEDUCED). -/
def State.capture (s : State) (o : Nat) (ans : HostAns) : State :=
  match s.running o .checkpoint with
  | none => s
  | some (op, q) =>
    let d := op.desc
    let k := bits (u8 d 16) 5 0
    if dOpcode d ≠ 1 || op.posted || s.heldNew 5 then s
    else match s.session k with
      | none => s.finish o .malformed 0 0
      | some x =>
        let dirty := bit (u8 d 17) 2
        let stale := match x.step with
          | some t => decide (u64 d 24 ≤ t)
          | none => false
        if u32 d 20 = 0 || decide (600000 < u32 d 20) || (dirty && u64 d 32 % 8 != 0) then s.finish o .malformed 0 0
        else if stale && x.spoke == q.spoke then s.finish o .malformed 0 0
        else if x.spoke != q.spoke || x.ckpts != [] || x.restore.isSome then s.finish o .notPermitted 0 0
        else
          let full := bit (u8 d 17) 1 || x.fullNext || (match x.base with
            | none => true
            | some b => b.depth == x.maxChain)
          let n := x.newest + 1
          let total := pagesOf x.shards
          let (s, r) := if dirty && !full then s.spokeRead x.spoke (u64 d 32) (ceilDiv total 8) ans else (s, ({} : AccRes))
          if s.pages x.spoke r then s.parkOp o (u64 d 32) x.spoke r
          else
            let st := withMarks r.status r.poisoned r.medium
            let skip := if dirty && !full && st == .success then clearPages total r.data else []
            let c : Ckpt := {
              op := some o, ckpt := n, step := u64 d 24, full := full, base := if full then 0 else (x.base.map Manifest.ckpt).getD 0,
              depth := if full then 0 else (x.base.map Manifest.depth).getD 0 + 1, cutAt := s.now, limitMs := u32 d 20,
              noStall := bit (u8 d 17) 0, skip := skip }
            let s := s.setSession k { x with newest := n, step := some (u64 d 24), ckpts := x.ckpts ++ [c] }
            let s := s.modOp o fun op => { op with posted := true }
            let s := s.rsat (aCkpCnt 2) 63 0 skip.length
            if st != .success then s.failCkpt k n st 4
            else
              let (s, pst) := ((x.shards.zipIdx).filter fun p => p.1.overlap).foldl (fun (sr : State × Status) p =>
                if sr.2 != .success then sr else sr.1.protect x.spoke k p.1 (firstPage x.shards p.2)) (s, .success)
              if pst != .success then s.failCkpt k n pst 4 else s.capAdvance k n

def execCapture (o : Nat) (ans : HostAns) (s : State) : Outcome := .next (s.capture o ans)

/-- R465-R468: a page read of the checkpoint in capture completes. -/
def State.capturePage (s : State) (k : Nat) (x : Session) (c : Ckpt) (page : Nat) (ans : HostAns) : State :=
  match shardOf x.shards page with
  | none => s
  | some (sh, i) =>
    let parked := match c.op.bind s.op with
      | some op => op.phase == .parked
      | none => false
    let frozen := !sh.device && s.frozenFn (s.spokeFn x.spoke) && (match s.translate x.spoke (sh.addr + 65536 * i) false with
      | (.ok (.host _ _) _, _) => true
      | _ => false)
    if parked || frozen then s
    else
      let (s1, r) := s.pageRead x.spoke k sh page i ans
      match c.op, s1.pages x.spoke r with
      | some o, true => s1.parkOp o (sh.addr + 65536 * i) x.spoke r
      | _, _ =>
        let st := withMarks r.status r.poisoned r.medium
        if st != .success then s1.failCkpt k c.ckpt st 4
        else
          let fp := Config.ghash x.hashKey r.data
          let keep := c.full || (match Map.get x.index page with
            | some e => e.1 != fp
            | none => true)
          let size := roundPage (storedBytes sh)
          if keep && decide (x.quota < x.pannier + size) then
            if c.noStall then s1.failCkpt k c.ckpt .resource 4 else s
          else
            let data := narrow sh s1.freeCtr r.data
            let s1 := if keep && sh.cls == 2 then { s1 with freeCtr := s1.freeCtr + 131072 } else s1
            let s1 := s1.rsat (aCkpCnt 0) 63 0 1
            let s1 := if keep then s1.rsat (aCkpCnt 1) 63 0 1 else s1
            let kp : KeptPage := { page := page, data := data }
            let ins (l : List KeptPage) : List KeptPage := (l.filter fun y => decide (y.page < page)) ++ [kp] ++ l.filter fun y => decide (page < y.page)
            let s1 := s1.modSession k fun x =>
              let x := x.modCkpt c.ckpt fun c => { c with seen := setIns c.seen page, kept := if keep then ins c.kept else c.kept }
              if keep then { x with index := Map.put x.index page (fp, []) } else x
            (s1.unprotect k (some page)).capAdvance k c.ckpt

/-- CAPTURE_PAGE_READ: the next page of a member (8: of the shards without one, after all members)
(log entry 112, DEDUCED). -/
def State.captureRead (s : State) (k lane : Nat) (ans : HostAns) : State :=
  match s.session k with
  | none => s
  | some x =>
    match x.inCapture with
    | none => s
    | some c =>
      let busy := lane = 8 && (List.range 8).any fun m => (nextPage x.shards c.seen c.skip m).isSome
      match nextPage x.shards c.seen c.skip lane with
      | some p => if busy || decide (8 < lane) then s else s.capturePage k x c p ans
      | none => s

def execCapturePageRead (k lane : Nat) (ans : HostAns) (s : State) : Outcome := .next (s.captureRead k lane ans)

/-- PROTECTED_WRITE (R470): the page that a held write needs is read ahead, and its protection is removed
(log entry 113, DEDUCED). -/
def State.protectedWrite (s : State) (k page : Nat) (ans : HostAns) : State :=
  match s.session k with
  | none => s
  | some x =>
    match x.inCapture with
    | none => s
    | some c =>
      if (s.mem.prot.any fun p => p.session == k && p.page == page && p.hit) && !c.seen.contains page && !c.skip.contains page then
        s.capturePage k x c page ans
      else s

def execProtectedWrite (k page : Nat) (ans : HostAns) (s : State) : Outcome := .next (s.protectedWrite k page ans)

/-- CAPTURE_TIMEOUT (R468). -/
def State.captureTimeout (s : State) (k : Nat) : State :=
  match s.session k with
  | none => s
  | some x =>
    match x.inCapture with
    | none => s
    | some c => State.failCkpt { s with now := max s.now (c.cutAt + 1_000_000 * c.limitMs) } k c.ckpt .timeout 4

def execCaptureTimeout (k : Nat) (s : State) : Outcome := .next (s.captureTimeout k)

/-! ## Drain and commit (R473-R479) -/

/-- R459, R479: where an object of `n` blocks goes, unless it would reach the protected chain
(log entry 116, DEDUCED). -/
def Session.place (x : Session) (n : Nat) : Option Nat :=
  let p := x.pos
  let wrap := decide (x.ring < p + n)
  let a := if wrap then 0 else p
  if x.ring < n then none
  else match x.guardAt with
    | none => some a
    | some c =>
      if p < c then if wrap then none else if a + n < c then some a else none
      else if wrap then if n < c then some 0 else none
      else some a

/-- The page map of a shard (R474). -/
def pageMap (c : Ckpt) (l : List Shard) (i : Nat) : Bytes :=
  let f := firstPage l i
  let n := (l[i]?.map Shard.pages).getD 0
  let ps := c.kept.filter fun k => decide (f ≤ k.page) && decide (k.page < f + n)
  let h := toLe 4 0x5041_4D50 ++ toLe 2 i ++ zeros 2 ++ toLe 8 c.ckpt ++ toLe 8 c.step ++ toLe 4 ps.length ++ zeros 36
  let b := h ++ ps.flatMap fun k => toLe 4 (k.page - f) ++ toLe 4 k.data.length ++ toLe 8 (k.extent.getD 0) ++ padTo 48 k.hash
  padTo (roundPage b.length) b

/-- What the drain writes next: the kept page lowest in the sequence, or the map of a shard that is read and written. -/
inductive DrainObj where
  | page (k : KeptPage)
  | map (shard : Nat)
  | none
deriving DecidableEq, Repr

/-- Log entry 117, DEDUCED. -/
def Session.nextObj (x : Session) (c : Ckpt) : DrainObj :=
  let ready (i : Nat) : Bool :=
    let f := firstPage x.shards i
    let n := (x.shards[i]?.map Shard.pages).getD 0
    !(c.maps.any fun m => m.1 == i) &&
    (!c.capturing || (List.range n).all fun j => c.seen.contains (f + j) || c.skip.contains (f + j)) &&
    c.kept.all fun k => k.extent.isSome || !(decide (f ≤ k.page) && decide (k.page < f + n))
  match (List.range x.shards.length).find? ready with
  | some i => .map i
  | none => match c.kept.find? fun k => k.extent.isNone with
    | some k => .page k
    | none => .none

/-- R475: the digest of a shard. -/
def shardDigest (index : Map (Bytes × Bytes)) (l : List Shard) (i : Nat) : Bytes :=
  padTo 48 (Config.sha384 ((List.range ((l[i]?.map Shard.pages).getD 0)).flatMap fun j =>
    padTo 48 ((Map.get index (firstPage l i + j)).map Prod.snd |>.getD [])))

/-- R476, R477: the manifest of a checkpoint, signed. -/
def State.manifest (s : State) (x : Session) (c : Ckpt) (seed : Bytes) (rnd : Nat) : Bytes :=
  let start := if c.full then c.start.getD 0 else (x.chain.map Manifest.chainStart).getD (c.start.getD 0)
  let n := x.shards.length
  let h := toLe 4 0x4E41_4D43 ++ toLe 2 1 ++ toLe 2 n ++ toLe 8 c.ckpt ++ toLe 8 c.base ++ toLe 8 x.job ++ toLe 8 c.step ++
    toLe 8 (s.ptp 0) ++ toLe 1 c.depth ++ zeros 3 ++ toLe 4 (128 + 128 * n) ++ toLe 8 c.pos ++ toLe 8 start ++ zeros 56
  let ent (p : Shard × Nat) : Bytes :=
    let f := firstPage x.shards p.2
    let ks := c.kept.filter fun k => decide (f ≤ k.page) && decide (k.page < f + p.1.pages)
    let m := (c.maps.find? fun m => m.1 == p.2).getD (p.2, 0, 0)
    toLe 2 p.2 ++ toLe 1 p.1.member ++ toLe 1 (p.1.cls + 4 * b2n p.1.bf16) ++ toLe 4 p.1.pages ++ toLe 8 m.2.1 ++ toLe 4 m.2.2 ++
    toLe 4 ks.length ++ toLe 8 c.step ++ toLe 8 c.ckpt ++ toLe 8 (ks.foldl (fun a k => a + k.data.length) 0) ++
    shardDigest x.index x.shards p.2 ++ zeros 32
  let msg := h ++ (x.shards.zipIdx).flatMap ent ++ keyIdentity seed
  msg ++ pairEdSign seed msg ++ pairMlSign seed msg rnd ++ zeros 3

/-- R478: once every extent and map is written, the manifest is signed and its write begins
(log entry 118, DEDUCED). -/
def State.sealCkpt (s : State) (k n : Nat) : State :=
  match s.session k with
  | none => s
  | some x =>
    match x.ckpts.find? fun c => c.ckpt == n with
    | none => s
    | some c =>
      if c.capturing || c.manifest.isSome || decide (c.maps.length < x.shards.length) then s
      else match s.keyBytes x.signKey with
        | none => s.failCkpt k n .keyFailed 4
        | some seed =>
          let (rnd, s) := s.draw 256
          let m := s.manifest x c seed rnd
          let s := s.setSession k (x.modCkpt n fun c => { c with manifest := some m })
          s.emit (.storeWrite x.nsid (x.start + 16 * (n % 64)) (padTo (roundPage m.length) m))

/-- DRAIN_EXTENT_WRITTEN: the oldest checkpoint's next extent or page map is written to the store, or its write fails
(log entry 117, DEDUCED). -/
def State.drainWritten (s : State) (k : Nat) (st : Status) : State :=
  match s.session k with
  | none => s
  | some x =>
    match x.ckpts with
    | [] => s
    | c :: _ =>
      let go (b : Bytes) (upd : Nat → Nat → Session → Session) : State :=
        let n := ceilDiv b.length 4096
        match x.place n with
        | none => s.failCkpt k c.ckpt .resource 4
        | some a =>
          let s := s.emit (.storeWrite x.nsid (x.start + 1024 + a) (padTo (4096 * n) b))
          if st != .success then s.failCkpt k c.ckpt st 4
          else
            let s := s.rsat (aCkpCnt 4) 63 0 (4096 * n)
            let y := upd a n x
            let s := s.setSession k (y.modCkpt c.ckpt fun c => { c with start := some (c.start.getD a), pos := a + n })
            s.sealCkpt k c.ckpt
      match x.nextObj c with
      | .none => s
      | .page kp =>
        let h := padTo 48 (Config.sha384 kp.data)
        go kp.data fun a _ x =>
          let x := x.modCkpt c.ckpt fun c => { c with kept := c.kept.map fun y =>
            if y.page = kp.page then { y with extent := some a, hash := h } else y }
          { x with index := Map.modify x.index kp.page fun e => (e.1, h) }
      | .map i =>
        go (pageMap c x.shards i) fun a n x => x.modCkpt c.ckpt fun c => { c with maps := c.maps ++ [(i, a, n)] }

def execDrainExtentWritten (k : Nat) (st : Status) (s : State) : Outcome := .next (s.drainWritten k st)

/-- MANIFEST_WRITE_COMPLETE (R478): the checkpoint is committed, or its write fails (log entry 117, DEDUCED). -/
def State.manifestWritten (s : State) (k : Nat) (st : Status) : State :=
  match s.session k with
  | none => s
  | some x =>
    match x.ckpts with
    | [] => s
    | c :: _ =>
      match c.manifest with
      | none => s
      | some m =>
        if st != .success then s.failCkpt k c.ckpt st 4
        else
          let bytes := c.kept.foldl (fun a y => a + y.data.length) 0
          let man := manOf m
          let s := s.setSession k { x with
            ckpts := x.ckpts.drop 1, committed := c.ckpt, chain := some man, fullNext := x.fullNext && !c.full
            base := if (x.base.map Manifest.ckpt) == some c.ckpt then some man else x.base }
          let s := s.rsat (aCkpCnt 5) 63 0 1
          let s := match c.op with
            | some o => (s.modOp o fun y => { y with flags := b2n c.full }).finish o .success (min bytes (2 ^ 32 - 1)) c.ckpt
            | none => s
          s.postEvent x.spoke 0x0703 k c.ckpt .success 0x3FFFF

def execManifestWriteComplete (k : Nat) (st : Status) (s : State) : Outcome := .next (s.manifestWritten k st)

/-! ## Restore (R480-R483) -/

/-- The slot of a checkpoint. -/
def Restore.slot (r : Restore) (c : Nat) : Option Bytes := Map.get r.slots (c % 64)

/-- Whether a manifest's job and layout are the session's (R481, step 3a). -/
def Session.layoutOk (x : Session) (b : Bytes) : Bool :=
  u64 b 24 == x.job && u16 b 6 == x.shards.length &&
  (x.shards.zipIdx).all fun (sh, i) =>
    let e := b.drop (128 + 128 * i)
    bits (u8 e 3) 2 0 == sh.cls + 4 * b2n sh.bf16 && u32 e 4 == sh.pages

/-- R481, steps 1 to 3b, for a manifest and those below it: the chain, newest first (log entry 119, DEDUCED). -/
def Session.chainCheck (x : Session) (seed : Bytes) (r : Restore) : Nat → Nat → Except Status (List Bytes)
  | 0, _ => .error .versionMismatch
  | fuel + 1, c =>
    match r.slot c with
    | none => .error .mediumError
    | some b =>
      if !manForm b then .error .malformed
      else if u64 b 8 != c then .error .versionMismatch
      else if !manSigned seed b then .error .integrity
      else if !x.layoutOk b then .error .versionMismatch
      else if u64 b 16 = 0 then (if u8 b 48 = 0 then .ok [b] else .error .versionMismatch)
      else match Session.chainCheck x seed r fuel (u64 b 16) with
        | .error st => .error st
        | .ok l => match l.head? with
          | none => .error .versionMismatch
          | some d => if u64 d 32 < u64 b 32 ∧ u8 d 48 + 1 = u8 b 48 then .ok (b :: l) else .error .versionMismatch

/-- R481, step 3c: the page maps of a chain, each with its manifest. -/
def Restore.mapsOk (r : Restore) (n : Nat) (b : Bytes) : Status :=
  (List.range n).foldl (fun st i =>
    if st != .success then st
    else
      let e := b.drop (128 + 128 * i)
      match Map.get r.maps (u64 e 8) with
      | none => .mediumError
      | some m =>
        if u32 m 0 == 0x5041_4D50 && u64 m 8 == u64 b 8 && u64 m 16 == u64 b 32 && u16 m 4 == i && u32 m 24 == u32 e 20 then .success
        else .versionMismatch) .success

/-- The entry of a page in a manifest's map of its shard: extent, stored bytes, hash. -/
def Restore.lookup (r : Restore) (b : Bytes) (shard page : Nat) : Option (Nat × Nat × Bytes) :=
  match Map.get r.maps (u64 (b.drop (128 + 128 * shard)) 8) with
  | none => none
  | some m =>
    (List.range (u32 m 24)).findSome? fun j =>
      let e := m.drop (64 + 64 * j)
      if u32 e 0 = page then some (u64 e 8, u32 e 4, slice e 16 48) else none

/-- The pages to read for a chain: each from the newest manifest whose map lists it. -/
def Session.plan (x : Session) (r : Restore) (chain : List Bytes) : List (Nat × Nat × Nat × Bytes) :=
  (x.shards.zipIdx).flatMap fun (sh, i) => (List.range sh.pages).filterMap fun j =>
    (chain.findSome? fun b => r.lookup b i j).map fun e => (firstPage x.shards i + j, e.1, e.2.1, e.2.2)

/-- Try candidates until one passes steps 1 to 3; when none is left the RESTORE ends (log entry 119, DEDUCED). -/
def State.tryCandidate (s : State) (k : Nat) (x : Session) (r : Restore) (latest : Bool) : Nat → State
  | 0 => s
  | fuel + 1 =>
    match r.cands with
    | [] =>
      (s.setSession k { x with restore := none }).finish r.op (if r.firstStatus == .success then .versionMismatch else r.firstStatus) 0 r.firstCkpt
    | c :: t =>
      let seed := (s.keyBytes x.signKey).getD []
      let res : Except Status (List Bytes) := match x.chainCheck seed r 34 c with
        | .error st => Except.error st
        | .ok l =>
          let st : Status := l.foldl (fun (st : Status) b => if st != .success then st else r.mapsOk x.shards.length b) .success
          if st == .success then .ok l else .error st
      match res with
      | .ok l =>
        let r := { r with cands := t, cur := c, plan := x.plan r l, done := [] }
        s.setSession k { x with restore := some r }
      | .error st =>
        let first := r.firstStatus == .success
        let r := { r with cands := t, fallback := true, firstStatus := if first then st else r.firstStatus, firstCkpt := if first then c else r.firstCkpt }
        let s := if latest then s.rsat (aCkpCnt 7) 63 0 1 else s
        State.tryCandidate s k x r latest fuel

/-- The policy of a RESTORE operation. -/
def State.latest (s : State) (o : Nat) : Bool := match s.op o with
  | some op => bit (u8 op.desc 17) 0
  | none => false

/-- R480: what a RESTORE reads, and its candidates: the one named, or with LATEST those at most that number, newest
first (log entries 112, DEDUCED; 119, DEDUCED). -/
def Restore.read (o : Nat) (latest : Bool) (want : Nat) (slots : List HostAns) (maps : List (Nat × HostAns)) : Restore :=
  let sl := (List.range 64).foldl (fun (m : Map Bytes) i => match slotRead (slots.getD i (.fail .mediumError)) with
    | .ok b => Map.put m i b
    | .error _ => m) []
  let mp := maps.foldl (fun (m : Map Bytes) e => match e.2 with
    | .ok b false => Map.put m e.1 b
    | _ => m) []
  let found := (sl.filter fun p => manForm p.2 && u64 p.2 8 % 64 == p.1 && u64 p.2 8 != 0 && decide (u64 p.2 8 ≤ want)).map
    fun p => u64 p.2 8
  let cands := if latest then found.mergeSort (fun a b => decide (b ≤ a)) else [want]
  { op := o, slots := sl, maps := mp, cands := cands, cur := 0 }

/-- RESTORE: `slots` answers the reads of the manifest slots, `maps` those of the page maps by ring offset
(log entry 115, DEDUCED). -/
def State.restoreStart (s : State) (o : Nat) (slots : List HostAns) (maps : List (Nat × HostAns)) : State :=
  match s.running o .checkpoint with
  | none => s
  | some (op, q) =>
    let d := op.desc
    let k := bits (u8 d 16) 5 0
    if dOpcode d ≠ 2 || op.posted || s.heldNew 5 then s
    else match s.session k with
      | none => s.finish o .malformed 0 0
      | some x =>
        if x.spoke != q.spoke || x.ckpts != [] || x.restore.isSome then s.finish o .notPermitted 0 0
        else
          let latest := bit (u8 d 17) 0
          let r := Restore.read o latest (u64 d 24) slots maps
          let s := s.modOp o fun op => { op with posted := true }
          s.tryCandidate k x r latest (r.cands.length + 1)

def execRestore (o : Nat) (slots : List HostAns) (maps : List (Nat × HostAns)) (s : State) : Outcome :=
  .next (s.restoreStart o slots maps)

/-- A candidate fails at steps 4 or 5: the next is tried. -/
def State.candidateFails (s : State) (k : Nat) (x : Session) (r : Restore) (st : Status) : State :=
  let latest := s.latest r.op
  let first := r.firstStatus == .success
  let r := { r with fallback := true, plan := [], done := [], firstStatus := if first then st else r.firstStatus,
                    firstCkpt := if first then r.cur else r.firstCkpt }
  let s := if latest then s.rsat (aCkpCnt 7) 63 0 1 else s
  s.tryCandidate k x r latest (r.cands.length + 1)

/-- R481, step 5, and R483: the last page is written (log entry 120, DEDUCED). -/
def State.restoreEnd (s : State) (k : Nat) (x : Session) (r : Restore) : State :=
  match r.slot r.cur with
  | none => s.candidateFails k x r .mediumError
  | some b =>
    let ok := (List.range x.shards.length).all fun i =>
      shardDigest r.done x.shards i == slice (b.drop (128 + 128 * i)) 48 48
    if !ok then s.candidateFails k x r .integrity
    else
      let m := manOf b
      let s := s.setSession k { x with restore := none, base := some m, chain := some m, index := r.done, step := some m.step }
      let s := s.rsat (aCkpCnt 6) 63 0 1
      let s := s.modOp r.op fun y => { y with flags := b2n r.fallback }
      s.finish r.op .success (min (65536 * pagesOf x.shards) (2 ^ 32 - 1)) r.cur

/-- RESTORE_PAGE_READ: a stored page is read, checked, widened, and written to its shard (log entry 120, DEDUCED). -/
def State.restorePage (s : State) (k : Nat) (ans wr : HostAns) : State :=
  match s.session k with
  | none => s
  | some x =>
    match x.restore with
    | none => s
    | some r =>
      let parked := match s.op r.op with
        | some op => op.phase == OpPhase.parked
        | none => true
      if parked then s
      else match r.plan with
        | [] => s.restoreEnd k x r
        | (page, _, n, hash) :: t =>
          let got := match ans with
            | .ok d false => Except.ok (padTo n d)
            | .ok _ true => .error Status.poisoned
            | .fail st => .error st
            | .noAccess => .error .mediumError
          match got, shardOf x.shards page with
          | .ok d, some (sh, i) =>
            if padTo 48 (Config.sha384 d) != hash then s.candidateFails k x r .integrity
            else
              let w := widen sh d
              match s.shardWrite x.spoke sh (65536 * i) w wr with
              | (s, a) =>
                if s.pages x.spoke a then s.parkOp r.op (sh.addr + 65536 * i) x.spoke a
                else if a.status != .success then s.candidateFails k x r a.status
                else
                  let r := { r with plan := t, done := Map.put r.done page (Config.ghash x.hashKey w, hash) }
                  let s := s.setSession k { x with restore := some r }
                  if t = [] then s.restoreEnd k x r else s
          | .error st, _ => s.candidateFails k x r st
          | _, none => s.candidateFails k x r .versionMismatch

def execRestorePageRead (k : Nat) (ans wr : HostAns) (s : State) : Outcome := .next (s.restorePage k ans wr)

/-! ## Resets, destruction and Bus Master Enable (R485) -/

/-- A queue that held a CAPTURE or RESTORE has gone, or a session's spoke has: what R485 sets out. -/
def State.reapCkp (s : State) : State :=
  let gone (o : Option Nat) : Bool := match o with
    | some o => (s.op o).isNone
    | none => false
  let s := s.ckp.sessions.foldl (fun s (p : Nat × Session) =>
    let s := (p.2.ckpts.filter fun c => gone c.op).foldl (fun s c => s.dropCkpt p.1 c.ckpt) s
    match p.2.restore with
    | some r => if gone (some r.op) then s.modSession p.1 fun x => { x with restore := none } else s
    | none => s) s
  let dead := s.ckp.sessions.filter fun (_, x) => (s.spoke x.spoke).isNone
  let s := dead.foldl (fun s (p : Nat × Session) =>
    (p.2.ckpts.foldl (fun s c => s.dropCkpt p.1 c.ckpt) s).unprotect p.1 none) s
  { s with ckp.sessions := s.ckp.sessions.filter fun (_, x) => (s.spoke x.spoke).isSome }

/-- Bus Master Enable of a function is cleared, or a page request of an operation fails: its captures fail, its
restores end. -/
def State.ckpFail (s : State) (p : Session → Bool) (st : Status) : State :=
  (s.ckp.sessions.filter fun (_, x) => p x).foldl (fun s (e : Nat × Session) =>
    let s := match e.2.inCapture with
      | some c => s.failCkpt e.1 c.ckpt st 4
      | none => s
    match e.2.restore with
    | some r => (s.modSession e.1 fun x => { x with restore := none }).finish r.op st 0 r.cur
    | none => s) s

/-- A soft device reset or a harder one ends every session. -/
def State.ckpReset (s : State) : State := { s with ckp.sessions := [], mem.prot := [] }

end Sys2Proof.Machine
end

