-- ==== Sys2Proof/Machine/Meters.lean ====
section
/-! DEFINITION. Counted length, meters and their commands (R259, R261-R268). -/

namespace Sys2Proof.Machine
open Sys2Proof

/-- The scale of bucket levels: units per byte, so that a rate of r kb/s adds r units per nanosecond
(log entry 58, DESIGN CHOICE). -/
def unitsPerByte : Nat := 8000000

/-- R259: the overhead of a profile, a value below -32 taken as -32. -/
def State.overhead (s : State) (p : Nat) : Int :=
  let v := s.rfield (0x400100 + 8 * p) 6 0
  max (-32) (if v < 64 then (v : Int) else (v : Int) - 128)

/-- R259: the counted length of a frame of `l` bytes on the line. -/
def State.counted (s : State) (profile l : Nat) : Nat := ((l : Int) + s.overhead profile).toNat

def State.meter (s : State) (m : Nat) : Meter := (Map.get s.sch.meters m).getD {}
def State.setMeter (s : State) (m : Nat) (x : Meter) : State := { s with sch.meters := Map.put s.sch.meters m x }

/-- R262: both buckets refill up to their bursts (log entry 58, DESIGN CHOICE). -/
def Meter.refill (x : Meter) (now : Nat) : Meter :=
  let dt := now - x.last
  { x with levA := min (x.burstA * unitsPerByte) (x.levA + x.rateA * dt)
           levB := min (x.burstB * unitsPerByte) (x.levB + x.rateB * dt)
           last := now }

/-- R262: the colour of a packet of counted length `n`, 0 green, 1 yellow, 2 red, and the buckets after it. -/
def Meter.mark (x : Meter) (pre n : Nat) : Meter × Nat :=
  let u := n * unitsPerByte
  if !x.conf then (x, 0)
  else
    let pre := if x.aware then pre else 0
    if x.algo = 0 then
      if pre = 2 ∨ x.levB < u then (x, 2)
      else if pre = 1 ∨ x.levA < u then ({ x with levB := x.levB - u }, 1)
      else ({ x with levA := x.levA - u, levB := x.levB - u }, 0)
    else if pre = 0 ∧ u ≤ x.levA then ({ x with levA := x.levA - u }, 0)
    else if pre ≠ 2 ∧ u ≤ x.levB then ({ x with levB := x.levB - u }, 1)
    else (x, 2)

/-- R263: the pre-colour of a DSCP; without an IP header, green. -/
def State.preColour (s : State) (dscp : Option Nat) : Nat :=
  match dscp with
  | none => 0
  | some d => min 2 (bits (s.rget (0x402000 + 8 * (d / 32))) (2 * (d % 32) + 1) (2 * (d % 32)))

/-- R261-R266: meter a packet of `l` line bytes: the state and the action of its colour
(bit 0 DROP, bit 1 REMARK, bits 7:2 DSCP). -/
def State.meterPacket (s : State) (m l : Nat) (dscp : Option Nat) : State × Nat :=
  let x := (s.meter m).refill s.now
  let n := s.counted x.ovh l
  let (x, c) := x.mark (s.preColour dscp) n
  let x : Meter := { x with pkts := x.pkts.set c (satAdd 64 (x.pkts.getD c 0) 1)
                            octets := x.octets.set c (satAdd 64 (x.octets.getD c 0) n) }
  (s.setMeter m x, if x.conf then x.acts.getD c 0 else 0)

/-- The meter that a METER_SET payload describes, its buckets full (R266). -/
def meterOf (p : Bytes) (old : Meter) (now : Nat) : Meter :=
  let fl := u8 p 4
  let clear := bit fl 2
  { conf := true, algo := bits fl 0 0, aware := bit fl 1, ovh := bits (u8 p 5) 3 0, owner := bits (u8 p 6) 1 0,
    rateA := u64 p 8, rateB := u64 p 16, burstA := u32 p 24, burstB := u32 p 28,
    acts := [u8 p 32, u8 p 33, u8 p 34], levA := u32 p 24 * unitsPerByte, levB := u32 p 28 * unitsPerByte, last := now,
    pkts := if clear then [0, 0, 0] else old.pkts, octets := if clear then [0, 0, 0] else old.octets }

/-- R267: the MALFORMED cases. -/
def meterBad (p : Bytes) : Bool :=
  let ra := u64 p 8
  let rb := u64 p 16
  decide (u32 p 0 > 131071) || ra = 0 || rb = 0 || u32 p 24 = 0 || u32 p 28 = 0 ||
  decide (ra > 1000000000) || decide (rb > 1000000000) || decide (u32 p 24 > 268435456) ||
  decide (u32 p 28 > 268435456) || (!bit (u8 p 4) 0 && decide (rb < ra))

/-- METER_SET (R266-R268). -/
def State.meterSet (s : State) (f : Nat) (p : Bytes) : Reply :=
  let m := u32 p 0
  let old := s.meter m
  if meterBad p then Reply.err s .malformed
  else if f % 4 = 1 ∧ (old.owner ≠ 1 ∨ bits (u8 p 6) 1 0 ≠ 1) then Reply.err s .notPermitted
  else if bit (u8 p 4) 3 && !s.jRoom 40 then Reply.err s .resource
  else
    let r := Reply.ok (s.setMeter m (meterOf p old s.now)) []
    if bit (u8 p 4) 3 then { r with journal := [(0x0380, m, false, p)] } else r

def execMeterSet (f : Nat) (s : State) : Outcome := .next (s.perform f 0x0380 fun p s => s.meterSet f p)

/-- METER_READ (R268). -/
def State.meterRead (s : State) (p : Bytes) : Reply :=
  let m := u32 p 0
  if m > 131071 then Reply.err s .malformed
  else
    let x := (s.meter m).refill s.now
    Reply.ok s (x.pkts.flatMap (toLe 8) ++ x.octets.flatMap (toLe 8) ++ toLe 4 (x.levA / unitsPerByte) ++
      toLe 4 (x.levB / unitsPerByte))

def execMeterRead (f : Nat) (s : State) : Outcome := .next (s.perform f 0x0381 fun p s => s.meterRead p)

/-- R268: every meter takes its journal default, or becomes unconfigured without one. -/
def State.resetMeters (s : State) : State :=
  let t : Map Meter := (s.jAll 0x0380).foldl
    (fun t x => Map.put t x.1 { meterOf x.2 {} s.now with pkts := [0, 0, 0], octets := [0, 0, 0] }) []
  { s with sch.meters := t }

end Sys2Proof.Machine
end

