-- ==== Sys2Proof/Machine/Gates.lean ====
section
/-! DEFINITION. Gate cassettes (R269-R276) and the port clocks that drive them. -/

namespace Sys2Proof.Machine
open Sys2Proof

def aGateCtl (i : Nat) : Nat := 0x403000 + 0x40 * i
def aGateTime (i : Nat) : Nat := 0x403008 + 0x40 * i
def aGateBase (i : Nat) : Nat := 0x403010 + 0x40 * i
def aGateCycle (i : Nat) : Nat := 0x403018 + 0x40 * i
def aGateEntry (i b e : Nat) : Nat := 0x420000 + 0x2000 * (2 * i + b) + 8 * e

/-- The fields of SCH_GATE_CTL. -/
def State.gateOn (s : State) (i : Nat) : Bool := s.rfield (aGateCtl i) 0 0 == 1
def State.gateBank (s : State) (i : Nat) : Nat := s.rfield (aGateCtl i) 1 1
def State.gateArmed (s : State) (i : Nat) : Bool := s.rfield (aGateCtl i) 2 2 == 1
def State.pendCount (s : State) (i : Nat) : Nat := s.rfield (aGateCtl i) 26 16
def State.actCount (s : State) (i : Nat) : Nat := s.rfield (aGateCtl i) 42 32

/-- The first `n` entries of a bank: (gates, interval). -/
def State.gateList (s : State) (i b n : Nat) : List (Nat × Nat) :=
  (List.range n).map fun e => (s.rfield (aGateEntry i b e) 7 0, s.rfield (aGateEntry i b e) 39 8)

def cycleOf (l : List (Nat × Nat)) : Nat := l.foldl (fun n e => n + e.2) 0

/-- R270: the entry in force at an offset into the cycle: the entries from it on, and the time left in it. -/
def inForce : List (Nat × Nat) → Nat → List (Nat × Nat) × Nat
  | [], _ => ([], 0)
  | e :: t, off => if off < e.2 then (e :: t, e.2 - off) else inForce t (off - e.2)

/-- R271: how long class `c` stays open, at least up to `need`, from the entries at hand and the repeating list. -/
def openFor (c need : Nat) (all : List (Nat × Nat)) : Nat → List (Nat × Nat) → Nat → Nat
  | 0, _, _ => 0
  | n + 1, [], _ =>
    match all with
    | [] => need
    | e :: t => if bit e.1 c then (if need ≤ e.2 then e.2 else e.2 + openFor c (need - e.2) all n t 0) else 0
  | n + 1, e :: t, left =>
    let d := if left = 0 then e.2 else left
    if !bit e.1 c then 0
    else if need ≤ d then d
    else d + openFor c (need - d) all n t 0

/-- R270: the phase of the active bank at the port clock. -/
def State.gatePhase (s : State) (i cycle : Nat) : Nat :=
  (((s.ptp i : Int) - (s.rget (aGateBase i) : Int)) % (cycle : Int)).toNat

/-- R271: whether class `c` of a port may start a frame whose line time is `need` ns (log entry 62, DEDUCED). -/
def State.gateOpen (s : State) (i c need : Nat) : Bool :=
  if !s.gateOn i || s.actCount i = 0 then true
  else
    let l := (s.gateList i (s.gateBank i) (s.actCount i)).filter fun e => e.2 != 0
    let cyc := cycleOf l
    if cyc = 0 then true
    else
      let (r, left) := inForce l (s.gatePhase i cyc)
      decide (need ≤ openFor c need l (need + l.length + 1) r left) &&
      (!s.gateArmed i || decide (s.ptp i + need ≤ s.rget (aGateTime i)))

/-- R274: the takeover: the pending bank becomes active. -/
def State.takeover (s : State) (i : Nat) : State :=
  let n := s.pendCount i
  let b := 1 - s.gateBank i
  let l := s.gateList i b n
  let old := s.actCount i
  let s := (s.rput (aGateBase i) (s.rget (aGateTime i))).rput (aGateCycle i) (cycleOf l)
  let s := ((s.rset (aGateCtl i) 1 1 b).rset (aGateCtl i) 42 32 n).rset (aGateCtl i) 26 16 old
  s.rset (aGateCtl i) 2 2 0

/-- R273: the refusal reason of an arm, 0 when it is accepted (log entry 63, DESIGN CHOICE). -/
def State.armReason (s : State) (i : Nat) : Nat :=
  let n := s.pendCount i
  let l := s.gateList i (1 - s.gateBank i) n
  if n = 0 ∨ 1024 < n then 1
  else if l.all fun e => e.2 == 0 then 2
  else if s.rget (aGateTime i) < s.ptp i + 10000 then 3
  else if 4294967295 < cycleOf l then 4
  else if !s.gateOn i then 5
  else if s.gateArmed i then 6
  else 0

/-- ARM (R273). -/
def State.armGate (s : State) (i : Nat) : State :=
  let r := s.armReason i
  if r = 0 then s.rset (aGateCtl i) 2 2 1 else (s.rset (aGateCtl i) 5 5 1).rset (aGateCtl i) 10 8 r

def execArm (i : Nat) (s : State) : Outcome := .next (if i < 8 then s.armGate i else s)

/-- DISARM (R275) (log entry 62, DEDUCED). -/
def State.disarmGate (s : State) (i : Nat) : State :=
  if s.gateArmed i && decide (s.ptp i < s.rget (aGateTime i)) then s.rset (aGateCtl i) 2 2 0 else s

def execDisarm (i : Nat) (s : State) : Outcome := .next (if i < 8 then s.disarmGate i else s)

/-- GATE_DISABLE (R269, SCH_GATE_CTL): ENABLE = 0 opens every gate and clears ARMED. -/
def State.disableGate (s : State) (i : Nat) : State := (s.rset (aGateCtl i) 0 0 0).rset (aGateCtl i) 2 2 0

def execGateDisable (i : Nat) (s : State) : Outcome := .next (if i < 8 then s.disableGate i else s)

/-- GATE_TAKEOVER (R274): the port clock reaches TIME (log entry 62, DEDUCED). -/
def State.gateTakeover (s : State) (i : Nat) : State :=
  if i < 8 && s.gateArmed i then
    State.takeover { s with now := s.now + (s.rget (aGateTime i) - s.ptp i) } i
  else s

def execGateTakeover (i : Nat) (s : State) : Outcome := .next (s.gateTakeover i)

/-- CLOCK_STEP (R270, R274): a port's 1588 clock is set; a step past TIME takes over at once. -/
def State.clockStep (s : State) (i v : Nat) : State :=
  if 8 ≤ i then s else
  let off := (v % 2 ^ 64 + 2 ^ 64 - s.now % 2 ^ 64) % 2 ^ 64
  let s := { s with brd.clockOffset := Map.put s.brd.clockOffset i off }
  if s.gateArmed i && decide (s.rget (aGateTime i) ≤ s.ptp i) then s.takeover i else s

def execClockStep (i value : Nat) (s : State) : Outcome := .next (s.clockStep i value)

/-- GATE_ENTRY_CHANGE (R270): time passes to the end of the interval of the entry in force, and the next is in force. -/
def State.gateEntryChange (s : State) (i : Nat) : State :=
  if 8 ≤ i || !s.gateOn i || s.actCount i = 0 then s
  else
    let l := s.gateList i (s.gateBank i) (s.actCount i)
    let cyc := cycleOf l
    if cyc = 0 then s else { s with now := s.now + (inForce l (s.gatePhase i cyc)).2 }

def execGateEntryChange (i : Nat) (s : State) : Outcome := .next (s.gateEntryChange i)

end Sys2Proof.Machine
end

