-- ==== Sys2Proof/Machine/Parse.lean ====
section
/-! DEFINITION. The parser of the packet strips: recognised headers, the slow-path and drop cases, the parse class and
the field vector (R228-R233), and the checksums of IPv4, UDP and TCP. -/

namespace Sys2Proof.Machine
open Sys2Proof

/-! ## Checksums -/

/-- The ones' complement sum of 16-bit big-endian words. -/
def onesSum (a : Nat) : Bytes → Nat
  | [] => a
  | [x] => a + x.toNat * 256
  | x :: y :: t => onesSum (a + x.toNat * 256 + y.toNat) t

def fold16 (v : Nat) : Nat :=
  let v := v % 65536 + v / 65536
  let v := v % 65536 + v / 65536
  v % 65536 + v / 65536

/-- The Internet checksum of bytes, with a starting sum. -/
def inetSum (a : Nat) (b : Bytes) : Nat := 65535 - fold16 (onesSum a b)

/-- One step of a reflected CRC of 32 bits. -/
def crcStep (poly c : Nat) : Nat := if c % 2 = 1 then (c / 2) ^^^ poly else c / 2

def crcByte (poly c : Nat) (b : Byte) : Nat := (List.range 8).foldl (fun c _ => crcStep poly c) (c ^^^ b.toNat)

/-- A reflected CRC of 32 bits, all ones before and inverted after.  Polynomials as published for CRC-32 and CRC-32C. -/
def crcWith (poly : Nat) (b : Bytes) : Nat := (b.foldl (crcByte poly) 0xFFFFFFFF) ^^^ 0xFFFFFFFF
def crc32 (b : Bytes) : Nat := crcWith 0xEDB88320 b
def crc32c (b : Bytes) : Nat := crcWith 0x82F63B78 b

/-- The pseudo-header sum of an IP packet at an offset. -/
def pseudoSum (b : Bytes) (ip : Nat) (v6 : Bool) (proto len : Nat) : Nat :=
  if v6 then onesSum (proto + len) (slice b (ip + 8) 32) else onesSum (proto + len) (slice b (ip + 12) 8)

/-! ## Headers -/

/-- R233: the IDs of the field vector. -/
def fSubport : Nat := 0
def fClass : Nat := 1
def fVlanOuter : Nat := 2
def fVlanInner : Nat := 3
def fMacDa : Nat := 4
def fMacSa : Nat := 5
def fEtherType : Nat := 6
def fIpProto : Nat := 7
def fDscp : Nat := 8
def fIp4Sa : Nat := 9
def fIp4Da : Nat := 10
def fIp6Sa : Nat := 11
def fIp6Da : Nat := 12
def fL4Sport : Nat := 13
def fL4Dport : Nat := 14
def fVni : Nat := 15
def fInMacDa : Nat := 16
def fInIpDa : Nat := 17
def fInDport : Nat := 18
def fEspSpi : Nat := 19
def fBthQp : Nat := 20
def fYConn : Nat := 21

/-- R233: the bytes of each field. -/
def fieldBytes (i : Nat) : Nat :=
  ([1, 1, 2, 2, 6, 6, 2, 1, 1, 4, 4, 16, 16, 2, 2, 3, 6, 16, 2, 4, 3, 3] : List Nat).getD i 0

/-- A field of the vector, zero when absent. -/
def Parsed.field (p : Parsed) (i : Nat) : Bytes := (Map.get p.fields i).getD (zeros (fieldBytes i))

def Parsed.set (p : Parsed) (i : Nat) (b : Bytes) : Parsed := { p with fields := Map.put p.fields i b }
def Parsed.setN (p : Parsed) (i v : Nat) : Parsed := p.set i (toBe (fieldBytes i) v)

/-- A packet that ends inside a recognised header (R231). -/
def Parsed.dropIf (p : Parsed) (c : Bool) : Parsed := { p with drop := p.drop || c }
def Parsed.slowIf (p : Parsed) (c : Bool) : Parsed := { p with slow := p.slow || c }

/-- Where the parse stands after a layer: the next offset and what comes there, or the end of the parse. -/
structure Cursor2 where
  p : Parsed
  off : Nat
  next : Nat
  ipEnd : Nat := 0
deriving DecidableEq, Repr

/-- Whether parsing goes on. -/
def Parsed.live (p : Parsed) : Bool := !p.drop && !p.slow

/-- VLAN tags from an offset: at most `n` (R228, R229); one more sends the packet to the slow path. -/
def parseVlans (b : Bytes) (inner : Bool) : Nat → Nat → Parsed → Nat → Cursor2
  | n, seen, p, off =>
    let ty := fldBe b (off - 2) 2
    if ty != 0x8100 && ty != 0x88A8 then { p := p, off := off, next := ty }
    else match n with
      | 0 => { p := { p with slow := true }, off := off, next := 0 }
      | n + 1 =>
        if b.length < off + 4 then { p := { p with drop := true }, off := off, next := 0 }
        else
          let vid := fldBe b off 2 % 4096
          let p := if inner then p else p.setN (if seen = 0 then fVlanOuter else fVlanInner) vid
          parseVlans b inner n (seen + 1) { p with stop := off + 4 } (off + 4)

/-- An IPv4 header at an offset (log entry 51, DEDUCED). -/
def parseIp4 (b : Bytes) (inner : Bool) (p : Parsed) (o : Nat) : Cursor2 :=
  let bad (p : Parsed) : Cursor2 := { p := p, off := o, next := 0 }
  if b.length < o + 20 then bad { p with drop := true }
  else if u8 b o / 16 != 4 then bad { p with drop := true }
  else if u8 b o % 16 > 5 then bad { p with slow := true }
  else if u8 b o % 16 < 5 then bad { p with slow := true }
  else if fold16 (onesSum 0 (slice b o 20)) != 0xFFFF then bad { p with drop := true }
  else
    let total := fldBe b (o + 2) 2
    if o + total > b.length || decide (total < 20) then bad { p with drop := true }
    else
      let frag := fldBe b (o + 6) 2
      let p := if inner then p.set fInIpDa (zeros 10 ++ [0xFF, 0xFF] ++ slice b (o + 16) 4)
        else ((((p.set fIpProto (slice b (o + 9) 1)).setN fDscp (u8 b (o + 1) / 4)).set fIp4Sa (slice b (o + 12) 4)).set
          fIp4Da (slice b (o + 16) 4))
      let p := { p with ip := if inner then p.ip else some o, stop := o + 20 }
      if bits frag 13 13 = 1 || bits frag 12 0 != 0 then bad { p with slow := true }
      else { p := p.slowIf (u8 b (o + 9) == 1), off := o + 20, next := u8 b (o + 9), ipEnd := o + total }

/-- IPv6 destination-options headers: at most two, of at most 64 bytes each; other extension headers go slow. -/
def parseExt (b : Bytes) (ipEnd : Nat) : Nat → Parsed → Nat → Nat → Cursor2
  | n, p, o, nh =>
    if nh = 60 then
      match n with
      | 0 => { p := { p with slow := true }, off := o, next := nh, ipEnd := ipEnd }
      | n + 1 =>
        if b.length < o + 8 then { p := { p with drop := true }, off := o, next := 0 }
        else
          let len := (u8 b (o + 1) + 1) * 8
          if len > 64 then { p := { p with slow := true }, off := o, next := nh, ipEnd := ipEnd }
          else if ipEnd < o + len then { p := { p with drop := true }, off := o, next := 0 }
          else parseExt b ipEnd n { p with stop := o + len } (o + len) (u8 b o)
    else if nh = 0 || nh = 43 || nh = 44 || nh = 51 || nh = 135 || nh = 139 || nh = 140 || nh = 58 then
      { p := { p with slow := true }, off := o, next := nh, ipEnd := ipEnd }
    else { p := p, off := o, next := nh, ipEnd := ipEnd }

/-- An IPv6 header at an offset. -/
def parseIp6 (b : Bytes) (inner : Bool) (p : Parsed) (o : Nat) : Cursor2 :=
  if b.length < o + 40 then { p := { p with drop := true }, off := o, next := 0 }
  else
    let e := o + 40 + fldBe b (o + 4) 2
    if b.length < e then { p := { p with drop := true }, off := o, next := 0 }
    else
      let p := if inner then p.set fInIpDa (slice b (o + 24) 16)
        else ((p.setN fDscp (fldBe b o 2 / 64 % 64)).set fIp6Sa (slice b (o + 8) 16)).set fIp6Da (slice b (o + 24) 16)
      let p := { p with ip := if inner then p.ip else some o, v6 := if inner then p.v6 else true, stop := o + 40 }
      let c := parseExt b e 2 p (o + 40) (u8 b (o + 6))
      if inner then c else { c with p := c.p.setN fIpProto c.next }

/-- An inner packet from its Ethernet header (R229). -/
def parseInner (b : Bytes) (p : Parsed) (o : Nat) : Parsed :=
  if b.length < o + 14 then { p with drop := true }
  else
    let p := { (p.set fInMacDa (slice b o 6)) with inner := some o, stop := o + 14 }
    let c := parseVlans b true 1 0 p (o + 14)
    if !c.p.live then c.p
    else
      let c := if c.next = 0x0800 then parseIp4 b true c.p c.off
        else if c.next = 0x86DD then parseIp6 b true c.p c.off
        else { c with
          p := c.p.slowIf (!(c.next == 0x88E5 || c.next == 0x88F7)), next := 256 }
      if !c.p.live then c.p
      else if c.next = 17 then
        if c.ipEnd < c.off + 8 then { c.p with drop := true }
        else if c.ipEnd - c.off < fldBe b (c.off + 4) 2 then { c.p with drop := true }
        else { (c.p.set fInDport (slice b (c.off + 2) 2)) with stop := c.off + 8 }
      else if c.next = 6 then
        let len := max 20 (u8 b (c.off + 12) / 16 * 4)
        if c.ipEnd < c.off + 20 || decide (c.ipEnd < c.off + len) then { c.p with drop := true }
        else { (c.p.set fInDport (slice b (c.off + 2) 2)) with stop := c.off + len }
      else c.p

/-- A header of a fixed length at an offset, that sets the class and one field. -/
def Parsed.take (p : Parsed) (b : Bytes) (o len cls : Nat) (f : Option (Nat × Bytes)) : Parsed :=
  if b.length < o + len then { p with drop := true }
  else
    let p := { p with cls := cls, stop := o + len }
    match f with
    | some (i, x) => p.set i x
    | none => p

/-- PTP: the class, and whether messageType is 0 to 3. -/
def Parsed.takePtp (p : Parsed) (b : Bytes) (o : Nat) : Parsed :=
  let p := p.take b o 34 0x0C none
  { p with ptp := p.live && decide (u8 b o % 16 ≤ 3) }

/-- UDP at an offset and what follows it. -/
def parseUdp (b : Bytes) (c : Cursor2) : Parsed :=
  let o := c.off
  if c.ipEnd < o + 8 then { c.p with drop := true }
  else if c.ipEnd - o < fldBe b (o + 4) 2 then { c.p with drop := true }
  else
    let dp := fldBe b (o + 2) 2
    let p := (c.p.set fL4Sport (slice b o 2)).set fL4Dport (slice b (o + 2) 2)
    let p := { p with cls := if p.v6 then 0x04 else 0x03, l4 := some o, stop := o + 8 }
    let o := o + 8
    if dp = 4789 then
      let p := p.take b o 8 0x09 (some (fVni, slice b (o + 4) 3))
      if p.live then parseInner b p (o + 8) else p
    else if dp = 6081 then
      let opt := u8 b o % 64 * 4
      if b.length < o + 8 then { p with drop := true }
      else if opt > 64 then { p with slow := true, cls := 0x0A }
      else
        let p := p.take b o (8 + opt) 0x0A (some (fVni, slice b (o + 4) 3))
        if p.live then parseInner b p (o + 8 + opt) else p
    else if dp = 4791 then p.take b o 12 0x07 (some (fBthQp, slice b (o + 5) 3))
    else if dp = 4893 then p.take b o 32 0x08 (some (fYConn, (slice b (o + 4) 3).reverse))
    else if dp = 319 then p.takePtp b o
    else p

/-- TCP at an offset. -/
def parseTcp (b : Bytes) (c : Cursor2) : Parsed :=
  let len := max 20 (u8 b (c.off + 12) / 16 * 4)
  if c.ipEnd < c.off + 20 || decide (c.ipEnd < c.off + len) then { c.p with drop := true }
  else
    let p := (c.p.set fL4Sport (slice b c.off 2)).set fL4Dport (slice b (c.off + 2) 2)
    { p with cls := if p.v6 then 0x06 else 0x05, l4 := some c.off, stop := c.off + len,
             fin := u8 b (c.off + 13) % 2 == 1 || bit (u8 b (c.off + 13)) 2 }

/-- What follows an IP header. -/
def parseL4 (b : Bytes) (c : Cursor2) : Parsed :=
  if !c.p.live then c.p
  else if c.next = 17 then parseUdp b c
  else if c.next = 6 then parseTcp b c
  else if c.next = 50 then
    { (c.p.take b c.off 8 0x0B (some (fEspSpi, slice b c.off 4))) with esp := some c.off }
  else { c.p with cls := if c.p.v6 then 0x02 else 0x01 }

/-- R228: a MACsec SecTAG that was not terminated: the length, and whether parsing stops there. -/
def parseSecTag (b : Bytes) (p : Parsed) (o : Nat) : Cursor2 :=
  let tci := u8 b o
  let len := if bit tci 5 then 14 else 6
  if b.length < o + len then { p := { p with drop := true }, off := o, next := 0 }
  else if bits tci 3 2 != 0 then
    { p := { p with cls := 0x0D, stop := o + len }, off := o + len, next := 0x10000 }
  else if b.length < o + len + 2 then { p := { p with drop := true }, off := o, next := 0 }
  else { p := { p with stop := o + len }, off := o + len + 2, next := fldBe b (o + len) 2 }

/-- R228-R233: parse a frame from its outer Ethernet header; depth is counted from `origin`
(log entry 51, DEDUCED). -/
def parse (b : Bytes) (sub origin : Nat) : Parsed :=
  let p : Parsed := (({ } : Parsed).setN fSubport sub)
  let p := if b.length < 14 then { p with drop := true } else
    let p := { ((p.set fMacDa (slice b 0 6)).set fMacSa (slice b 6 6)) with stop := 14 }
    let c := parseVlans b false 2 0 p 14
    let c := if c.p.live && c.next == 0x88E5 then parseSecTag b c.p c.off else c
    let p := if c.next < 0x10000 then c.p.setN fEtherType c.next else c.p.setN fEtherType 0x88E5
    if !c.p.live then p
    else if c.next = 0x10000 then p
    else if c.next = 0x0800 then parseL4 b (parseIp4 b false p c.off)
    else if c.next = 0x86DD then parseL4 b (parseIp6 b false p c.off)
    else if c.next = 0x88F7 then p.takePtp b c.off
    else { p with slow := true }
  let p := p.slowIf (!p.drop && decide (p.stop - origin > 256))
  p.setN fClass p.cls

/-- R234: the key of a profile: the selected fields in ascending ID order, padded with zeros to 48 bytes. -/
def Parsed.key (p : Parsed) (bitmap : Nat) : Bytes :=
  padTo 48 (((List.range 22).filter fun i => bit bitmap i).flatMap p.field)

/-- R234: the bytes that a field bitmap selects. -/
def profileBytes (bitmap : Nat) : Nat :=
  ((List.range 22).filter fun i => bit bitmap i).foldl (fun n i => n + fieldBytes i) 0

/-- R226: whether the IPv4, UDP and TCP checksums present in the outer headers are good; the IPv4 header's is, or the
packet would have been dropped. -/
def csumOk (b : Bytes) (p : Parsed) : Bool :=
  match p.ip, p.l4 with
  | some ip, some o =>
    let tcp := p.cls == 0x05 || p.cls == 0x06
    let iend := if p.v6 then ip + 40 + fldBe b (ip + 4) 2 else ip + fldBe b (ip + 2) 2
    let len := if tcp then iend - o else fldBe b (o + 4) 2
    let stored := fldBe b (if tcp then o + 16 else o + 6) 2
    (!tcp && stored == 0) || fold16 (onesSum (pseudoSum b ip p.v6 (if tcp then 6 else 17) len) (slice b o len)) == 0xFFFF
  | some _, none => true
  | none, _ => false

/-- A frame with the DSCP of its outermost IP header set and the IPv4 checksum rewritten (R240, R264). -/
def setDscp (b : Bytes) (p : Parsed) (d : Nat) : Bytes :=
  match p.ip with
  | none => b
  | some o =>
    if p.v6 then
      let w := fldBe b o 2
      patch b o (toBe 2 (setBits w 11 6 d))
    else
      let b := patch b (o + 1) (toLe 1 (d * 4 + u8 b (o + 1) % 4))
      let b := patch b (o + 10) [0, 0]
      patch b (o + 10) (toBe 2 (inetSum 0 (slice b o 20)))

/-- R224: fill in the IPv4 header checksum and the UDP or TCP checksum of a frame to be sent. -/
def fillChecksums (b : Bytes) : Bytes :=
  let z := 14
  let rec skip (n o : Nat) : Nat × Nat :=
    let ty := fldBe b (o - 2) 2
    match n with
    | 0 => (ty, o)
    | n + 1 => if ty = 0x8100 ∨ ty = 0x88A8 then skip n (o + 4) else (ty, o)
  let (ty, o) := skip 2 z
  if ty = 0x0800 ∧ o + 20 ≤ b.length then
    let hl := u8 b o % 16 * 4
    let b := patch b (o + 10) [0, 0]
    let b := patch b (o + 10) (toBe 2 (inetSum 0 (slice b o hl)))
    let proto := u8 b (o + 9)
    let l := o + hl
    let len := fldBe b (o + 2) 2 - hl
    let at_ := if proto = 6 then l + 16 else l + 6
    if (proto = 6 ∨ proto = 17) ∧ at_ + 2 ≤ b.length then
      let b := patch b at_ [0, 0]
      let c := inetSum (pseudoSum b o false proto len) (slice b l len)
      patch b at_ (toBe 2 (if proto = 17 ∧ c = 0 then 0xFFFF else c))
    else b
  else if ty = 0x86DD ∧ o + 40 ≤ b.length then
    let proto := u8 b (o + 6)
    let l := o + 40
    let len := fldBe b (o + 4) 2
    let at_ := if proto = 6 then l + 16 else l + 6
    if (proto = 6 ∨ proto = 17) ∧ at_ + 2 ≤ b.length then
      let b := patch b at_ [0, 0]
      let c := inetSum (pseudoSum b o true proto len) (slice b l len)
      patch b at_ (toBe 2 (if proto = 17 ∧ c = 0 then 0xFFFF else c))
    else b
  else b

end Sys2Proof.Machine
end

