-- ==== Sys2Proof/Machine/Frames.lean ====
section
/-! DEFINITION. The frames that the H9 builds itself, and the flow records of the telemetry service, which its own
PACKET_SEND queue carries (R287, R308, R603-R608). -/

namespace Sys2Proof.Machine
open Sys2Proof

/-- What an Ethernet, IP and UDP header of the H9's own frames is built from. -/
structure Hdr where
  sub : Nat
  v6 : Bool
  vlan : Option Nat                     -- tag control information
  mac : Bytes
  src : Bytes
  dst : Bytes
  dscp : Nat
  ecn : Nat
  sport : Nat
  dport : Nat
deriving DecidableEq, Repr

/-- The IP header of a payload; the identification of an IPv4 header is a free value (log entry 168, DEDUCED). -/
def ipHeader (h : Hdr) (ident len : Nat) : Bytes :=
  if h.v6 then
    toBe 4 (6 * 2 ^ 28 + (h.dscp * 4 + h.ecn) * 2 ^ 20) ++ toBe 2 len ++ [17] ++ toBe 1 Config.ipTtl ++
      padTo 16 h.src ++ padTo 16 h.dst
  else
    let a := [0x45] ++ toBe 1 (h.dscp * 4 + h.ecn) ++ toBe 2 (20 + len) ++ toBe 2 ident ++ toBe 2 Config.ipFlags ++
      toBe 1 Config.ipTtl ++ [17]
    let z := padTo 4 h.src ++ padTo 4 h.dst
    a ++ toBe 2 (inetSum 0 (a ++ z)) ++ z

/-- A UDP frame without FCS; `sum` asks for the UDP checksum, zero otherwise (log entry 168, DEDUCED). -/
def udpFrame (h : Hdr) (ident : Nat) (sum : Bool) (payload : Bytes) : Bytes :=
  let len := 8 + payload.length
  let ip := ipHeader h ident len
  let u0 := toBe 2 h.sport ++ toBe 2 h.dport ++ toBe 2 len
  let c := inetSum (pseudoSum ip 0 h.v6 17 len) (u0 ++ [0, 0] ++ payload)
  let udp := u0 ++ (if sum then toBe 2 (if c = 0 then 0xFFFF else c) else [0, 0])
  let tag := match h.vlan with
    | some t => toBe 2 0x8100 ++ toBe 2 t
    | none => []
  padTo 6 h.mac ++ toBe 6 (Config.portMac h.sub) ++ tag ++ toBe 2 (if h.v6 then 0x86DD else 0x0800) ++ ip ++ udp ++ payload

/-- Put a frame at the end of a PACKET_SEND queue's frames. -/
def State.enqueue (s : State) (q : Nat) (x : TxFrame) : State :=
  { s with sch.queues := Map.put s.sch.queues q ((Map.get s.sch.queues q).getD [] ++ [x]) }

/-! ## Flow records (R603-R607) -/

/-- The number under which the telemetry service's own PACKET_SEND queue stands in the scheduler. -/
def telQueue : Nat := 131073

/-- The time of a port clock value in milliseconds of UTC (R605) (log entry 168, DEDUCED). -/
def utcMs (ns : Nat) : Nat := (ns - Config.utcOffset) / 1000000

/-- The data record of a flow (R605). -/
def Flow.bytes (x : Flow) (n reason : Nat) : Bytes :=
  let k := x.key
  let ip (v : Nat) : Bytes := toBe (if k.v6 then 16 else 4) v
  ip k.src ++ ip k.dst ++ toBe 2 k.sport ++ toBe 2 k.dport ++ toBe 1 k.proto ++ toBe 1 (k.dscp * 4) ++ toBe 2 k.vlan ++
    toBe 4 k.sub ++ toBe 8 x.octets ++ toBe 8 x.packets ++ toBe 8 (utcMs x.first) ++ toBe 8 (utcMs x.last) ++
    toBe 4 n ++ toBe 1 reason

/-- R606: data records advance the sequence number of their observation domain. -/
def State.telCount (s : State) (domain recs : Nat) : State :=
  { s with tel.seqs := Map.put s.tel.seqs domain (((Map.get s.tel.seqs domain).getD 0 + recs) % 2 ^ 32) }

/-- Send one IPFIX message with one set (R606).  `recs` data records count towards the sequence number
(log entry 167, DEDUCED). -/
def State.ipfixMessage (s : State) (c : Ipfix) (setId : Nat) (body : Bytes) (recs : Nat) : State :=
  let set := toBe 2 setId ++ toBe 2 (4 + body.length) ++ body
  let msg := toBe 2 10 ++ toBe 2 (16 + set.length) ++ toBe 4 (utcMs (s.ptp (c.sub / 4)) / 1000) ++ toBe 4 ((Map.get s.tel.seqs c.domain).getD 0) ++
    toBe 4 c.domain ++ set
  let h : Hdr := {
    sub := c.sub, v6 := c.v6, vlan := if c.vlan then some (c.cls * 2 ^ 13 + c.vid) else none, mac := c.mac,
    src := c.src, dst := c.dst, dscp := c.dscp, ecn := 0, sport := 4739, dport := if c.port = 0 then 4739 else c.port }
  let (i, s) := s.draw 16
  let s := s.enqueue telQueue { data := udpFrame h i true msg, cls := c.cls, tel := true }
  s.telCount c.domain recs

/-- The two templates (R605). -/
def templates : Bytes :=
  let t (id a b w : Nat) : Bytes :=
    toBe 2 id ++ toBe 2 14 ++ (([(a, w), (b, w), (7, 2), (11, 2), (4, 1), (5, 1), (58, 2), (10, 4), (1, 8), (2, 8),
      (152, 8), (153, 8), (305, 4), (136, 1)] : List (Nat × Nat)).flatMap fun x => toBe 2 x.1 ++ toBe 2 x.2)
  t 256 8 12 4 ++ t 257 27 28 16

/-- R606: send the template set; during a restart of the service it stays due (log entry 167, DEDUCED). -/
def State.sendTemplates (s : State) : State :=
  match s.tel.ipfix with
  | some c =>
    let s : State := { s with tel.templateAt := s.now }
    if s.serves 8 then s.ipfixMessage c 2 templates 0 else { s with tel.templateDue := true }
  | none => s

/-- R606: messages that wait in the service's queue, one record each (log entry 167, DEDUCED). -/
def State.telBacklog (s : State) : Nat := ((Map.get s.sch.queues telQueue).getD []).length

/-- R607: write a record to the host telemetry ring (log entry 169, DEDUCED). -/
def State.telRing (s : State) (x : Flow) (rec : Bytes) : State :=
  match s.tel.ring with
  | none => s
  | some r =>
    if !s.canMaster r.fn || (s.fn r.fn).attach == .freewheel then { s with tel.ringLost := s.tel.ringLost + 1 }
    else
      let b := toLe 8 r.next ++ toLe 2 (if x.key.v6 then 257 else 256) ++ toLe 2 rec.length ++ zeros 4 ++ padTo 112 rec
      let s := s.emit (.memWrite r.fn none (s.fn r.fn).atsEn (r.addr + (r.next - 1) % 2 ^ r.log2 * 128) b false)
      let s := { s with tel.ring := some { r with next := r.next + 1 } }
      if r.vector = 0xFFFF then s else s.interrupt r.fn r.vector

/-- R606, R607: write a flow's record to the ring and send it to the collector; `n` is the sampling interval
(log entry 167, DEDUCED). -/
def State.exportNow (s : State) (x : Flow) (n reason : Nat) : State :=
  let dat := x.bytes n reason
  let s := s.telRing x dat
  match s.tel.ipfix with
  | none => s
  | some c =>
    if 65536 < s.telBacklog then State.telCount { s with tel.dropped := s.tel.dropped + 1 } c.domain 1
    else s.ipfixMessage c (if x.key.v6 then 257 else 256) dat 1

/-- R603, R604: export a flow's record; during a restart of the service it stays due. -/
def State.exportFlow (s : State) (x : Flow) (reason : Nat) : State :=
  let n := (Map.get s.tel.sampleN x.key.sub).getD 0
  if s.serves 8 then s.exportNow x n reason else { s with tel.due := s.tel.due ++ [(x, n, reason)] }

/-- R603: what became due during a restart of the telemetry service goes out after it. -/
def State.telResume (s : State) : State :=
  if !s.serves 8 then s
  else
    let l := s.tel.due
    let t := s.tel.templateDue
    let s : State := { s with tel.due := [], tel.templateDue := false }
    let s := if t then s.sendTemplates else s
    l.foldl (fun s x => s.exportNow x.1 x.2.1 x.2.2) s

/-- R604: the oldest record, by its first packet (log entry 170, DESIGN CHOICE). -/
def oldestFlow : List Flow → Option Flow
  | [] => none
  | x :: t => match oldestFlow t with
    | none => some x
    | some y => some (if y.first < x.first then y else x)

/-- R604: CACHE_FULL rises; the service may evict the oldest record, as a free value says
(log entry 170, DESIGN CHOICE). -/
def State.cacheFull (s : State) : State :=
  let s := s.rsat 0xD00000 47 32 1
  if !s.serves 8 then s
  else
    let (v, s) := s.draw 1
    match oldestFlow s.tel.flows with
    | some x => if v = 1 then State.exportFlow { s with tel.flows := s.tel.flows.filter fun y => y.key != x.key } x 5 else s
    | none => s

/-- The flow key of a packet (R603). -/
def Parsed.flowKey (p : Parsed) (sub : Nat) : FlowKey :=
  { v6 := p.v6, src := be (p.field (if p.v6 then fIp6Sa else fIp4Sa)), dst := be (p.field (if p.v6 then fIp6Da else fIp4Da)),
    proto := be (p.field fIpProto), sport := be (p.field fL4Sport), dport := be (p.field fL4Dport),
    dscp := be (p.field fDscp), vlan := be (p.field fVlanOuter), sub := sub }

/-- The IP octets of a packet. -/
def ipOctets (b : Bytes) (p : Parsed) : Nat :=
  match p.ip with
  | some o => if p.v6 then 40 + fldBe b (o + 4) 2 else fldBe b (o + 2) 2
  | none => 0

/-- R603, R604: a packet leaves the ingress pipeline and is sampled with probability 1/N: a free value decides
(log entry 170, DESIGN CHOICE). -/
def State.flowSample (s : State) (sub : Nat) (b : Bytes) (p : Parsed) : State :=
  let n := (Map.get s.tel.sampleN sub).getD 0
  if n = 0 || !([1, 2, 3, 4, 5, 6, 7, 8, 9, 10, 11] : List Nat).contains p.cls then s
  else
    let (v, s) := s.draw 32
    if v % n != 0 then s
    else
      let k := p.flowKey sub
      let t := s.ptp (sub / 4)
      let old := s.tel.flows.find? fun x => x.key == k
      if old.isNone && 262144 ≤ s.tel.flows.length then s.cacheFull
      else
        let x : Flow := old.getD { key := k, first := t, exportedAt := s.now }
        let x : Flow := { x with octets := satAdd 64 x.octets (ipOctets b p), packets := satAdd 64 x.packets 1,
                                 first := if x.packets = 0 then t else x.first, last := t, seenAt := s.now }
        let rest := s.tel.flows.filter fun y => y.key != k
        let tcp := p.cls == 5 || p.cls == 6
        if tcp && p.fin then { s with tel.flows := rest }.exportFlow x 3
        else { s with tel.flows := if old.isSome then s.tel.flows.map (fun y => if y.key == k then x else y) else rest ++ [x] }

end Sys2Proof.Machine
end

