-- ==== Sys2Proof/Machine/Rules.lean ====
section
/-! DEFINITION. Rule versions, their entries and the commands of chapter 6 (R234-R248). -/

namespace Sys2Proof.Machine
open Sys2Proof

/-- R236: whether a range holds in a version. -/
def holdsIn (v lo hi : Nat) (opn : Bool) : Bool :=
  let d := (v + 2 ^ 32 - lo) % 2 ^ 32
  if opn then decide (d < 2 ^ 31) else decide (d < (hi + 2 ^ 32 - lo) % 2 ^ 32)

def EmEntry.holds (e : EmEntry) (v : Nat) : Bool := holdsIn v e.lo e.hi e.opn
def AclEntry.holds (e : AclEntry) (v : Nat) : Bool := holdsIn v e.lo e.hi e.opn

/-- R243: the pending version. -/
def State.pend (s : State) : Nat := (s.net.current + 1) % 2 ^ 32

/-- The live version with a number. -/
def State.version (s : State) (v : Nat) : Option (Nat × Version) := s.net.vers.find? fun x => x.2.number == v

/-- The rules of a version. -/
def State.rules (s : State) (v : Nat) : RuleSet := match s.version v with
  | some (_, x) => x.rules
  | none => {}

/-- R247: change a version's in-flight count. -/
def State.inFlight (s : State) (v : Nat) (up : Bool) : State :=
  let t := s.net.vers.map fun (k, x) =>
    (k, if x.number = v then { x with inFlight := if up then x.inFlight + 1 else x.inFlight - 1 } else x)
  { s with net.vers := t }

/-- The 64-byte action entry at an index (log entry 47, DEDUCED). -/
def State.action (s : State) (a : Nat) : Bytes := (Map.get s.net.actions a).getD (zeros 64)

/-- R240: the fields of an action entry. -/
def aVerdict (a : Bytes) : Nat := bits (u8 a 0) 3 0
def aMirror (a : Bytes) : Bool := bit (u8 a 0) 4
def aDecap (a : Bytes) : Bool := bit (u8 a 0) 5
def aIpsec (a : Bytes) : Bool := bit (u8 a 0) 6
def aSetDscp (a : Bytes) : Bool := bit (u8 a 0) 7
def aClass (a : Bytes) : Nat := bits (u8 a 1) 2 0
def aDscp (a : Bytes) : Nat := bits (u8 a 2) 5 0
def aQueue (a : Bytes) : Nat := bits (u32 a 4) 16 0
def aMeter (a : Bytes) : Nat := bits (u32 a 8) 16 0
def aMeterEn (a : Bytes) : Bool := bit (u32 a 8) 31
def aMark (a : Bytes) : Nat := u32 a 12
def aMirrorQueue (a : Bytes) : Nat := bits (u32 a 16) 16 0
def aSa (a : Bytes) : Nat := bits (u16 a 20) 13 0

/-- R240: a non-zero reserved field or a reserved verdict. -/
def actionBad (a : Bytes) : Bool :=
  decide (aVerdict a > 4) || bits (u8 a 1) 7 3 != 0 || bits (u16 a 2) 15 6 != 0 || bits (u32 a 4) 31 17 != 0 ||
  bits (u32 a 8) 30 17 != 0 || bits (u32 a 16) 31 17 != 0 || bits (u16 a 20) 15 14 != 0 ||
  (slice a 22 42).any (· != 0)

/-! ## Lookups (R237-R239) -/

/-- The exact-match entry that holds in a version under a profile and key.  The spec lets software add a key that already
has an open entry of an older version; which of several entries that hold is found is open
(log entry 48, DESIGN CHOICE). -/
def State.emFind (s : State) (v profile : Nat) (key : Bytes) : Option EmEntry :=
  match s.net.em.filter fun e => e.profile == profile && e.key == key && e.holds v with
  | [] => none
  | [e] => some e
  | l => l[Config.emPick v key % l.length]?

/-- R238: whether a key matches an entry under its mask. -/
def AclEntry.matches (e : AclEntry) (key : Bytes) : Bool :=
  (e.key.zip (e.mask.zip key)).all fun (a, m, b) => a &&& m == b &&& m

/-- R238: the winning wildcard entry: highest priority, then lowest slot. -/
def State.aclFind (s : State) (v profile : Nat) (egress : Bool) (key : Bytes) : Option AclEntry :=
  s.net.acl.foldl (fun b (_, e) =>
    if e.egress == egress && e.profile == profile && e.holds v && e.matches key then
      match b with
      | some x => if x.prio < e.prio then some e else b
      | none => some e
    else b) none

/-- R235: the profiles of a class in a version: exact, ingress wildcard, egress wildcard (log entry 47, DEDUCED). -/
def State.profilesOf (s : State) (v cls : Nat) : Nat × Nat × Nat :=
  (Map.get (s.rules v).classMap cls).getD (0, 0, 0)

/-- Log entry 47, DEDUCED. -/
def State.bitmap (s : State) (p : Nat) : Nat := (Map.get s.net.profiles p).getD 0

/-- R239: the ingress action of a packet in its version, none when there is not even a default
(log entry 47, DEDUCED). -/
def State.ingressAction (s : State) (v sub : Nat) (p : Parsed) : Option Nat :=
  let (ex, wi, _) := s.profilesOf v p.cls
  let w := s.aclFind v wi false (p.key (s.bitmap wi))
  let e := s.emFind v ex (p.key (s.bitmap ex))
  match w, e with
  | some a, some x => if a.overrides then some a.action else some x.action
  | some a, none => some a.action
  | none, some x => some x.action
  | none, none => Map.get (s.rules v).defaults sub

/-- R239: the egress action of a frame. -/
def State.egressAction (s : State) (v : Nat) (p : Parsed) : Option Nat :=
  let (_, _, we) := s.profilesOf v p.cls
  (s.aclFind v we true (p.key (s.bitmap we))).map AclEntry.action

/-! ## Staging (R243-R246) -/

/-- The actions that live and pending entries and defaults name. -/
def State.actionUsed (s : State) (a : Nat) : Bool :=
  s.net.em.any (fun e => e.action == a) || s.net.acl.any (fun x => x.2.action == a) ||
  s.net.vers.any (fun x => x.2.rules.defaults.any fun d => d.2 == a) ||
  (match s.net.staging with
   | some g => g.rules.defaults.any fun d => d.2 == a
   | none => false)

/-- R241: whether PF1 may name an action: its queues, where used, are queues of PF1's spokes. -/
def State.pf1Action (s : State) (f : Nat) (a : Bytes) : Bool :=
  let mine (q : Nat) : Bool := match s.queue q with
    | some x => s.spokeFn x.spoke == f
    | none => false
  let uses := aVerdict a == 1 || aVerdict a == 3
  (!uses || mine (aQueue a)) && (!aMirror a || mine (aMirrorQueue a))

/-- R244: whether a function holds the staging lock. -/
def State.holdsLock (s : State) (f : Nat) : Bool := match s.net.staging with
  | some g => g.fn == f
  | none => false

/-- R244: discard P's changes and release the lock. -/
def State.abandonRules (s : State) : State :=
  let p := s.pend
  let em := (s.net.em.filter fun e => e.lo != p).map fun e => if !e.opn && e.hi == p then { e with opn := true } else e
  let acl := (s.net.acl.filter fun x => x.2.lo != p).map fun (k, e) =>
    (k, if !e.opn && e.hi == p then { e with opn := true } else e)
  { s with net.em := em, net.acl := acl, net.staging := none }

/-- R244: the lock's release when its holder is reset or enters freewheel. -/
def State.releaseLock (s : State) (f : Nat) : State := if s.holdsLock f then s.abandonRules else s

/-- RULE_BEGIN (R244). -/
def State.ruleBegin (s : State) (f : Nat) : Reply :=
  if s.heldNew 1 then Reply.err s .retryLater
  else match s.net.staging with
  | some g =>
    if g.fn = f then Reply.ok s (toLe 4 s.pend) else Reply.err s .retryLater
  | none => Reply.ok { s with net.staging := some { fn := f, rules := s.rules s.net.current } } (toLe 4 s.pend)

def execRuleBegin (f : Nat) (s : State) : Outcome := .next (s.perform f 0x0301 fun _ s => s.ruleBegin f)

/-- RULE_SHIFT (R245, R246): P becomes current in every pipeline; the lowest free slot holds it
(log entry 50, DESIGN CHOICE). -/
def State.ruleShift (s : State) (f : Nat) : Reply :=
  match s.net.staging with
  | none => Reply.err s .notPermitted
  | some g =>
    if g.fn ≠ f then Reply.err s .notPermitted
    else match Map.lowestFree s.net.vers 4 with
      | none => Reply.err s .retryLater
      | some k =>
        let p := s.pend
        let s := { s with net.vers := Map.put s.net.vers k { number := p, rules := g.rules }, net.current := p
                          net.staging := none, net.shifts := s.net.shifts + 1 }
        Reply.ok s.bump (toLe 4 p)

def execRuleShift (f : Nat) (s : State) : Outcome := .next (s.perform f 0x0302 fun _ s => s.ruleShift f)

/-- RULE_ABANDON (R244). -/
def execRuleAbandon (f : Nat) (s : State) : Outcome :=
  .next (s.perform f 0x0303 fun _ s =>
    if s.holdsLock f then Reply.ok s.abandonRules [] else Reply.err s .notPermitted)

/-- R236: the two candidate buckets of a key. -/
def emBuckets (profile : Nat) (key : Bytes) : Nat × Nat :=
  let b := BitVec.ofNat 8 profile :: key
  (crc32c b % 2 ^ 20, crc32 b % 2 ^ 20)

/-- Place an entry in a bucket, displacing at most `fuel` entries; free values choose the victims
(log entry 48, DESIGN CHOICE). -/
def emPlace (s : State) (em : List EmEntry) (e : EmEntry) (b : Nat) : Nat → State × Option (List EmEntry)
  | 0 => (s, if (em.filter fun x => x.bucket == b).length < 4 then some (em ++ [{ e with bucket := b }]) else none)
  | n + 1 =>
    let here := em.filter fun x => x.bucket == b
    if here.length < 4 then (s, some (em ++ [{ e with bucket := b }]))
    else
      let (i, s) := s.draw 2
      match here[i]? with
      | none => (s, none)
      | some v =>
        let (x, y) := emBuckets v.profile v.key
        emPlace s ((em.filter fun z => z != v) ++ [{ e with bucket := b }]) v (if b = x then y else x) n

/-- R236: put an entry into the exact-match table (log entry 48, DESIGN CHOICE). -/
def State.emInsert (s : State) (e : EmEntry) : State × Option (List EmEntry) :=
  let (a, b) := emBuckets e.profile e.key
  let room (k : Nat) : Bool := decide ((s.net.em.filter fun x => x.bucket == k).length < 4)
  if room a then (s, some (s.net.em ++ [{ e with bucket := a }]))
  else if room b then (s, some (s.net.em ++ [{ e with bucket := b }]))
  else emPlace s s.net.em e a 500

/-- EM_ADD (R243). -/
def State.emAdd (s : State) (f : Nat) (p : Bytes) : Reply :=
  let pr := u8 p 0
  let a := u32 p 4
  let key := slice p 8 48
  let dup := s.net.em.any fun e => e.profile == pr && e.key == key && e.opn && e.lo == s.pend
  if pr > 31 || a > 524287 || dup then Reply.err s .malformed
  else if !s.holdsLock f || (f % 4 == 1 && !s.pf1Action f (s.action a)) then Reply.err s .notPermitted
  else match s.emInsert { profile := pr, key := key, lo := s.pend, action := a, bucket := 0 } with
    | (s, some em) => Reply.ok { s with net.em := em } []
    | (s, none) => Reply.err s .resource

def execEmAdd (f : Nat) (s : State) : Outcome := .next (s.perform f 0x0310 fun p s => s.emAdd f p)

/-- EM_DELETE (R243). -/
def State.emDelete (s : State) (f : Nat) (p : Bytes) : Reply :=
  let pr := u8 p 0
  let key := slice p 8 48
  let hit (e : EmEntry) : Bool := e.profile == pr && e.key == key && e.opn
  if pr > 31 || u32 p 4 != 0 || !s.net.em.any hit then Reply.err s .malformed
  else if !s.holdsLock f || (f % 4 == 1 && !(s.net.em.filter hit).all fun e => s.pf1Action f (s.action e.action)) then
    Reply.err s .notPermitted
  else
    let em := s.net.em.filterMap fun e =>
      if hit e then (if e.lo = s.pend then none else some { e with hi := s.pend, opn := false }) else some e
    Reply.ok { s with net.em := em } []

def execEmDelete (f : Nat) (s : State) : Outcome := .next (s.perform f 0x0311 fun p s => s.emDelete f p)

/-- ACL_ADD (R243). -/
def State.aclAdd (s : State) (f : Nat) (p : Bytes) : Reply :=
  let slot := u32 p 0
  let a := u32 p 4
  let pr := u8 p 11
  if slot > 65535 || a > 524287 || pr > 31 then Reply.err s .malformed
  else if !s.holdsLock f || (f % 4 == 1 && !s.pf1Action f (s.action a)) || Map.has s.net.acl slot then
    Reply.err s .notPermitted
  else
    let e : AclEntry := {
      profile := pr, key := slice p 16 48, mask := slice p 64 48, prio := u16 p 8, overrides := bit (u8 p 10) 0,
      egress := bit (u8 p 10) 1, lo := s.pend, action := a }
    Reply.ok { s with net.acl := Map.put s.net.acl slot e } []

def execAclAdd (f : Nat) (s : State) : Outcome := .next (s.perform f 0x0320 fun p s => s.aclAdd f p)

/-- ACL_DELETE (R243). -/
def State.aclDelete (s : State) (f : Nat) (p : Bytes) : Reply :=
  match Map.get s.net.acl (u32 p 0) with
  | none => Reply.err s .malformed
  | some e =>
    if !e.opn then Reply.err s .malformed
    else if !s.holdsLock f || (f % 4 == 1 && !s.pf1Action f (s.action e.action)) then Reply.err s .notPermitted
    else
      let t := if e.lo = s.pend then Map.erase s.net.acl (u32 p 0)
        else Map.put s.net.acl (u32 p 0) { e with hi := s.pend, opn := false }
      Reply.ok { s with net.acl := t } []

def execAclDelete (f : Nat) (s : State) : Outcome := .next (s.perform f 0x0321 fun p s => s.aclDelete f p)

/-- ACTION_SET (R240, R241, R267). -/
def State.actionSet (s : State) (f : Nat) (p : Bytes) : Reply :=
  let i := u32 p 0
  let a := slice p 8 64
  if i > 524287 || actionBad a then Reply.err s .malformed
  else if !s.holdsLock f || s.actionUsed i ||
      (f % 4 == 1 && (!s.pf1Action f a || (aMeterEn a && (s.meter (aMeter a)).owner != 1))) then
    Reply.err s .notPermitted
  else Reply.ok { s with net.actions := if a.all (· == 0) then Map.erase s.net.actions i else Map.put s.net.actions i a } []

def execActionSet (f : Nat) (s : State) : Outcome := .next (s.perform f 0x0330 fun p s => s.actionSet f p)

/-- Change what is staged for P. -/
def State.stage (s : State) (g : RuleSet → RuleSet) : State :=
  { s with net.staging := s.net.staging.map fun x => { x with rules := g x.rules } }

/-- DEFAULT_SET (R235, R241). -/
def State.defaultSet (s : State) (f : Nat) (p : Bytes) : Reply :=
  if u8 p 0 > 31 || u32 p 4 > 524287 then Reply.err s .malformed
  else if f % 4 ≠ 0 || !s.holdsLock f then Reply.err s .notPermitted
  else Reply.ok (s.stage fun r => { r with defaults := Map.put r.defaults (u8 p 0) (u32 p 4) }) []

def execDefaultSet (f : Nat) (s : State) : Outcome := .next (s.perform f 0x0331 fun p s => s.defaultSet f p)

/-- CLASS_MAP_SET (R235, R241). -/
def State.classMapSet (s : State) (f : Nat) (p : Bytes) : Reply :=
  if u8 p 0 > 0x0D || u8 p 1 > 31 || u8 p 2 > 31 || u8 p 3 > 31 then Reply.err s .malformed
  else if f % 4 ≠ 0 || !s.holdsLock f then Reply.err s .notPermitted
  else Reply.ok (s.stage fun r => { r with classMap := Map.put r.classMap (u8 p 0) (u8 p 1, u8 p 2, u8 p 3) }) []

def execClassMapSet (f : Nat) (s : State) : Outcome := .next (s.perform f 0x0332 fun p s => s.classMapSet f p)

/-- PROFILE_SET (R234, R241). -/
def State.profileSet (s : State) (f : Nat) (p : Bytes) : Reply :=
  let k := u8 p 0
  let m := u64 p 8
  if k > 31 || m ≥ 2 ^ 22 || profileBytes m > 48 then Reply.err s .malformed
  else if f % 4 ≠ 0 || s.net.em.any (fun e => e.profile == k) || s.net.acl.any (fun x => x.2.profile == k) then
    Reply.err s .notPermitted
  else Reply.ok { s with net.profiles := if m = 0 then Map.erase s.net.profiles k else Map.put s.net.profiles k m } []

def execProfileSet (f : Nat) (s : State) : Outcome := .next (s.perform f 0x0340 fun p s => s.profileSet f p)

/-- The spoke that a command of PF0 acts for: the base spoke of its hierarchy. -/
def State.baseOf (s : State) (f : Nat) : Nat := ((s.fn f).baseSpoke).getD 2048

/-- MACSEC_SA_SET (R221, R241). -/
def State.macsecSet (s : State) (f : Nat) (p : Bytes) : Reply :=
  let fl := u8 p 1
  let xpn := bit fl 3
  let ch := u16 p 2
  let k := s.keyCheck (u32 p 4) [3] (s.baseOf f)
  if u8 p 0 > 31 || ch > 31 || (!xpn && u64 p 24 != 0) then Reply.err s .malformed
  else if k == .malformed then Reply.err s .malformed
  else if f % 4 ≠ 0 then Reply.err s .notPermitted
  else if k != .success then Reply.err s k
  else
    let a : MacsecSa := { sub := u8 p 0, tx := bit fl 0, an := bits fl 2 1, channel := ch, xpn := xpn, handle := u32 p 4,
                          sci := u64 p 8, pn := u64 p 16, salt := u32 p 24, ssci := u32 p 28 }
    let rest := s.net.macsec.filter fun x => !(x.sub == a.sub && x.tx == a.tx && x.an == a.an && (a.tx || x.channel == ch))
    Reply.ok { s with net.macsec := rest ++ [a] } []

def execMacsecSaSet (f : Nat) (s : State) : Outcome := .next (s.perform f 0x0350 fun p s => s.macsecSet f p)

/-- IPSEC_SA_SET (R241, R242). -/
def State.ipsecSet (s : State) (f : Nat) (p : Bytes) : Reply :=
  let k := s.keyCheck (u32 p 8) [4] (s.baseOf f)
  if u16 p 0 > 16383 || k == .malformed then Reply.err s .malformed
  else if f % 4 ≠ 0 then Reply.err s .notPermitted
  else if k != .success then Reply.err s k
  else
    let a : IpsecSa := { outbound := bit (u8 p 2) 0, tunnel := bit (u8 p 2) 1, spi := u32 p 4, handle := u32 p 8,
                         salt := u32 p 12, next := u64 p 16 }
    Reply.ok { s with net.ipsec := Map.put s.net.ipsec (u16 p 0) a } []

def execIpsecSaSet (f : Nat) (s : State) : Outcome := .next (s.perform f 0x0360 fun p s => s.ipsecSet f p)

/-! ## Retirement (R247, R248) -/

/-- Versions ordered by age: how far a version lies behind the current one. -/
def State.age (s : State) (v : Nat) : Nat := (s.net.current + 2 ^ 32 - v) % 2 ^ 32

/-- The oldest live version. -/
def State.oldestVersion (s : State) : Nat :=
  s.net.vers.foldl (fun o x => if s.age o < s.age x.2.number then x.2.number else o) s.net.current

/-- R248: reclaim the entries that ended at or before the oldest live version, and bring forward old FROM values
(log entry 50, DESIGN CHOICE). -/
def State.reclaim (s : State) : State :=
  let o := s.oldestVersion
  let dead (hi : Nat) (opn : Bool) : Bool := !opn && decide ((o + 2 ^ 32 - hi) % 2 ^ 32 < 2 ^ 31)
  let old (lo : Nat) (opn : Bool) : Bool :=
    opn && decide (2 ^ 30 ≤ (o + 2 ^ 32 - lo) % 2 ^ 32) && decide ((o + 2 ^ 32 - lo) % 2 ^ 32 < 2 ^ 31)
  let em := (s.net.em.filter fun e => !dead e.hi e.opn).map fun e => if old e.lo e.opn then { e with lo := o } else e
  let acl := (s.net.acl.filter fun x => !dead x.2.hi x.2.opn).map fun (k, e) =>
    (k, if old e.lo e.opn then { e with lo := o } else e)
  { s with net.em := em, net.acl := acl }

/-- VERSION_RETIRE (R247): the oldest live version retires when it is not current and its count is zero
(log entry 50, DESIGN CHOICE). -/
def State.versionRetire (s : State) : State :=
  let o := s.oldestVersion
  match s.version o with
  | some (k, x) =>
    if o = s.net.current ∨ x.inFlight ≠ 0 then s
    else State.reclaim { s with net.vers := Map.erase s.net.vers k }
  | none => s

def execVersionRetire (s : State) : Outcome := .next s.versionRetire

end Sys2Proof.Machine
end

