-- ==== Sys2Proof/Machine/Ingress.lean ====
section
/-! DEFINITION. The ingress pipelines: reception, flow control, MACsec and IPsec, classification, delivery
(R211-R222, R226-R232, R237-R242, R247), and the commands that drive them. -/

namespace Sys2Proof.Machine
open Sys2Proof

/-! ## Ports -/

/-- R214: the RWC fields of PKT_PORT_CFG in effect for a port. -/
def State.portCfg (s : State) (i : Nat) : Nat := (Map.get s.net.mode i).getD (regReset (aPortCfg i))
def State.portMode (s : State) (i : Nat) : Nat := bits (s.portCfg i) 1 0
def State.loopback (s : State) (i : Nat) : Nat := bits (s.portCfg i) 5 4
def State.maxFrame (s : State) (i : Nat) : Nat := bits (s.portCfg i) 21 8

/-- R210: the sub-ports of a mode, and the rate of each in Gb/s. -/
def modeSubports (m : Nat) : Nat := if m = 0 then 1 else if m = 1 then 2 else if m = 2 then 4 else 0
def modeRate (m : Nat) : Nat := if m = 0 then 800 else if m = 1 then 400 else 200
def State.subExists (s : State) (sub : Nat) : Bool :=
  decide (sub < 32) && decide (sub % 4 < modeSubports (s.portMode (sub / 4)))
def State.subRate (s : State) (sub : Nat) : Nat := modeRate (s.portMode (sub / 4))
def State.linkUp (s : State) (sub : Nat) : Bool := s.net.up.contains sub && s.subExists sub

/-- R213: count a dropped packet. -/
def State.dropCount (s : State) (sub k : Nat) : State := s.rsat (aDrop sub k) 63 0 1

/-! ## Flow control (R216-R218) -/

def State.fcMode (s : State) (sub : Nat) : Nat := s.rfield (aFcCfg sub) 1 0

/-- R216: whether a priority of a sub-port is flow-controlled. -/
def State.isFc (s : State) (sub prio : Nat) : Bool :=
  s.fcMode sub == 1 || (s.fcMode sub == 2 && bit (s.rget (aFcCfg sub)) (8 + prio))

def units256 (n : Nat) : Nat := ceilDiv n 256

/-- R218: the ingress-buffer occupancy of a sub-port and priority. -/
def State.occupancy (s : State) (sub prio : Nat) : Nat :=
  let a := (s.net.lookups.filter fun x => x.pkt.sub == sub && x.pkt.prio == prio).foldl
    (fun n x => n + units256 x.pkt.data.length) 0
  let b := (s.net.decrypts.filter fun x => x.2.pkt.sub == sub && x.2.pkt.prio == prio).foldl
    (fun n x => n + units256 x.2.pkt.data.length) 0
  (s.net.held.filter fun x => x.sub == sub && x.prio == prio).foldl (fun n x => n + units256 x.data.length) (a + b)

def State.xoffAt (s : State) (sub : Nat) : Nat := s.rfield (aFcCfg sub) 31 16
def State.xonAt (s : State) (sub : Nat) : Nat := min (s.rfield (aFcCfg sub) 47 32) (s.xoffAt sub)

/-- R218: send PAUSE or PFC when a priority reaches XOFF, and again with quanta zero when it falls below XON
(log entry 56, DEDUCED). -/
def State.flowCheck (s : State) (sub prio : Nat) : State :=
  let k := sub * 8 + prio
  let n := s.occupancy sub prio
  if !s.isFc sub prio then s
  else if s.net.xoff.contains k then
    if n < s.xonAt sub then { s with net.xoff := setDel s.net.xoff k }.emit (.pause sub prio false) else s
  else if s.xoffAt sub ≤ n then { s with net.xoff := setIns s.net.xoff k }.emit (.pause sub prio true)
  else s

/-- R216: the priority of a received frame. -/
def framePrio (b : Bytes) : Nat :=
  if fldBe b 12 2 = 0x8100 ∨ fldBe b 12 2 = 0x88A8 then fldBe b 14 2 / 2 ^ 13 else 0

/-- R217: pause or resume a priority for a number of quanta of 512 bit times (log entry 54, DEDUCED). -/
def State.setPause (s : State) (sub prio quanta : Nat) : State :=
  let k := sub * 8 + prio
  if quanta = 0 then { s with net.paused := Map.erase s.net.paused k }
  else { s with net.paused := Map.put s.net.paused k (s.now + ceilDiv (quanta * 512) (s.subRate sub)) }

/-- R217: a PAUSE or PFC frame that the sub-port's mode takes; none when the frame is an ordinary one. -/
def State.macControl (s : State) (sub : Nat) (b : Bytes) : Option State :=
  if fldBe b 12 2 ≠ 0x8808 then none
  else if fldBe b 14 2 = 0x0001 ∧ s.fcMode sub = 1 then
    some ((List.range 8).foldl (fun s p => s.setPause sub p (fldBe b 16 2)) s)
  else if fldBe b 14 2 = 0x0101 ∧ s.fcMode sub = 2 then
    some ((List.range 8).foldl (fun s p =>
      if bit (fldBe b 16 2) p && s.isFc sub p then s.setPause sub p (fldBe b (18 + 2 * p) 2) else s) s)
  else none

/-! ## Delivery (R226, R227) -/

/-- The posted buffers of a queue, in ring order. -/
def State.postedOps (s : State) (q : Nat) : List (Nat × Op) :=
  s.host.ops.filter fun (_, o) => o.queue == q && o.posted && o.phase == .started

/-- R225: the size of a posted buffer. -/
def bufSize (o : Op) : Nat := u32 o.desc 24

/-- The buffers that a frame needs, none when too few are posted. -/
def takeBuffers : List (Nat × Op) → Nat → Option (List (Nat × Op))
  | [], n => if n = 0 then some [] else none
  | x :: t, n => if n ≤ bufSize x.2 then some [x] else (takeBuffers t (n - bufSize x.2)).map (x :: ·)

/-- Write a frame into its buffers and finish them; a failed write ends its buffer's operation with the status. -/
def State.fillBuffers (s : State) (spoke : Nat) (flags detail : Nat) (ans : HostAns) : List (Nat × Op) → Bytes → State
  | [], _ => s
  | (o, x) :: t, b =>
    let n := bufSize x
    let (s, r) := s.spokeWrite spoke (u64 x.desc 16) (b.take n) false ans
    if r.status != .success then s.finish o r.status r.done 0
    else
      let more := decide (n < b.length)
      let s := s.modOp o fun y => { y with flags := flags + b2n more, since := s.now, sampled := !more }
      let s := s.finish o .success (b.take n).length detail
      State.fillBuffers s spoke flags detail ans t (b.drop n)

/-- R226, R227: deliver a frame to a PACKET_RECEIVE queue. -/
def State.deliver (s : State) (h : HeldFrame) (ans : HostAns) : State :=
  match s.queue h.queue with
  | some q =>
    if q.kind != .packetReceive || q.state != .active then s.dropCount h.sub 4
    else match takeBuffers (s.postedOps h.queue) h.data.length with
      | some l => s.fillBuffers q.spoke h.flags h.detail ans l h.data
      | none =>
        if s.isFc h.sub h.prio then { s with net.held := s.net.held ++ [h] } else s.dropCount h.sub 4
  | none => s.dropCount h.sub 4

/-- R218: frames that wait for buffers of a queue are placed in order while they fit. -/
def State.retryHeld (s : State) (q : Nat) (ans : HostAns) : Nat → State
  | 0 => s
  | n + 1 =>
    match s.net.held.find? fun h => h.queue == q with
    | none => s
    | some h =>
      match takeBuffers (s.postedOps q) h.data.length with
      | none => s
      | some _ =>
        let s := State.deliver { s with net.held := s.net.held.erase h } h ans
        State.retryHeld (s.flowCheck h.sub h.prio) q ans n

/-- POST (R225): a started descriptor of a PACKET_RECEIVE queue posts its buffer. -/
def State.post (s : State) (o : Nat) (ans : HostAns) : State :=
  match s.running o .packetReceive with
  | none => s
  | some (x, q) =>
    if x.posted then s
    else
      let n := bufSize x
      if n < 64 ∨ 16384 < n ∨ n % 64 ≠ 0 then s.finish o .malformed 0 0
      else
        let s := s.modOp o fun x => { x with posted := true }
        s.retryHeld x.queue ans (s.net.held.length)

def execPost (o : Nat) (ans : HostAns) (s : State) : Outcome := .next (s.post o ans)

/-! ## The pipeline (R237-R242, R245, R247) -/

/-- R232: hand a packet to the network control plane, within the rate (log entry 54, DEDUCED). -/
def State.slowPath (s : State) (sub : Nat) (b : Bytes) : State :=
  let port := sub / 4
  let (t0, n) := (Map.get s.net.slowCount port).getD (s.now, 0)
  let (t0, n) := if t0 + 1000000000 ≤ s.now then (s.now, 0) else (t0, n)
  if 2000000 ≤ n then s.dropCount sub 3
  else { s with net.slowCount := Map.put s.net.slowCount port (t0, n + 1) }.emit (.slowPath sub b)

/-- A packet leaves the ingress pipeline: it may be sampled (R603), and its version count falls (R247). -/
def State.leave (s : State) (k : Pkt) : State := (s.flowSample k.sub k.data k.parsed).inFlight k.tag false

/-- R226: FLAGS and DETAIL of a delivered packet. -/
def Pkt.flags (k : Pkt) : Nat := 2 * b2n (csumOk k.data k.parsed) + 4 * b2n k.parsed.ptp + 8 * b2n k.prot
def Pkt.detail (k : Pkt) (a : Bytes) : Nat :=
  if k.parsed.ptp then k.stamp
  else aMark a + 2 ^ 32 * k.parsed.cls + 2 ^ 40 * k.sub + 2 ^ 48 * (k.tag % 65536)

/-- R240: the frame without its outer headers up to the inner Ethernet header. -/
def decap (k : Pkt) (a b : Bytes) : Bytes :=
  match k.parsed.inner with
  | some o => if aDecap a then b.drop o else b
  | none => b

/-- R264: the meter of an action on a packet: the state, whether it drops the packet, and the DSCP it remarks to
(log entry 53, DEDUCED). -/
def State.applyMeter (s : State) (a : Bytes) (line : Nat) (dscp : Option Nat) : State × Bool × Option Nat :=
  if !aMeterEn a then (s, false, none)
  else
    let (s, c) := s.meterPacket (aMeter a) line dscp
    (s, bit c 0, if bit c 1 then some (bits c 7 2) else none)

/-- The DSCP of the outermost IP header that was parsed (R263). -/
def Parsed.dscpOpt (p : Parsed) : Option Nat := p.ip.map fun _ => be (p.field fDscp)

/-- Hand a packet to its strip's transport engine (R240, R279). -/
def State.toTransport (s : State) (k : Pkt) (b : Bytes) : State :=
  { s with xpt.rx := Map.put s.xpt.rx s.xpt.nextRx (RxPkt.mk k.sub b k.parsed), xpt.nextRx := s.xpt.nextRx + 1 }

/-- R240: the action stage of a packet (log entries 47, DEDUCED; 53, DEDUCED). -/
def State.act (s : State) (k : Pkt) (ans : HostAns) : State :=
  match s.ingressAction k.tag k.sub k.parsed with
  | none => (s.leave k).dropCount k.sub 5
  | some i =>
    let a := s.action i
    let (s, drop, re) := s.applyMeter a k.line k.parsed.dscpOpt
    if drop then s.leave k
    else if aIpsec a && aVerdict a != 0 then
      { s with net.decrypts := Map.put s.net.decrypts s.net.nextDec { pkt := k, sa := aSa a }
               net.nextDec := s.net.nextDec + 1 }
    else
      let b := if aSetDscp a then setDscp k.data k.parsed (aDscp a) else k.data
      let b := match re with
        | some d => setDscp b k.parsed d
        | none => b
      let s := s.leave k
      let h (q : Nat) (b : Bytes) : HeldFrame :=
        { sub := k.sub, prio := k.prio, queue := q, data := b, flags := k.flags, detail := k.detail a }
      let s := if aMirror a then s.deliver (h (aMirrorQueue a) b) ans else s
      match aVerdict a with
      | 1 => s.deliver (h (aQueue a) (decap k a b)) ans
      | 2 => s.toTransport k b
      | 3 =>
        match s.queue (aQueue a) with
        | some q => if q.kind == .packetSend then s.enqueue (aQueue a) { data := decap k a b, cls := aClass a }
                    else s.dropCount k.sub 4
        | none => s.dropCount k.sub 4
      | 4 => s.slowPath k.sub b
      | _ => s.dropCount k.sub 5

/-- R237: a parsed packet is dropped, goes to the slow path, acts on a cached bucket, or waits for its bucket
(log entry 49, DESIGN CHOICE). -/
def State.classify (s : State) (k : Pkt) (ans : HostAns) : State :=
  if k.parsed.drop then (s.leave k).dropCount k.sub 2
  else if k.parsed.slow || (k.second && k.parsed.esp.isSome) then (s.leave k).slowPath k.sub k.data
  else
    let (ex, _, _) := s.profilesOf k.tag k.parsed.cls
    let key := k.parsed.key (s.bitmap ex)
    let behind := s.net.lookups.any fun x => x.profile == ex && x.key == key && x.pkt.sub == k.sub
    if s.net.cache.contains (ex, key) && !behind then s.act k ans
    else { s with net.lookups := s.net.lookups ++ [Lookup.mk k ex key] }

/-- R245: a packet enters the ingress pipeline and takes the current version as its tag. -/
def State.enter (s : State) (sub : Nat) (b : Bytes) (line : Nat) (prot : Bool) (ans : HostAns) : State :=
  let prio := framePrio b
  let k : Pkt := { sub := sub, data := b, line := line, tag := s.net.current, prio := prio, prot := prot,
                   stamp := s.ptp (sub / 4), parsed := parse b sub 0 }
  ((s.inFlight k.tag true).classify k ans).flowCheck sub prio

/-! ## MACsec (R222) -/

/-- The SecY of a sub-port works once an SA has been set for it (log entry 52, DEDUCED). -/
def State.secyOn (s : State) (sub : Nat) : Bool := s.net.macsec.any fun a => a.sub == sub

/-- What the SecY makes of a received frame: the frame to pass on, with whether it was verified, or a drop
(log entry 52, DEDUCED). -/
def State.secyReceive (s : State) (sub : Nat) (b : Bytes) : State × Option (Bytes × Bool) :=
  if !s.secyOn sub then (s, some (b, false))
  else if fldBe b 12 2 ≠ 0x88E5 then (s, none)
  else
    let tci := u8 b 14
    let pn := fldBe b 16 4
    let sci := if bit tci 5 then some (fldBe b 20 8) else none
    let rx := s.net.macsec.filter fun a => a.sub == sub && !a.tx
    let mine := match sci with
      | some x => rx.filter fun a => a.sci == x
      | none => rx
    if mine = [] then (s, if Config.secyPass sub then some (b, false) else none)
    else match mine.find? fun a => a.an == tci % 4 with
      | none => (s, none)
      | some a =>
        match s.keyBytes a.handle with
        | none => (s, none)
        | some key =>
          let full := if a.xpn then
              let hi := a.pn / 2 ^ 32
              if pn < a.pn % 2 ^ 32 ∧ a.pn % 2 ^ 32 ≥ 2 ^ 31 ∧ pn < 2 ^ 31 then (hi + 1) * 2 ^ 32 + pn else hi * 2 ^ 32 + pn
            else pn
          match Config.macsecOpen key a.sci full a.xpn a.salt a.ssci a.an b with
          | none => (s, none)
          | some d =>
            let t := s.net.macsec.map fun x => if x == a then { x with pn := max x.pn (full + 1) } else x
            ({ s with net.macsec := t }, some (d, true))

/-! ## Commands -/

/-- FRAME_RECEIVED (R211-R222): a frame without its FCS; `ok` says that no codeword of it is uncorrectable and that its
FCS is good. -/
def State.frameReceived (s : State) (sub : Nat) (b : Bytes) (ok : Bool) (ans : HostAns) : State :=
  let line := b.length + 4
  if !s.linkUp sub then s
  else if s.loopback (sub / 4) = 2 then s.emit (.looped sub b)
  else if !ok then s.dropCount sub 0
  else if line < 64 ∨ s.maxFrame (sub / 4) < line then s.dropCount sub 1
  else match s.macControl sub b with
    | some s => s
    | none =>
      match s.secyReceive sub b with
      | (s, none) => s.dropCount sub 7
      | (s, some (d, prot)) => s.enter sub d line prot ans

def execFrameReceived (sub : Nat) (data : Bytes) (ok : Bool) (ans : HostAns) (s : State) : Outcome :=
  .next (s.frameReceived sub data ok ans)

/-- SLOW_PATH_INJECT (R232). -/
def execSlowPathInject (sub : Nat) (data : Bytes) (ans : HostAns) (s : State) : Outcome :=
  .next (s.enter sub data (data.length + 4) false ans)

/-- CLASSIFY_CACHE_FILL (R237): a bucket arrives; the packets that waited for it act in arrival order.  Beyond
262,144 keys the cache drops its oldest (log entry 49, DESIGN CHOICE). -/
def State.cacheFill (s : State) (profile : Nat) (key : Bytes) (ans : HostAns) : State :=
  let hit (x : Lookup) : Bool := x.profile == profile && x.key == key
  if !s.net.lookups.any hit then s
  else
    let go := s.net.lookups.filter hit
    let c := s.net.cache ++ [(profile, key)]
    let s := { s with net.cache := c.drop (c.length - 262144), net.lookups := s.net.lookups.filter fun x => !hit x }
    go.foldl (fun s x => (s.act x.pkt ans).flowCheck x.pkt.sub x.pkt.prio) s

def execClassifyCacheFill (profile : Nat) (key : Bytes) (ans : HostAns) (s : State) : Outcome :=
  .next (s.cacheFill profile key ans)

/-- RFC 4303, appendix A: the 64-bit sequence number of a received packet for a window of 1,024 below `top`
(log entry 55, PRESUMED). -/
def esnOf (top lo : Nat) : Nat :=
  let tl := top % 2 ^ 32
  let th := top / 2 ^ 32
  if tl ≥ 1023 then (if lo ≥ tl - 1023 then th * 2 ^ 32 + lo else (th + 1) * 2 ^ 32 + lo)
  else if lo ≥ (tl + 2 ^ 32 - 1023) % 2 ^ 32 then (th - 1) * 2 ^ 32 + lo
  else th * 2 ^ 32 + lo

/-- R242: the decrypted packet: its frame, and where its second pass starts counting depth
(log entry 55, PRESUMED). -/
def innerFrame (b : Bytes) (p : Parsed) (esp : Nat) (tunnel : Bool) (pt : Bytes) : Option (Bytes × Nat) :=
  let n := pt.length
  let next := u8 pt (n - 1)
  let pad := u8 pt (n - 2)
  let body := pt.take (n - 2 - pad)
  match p.ip with
  | none => none
  | some ip =>
    if tunnel then
      if next = 4 then some (b.take (ip - 2) ++ toBe 2 0x0800 ++ body, ip)
      else if next = 41 then some (b.take (ip - 2) ++ toBe 2 0x86DD ++ body, ip)
      else none
    else
      let h := (b.take esp).drop ip
      if p.v6 then
        let h := patch h 4 (toBe 2 (esp - ip - 40 + body.length))
        let h := if esp = ip + 40 then patch h 6 (toBe 1 next) else h
        some (b.take ip ++ h ++ body, esp)
      else
        let h := patch (patch (patch h 2 (toBe 2 (esp - ip + body.length))) 9 (toBe 1 next)) 10 [0, 0]
        let h := patch h 10 (toBe 2 (inetSum 0 h))
        some (b.take ip ++ h ++ body, esp)

/-- The end of the outermost IP packet of a frame. -/
def ipEnd (b : Bytes) (p : Parsed) : Nat :=
  match p.ip with
  | some o => o + ipOctets b p
  | none => b.length

/-- R242: decrypt and verify an ESP packet under an SA (log entry 55, PRESUMED). -/
def State.espOpen (s : State) (d : Decrypt) : State × Option (Bytes × Nat) :=
  match Map.get s.net.ipsec d.sa, d.pkt.parsed.esp with
  | some a, some e =>
    let b := d.pkt.data.take (ipEnd d.pkt.data d.pkt.parsed)
    let lo := fldBe b (e + 4) 4
    let seq := esnOf (a.next - 1) lo
    match s.keyBytes a.handle with
    | none => (s, none)
    | some key =>
      if a.outbound || fldBe b e 4 != a.spi || decide (seq + 1024 ≤ a.next - 1) || a.seen.contains seq then (s, none)
      else
        match Config.aesGcmOpen key (toLe 4 a.salt ++ slice b (e + 8) 8) (toBe 4 a.spi ++ toBe 8 seq) (b.drop (e + 16)) with
        | none => (s, none)
        | some pt =>
          let nx := max a.next (seq + 1)
          let seen := (setIns a.seen seq).filter fun x => nx - 1 < x + 1024
          ({ s with net.ipsec := Map.put s.net.ipsec d.sa { a with next := nx, seen := seen } },
            innerFrame b d.pkt.parsed e a.tunnel pt)
  | _, _ => (s, none)

/-- IPSEC_DECRYPT_COMPLETE (R242): the packet passes the parser a second time, or is dropped
(log entry 56, DEDUCED). -/
def State.decryptComplete (s : State) (i : Nat) (ans : HostAns) : State :=
  match Map.get s.net.decrypts i with
  | none => s
  | some d =>
    let s := { s with net.decrypts := Map.erase s.net.decrypts i }
    let s := match s.espOpen d with
      | (s, none) => (s.leave d.pkt).dropCount d.pkt.sub 6
      | (s, some (b, origin)) =>
        s.classify { d.pkt with data := b, prot := true, second := true, origin := origin, parsed := parse b d.pkt.sub origin } ans
    s.flowCheck d.pkt.sub d.pkt.prio

def execIpsecDecryptComplete (i : Nat) (ans : HostAns) (s : State) : Outcome := .next (s.decryptComplete i ans)

/-- PAUSE_EXPIRE (R217). -/
def State.pauseExpire (s : State) (sub prio : Nat) : State :=
  let k := sub * 8 + prio
  match Map.get s.net.paused k with
  | none => s
  | some t => { s with net.paused := Map.erase s.net.paused k, now := max s.now t }

def execPauseExpire (sub prio : Nat) (s : State) : Outcome := .next (s.pauseExpire sub prio)

/-- PFC_REFRESH (R218): PAUSE or PFC is repeated while the occupancy stays at or above XON
(log entry 56, DEDUCED). -/
def State.pfcRefresh (s : State) (sub prio : Nat) : State :=
  if s.net.xoff.contains (sub * 8 + prio) && decide (s.xonAt sub ≤ s.occupancy sub prio) then
    s.emit (.pause sub prio true)
  else s

def execPfcRefresh (sub prio : Nat) (s : State) : Outcome := .next (s.pfcRefresh sub prio)

end Sys2Proof.Machine
end

