-- ==== Sys2Proof/Machine/Egress.lean ====
section
/-! DEFINITION. The egress scheduling tree, its shapers, and the egress pipelines (R224, R239-R242, R245, R249-R260,
R264). -/

namespace Sys2Proof.Machine
open Sys2Proof

/-! ## Nodes and buckets (R251, R255, R256) -/

def subKey (sub spoke : Nat) : Nat := sub * 4096 + spoke
def svcKey (sub spoke cls : Nat) : Nat := subKey sub spoke * 8 + cls

/-- R256: the burst of a rate on a sub-port, in bucket units: at least 16,384 bytes. -/
def State.burst (s : State) (sub rate : Nat) : Int :=
  let us := max 1 (s.rfield (0x401000 + 8 * sub) 23 16)
  ((max (16384 * unitsPerByte) (rate * us * 1000) : Nat) : Int)

/-- SCH_SUBPORT_CFG.RATE in kb/s: zero, or more than the link rate, is the link rate. -/
def State.rootRate (s : State) (sub : Nat) : Nat :=
  let r := s.rfield (0x401000 + 8 * sub) 47 32 * 100000
  let l := s.subRate sub * 1000000
  if r = 0 ∨ l < r then l else r

/-- The settings of a node: weight, CIR, PIR. -/
def State.spokeRates (s : State) (k : Nat) : Nat × Nat × Nat := match s.spoke k with
  | some sp => (sp.schWeight, sp.cir, sp.pir)
  | none => (1, 0, 0)
def State.svcRates (s : State) (k cls : Nat) : Nat × Nat × Nat := (Map.get s.sch.services (k * 8 + cls)).getD (1, 0, 0)

/-- A node that starts with full buckets (R256). -/
def State.newNode (s : State) (sub : Nat) (w : Nat × Nat × Nat) : Node :=
  { weight := w.1, cir := w.2.1, pir := w.2.2, commit := s.burst sub w.2.1, peak := s.burst sub w.2.2 }

def State.rootNode (s : State) (sub : Nat) : Node :=
  (Map.get s.sch.roots sub).getD (s.newNode sub (1, 0, s.rootRate sub))
def State.subNode (s : State) (sub k : Nat) : Node :=
  (Map.get s.sch.subs (subKey sub k)).getD (s.newNode sub (s.spokeRates k))
def State.svcNode (s : State) (sub k c : Nat) : Node :=
  (Map.get s.sch.svcs (svcKey sub k c)).getD (s.newNode sub (s.svcRates k c))

/-- R252: whether a node's peak bucket lets a frame start; a rate of zero is no limit. -/
def Node.peakOk (n : Node) : Bool := n.pir = 0 || decide (0 ≤ n.peak)

/-- R254: whether a node is in the band of committed rates. -/
def Node.committed (n : Node) : Bool := n.cir != 0 && decide (0 ≤ n.commit)

/-- R256: what a sent frame takes from a node's buckets and deficit. -/
def Node.take (n : Node) (len : Nat) (idle : Bool) : Node :=
  let u : Int := ((len * unitsPerByte : Nat) : Int)
  let c := if 0 ≤ n.commit then n.commit - u else n.commit
  { n with peak := n.peak - u, commit := c, deficit := if idle then 0 else n.deficit - (len : Int) }

/-- R251, R256: a refill after `dt` ns, which also adopts changed settings and cuts levels to the new burst
(log entry 58, DESIGN CHOICE). -/
def State.refillNode (s : State) (sub dt : Nat) (n : Node) (w : Nat × Nat × Nat) : Node :=
  { n with weight := w.1, cir := w.2.1, pir := w.2.2
           commit := min (s.burst sub w.2.1) (n.commit + ((n.cir * dt : Nat) : Int))
           peak := min (s.burst sub w.2.2) (n.peak + ((n.pir * dt : Nat) : Int)) }

/-- BUCKET_REFILL (R256): the buckets of every node of a sub-port gain their rates (log entry 58, DESIGN CHOICE). -/
def State.bucketRefill (s : State) (sub : Nat) : State :=
  let dt := s.now - (Map.get s.sch.refilled sub).getD 0
  let roots := Map.put s.sch.roots sub (s.refillNode sub dt (s.rootNode sub) (1, 0, s.rootRate sub))
  let subs := s.sch.subs.map fun (k, n) =>
    (k, if k / 4096 = sub then s.refillNode sub dt n (s.spokeRates (k % 4096)) else n)
  let svcs := s.sch.svcs.map fun (k, n) =>
    (k, if k / 8 / 4096 = sub then s.refillNode sub dt n (s.svcRates (k / 8 % 4096) (k % 8)) else n)
  { s with sch.roots := roots, sch.subs := subs, sch.svcs := svcs, sch.refilled := Map.put s.sch.refilled sub s.now }

def execBucketRefill (sub : Nat) (s : State) : Outcome := .next (if sub < 32 then s.bucketRefill sub else s)

/-- SCH_SERVICE_SET (R260). -/
def State.serviceSet (s : State) (f : Nat) (p : Bytes) : Reply :=
  let k := u16 p 0
  let w := u16 p 4
  let cir := u64 p 8
  let pir := u64 p 16
  if (s.spoke k).isNone || w = 0 || (pir != 0 && pir < cir) then Reply.err s .malformed
  else if !(if f % 4 = 0 then s.mayNameSpoke f k else s.spokeFn k == f) then Reply.err s .notPermitted
  else Reply.ok { s with sch.services := Map.put s.sch.services (k * 8 + bits (u8 p 2) 2 0) (w, cir, pir) } []

def execSchServiceSet (f : Nat) (s : State) : Outcome := .next (s.perform f 0x0370 fun p s => s.serviceSet f p)

/-! ## SEND (R215, R224) -/

/-- The sub-port and the class of a PACKET_SEND queue (R223). -/
def Queue.sub (q : Queue) : Nat := bits q.kindWord 4 0
def Queue.cls (q : Queue) : Nat := bits q.kindWord 10 8

/-- SEND: a descriptor's frame is read and joins its queue's frames. -/
def State.send (s : State) (o : Nat) (ans : HostAns) : State :=
  match s.running o .packetSend with
  | none => s
  | some (x, q) =>
    let n := bits (u32 x.desc 24) 13 0
    if x.posted then s
    else if (0 < n ∧ n < 14) ∨ s.maxFrame (q.sub / 4) < n + 4 then s.finish o .malformed 0 0
    else if !s.linkUp q.sub then s.finish o .retryLater 0 0
    else if n = 0 then s.finish o .success 0 0
    else
      let (s, r) := s.spokeRead q.spoke (u64 x.desc 16) n ans
      if r.status != .success then
        if s.pages q.spoke r then s.parkOp o (u64 x.desc 16 + r.done) q.spoke r else s.finish o r.status r.done 0
      else if r.poisoned || r.medium then s.finish o (withMarks .success r.poisoned r.medium) 0 0
      else
        let b := if bit (dKindWord x.desc) 1 then fillChecksums r.data else r.data
        let s := s.modOp o fun y => { y with posted := true }
        s.enqueue x.queue { op := some o, data := padTo (max 60 b.length) b, cls := q.cls, ts := bit (dKindWord x.desc) 0 }

/-- Log entries 59, DEDUCED; 60, DEDUCED. -/
def execSend (o : Nat) (ans : HostAns) (s : State) : Outcome := .next (s.send o ans)

/-! ## The egress pipeline (R239-R242, R245, R264) -/

/-- What the egress pipeline makes of a frame. -/
structure Sent where
  st : State
  data : Bytes                          -- as it leaves the MAC, without FCS
  status : Status := .success
  out : Bool := true                    -- it is sent
  slow : Bool := false
  copy : Option (Nat × HeldFrame) := none

/-- R242: encrypt a frame under an outbound SA; none when it cannot be (log entry 64, DEDUCED). -/
def State.espSeal (s : State) (sa : Nat) (b : Bytes) (p : Parsed) : State × Option Bytes :=
  match Map.get s.net.ipsec sa, p.ip with
  | some a, some ip =>
    match s.keyBytes a.handle with
    | none => (s, none)
    | some key =>
      if !a.outbound then (s, none)
      else
        let iend := ipEnd b p
        let hl := if p.v6 then 40 else 20
        let nh := if a.tunnel then (if p.v6 then 41 else 4) else u8 b (ip + (if p.v6 then 6 else 9))
        let body := if a.tunnel then (b.take iend).drop ip else (b.take iend).drop (ip + hl)
        let pad := (4 - (body.length + 2) % 4) % 4
        let pt := body ++ (List.range pad).map (fun i => BitVec.ofNat 8 (i + 1)) ++ toLe 1 pad ++ toLe 1 nh
        let (iv, s) := s.drawBytes 8
        let ct := Config.aesGcmSeal key (toLe 4 a.salt ++ iv) (toBe 4 a.spi ++ toBe 8 a.next) pt
        let esp := toBe 4 a.spi ++ toBe 4 a.next ++ iv ++ padTo (pt.length + 16) ct
        let s := { s with net.ipsec := Map.put s.net.ipsec sa { a with next := a.next + 1 } }
        if a.tunnel then
          (s, some (b.take ip ++ Config.tunnelHeader sa esp ++ esp))
        else
          let h := (b.take (ip + hl)).drop ip
          let h := if p.v6 then patch (patch h 4 (toBe 2 esp.length)) 6 [50] else
            let h := patch (patch (patch h 2 (toBe 2 (20 + esp.length))) 9 [50]) 10 [0, 0]
            patch h 10 (toBe 2 (inetSum 0 h))
          (s, some (b.take ip ++ h ++ esp))
  | _, _ => (s, none)

/-- R221: protect a frame under the transmit SA of a SecY that has one; the highest association number sends. -/
def State.secySend (s : State) (sub : Nat) (b : Bytes) : State × Option Bytes :=
  match (s.net.macsec.filter fun a => a.sub == sub && a.tx).getLast? with
  | none => (s, some b)
  | some a =>
    match s.keyBytes a.handle with
    | none => (s, none)
    | some key =>
      let t := s.net.macsec.map fun x => if x == a then { x with pn := x.pn + 1 } else x
      ({ s with net.macsec := t }, some (Config.macsecSeal key a.sci a.pn a.xpn a.salt a.ssci a.an b))

/-- The egress pipeline on a frame of a sub-port: tag, wildcard lookup, action stage, IPsec, MACsec. -/
def State.egress (s : State) (sub : Nat) (b : Bytes) : Sent :=
  let p := parse b sub 0
  let v := s.net.current
  match s.egressAction v p with
  | none =>
    match s.secySend sub b with
    | (s, some d) => { st := s, data := d }
    | (s, none) => { st := s.dropCount sub 7, data := b, status := .keyFailed, out := false }
  | some i =>
    let a := s.action i
    let d1 := if aSetDscp a then setDscp b p (aDscp a) else b
    let (s, drop, re) := s.applyMeter a (b.length + 4) (if aSetDscp a then p.ip.map fun _ => aDscp a else p.dscpOpt)
    let d1 := match re with
      | some d => setDscp d1 p d
      | none => d1
    let h : HeldFrame := { sub := sub, prio := 0, queue := aMirrorQueue a, data := d1, flags := 2 * b2n (csumOk d1 p),
                           detail := aMark a + 2 ^ 32 * p.cls + 2 ^ 40 * sub + 2 ^ 48 * (v % 65536) }
    let copy := if aMirror a then some (aMirrorQueue a, h) else none
    if drop then { st := s, data := b, status := .meterDrop, out := false }
    else if aVerdict a = 0 then
      { st := s.dropCount sub 5, data := b, status := .accessViolation, out := false, copy := copy }
    else if aVerdict a = 4 then { st := s.slowPath sub d1, data := d1, out := false, slow := true, copy := copy }
    else
      match (if aIpsec a then s.espSeal (aSa a) d1 p else (s, some d1)) with
      | (s, none) =>
        let failed := match Map.get s.net.ipsec (aSa a) with
          | some x => (s.keyBytes x.handle).isNone
          | none => false
        { st := s.dropCount sub 6, data := d1, out := false, copy := copy
          status := if failed then .keyFailed else .accessViolation }
      | (s, some d2) =>
        match s.secySend sub d2 with
        | (s, some d3) => { st := s, data := d3, copy := copy }
        | (s, none) => { st := s.dropCount sub 7, data := d2, status := .keyFailed, out := false, copy := copy }

/-- R259: the counted length of a frame as it would leave now. -/
def State.headLen (s : State) (sub : Nat) (b : Bytes) : Nat :=
  s.counted (s.rfield (0x401000 + 8 * sub) 11 8) ((s.egress sub b).data.length + 4)

/-! ## Selection (R249-R255) -/

/-- A member of a service node with its head frame.  Member 2^17 is the transport member. -/
structure Cand where
  spoke : Nat
  cls : Nat
  member : Nat
  head : TxFrame
  len : Nat
deriving DecidableEq, Repr

/-- Log entry 57, DEDUCED. -/
def xptMember : Nat := 131072

/-- Whether the operation of a waiting frame still awaits its sending. -/
def State.frameLive (s : State) (x : TxFrame) : Bool :=
  match x.op with
  | none => true
  | some o => match s.op o with
    | some y => y.phase == .started
    | none => false

/-- The frames of a queue whose operations are still in progress. -/
def State.liveFrames (s : State) (l : List TxFrame) : List TxFrame := l.filter s.frameLive

/-- R606: at most 100,000 messages of the telemetry service in a second. -/
def State.telMaySend (s : State) : Bool := s.tel.second != s.now / 1_000_000_000 || decide (s.tel.inSecond < 100_000)

/-- Count a message of the telemetry service. -/
def State.telSent (s : State) : State :=
  let t := s.now / 1_000_000_000
  { s with tel.inSecond := if s.tel.second = t then s.tel.inSecond + 1 else 1, tel.second := t }

/-- The members of a sub-port that have a frame: spoke, class, member, head (log entry 59, DEDUCED). -/
def State.members (s : State) (sub : Nat) : List (Nat × Nat × Nat × TxFrame) :=
  (s.sch.queues.filterMap fun (qi, l) =>
    match s.liveFrames l with
    | [] => none
    | x :: _ =>
      if qi = telQueue then
        (match s.tel.ipfix with
         | some c => if c.sub = sub ∧ s.telMaySend then some (2048, c.cls, qi, x) else none
         | none => none)
      else match s.queue qi with
        | some q =>
          if q.kind == .packetSend && q.sub == sub && (q.state == .active || (q.state == .stopped && q.stopFn.isSome)) then
            some (q.spoke, q.cls, qi, x) else none
        | none => none) ++
  (s.sch.xpt.filterMap fun (k, l) =>
    match l with
    | [] => none
    | x :: _ => if k / 8 / 4096 = sub then some (k / 8 % 4096, k % 8, xptMember, x) else none)

/-- R252: the eligible heads of a sub-port. -/
def State.eligible (s : State) (sub : Nat) : List Cand :=
  (s.members sub).filterMap fun (k, c, m, x) =>
    let n := (s.egress sub x.data).data.length + 4
    let line := ceilDiv ((n + 20) * 8) (s.subRate sub)
    if !Map.has s.net.paused (sub * 8 + x.cls) && s.gateOpen (sub / 4) x.cls line && (s.svcNode sub k c).peakOk &&
        (s.subNode sub k).peakOk && (s.rootNode sub).peakOk then
      some { spoke := k, cls := c, member := m, head := x, len := s.headLen sub x.data }
    else none

def State.strict (s : State) (sub c : Nat) : Bool := bit (s.rfield (0x401000 + 8 * sub) 7 0) c

/-- The next key after `k` in a rising list, cyclically. -/
def nextKey (l : List Nat) (k : Nat) : Nat := ((l.find? (k < ·)).getD (l.headD 0))

/-- R255: DWRR over children.  `kids` are all children in order, `band` those in the band with their head's length
(log entry 61, DEDUCED). -/
def dwrr (quantum : Nat) (kids : List Nat) (band : List (Nat × Nat)) : Nat → Nat → Map Node → Option Nat × Nat × Map Node
  | 0, ptr, t => (none, ptr, t)
  | n + 1, ptr, t =>
    let c := if kids.contains ptr then ptr else nextKey kids ptr
    let x := (Map.get t c).getD {}
    match band.find? fun b => b.1 == c with
    | some (_, len) =>
      let x := if x.topped then x else { x with deficit := x.deficit + ((x.weight * quantum : Nat) : Int), topped := true }
      if (len : Int) ≤ x.deficit then (some c, c, Map.put t c x)
      else dwrr quantum kids band n (nextKey kids c) (Map.put t c { x with topped := false })
    | none => dwrr quantum kids band n (nextKey kids c) (Map.put t c { x with topped := false })

/-- SCH_GLOBAL.QUANTUM: a value below 64 is taken as 64. -/
def State.quantum (s : State) : Nat := max 64 (s.rfield 0x400000 15 0)

/-- Rounds that DWRR needs at most: the longest counted frame over the least top-up (log entry 61, DEDUCED). -/
def dwrrFuel (kids : List Nat) : Nat := (kids.length + 1) * 300

/-- The member of a service node whose turn it is (R254) (log entry 57, DEDUCED). -/
def State.pickMember (s : State) (key : Nat) (l : List Cand) : Option Cand :=
  let last := (Map.get s.sch.turn key).getD 0
  match l.find? fun c => last < c.member with
  | some c => some c
  | none => l.head?

/-- The children that exist on a level, their nodes created where they are new (log entry 57, DEDUCED). -/
def State.svcKids (s : State) (sub k : Nat) (l : List Cand) : State × List Nat :=
  let s := l.foldl (fun s c =>
    let key := svcKey sub k c.cls
    if Map.has s.sch.svcs key then s
    else { s with sch.svcs := Map.put s.sch.svcs key (s.svcNode sub k c.cls) }) s
  (s, (Map.keys s.sch.svcs).filter fun x => x / 8 == subKey sub k)

/-- Log entry 57, DEDUCED. -/
def State.subKids (s : State) (sub : Nat) (l : List Cand) : State × List Nat :=
  let s := l.foldl (fun s c =>
    let key := subKey sub c.spoke
    if Map.has s.sch.subs key then s else { s with sch.subs := Map.put s.sch.subs key (s.subNode sub c.spoke) }) s
  (s, (Map.keys s.sch.subs).filter fun x => x / 4096 == sub)

/-- The band of a subscriber's service nodes (R254). -/
def State.svcBand (s : State) (sub k : Nat) (l : List Cand) : List Cand :=
  let st := l.filter fun c => s.strict sub c.cls
  if st ≠ [] then
    let top := st.foldl (fun m c => max m c.cls) 0
    st.filter fun c => c.cls == top
  else
    let co := l.filter fun c => (s.svcNode sub k c.cls).committed
    if co ≠ [] then co else l

/-- R253-R255: the choice within a subscriber. -/
def State.pickSvc (s : State) (sub k : Nat) (l : List Cand) : State × Option Cand :=
  let (s, kids) := s.svcKids sub k l
  let band := s.svcBand sub k l
  let heads := (band.map Cand.cls).eraseDups.filterMap fun c =>
    (s.pickMember (svcKey sub k c) (band.filter fun x => x.cls == c)).map fun x => (svcKey sub k c, x)
  let n := (Map.get s.sch.subs (subKey sub k)).getD {}
  match dwrr s.quantum kids (heads.map fun h => (h.1, h.2.len)) (dwrrFuel kids) n.ptr s.sch.svcs with
  | (some c, ptr, t) =>
    let s := { s with sch.svcs := t, sch.subs := Map.put s.sch.subs (subKey sub k) { n with ptr := ptr } }
    (s, (heads.find? fun h => h.1 == c).map Prod.snd)
  | (none, _, _) => (s, none)

/-- The band of a sub-port's subscribers (R254): strict, committed, the others. -/
def State.subBand (s : State) (sub : Nat) (l : List Cand) : List Nat :=
  let ks := (l.map Cand.spoke).eraseDups
  let st := ks.filter fun k => l.any fun c => c.spoke == k && s.strict sub c.cls
  if st ≠ [] then st
  else
    let co := ks.filter fun k => (s.subNode sub k).committed
    if co ≠ [] then co else ks

/-- R253: select one eligible head of a sub-port. -/
def State.select (s : State) (sub : Nat) : State × Option Cand :=
  let l := s.eligible sub
  let (s, kids) := s.subKids sub l
  let own := (s.subBand sub l).filterMap fun k =>
    match (s.pickSvc sub k (l.filter fun c => c.spoke == k)).2 with
    | some c => some (subKey sub k, c)
    | none => none
  let r := s.rootNode sub
  match dwrr s.quantum kids (own.map fun h => (h.1, h.2.len)) (dwrrFuel kids) r.ptr s.sch.subs with
  | (some c, ptr, t) =>
    let s := { s with sch.subs := t, sch.roots := Map.put s.sch.roots sub { r with ptr := ptr } }
    s.pickSvc sub (c % 4096) (l.filter fun x => x.spoke == c % 4096)
  | (none, _, _) => (s, none)

/-- Take the head frame of a member away. -/
def State.dequeue (s : State) (sub : Nat) (c : Cand) : State :=
  if c.member = xptMember then
    let k := svcKey sub c.spoke c.cls
    { s with sch.xpt := Map.put s.sch.xpt k (((Map.get s.sch.xpt k).getD []).drop 1) }
  else
    { s with sch.queues := Map.put s.sch.queues c.member ((s.liveFrames ((Map.get s.sch.queues c.member).getD [])).drop 1) }

/-- R255, R256: the nodes after a frame has been sent (log entry 60, DEDUCED). -/
def State.charge (s : State) (sub : Nat) (c : Cand) : State :=
  let left := (s.members sub).filter fun x => x.1 == c.spoke
  let k1 := svcKey sub c.spoke c.cls
  let k2 := subKey sub c.spoke
  let a := (s.svcNode sub c.spoke c.cls).take c.len (left.all fun x => x.2.1 != c.cls)
  let b := (s.subNode sub c.spoke).take c.len (left == [])
  let r := (s.rootNode sub).take c.len false
  { s with sch.svcs := Map.put s.sch.svcs k1 a, sch.subs := Map.put s.sch.subs k2 b
           sch.roots := Map.put s.sch.roots sub { r with deficit := 0 }
           sch.turn := Map.put s.sch.turn k1 c.member }

/-- The transport engine notes when a packet of a connection was sent (R295). -/
def State.xptSent (s : State) (x : TxFrame) : State :=
  match x.conn with
  | none => s
  | some (c, psn) =>
    { s with xpt.conns := Map.modify s.xpt.conns c fun k =>
        { k with order := k.order + 1
                 out := k.out.map fun p => if p.psn = psn then { p with sent := s.now, order := k.order, after := 0 } else p } }

/-- SCHEDULER_SELECT (R253): the chosen frame passes the egress pipeline and is sent or dropped
(log entry 60, DEDUCED). -/
def State.schedulerSelect (s : State) (sub : Nat) (ans : HostAns) : State :=
  if !s.linkUp sub then s else
  match s.select sub with
  | (_, none) => s
  | (s, some c) =>
    let s := s.dequeue sub c
    let s := if c.head.tel then s.telSent else s
    let r := s.egress sub c.head.data
    let s := match r.copy with
      | some (_, h) => r.st.deliver h ans
      | none => r.st
    let s := if r.out then (s.emit (.frame sub r.data (s.loopback (sub / 4) != 1))).charge sub c else s
    let s := if r.out then s.xptSent c.head else s
    match c.head.op with
    | none => s
    | some o =>
      let n := match s.op o with
        | some x => bits (u32 x.desc 24) 13 0
        | none => 0
      if r.status == .success then s.finish o .success n (if c.head.ts then s.ptp (sub / 4) else 0)
      else s.finish o r.status 0 0

def execSchedulerSelect (sub : Nat) (ans : HostAns) (s : State) : Outcome := .next (s.schedulerSelect sub ans)

end Sys2Proof.Machine
end

