-- ==== Sys2Proof/Machine/XptOps.lean ====
section
/-! DEFINITION. The shared operations of the transport engines: connections, paths, sending, acknowledgement,
completion of work requests, region keys, the error state (R277-R307). -/

namespace Sys2Proof.Machine
open Sys2Proof

/-! ## Connections and counters -/

def State.conn (s : State) (c : Nat) : Option Conn := Map.get s.xpt.conns c
def State.setConn (s : State) (c : Nat) (k : Conn) : State := { s with xpt.conns := Map.put s.xpt.conns c k }
def State.modConn (s : State) (c : Nat) (g : Conn → Conn) : State := { s with xpt.conns := Map.modify s.xpt.conns c g }

/-- R313: count in XPT_CNT. -/
def State.xcount (s : State) (k : Nat) : State := s.rsat (0x500000 + 8 * k) 63 0 1

/-- Distance between PSNs or message ids: how far `a` lies ahead of `b`, modulo 2^32. -/
def ahead (a b : Nat) : Nat := (a + 2 ^ 32 - b) % 2 ^ 32

/-- The sub-ports of a connection, lowest first. -/
def ConnParams.subs (p : ConnParams) : List Nat := (List.range 32).filter fun i => bit p.subports i

/-- R289: the sub-port of a path. -/
def ConnParams.pathSub (p : ConnParams) (x : Nat) : Nat := p.subs.getD (x % p.subs.length) 0

/-- R279: the home strip. -/
def ConnParams.home (p : ConnParams) : Nat := p.subs.headD 0 / 4

/-- R279: a packet of a connection uses its context; a context that is not cached is a miss.  Which context a full
cache gives up is a free value (log entry 73, DESIGN CHOICE). -/
def State.touchCtx (s : State) (c : Nat) (par : ConnParams) : State :=
  let h := par.home
  let l := (Map.get s.xpt.ctxCache h).getD []
  if l.contains c then s
  else
    let s := s.xcount 9
    let (v, s) := if l.length < 1024 then (l, s) else
      let (r, s) := s.draw 10
      (l.eraseIdx r, s)
    { s with xpt.ctxCache := Map.put s.xpt.ctxCache h (v ++ [c]) }

/-! ## Paths (R289, R290) -/

/-- R290: whether a path is eligible, and whether its sub-port is at least up. -/
def State.pathUp (s : State) (k : Conn) (x : Nat) : Bool := s.linkUp (k.par.pathSub x)
def State.pathOk (s : State) (k : Conn) (x : Nat) : Bool :=
  let p := (Map.get k.pathSt x).getD {}
  s.pathUp k x && decide (p.suspectUntil ≤ s.now) && decide (p.markedUntil ≤ s.now)

/-- R290, R296: the next path in turn, other than `avoid` if one exists; none when every sub-port is down. -/
def State.pickPath (s : State) (k : Conn) (avoid : Option Nat) : Option Nat :=
  let order := (List.range k.par.paths).map fun i => (k.nextPath + i) % k.par.paths
  let ok := order.filter (s.pathOk k)
  let use := if ok ≠ [] then ok else order.filter (s.pathUp k)
  match use.find? fun x => some x != avoid with
  | some x => some x
  | none => use.head?

/-- R290: set a path's state. -/
def Conn.modPath (k : Conn) (x : Nat) (g : PathState → PathState) : Conn :=
  { k with pathSt := Map.put k.pathSt x (g ((Map.get k.pathSt x).getD {})) }

/-! ## Frames (R287, R291) -/

/-- The header and payload bytes of a Yekel packet (R287). -/
def YPkt.bytes (p : YPkt) : Bytes :=
  toLe 1 p.opcode ++
  toLe 1 (b2n p.poison + 2 * b2n p.ordered + 4 * b2n p.last + 8 * b2n p.ackReq + 16 * b2n p.first + 32 * b2n p.ece) ++
  toLe 2 (p.path % 128 + 2 ^ 12) ++ toLe 3 p.conn ++ toLe 1 p.epoch ++ toLe 4 p.psn ++ toLe 4 p.msg ++ toLe 8 p.offset ++
  toLe 4 p.key ++ toLe 2 p.keyGen ++ toLe 2 p.payload.length ++ p.payload ++
  (if p.opcode = 2 ∧ p.last then toLe 8 p.tag else [])

/-- The Ethernet, IP and UDP header that a connection's packets carry on a path. -/
def ConnParams.hdr (p : ConnParams) (path sub dport : Nat) : Hdr :=
  { sub := sub, v6 := p.v6, vlan := if p.vlan then some (p.cls * 2 ^ 13 + p.vid) else none, mac := p.mac,
    src := p.local_, dst := p.remote, dscp := p.dscp, ecn := 2, sport := 49152 + (p.seed + path) % 16384, dport := dport }

/-- R291: a packet joins its spoke's transport member on its path's sub-port; control packets go ahead of data. -/
def State.joinMember (s : State) (spoke sub : Nat) (x : TxFrame) : State :=
  let k := svcKey sub spoke x.cls
  let l := (Map.get s.sch.xpt k).getD []
  let l := if x.ctl then (l.filter TxFrame.ctl) ++ [x] ++ l.filter (fun y => !y.ctl) else l ++ [x]
  { s with sch.xpt := Map.put s.sch.xpt k l }

/-- Queue a Yekel packet of a connection on a path (log entry 78, DEDUCED). -/
def State.wireY (s : State) (c : Nat) (k : Conn) (p : YPkt) (path : Nat) (psn : Option Nat) (ctl : Bool) : State :=
  let sub := k.par.pathSub path
  let (i, s) := s.draw 16
  let b := udpFrame (k.par.hdr path sub 4893) i k.par.v6 { p with path := path }.bytes
  s.joinMember k.spoke sub { data := b, cls := k.par.cls, conn := psn.map fun n => (c, n), ctl := ctl }

/-- R293: the window of a sender. -/
def Conn.window (k : Conn) : Nat := min k.cwnd 256

/-- The packet that may be sent next: a NAK within the receiver's window first (R291), else the first in order. -/
def Conn.nextOut (k : Conn) : Option OutPkt :=
  let low := k.out.foldl (fun m p => if ahead m p.psn < 2 ^ 31 then p.psn else m)
    ((k.out.head?.map OutPkt.psn).getD k.psn)
  match k.txq.find? fun p => p.nakFor.isSome && decide (ahead p.psn low < 256) with
  | some p => some p
  | none => k.txq.head?

/-- R290-R294: send packets of a connection's stream while its window and its paths allow. -/
def State.admitPkts (s : State) (c : Nat) : Nat → State
  | 0 => s
  | n + 1 =>
    match s.conn c with
    | none => s
    | some k =>
      if k.roce || k.phase != .active || k.dying.isSome || decide (k.window ≤ k.out.length) then s
      else match k.nextOut, s.pickPath k none with
        | some p, some path =>
          match p.wire with
          | .y y =>
            let y := if 192 ≤ k.out.length then { y with ackReq := true } else y
            let p := { p with wire := .y y, path := path, sent := s.now, order := k.order }
            let k := { k with txq := k.txq.filter fun x => x.psn != p.psn, out := k.out ++ [p], order := k.order + 1
                              nextPath := (path + 1) % k.par.paths }
            State.admitPkts ((s.setConn c k).wireY c k y path (some p.psn) p.nakFor.isSome) c n
          | .r _ => s
        | _, _ => s

/-- Put packets at the end of a connection's stream, each with the next PSN, and send what the window allows. -/
def State.stream (s : State) (c : Nat) (l : List (YPkt × Option Nat × Option Nat)) : State :=
  match s.conn c with
  | none => s
  | some k =>
    let k := l.foldl (fun k (y, wr, nak) =>
      let y := { y with psn := k.psn, conn := k.par.rconn, epoch := k.par.repoch }
      { k with txq := k.txq ++ [{ wire := .y y, psn := k.psn, wr := wr, nakFor := nak : OutPkt }], psn := (k.psn + 1) % 2 ^ 32 }) k
    (s.setConn c k).admitPkts c k.txq.length

/-- Send an unreliable packet of a connection on the next path; it is lost when every sub-port is down
(log entry 79, DEDUCED). -/
def State.sendCtl (s : State) (c : Nat) (y : YPkt) : State :=
  match s.conn c with
  | none => s
  | some k => match s.pickPath k none with
    | none => s
    | some path =>
      let y := { y with conn := k.par.rconn, epoch := k.par.repoch }
      s.wireY c k y path none true

/-- R292: the bitmap of an ACK. -/
def Conn.bitmap (k : Conn) : Bytes :=
  (List.range 32).map fun i => BitVec.ofNat 8
    ((List.range 8).foldl (fun v j =>
      let b := 8 * i + j
      if b < 255 && k.got.contains ((k.e + 1 + b) % 2 ^ 32) then v + 2 ^ j else v) 0)

/-- R292, R294, R295, R300: send an ACK now.  Its echoed send time is a value that the target is not given
(log entry 69, DESIGN CHOICE). -/
def State.sendAck (s : State) (c : Nat) : State :=
  match s.conn c with
  | none => s
  | some k =>
    let (t, s) := s.draw 64
    let y : YPkt := { opcode := 0x10, ece := k.ceSeen, psn := k.e, msg := k.nextMsg, offset := t, key := k.lastPsn,
                      payload := k.bitmap }
    (s.setConn c { k with sinceAck := 0, oldestAt := none, ceSeen := false }).sendCtl c y

/-- R296: send a packet of the stream again with the same PSN (log entry 79, DEDUCED). -/
def State.resend (s : State) (c psn : Nat) (avoid : Option Nat) : State :=
  match s.conn c with
  | none => s
  | some k =>
    match k.out.find? fun p => p.psn == psn with
    | none => s
    | some p =>
      let set (q : OutPkt) : Conn := { k with out := k.out.map fun x => if x.psn = psn then q else x }
      match s.pickPath k avoid, p.wire with
      | some path, .y y =>
        let k' := set { p with path := path, sent := s.now, order := k.order, after := 0, resent := true, waiting := false }
        let k' := { k' with order := k.order + 1, nextPath := (path + 1) % k.par.paths }
        ((s.setConn c k').xcount 7).wireY c k' y path (some psn) p.nakFor.isSome
      | _, _ => s.setConn c (set { p with waiting := true })

/-- R290: packets that waited for a path are sent again. -/
def State.resumeConn (s : State) (c : Nat) : State :=
  match s.conn c with
  | none => s
  | some k =>
    let s := (k.out.filter OutPkt.waiting).foldl (fun s p => s.resend c p.psn (some p.path)) s
    s.admitPkts c k.txq.length

/-! ## Work requests (R286, R296) -/

/-- R296: whether a work request may complete. -/
def Conn.workDone (k : Conn) (w : Work) : Bool :=
  !(k.out.any fun p => p.wr == some w.op) && !(k.txq.any fun p => p.wr == some w.op) &&
  (!w.read || (decide (w.length ≤ w.placed) && (w.length != 0 || w.respDone))) &&
  (!w.ordered || (decide (0 < ahead k.done w.msg) && decide (ahead k.done w.msg < 2 ^ 31)))

/-- R286: finish a work request's operation. -/
def State.finishWork (s : State) (c : Nat) (w : Work) (st : Status) : State :=
  s.finish w.op st (if st == .success then w.length else 0) (w.msg + 2 ^ 32 * c)

/-- Complete the work requests of a connection that are done. -/
def State.completeWorks (s : State) (c : Nat) : State :=
  match s.conn c with
  | none => s
  | some k =>
    let go := k.works.filter k.workDone
    let s := s.setConn c { k with works := k.works.filter fun w => !k.workDone w }
    go.foldl (fun s w => s.finishWork c w w.status) s

/-- The operations in progress that name a connection. -/
def State.opsNaming (s : State) (c : Nat) (spoke : Nat) : List Nat :=
  (s.host.ops.filter fun (_, o) =>
    o.phase != .done && u32 o.desc 16 % 2 ^ 24 == c &&
    (match s.queue o.queue with
     | some q => q.kind == .transport && q.spoke == spoke
     | none => false)).map Prod.fst

/-- R281: the work requests of a connection end: one with its own status, the others FLUSHED
(log entry 76, DEDUCED). -/
def State.flushConn (s : State) (c : Nat) (k : Conn) (bad : Option Nat) (st : Status) : State :=
  let s := k.works.foldl (fun s w => if some w.op = bad then s.finishWork c w st else s.finish w.op .flushed 0 (w.msg + 2 ^ 32 * c)) s
  (s.opsNaming c k.spoke).foldl (fun s o =>
    match s.op o with
    | some x =>
      if x.phase == .held then (s.unhold o).finish o .flushed 0 0
      else if x.phase == .fenced then s
      else s.finish o .flushed 0 0
    | none => s) s

/-- R281: a connection enters ERROR: `psn` is the failing packet's, `bad` the operation that takes the status. -/
def State.connErrorOp (s : State) (c psn : Nat) (bad : Option Nat) (st : Status) : State :=
  match s.conn c with
  | none => s
  | some k =>
    if k.phase == .error || k.dying.isSome then s
    else
      let s := s.flushConn c k bad st
      let s := s.setConn c { k with phase := .error, txq := [], out := [], works := [], stored := [], msgs := [] }
      let t := s.sch.xpt.map fun (i, l) => (i, l.filter fun x => match x.conn with
        | some (d, _) => d != c
        | none => true)
      let s := { s with sch.xpt := t }
      (s.postEvent k.spoke 0x0402 c psn st 0x3FFFF).excludePeer c 1

/-- R281: a packet of a connection's own stream fails it. -/
def State.connError (s : State) (c psn : Nat) (st : Status) : State :=
  match s.conn c with
  | none => s
  | some k => s.connErrorOp c psn ((k.out.find? fun p => p.psn == psn).bind OutPkt.wr) st

/-! ## Region keys (R302-R305) -/

/-- R303: the key check of a packet: the status of the first check that fails. -/
def State.keyCheckY (s : State) (spoke key gen offset len : Nat) (write short : Bool) : Status :=
  if key = 0 ∨ 1048575 < key then .accessViolation
  else match Map.get s.xpt.keys key with
    | none => .accessViolation
    | some x =>
      if x.phase != .active then .regionRevoked
      else if (if short then x.gen % 4096 else x.gen) != gen then .keyStale
      else if x.spoke != spoke then .accessViolation
      else if !(if write then x.write else x.read) then .accessViolation
      else if x.length < offset + len then .accessViolation
      else .success

/-- The region of a key. -/
def State.region (s : State) (key : Nat) : RegionKey := (Map.get s.xpt.keys key).getD {}

/-- R304: the spoke whose event ring REMOTE_ACCESS goes to. -/
def State.remoteSpoke (s : State) (spoke key : Nat) : Nat :=
  match Map.get s.xpt.keys key with
  | some x => x.spoke
  | none => spoke

/-- R306: whether the destination function's memory is not to be reached now. -/
def State.destLater (s : State) (spoke : Nat) : Bool :=
  let x := s.fn (s.spokeFn spoke)
  !x.bme || x.d3hot || x.flr || x.attach == .freewheel

/-- What became of a placement. -/
inductive Placed where
  | ok
  | retry
  | reject (st : Status)
deriving DecidableEq, Repr

/-- R207, R306: how an access to a spoke's memory that failed counts for an arriving packet. -/
def State.placeFail (s : State) (spoke : Nat) (r : AccRes) : State × Placed :=
  if r.noAccess then
    if s.xpt.failed.any fun x => x.1 == spoke && x.2.1 == r.page && decide (s.now < x.2.2) then
      (s, .reject .translationFault)
    else if s.pages spoke r then (s.pageFor spoke r (.place spoke), .retry)
    else (s, .reject .translationFault)
  else if r.status == .flushed then (s, .retry)
  else (s, .reject r.status)

/-- Write arriving bytes at a spoke address. -/
def State.placeBytes (s : State) (spoke va : Nat) (b : Bytes) (ep : Bool) (ans : HostAns) : State × Placed :=
  if s.destLater spoke then (s, .retry)
  else
    let (s, r) := s.spokeWrite spoke va b ep ans
    if r.status == .success then (s, .ok) else s.placeFail spoke r

/-- Split bytes to send into packets of at most `m`, reading each from the spoke: payload and poison, and the first
failure. -/
def State.readPackets (s : State) (spoke va m : Nat) (ans : HostAns) : Nat → Nat → Nat →
    State × List (Bytes × Bool) × AccRes
  | 0, _, _ => (s, [], {})
  | n + 1, off, len =>
    if len ≤ off then (s, [], {})
    else
      let w := min m (len - off)
      let a := match ans with
        | .ok d ep => HostAns.ok (d.drop off) ep
        | x => x
      let (s, r) := s.spokeRead spoke (va + off) w a
      if r.status != .success then (s, [], r)
      else
        let (s, l, e) := State.readPackets s spoke va m ans n (off + w) len
        (s, (r.data, r.poisoned || r.medium) :: l, { e with poisoned := e.poisoned || r.poisoned, medium := e.medium || r.medium })

end Sys2Proof.Machine
end

