-- ==== Sys2Proof/Machine/Conns.lean ====
section
/-! DEFINITION. The connection and region commands of chapter 8 (R277-R283, R302, R305). -/

namespace Sys2Proof.Machine
open Sys2Proof

/-- R278: the number that has been free the longest: one never used, lowest first, else the first freed, once it has
been free for 100 ms (log entry 72, DESIGN CHOICE). -/
def State.freeConn (s : State) : Option Nat :=
  let used (n : Nat) : Bool := Map.has s.xpt.conns n || s.xpt.freed.any fun x => x.1 == n
  match (List.range (s.xpt.conns.length + s.xpt.freed.length + 1)).find? fun i => !used (i + 2) && decide (i < 65536) with
  | some i => some (i + 2)
  | none => match s.xpt.freed with
    | x :: _ => if x.2 + 100000000 ≤ s.now then some x.1 else none
    | [] => none

/-- R588: the epoch that a connection number holds, and the generation of a key index: as last used, or as the last
HBM fill left it (log entry 73, DESIGN CHOICE). -/
def State.lastEpoch (s : State) (c : Nat) : Nat :=
  (Map.get s.xpt.epochs c).getD (match s.xpt.seed with
    | some n => Config.startEpoch n c % 256
    | none => 0)
/-- Log entry 73, DESIGN CHOICE. -/
def State.lastGen (s : State) (i : Nat) : Nat :=
  (Map.get s.xpt.keyGens i).getD (match s.xpt.seed with
    | some n => Config.startGen n i % 2 ^ 16
    | none => 0)

/-- CONN_CREATE (R277, R278). -/
def State.connCreate (s : State) (f : Nat) (p : Bytes) : Reply :=
  let k := u16 p 0
  if (s.spoke k).isNone then Reply.err s .malformed
  else if !s.mayNameSpoke f k then Reply.err s .notPermitted
  else if 65536 ≤ s.xpt.conns.length then Reply.err s .resource
  else match s.freeConn with
    | none => Reply.err s .retryLater
    | some c =>
      let e := (s.lastEpoch c + 1) % 256
      let s := { s with xpt.conns := Map.put s.xpt.conns c { spoke := k, roce := bit (u8 p 2) 0, epoch := e }
                        xpt.epochs := Map.put s.xpt.epochs c e, xpt.freed := s.xpt.freed.filter fun x => x.1 != c }
      Reply.ok s (toLe 3 c ++ toLe 1 e)

def execConnCreate (f : Nat) (s : State) : Outcome := .next (s.perform f 0x0401 fun p s => s.connCreate f p)

/-- R283: the parameters of a CONN_CONNECT payload. -/
def connParams (p : Bytes) : ConnParams :=
  let fl := u8 p 3
  let v6 := bit fl 0
  { v6 := v6, vlan := bit fl 1, cls := u8 p 4, dscp := u8 p 5, log2 := u8 p 6, paths := u8 p 7, subports := u32 p 8,
    vid := u16 p 12, pkey := u16 p 14, local_ := slice p 16 (if v6 then 16 else 4),
    remote := slice p 32 (if v6 then 16 else 4), mac := slice p 48 6, rconn := u32 p 56 % 2 ^ 24, repoch := u8 p 59,
    rxCq := u32 p 68, rxq := u32 p 72, timeout := u16 p 76, retryMs := u16 p 78, retryLimit := bits (u8 p 80) 3 0,
    rnrRetry := bits (u8 p 80) 7 4, seed := u16 p 84 }

/-- Whether a queue of the spoke is a completion queue, or a RECEIVE queue. -/
def State.isRxCq (s : State) (spoke q : Nat) : Bool := q == 0x3FFFF || (match s.queue q with
  | some x => x.kind == .completion && x.spoke == spoke
  | none => false)
def State.isRxQueue (s : State) (spoke q : Nat) : Bool := match s.queue q with
  | some x => x.kind == .transport && x.spoke == spoke && bit x.kindWord 0
  | none => false

/-- R283: a field outside its range (log entry 68, DEDUCED). -/
def State.connectBad (s : State) (k : Conn) (p : Bytes) : Bool :=
  let a := connParams p
  let r := k.roce
  (!a.v6 && ((slice p 20 12).any (· != 0) || (slice p 36 12).any (· != 0))) ||
  decide (a.cls > 7) || decide (a.dscp > 63) || decide (a.vid > 4095) ||
  (if r then decide (a.log2 < 10) || decide (a.log2 > 12) || a.paths != 1 || decide (a.timeout < 1) ||
      decide (a.timeout > 20) || decide (a.retryLimit > 7) || decide (a.rnrRetry > 7) || a.repoch != 0
    else decide (a.log2 < 8) || decide (a.log2 > 13) || decide (a.paths < 1) || decide (a.paths > 128) || a.pkey != 0 ||
      decide (a.timeout < 8) || a.rnrRetry != 0 || a.rxq != 0x3FFFF) ||
  a.subports = 0 || (a.subs.any fun i => !s.subExists i) ||
  !s.isRxCq k.spoke a.rxCq || (r && a.rxq != 0x3FFFF && !s.isRxQueue k.spoke a.rxq) ||
  a.retryMs = 0 || decide (a.retryMs > 60000) || a.retryLimit = 0 || decide (a.seed > 16383)

/-- CONN_CONNECT (R283): a FREE number is not in INIT either; a field that no connection takes is MALFORMED before that
(R12) (log entry 66, DEDUCED). -/
def State.connConnect (s : State) (f : Nat) (p : Bytes) : Reply :=
  let c := u32 p 0 % 2 ^ 24
  match s.conn c with
  | none =>
    let bad (roce : Bool) : Bool := s.connectBad { spoke := 4096, roce := roce, epoch := 0 } p
    Reply.err s (if bad false && bad true then .malformed else .notPermitted)
  | some k =>
    if s.connectBad k p then Reply.err s .malformed
    else if !s.mayNameSpoke f k.spoke || k.phase != .init || k.dying.isSome then Reply.err s .notPermitted
    else
      let a := connParams p
      let m := if k.roce then 2 ^ 24 else 2 ^ 32
      let k := { k with phase := .active, par := a, psn := u32 p 60 % m, e := u32 p 64 % m, rto := a.timeout * 1000, rose := s.now
                        rc := { k.rc with expected := u32 p 64 % m } }
      Reply.ok (s.setConn c k) []

def execConnConnect (f : Nat) (s : State) : Outcome := .next (s.perform f 0x0402 fun p s => s.connConnect f p)

/-- R282: a connection stops at once; what waits for its end is noted (log entry 66, DEDUCED). -/
def State.killConn (s : State) (c : Nat) (flush : Bool) (wait : Option (Nat × Nat)) : State :=
  match s.conn c with
  | none => s
  | some k =>
    if k.dying.isSome then s
    else
      let s := if flush then s.flushConn c k none .flushed else s
      let s := s.setConn c { k with txq := [], out := [], works := [], stored := [], msgs := [], dying := some wait }
      let t := s.sch.xpt.map fun (i, l) => (i, l.filter fun x => match x.conn with
        | some (d, _) => d != c
        | none => true)
      State.excludePeer { s with sch.xpt := t } c 1

/-- CONN_DESTROY (R282): the response comes with CONN_DESTROY_COMPLETE (log entry 66, DEDUCED). -/
def State.connDestroy (s : State) (f : Nat) (p : Bytes) : Reply :=
  let c := u32 p 0 % 2 ^ 24
  match s.conn c with
  | none => Reply.err s .malformed
  | some k =>
    if k.dying.isSome then Reply.err s .malformed
    else if !s.mayNameSpoke f k.spoke then Reply.err s .notPermitted
    else { st := s.killConn c true (some (f, (s.fn f).mb.seq)), wait := true }

def execConnDestroy (f : Nat) (s : State) : Outcome := .next (s.perform f 0x0403 fun p s => s.connDestroy f p)

/-- CONN_QUERY (R282) (log entry 66, DEDUCED). -/
def State.connQuery (s : State) (f : Nat) (p : Bytes) : Reply :=
  let c := u32 p 0 % 2 ^ 24
  match s.conn c with
  | none => Reply.ok s (zeros 32)
  | some k =>
    if k.dying.isSome then Reply.ok s (zeros 32)
    else if !s.mayNameSpoke f k.spoke then Reply.err s .notPermitted
    else
      let st := match k.phase with
        | .init => 1
        | .active => 2
        | .error => 3
      Reply.ok s (toLe 1 st ++ toLe 1 k.epoch ++ toLe 2 k.out.length ++
        toLe 4 ((k.nextOut.map OutPkt.psn).getD k.psn) ++ toLe 4 (if k.roce then k.rc.expected else k.e) ++
        toLe 4 k.nextMsg ++ toLe 4 k.done ++ toLe 2 k.cwnd ++ toLe 2 k.stored.length ++ toLe 4 k.srtt ++ zeros 4)

def execConnQuery (f : Nat) (s : State) : Outcome := .next (s.perform f 0x0404 fun p s => s.connQuery f p)

/-- REGION_REGISTER (R302) (log entry 72, DESIGN CHOICE). -/
def State.regionRegister (s : State) (f : Nat) (p : Bytes) : Reply :=
  let k := u16 p 0
  let i := u32 p 4
  let addr := u64 p 8
  let len := u64 p 16
  let free (i : Nat) : Bool := match Map.get s.xpt.keys i with
    | none => true
    | some x => x.phase == .revoked
  if (s.spoke k).isNone || len = 0 || decide (2 ^ 48 < addr + len) ||
      (i != 0xFFFFFFFF && (i = 0 || decide (1048575 < i))) then Reply.err s .malformed
  else if !s.mayNameSpoke f k || (i != 0xFFFFFFFF && !free i) then Reply.err s .notPermitted
  else
    let pick := if i = 0xFFFFFFFF then
        ((List.range (s.xpt.keys.length + 1)).find? fun j => free (j + 1) && decide (j < 1048575)).map (· + 1)
      else some i
    match pick with
    | none => Reply.err s .resource
    | some i =>
      let g := (s.lastGen i + 1) % 2 ^ 16
      let x : RegionKey := { gen := g, spoke := k, read := bit (u8 p 2) 0, write := bit (u8 p 2) 1, addr := addr, length := len }
      let s := { s with xpt.keys := Map.put s.xpt.keys i x, xpt.keyGens := Map.put s.xpt.keyGens i g }
      Reply.ok s.bump (toLe 4 i ++ toLe 2 g ++ zeros 2)

def execRegionRegister (f : Nat) (s : State) : Outcome := .next (s.perform f 0x0410 fun p s => s.regionRegister f p)

/-- REGION_REVOKE (R305): the key enters REVOKING; the response comes with REVOKE_COMPLETE
(log entry 71, DEDUCED). -/
def State.regionRevoke (s : State) (f : Nat) (p : Bytes) : Reply :=
  let i := u32 p 0
  let k := u16 p 4
  match Map.get s.xpt.keys i with
  | none => Reply.err s .malformed
  | some x =>
    if (s.spoke k).isNone then Reply.err s .malformed
    else if !s.mayNameSpoke f k || x.spoke != k then Reply.err s .notPermitted
    else match x.phase with
      | .revoked => Reply.ok s []
      | .revoking l =>
        { st := { s with xpt.keys := Map.put s.xpt.keys i { x with phase := .revoking (l ++ [f]) } }, wait := true }
      | .active =>
        { st := { s with xpt.keys := Map.put s.xpt.keys i { x with phase := .revoking [f] } }.bump, wait := true }

def execRegionRevoke (f : Nat) (s : State) : Outcome := .next (s.perform f 0x0411 fun p s => s.regionRevoke f p)

/-- REVOKE_COMPLETE (R305): the key becomes REVOKED and the responses are written (log entry 71, DEDUCED). -/
def State.revokeComplete (s : State) (i : Nat) : State :=
  match Map.get s.xpt.keys i with
  | none => s
  | some x => match x.phase with
    | .revoking l =>
      l.foldl (fun s f => s.respond f .success [] false)
        (State.bump { s with xpt.keys := Map.put s.xpt.keys i { x with phase := .revoked } })
    | _ => s

def execRevokeComplete (i : Nat) (s : State) : Outcome := .next (s.revokeComplete i)

/-- R305: the keys of a spoke enter revocation with its destruction. -/
def State.revokeSpoke (s : State) (k : Nat) : State :=
  let t := s.xpt.keys.map fun (i, x) =>
    (i, if x.spoke = k ∧ x.phase = .active then { x with phase := .revoking [] } else x)
  { s with xpt.keys := t }

end Sys2Proof.Machine
end

