-- ==== Sys2Proof/Machine/Yekel.lean ====
section
/-! DEFINITION. Arriving Yekel packets and the timers of Yekel connections (R287-R301, R303-R307). -/

namespace Sys2Proof.Machine
open Sys2Proof

/-! ## Reading a packet (R287, R288) -/

/-- The ECN field of the outermost IP header is CE. -/
def RxPkt.ce (x : RxPkt) : Bool :=
  match x.parsed.ip with
  | some o => if x.parsed.v6 then bits (fldBe x.data o 2) 5 4 == 3 else u8 x.data (o + 1) % 4 == 3
  | none => false

/-- The UDP payload of a packet, and whether an IPv6 packet's checksum is good. -/
def RxPkt.udp (x : RxPkt) : Option (Bytes × Bool) :=
  match x.parsed.l4, x.parsed.ip with
  | some o, some ip =>
    let n := fldBe x.data (o + 4) 2
    let dgram := slice x.data o n
    let sum := fold16 (onesSum (pseudoSum x.data ip x.parsed.v6 17 n) dgram)
    some (dgram.drop 8, !x.parsed.v6 || (fldBe x.data (o + 6) 2 != 0 && sum == 0xFFFF))
  | _, _ => none

/-- The UDP destination port of a packet. -/
def RxPkt.dport (x : RxPkt) : Nat :=
  match x.parsed.l4 with
  | some o => fldBe x.data (o + 2) 2
  | none => 0

/-- R288: the opcodes of Yekel. -/
def yOpcodes : List Nat := [1, 2, 3, 4, 0x10, 0x11, 0x12, 0x20]

/-- R287, R288: a Yekel packet, or nothing when its header is not one. -/
def RxPkt.yekel (x : RxPkt) : Option YPkt :=
  match x.udp with
  | none => none
  | some (b, ok) =>
    let fl := u8 b 1
    let w := u16 b 2
    let n := u16 b 30
    let tagged := u8 b 0 == 2 && bit fl 2
    if x.dport != 4893 || !ok || decide (b.length < 32 + n + (if tagged then 8 else 0)) || !yOpcodes.contains (u8 b 0) ||
        bits fl 7 6 != 0 || bits w 11 7 != 0 || bits w 15 12 != 1 then none
    else some {
      opcode := u8 b 0, poison := bit fl 0, ordered := bit fl 1, last := bit fl 2, ackReq := bit fl 3, first := bit fl 4,
      ece := bit fl 5, path := bits w 6 0, conn := u32 b 4 % 2 ^ 24, epoch := u8 b 7, psn := u32 b 8, msg := u32 b 12,
      offset := u64 b 16, key := u32 b 24, keyGen := u16 b 28, payload := slice b 32 n,
      tag := if tagged then u64 b (32 + n) else 0, ce := x.ce }

/-- Take packet `i` from the transport engines when it is for a given row: its Yekel opcode is `opc`.
A packet that is neither Yekel nor RoCEv2, or whose header is not one of Yekel, is the WRITE_PACKET row's
(log entry 65, DEDUCED). -/
def State.takeY (s : State) (i opc : Nat) : State × Option YPkt :=
  match Map.get s.xpt.rx i with
  | none => (s, none)
  | some x =>
    let gone := { s with xpt.rx := Map.erase s.xpt.rx i }
    match x.yekel with
    | some p => if p.opcode = opc then (gone, some p) else (s, none)
    | none => if opc = 1 && x.dport != 4791 then (gone.xcount 10, none) else (s, none)

/-- R281, R288, R295: the connection of a packet, when its state, epoch and length let it be processed. -/
def State.connFor (s : State) (p : YPkt) : State × Option Conn :=
  match s.conn p.conn with
  | none => (s.xcount 10, none)
  | some k =>
    if k.roce || k.phase == .error || k.dying.isSome then (s.xcount 10, none)
    else if k.phase != .active || p.epoch != k.epoch then (s.xcount 0, none)
    else if 2 ^ k.par.log2 < p.payload.length then (s.xcount 10, none)
    else (s.touchCtx p.conn k.par, some k)

/-! ## The receive window (R292) -/

/-- Whether a PSN has been received. -/
def Conn.received (k : Conn) (psn : Nat) : Bool := decide (2 ^ 31 ≤ ahead psn k.e) || k.got.contains psn

/-- E moves over received PSNs. -/
def advanceE : Nat → Nat → List Nat → Nat × List Nat
  | 0, e, got => (e, got)
  | n + 1, e, got => if got.contains e then advanceE n ((e + 1) % 2 ^ 32) (got.filter (· != e)) else (e, got)

/-- Mark a PSN received. -/
def Conn.mark (k : Conn) (psn : Nat) : Conn :=
  if k.received psn then k
  else
    let got := psn :: k.got
    let (e, g) := advanceE got.length k.e got
    { k with e := e, got := g }

/-! ## Messages at the target (R299, R328) -/

/-- The record of a message, new when none is kept. -/
def Conn.inMsg (k : Conn) (ordered : Bool) (msg : Nat) : InMsg :=
  (k.msgs.find? fun m => m.ordered == ordered && m.msg == msg).getD { msg := msg, ordered := ordered }

/-- Put a message's record. -/
def Conn.putMsg (k : Conn) (m : InMsg) : Conn :=
  { k with msgs := k.msgs.filter (fun x => !(x.ordered == m.ordered && x.msg == m.msg)) ++ [m] }

/-- Note a packet's place in its message. -/
def InMsg.note (m : InMsg) (p : YPkt) : InMsg :=
  { m with
    first := if p.first then some p.psn else m.first
    last := if p.last then some p.psn else m.last
    tagged := m.tagged || p.opcode == 2
    tag := if p.last then p.tag else m.tag }

/-- Whether every PSN of a message has been received; for an unordered one a rejected PSN counts
(log entry 70, DEDUCED). -/
def Conn.allIn (k : Conn) (m : InMsg) : Bool :=
  match m.first, m.last with
  | some a, some b =>
    let inside (x : Nat) : Bool := decide (ahead x a ≤ ahead b a)
    (decide (2 ^ 31 ≤ ahead b k.e) || (List.range (min 256 (ahead b k.e) + 1)).all fun i =>
      let x := (k.e + i) % 2 ^ 32
      !inside x || k.got.contains x || (!m.ordered && k.nak.any fun n => n.1 == x)) &&
    (!m.ordered || !(k.nak.any fun n => inside n.1)) &&
    !(k.stored.any fun p => p.ordered == m.ordered && p.msg == m.msg)
  | _, _ => false

/-- The mark of a message's notification in its ring. -/
def InMsg.noteId (m : InMsg) : Nat := m.msg + 2 ^ 32 * b2n m.ordered

/-- The final status of a message. -/
def InMsg.outcome (m : InMsg) : Status := withMarks m.status m.poisoned false

/-- Whether a ring still holds a notification. -/
def State.noteHeld (s : State) (c : Nat) (m : InMsg) : Bool :=
  s.host.queues.any fun (_, q) => q.due.any fun d => d.note == some (c, m.noteId)

/-- R286: hand the notification of a WRITE_TAG to RX_CQ. -/
def State.notify (s : State) (c rxCq : Nat) (m : InMsg) (ans : HostAns) : State :=
  if !m.tagged then s
  else match s.queue rxCq with
    | none => s
    | some _ =>
      let d : Due := { cookie := m.tag, count := m.bytes, status := m.outcome, kind := 0x12, flags := 1,
                       detail := c + 2 ^ 32 * m.msg, note := some (c, m.noteId) }
      (s.modQueue rxCq fun q => { q with due := q.due ++ [d] }).flush rxCq ans

/-! ## Accepting a packet (R298, R299, R303-R307) -/

/-- What became of an arriving packet. -/
inductive Accept where
  | ok
  | retry
  | reject (st : Status)
deriving DecidableEq, Repr

/-- R298: the response packets of a read. -/
def respPkts (p : YPkt) (m : Nat) : Nat → Nat → List (Bytes × Bool) → List (YPkt × Option Nat × Option Nat)
  | _, _, [] => []
  | i, n, (b, ep) :: t =>
    let l := i + 1 == n
    ({ opcode := 4, poison := ep, ordered := p.ordered, last := l, ackReq := l, first := i == 0, msg := p.msg,
       offset := i * m, payload := b : YPkt }, none, none) :: respPkts p m (i + 1) n t

/-- R298, R303: perform a read request (log entry 74, DEDUCED). -/
def State.serveRead (s : State) (c : Nat) (k : Conn) (p : YPkt) (ans : HostAns) : State × Accept :=
  let len := u32 p.payload 0
  let m := 2 ^ k.par.log2
  let st := if len = 0 then .success else s.keyCheckY k.spoke p.key p.keyGen p.offset len false false
  if st != .success then (s, .reject st)
  else if len = 0 then (s.stream c (respPkts p m 0 1 [([], false)]), .ok)
  else if s.destLater k.spoke then (s, .retry)
  else
    let (s, l, r) := s.readPackets k.spoke ((s.region p.key).addr + p.offset) m ans (len / m + 1) 0 len
    if r.status == .success then (s.stream c (respPkts p m 0 l.length l), .ok)
    else match s.placeFail k.spoke r with
      | (s, .reject st) => (s, .reject st)
      | (s, _) => (s, .retry)

/-- R303, R306, R307: check a write packet and place it. -/
def State.serveWrite (s : State) (k : Conn) (p : YPkt) (ans : HostAns) : State × Accept :=
  if p.payload = [] then (s, .ok)
  else
    let st := s.keyCheckY k.spoke p.key p.keyGen p.offset p.payload.length true false
    if st != .success then (s, .reject st)
    else match s.placeBytes k.spoke ((s.region p.key).addr + p.offset) p.payload p.poison ans with
      | (s, .ok) => (s, .ok)
      | (s, .retry) => (s, .retry)
      | (s, .reject st) => (s, .reject st)

/-- R298: place a read response at the requester.  A local failure is the work request's own status. -/
def State.takeResponse (s : State) (c : Nat) (k : Conn) (p : YPkt) (ans : HostAns) : State × Accept :=
  match k.works.find? fun w => w.read && w.ordered == p.ordered && w.msg == p.msg with
  | none => (s, .ok)
  | some w =>
    let set (s : State) (g : Work → Work) : State := s.modConn c fun k =>
      { k with works := k.works.map fun x => if x.op = w.op then g x else x }
    let bump (st : Status) (x : Work) : Work :=
      { x with placed := x.placed + p.payload.length, respDone := x.respDone || p.last,
               status := worst [x.status, st, if p.poison then .poisoned else .success] }
    if p.payload = [] then (set s (bump .success), .ok)
    else match s.placeBytes k.spoke (w.local_ + p.offset) p.payload p.poison ans with
      | (s, .ok) => (set s (bump .success), .ok)
      | (s, .retry) => (s, .retry)
      | (s, .reject st) => (set s (bump st), .ok)

/-- R296: a NAK names the status of a packet's work request. -/
def State.takeNak (s : State) (c : Nat) (k : Conn) (p : YPkt) : State :=
  let psn := u32 p.payload 0
  match k.out.find? fun q => q.psn == psn with
  | none => s.xcount 3
  | some q =>
    let st := (Status.ofCode (u8 p.payload 4)).getD .accessViolation
    let upd (w : Work) : Work := if some w.op = q.wr then { w with status := w.status.worse st } else w
    s.modConn c fun k => { k with works := k.works.map upd }

/-- R301: the units of the reorder store that a packet takes, those in use, and those that the REORDER regions hold. -/
def YPkt.units (p : YPkt) : Nat := ceilDiv (32 + p.payload.length + (if p.opcode = 2 ∧ p.last then 8 else 0)) 256
def State.reorderUsed (s : State) : Nat :=
  s.xpt.conns.foldl (fun n x => x.2.stored.foldl (fun n p => n + p.units) n) 0
def State.reorderSize (s : State) : Nat :=
  s.mem.regions.foldl (fun n x => if x.2.use = useReorder ∧ x.2.valid ∧ !x.2.test ∧ !x.2.zeroing then
    n + (x.2.dataEnd - x.2.baseByte) / 256 else n) 0

/-- R304: send a NAK for a packet; the target's event comes once a message (log entry 70, DEDUCED). -/
def State.rejectY (s : State) (c : Nat) (p : YPkt) (st : Status) : State :=
  match s.conn c with
  | none => s
  | some k =>
    let m := (k.inMsg p.ordered p.msg).note p
    let news := m.status == .success
    let k := { k.putMsg { m with status := m.status.worse st } with nak := k.nak ++ [(p.psn, p.msg)] }
    let s := s.setConn c k
    let y : YPkt := { opcode := 0x11, ordered := p.ordered, msg := p.msg, payload := toLe 4 p.psn ++ toLe 4 st.code }
    let s := s.stream c [(y, none, some p.psn)]
    if news then s.postEvent (s.remoteSpoke k.spoke p.key) 0x0401
      (c + 2 ^ 24 * p.keyGen + 2 ^ 40 * (p.key % 2 ^ 20)) p.offset st 0x3FFFF
    else s

/-- The key-bearing packets: check and place one whose turn it is, and note it in its message. -/
def State.place (s : State) (c : Nat) (k : Conn) (p : YPkt) (ans : HostAns) : State × Accept :=
  match (if p.opcode = 3 then s.serveRead c k p ans else s.serveWrite k p ans) with
  | (s, .ok) =>
    (s.modConn c fun k =>
      let m := (k.inMsg p.ordered p.msg).note p
      k.putMsg { m with
        poisoned := m.poisoned || (p.poison && p.opcode != 3)
        bytes := m.bytes + (if p.opcode = 3 then 0 else p.payload.length) }, .ok)
  | (s, .reject st) => (s.rejectY c p st, .reject st)
  | (s, .retry) => (s, .retry)

/-- R299, R301: whether a packet is of an ordered message later than NEXT_MSG. -/
def Conn.later (k : Conn) (p : YPkt) : Bool :=
  p.ordered && decide (0 < ahead p.msg k.nextMsg) && decide (ahead p.msg k.nextMsg < 2 ^ 31)

/-- R299: accept a packet of the stream. -/
def State.accept (s : State) (c : Nat) (k : Conn) (p : YPkt) (ans : HostAns) : State × Accept :=
  if p.opcode = 0x11 then (s.takeNak c k p, .ok)
  else if p.opcode = 4 then s.takeResponse c k p ans
  else if k.later p then
    let used := s.reorderUsed + p.units
    if s.reorderSize < used then (s.xcount 5, .retry)
    else
      let s := s.modConn c fun k => { k.putMsg ((k.inMsg p.ordered p.msg).note p) with stored := k.stored ++ [p] }
      (if s.rfield 0x500100 63 32 < used then s.rset 0x500100 63 32 used else s, .ok)
  else s.place c k p ans

/-- R299: place the stored packets of the message that has become NEXT_MSG; one that must wait stays stored. -/
def State.drain (s : State) (c : Nat) (ans : HostAns) : List YPkt → State
  | [] => s
  | p :: t =>
    match s.conn c with
    | none => s
    | some k =>
      if p.ordered && p.msg != k.nextMsg then State.drain s c ans t
      else match s.place c k p ans with
        | (s, .retry) => State.drain s c ans t
        | (s, _) => State.drain (s.modConn c fun k => { k with stored := k.stored.erase p }) c ans t

/-- R299, R328: messages whose outcome has become final: their notification, the trigger message, NEXT_MSG.
`n` bounds the messages settled. -/
def State.settleLoop (s : State) (c : Nat) (ans : HostAns) : Nat → State
  | 0 => s
  | n + 1 =>
    match s.conn c with
    | none => s
    | some k =>
      if k.roce || k.dying.isSome then s else
      let ready := k.msgs.find? fun m => k.allIn m && (!m.ordered || m.msg == k.nextMsg) &&
        (!m.notified || !s.noteHeld c m)
      match ready with
      | none => s
      | some m =>
        if !m.notified then
          State.settleLoop ((s.setConn c (k.putMsg { m with notified := true })).notify c k.par.rxCq m ans) c ans n
        else
          let rest := k.msgs.filter fun x => x != m
          let nx := if m.ordered then (k.nextMsg + 1) % 2 ^ 32 else k.nextMsg
          let s := s.setConn c { k with msgs := rest, nextMsg := nx }
          let s := if m.tagged && bit m.tag 63 then s.triggerMessage k.spoke (m.tag % 2 ^ 32) m.outcome else s
          let s := if m.ordered then s.drain c ans k.stored else s
          State.settleLoop s c ans n

/-- Settle a connection: stored packets whose turn it is, and messages that are final; an ACK tells the requester when
NEXT_MSG has moved. -/
def State.settle (s : State) (c : Nat) (ans : HostAns) : State :=
  match s.conn c with
  | none => s
  | some k =>
    if k.roce || k.dying.isSome || k.phase != .active then s
    else
      let s := s.drain c ans k.stored
      let s := s.settleLoop c ans (2 * k.msgs.length + 2)
      match s.conn c with
      | none => s
      | some k' => if k'.nextMsg != k.nextMsg && k'.oldestAt.isNone then s.setConn c { k' with oldestAt := some s.now } else s

/-- Settle every connection: a ring has room again, or a function's memory may be reached again. -/
def State.settleXpt (s : State) (ans : HostAns) : State :=
  (Map.keys s.xpt.conns).foldl (fun s c => s.settle c ans) s

/-- R294: note a reliable packet and acknowledge at once when it asks, or after eight. -/
def State.ackCount (s : State) (c : Nat) (p : YPkt) : State :=
  match s.conn c with
  | none => s
  | some k =>
    let k := { k with sinceAck := k.sinceAck + 1, oldestAt := some (k.oldestAt.getD s.now), lastPsn := p.psn }
    let s := s.setConn c k
    if p.ackReq || decide (8 ≤ k.sinceAck) then s.sendAck c else s

/-- R295: a reliable packet arrives (log entries 69, DESIGN CHOICE; 70, DEDUCED). -/
def State.onPacket (s : State) (p : YPkt) (ans : HostAns) : State :=
  match s.connFor p with
  | (s, none) => s
  | (s, some k) =>
    let c := p.conn
    let k := { k with ceSeen := k.ceSeen || p.ce }
    let s := s.setConn c k
    let d := ahead p.psn k.e
    if decide (2 ^ 32 - 4096 ≤ d) || k.got.contains p.psn || k.nak.any (fun n => n.1 == p.psn) then
      ((s.xcount 1).modConn c fun k => { k with lastPsn := p.psn }).sendAck c
    else if 256 ≤ d ∧ d < 2 ^ 31 then s.xcount 4
    else if 2 ^ 31 ≤ d then
      let s := s.xcount 2
      let len := if p.opcode = 3 then u32 p.payload 0 else p.payload.length
      if (p.opcode = 1 ∨ p.opcode = 2 ∨ p.opcode = 3) ∧ len ≠ 0 ∧
          s.keyCheckY k.spoke p.key p.keyGen p.offset len (p.opcode != 3) false = .keyStale then
        s.stream c [({ opcode := 0x11, ordered := p.ordered, msg := p.msg,
                       payload := toLe 4 p.psn ++ toLe 4 Status.keyStale.code : YPkt }, none, some p.psn)]
      else s
    else match s.accept c k p ans with
      | (s, .retry) => (s.xcount 6).sendCtl c { opcode := 0x12, ordered := p.ordered, psn := p.psn, msg := p.msg }
      | (s, .reject _) => (s.settle c ans).ackCount c p
      | (s, .ok) => (((s.modConn c fun k => k.mark p.psn).settle c ans).ackCount c p).completeWorks c

/-- The performance of an arriving reliable packet of an opcode. -/
def State.rxReliable (s : State) (i opc : Nat) (ans : HostAns) : State :=
  match s.takeY i opc with
  | (s, some p) => s.onPacket p ans
  | (s, none) => s

/-- WRITE_PACKET. -/
def execWritePacket (i : Nat) (ans : HostAns) (s : State) : Outcome := .next (s.rxReliable i 1 ans)

/-- WRITE_TAG_PACKET. -/
def execWriteTagPacket (i : Nat) (ans : HostAns) (s : State) : Outcome := .next (s.rxReliable i 2 ans)

/-- READ_REQUEST. -/
def execReadRequest (i : Nat) (ans : HostAns) (s : State) : Outcome := .next (s.rxReliable i 3 ans)

/-- READ_RESPONSE. -/
def execReadResponse (i : Nat) (ans : HostAns) (s : State) : Outcome := .next (s.rxReliable i 4 ans)

/-- NAK. -/
def execNak (i : Nat) (ans : HostAns) (s : State) : Outcome := .next (s.rxReliable i 0x11 ans)

/-! ## Acknowledgement at the sender (R293, R295, R296) -/

/-- Whether an ACK releases a packet. -/
def YPkt.releases (a : YPkt) (psn : Nat) : Bool :=
  let d := ahead psn a.psn
  decide (2 ^ 31 ≤ d) || (decide (1 ≤ d) && decide (d ≤ 255) && bit (u8 a.payload ((d - 1) / 8)) ((d - 1) % 8))

/-- R293: whether an event may lower CWND again. -/
def Conn.mayFall (k : Conn) (now : Nat) (last : Option Nat) : Bool :=
  match last with
  | none => true
  | some t => decide (t + k.srtt ≤ now)

/-- R295: the round-trip sample of an ACK (log entry 69, DESIGN CHOICE). -/
def Conn.sample (k : Conn) (now : Nat) (a : YPkt) : Conn :=
  match k.out.find? fun p => p.psn == a.key && !p.resent with
  | none => k
  | some p =>
    let x := now - p.sent
    let sr := 7 * k.srtt / 8 + x / 8
    let dv := if x ≤ k.srtt then k.srtt - x else x - k.srtt
    let rv := 3 * k.rttvar / 4 + dv / 4
    { k with srtt := sr, rttvar := rv, rto := max (k.par.timeout * 1000) (sr + 4 * rv) }

/-- R290, R293: an ACK with ECE. -/
def Conn.congested (k : Conn) (now : Nat) (rel : List OutPkt) : Conn :=
  let k := if k.mayFall now k.fellAt then { k with cwnd := max 1 (k.cwnd * 7 / 8), fellAt := some now } else k
  rel.foldl (fun k p => k.modPath p.path fun x => { x with markedUntil := now + k.srtt }) k

/-- R296: NAKs that have been acknowledged mark the PSNs they reject. -/
def State.nakAcked (s : State) (c : Nat) (rel : List OutPkt) (ans : HostAns) : State :=
  let l := rel.filterMap OutPkt.nakFor
  if l = [] then s
  else
    let s := s.modConn c fun k => l.foldl (fun k psn => { k with nak := k.nak.filter fun n => n.1 != psn }.mark psn) k
    let s := s.modConn c fun k => { k with oldestAt := some (k.oldestAt.getD s.now) }
    s.settle c ans

/-- R296: an ACK arrives. -/
def State.onAck (s : State) (a : YPkt) (ans : HostAns) : State :=
  match s.connFor a with
  | (s, none) => s
  | (s, some k) =>
    let c := a.conn
    let rel := k.out.filter fun p => a.releases p.psn
    let k := (k.sample s.now a)
    let k := if a.ece then k.congested s.now rel else k
    let left := (k.out.filter fun p => !a.releases p.psn).map fun q =>
      { q with after := q.after + (rel.filter fun p => p.path == q.path && decide (q.order < p.order)).length }
    let s := s.setConn c { k with out := left, done := a.msg }
    let s := (left.filter fun q => decide (3 ≤ q.after) && q.retryAt.isNone).foldl (fun s q => s.resend c q.psn (some q.path)) s
    let s := s.nakAcked c rel ans
    let s := s.admitPkts c k.txq.length
    s.completeWorks c

/-- ACK. -/
def execAck (i : Nat) (ans : HostAns) (s : State) : Outcome :=
  match s.takeY i 0x10 with
  | (s, some p) => .next (s.onAck p ans)
  | (s, none) => .next s

/-- R306: a NAK_RETRY arrives: the packet will be sent again. -/
def State.onNakRetry (s : State) (a : YPkt) : State :=
  match s.connFor a with
  | (s, none) => s
  | (s, some _) =>
    s.modConn a.conn fun k => { k with out := k.out.map fun q =>
      if q.psn = a.psn ∧ q.retryAt = none then
        { q with retryFrom := some (q.retryFrom.getD s.now), retryAt := some (s.now + q.backoff), backoff := min 1000000 (2 * q.backoff) }
      else q }

/-- NAK_RETRY. -/
def execNakRetry (i : Nat) (s : State) : Outcome :=
  match s.takeY i 0x12 with
  | (s, some p) => .next (s.onNakRetry p)
  | (s, none) => .next s

/-! ## Timers -/

/-- The unacknowledged packet of a live Yekel connection with a PSN. -/
def State.outPkt (s : State) (c psn : Nat) : Option (Conn × OutPkt) :=
  match s.conn c with
  | none => none
  | some k =>
    if k.roce || k.phase != .active || k.dying.isSome then none
    else (k.out.find? fun p => p.psn == psn).map fun p => (k, p)

/-- ACK_TIMER (R294) (log entry 65, DEDUCED). -/
def execAckTimer (c : Nat) (s : State) : Outcome :=
  match s.conn c with
  | none => .next s
  | some k => match k.oldestAt with
    | none => .next s
    | some t => .next (State.sendAck { s with now := max s.now (t + 2000) } c)

/-- R296: the retransmission timeout of a packet expires (log entry 65, DEDUCED). -/
def State.rtoExpire (s : State) (c psn : Nat) : State :=
  match s.outPkt c psn with
  | none => s
  | some (k, p) =>
    if p.retryAt.isSome then s
    else
      let s := { s with now := max s.now (p.sent + min (k.rto * 2 ^ p.tries) 4000000) }
      let s := s.xcount 8
      if p.tries = k.par.retryLimit then s.connError c psn .timeout
      else
        let k : Conn := { k with out := k.out.map fun q => if q.psn = psn then { q with tries := q.tries + 1 } else q }
        let k := k.modPath p.path fun x => { x with suspectUntil := s.now + 1000000 }
        let k := if k.mayFall s.now k.halvedAt then { k with cwnd := max 1 (k.cwnd / 2), halvedAt := some s.now } else k
        (s.setConn c k).resend c psn (some p.path)

/-- RETRANSMIT_TIMEOUT. -/
def execRetransmitTimeout (c psn : Nat) (s : State) : Outcome := .next (s.rtoExpire c psn)

/-- PATH_SUSPECT_EXPIRE (R290). -/
def State.suspectExpire (s : State) (c path : Nat) : State :=
  match s.conn c with
  | none => s
  | some k =>
    match Map.get k.pathSt path with
    | none => s
    | some x =>
      if x.suspectUntil = 0 then s
      else State.resumeConn (State.setConn { s with now := max s.now x.suspectUntil } c
        (k.modPath path fun x => { x with suspectUntil := 0 })) c

def execPathSuspectExpire (c path : Nat) (s : State) : Outcome := .next (s.suspectExpire c path)

/-- RETRY_LATER_RESEND (R306) (log entry 65, DEDUCED). -/
def State.retryResend (s : State) (c psn : Nat) : State :=
  match s.outPkt c psn with
  | none => s
  | some (k, p) =>
    match p.retryAt with
    | none => s
    | some t =>
      let s := { s with now := max s.now t }
      let k : Conn := { k with out := k.out.map fun q => if q.psn = psn then { q with retryAt := none } else q }
      (s.setConn c k).resend c psn none

def execRetryLaterResend (c psn : Nat) (s : State) : Outcome := .next (s.retryResend c psn)

/-- RETRY_LATER_EXPIRE (R306). -/
def State.retryExpire (s : State) (c psn : Nat) : State :=
  match s.outPkt c psn with
  | none => s
  | some (k, p) =>
    match p.retryFrom with
    | none => s
    | some t => State.connError { s with now := max s.now (t + k.par.retryMs * 1000000) } c psn .timeout

def execRetryLaterExpire (c psn : Nat) (s : State) : Outcome := .next (s.retryExpire c psn)

/-- CWND_RISE (R293): one packet for each SRTT without a fall. -/
def State.cwndRise (s : State) (c : Nat) : State :=
  match s.conn c with
  | none => s
  | some k =>
    if k.roce || k.phase != .active || k.dying.isSome || !k.mayFall s.now k.fellAt || !k.mayFall s.now k.halvedAt then s
    else
      let t := max s.now (k.rose + k.srtt)
      let s := { s with now := t }
      (s.setConn c { k with cwnd := min 256 (k.cwnd + 1), rose := t }).admitPkts c k.txq.length

def execCwndRise (c : Nat) (s : State) : Outcome := .next (s.cwndRise c)

/-! ## The end of a connection (R278, R282) -/

/-- CONN_DESTROY_COMPLETE (R282): nothing of the connection can still be placed; its number becomes free
(log entry 71, DEDUCED). -/
def State.connGone (s : State) (c : Nat) : State :=
  match s.conn c with
  | none => s
  | some k =>
    match k.dying with
    | none => s
    | some w =>
      let s := { s with
        xpt.conns := Map.erase s.xpt.conns c, xpt.freed := s.xpt.freed ++ [(c, s.now)]
        xpt.ctxCache := s.xpt.ctxCache.map fun (h, l) => (h, l.filter (· != c)) }
      match w with
      | some (f, seq) =>
        let more := s.xpt.conns.any fun (_, k) => k.dying == some (some (f, seq))
        if !more && (s.fn f).mb.outstanding && (s.fn f).mb.seq == seq then s.respond f .success [] false else s
      | none => s

def execConnDestroyComplete (c : Nat) (s : State) : Outcome := .next (s.connGone c)

end Sys2Proof.Machine
end

