-- ==== Sys2Proof/Machine/Roce.lean ====
section
/-! DEFINITION. RoCEv2 connections: packets, the responder, the requester and their timers (R308-R312).
Header layouts, opcodes, AETH syndromes and RNR timer codes are those of the InfiniBand RC transport. -/

namespace Sys2Proof.Machine
open Sys2Proof

/-! ## Packets -/

/-- Which extended headers an opcode carries. -/
def rHasReth (o : Nat) : Bool := o == 6 || o == 0xA || o == 0xB || o == 0xC
def rHasImm (o : Nat) : Bool := o == 3 || o == 5 || o == 9 || o == 0xB
def rHasAeth (o : Nat) : Bool := o == 0xD || o == 0xF || o == 0x10 || o == 0x11

/-- BTH and the headers after it, the payload and its pad, without the ICRC (log entry 75, PRESUMED). -/
def RPkt.bytes (p : RPkt) (msn : Nat) : Bytes :=
  let pad := (4 - p.payload.length % 4) % 4
  toBe 1 p.opcode ++ toBe 1 (0x40 + 16 * pad) ++ toBe 2 p.pkey ++ toBe 1 (if p.opcode = 0x81 then 0x40 else 0) ++
  toBe 3 p.qp ++ toBe 1 (128 * b2n p.ackReq) ++ toBe 3 p.psn ++
  (if rHasReth p.opcode then toBe 8 p.va ++ toBe 4 p.rkey ++ toBe 4 p.dmaLen else []) ++
  (if rHasAeth p.opcode then toBe 1 p.synd ++ toBe 3 msn else []) ++
  (if rHasImm p.opcode then toBe 4 p.imm else []) ++
  p.payload ++ zeros pad

/-- The IP header as the ICRC sees it: its variable fields all ones. -/
def icrcIp (v6 : Bool) (ip : Bytes) : Bytes :=
  if v6 then patch (patch ip 0 [0x6F, 0xFF, 0xFF, 0xFF]) 7 [0xFF]
  else patch (patch (patch ip 1 [0xFF]) 8 [0xFF]) 10 [0xFF, 0xFF]

/-- The ICRC over an IP header, a UDP header and the transport bytes (log entry 75, PRESUMED). -/
def icrc (v6 : Bool) (ip udp body : Bytes) : Nat :=
  crc32 (List.replicate 8 0xFF ++ icrcIp v6 ip ++ patch udp 6 [0xFF, 0xFF] ++ patch body 4 [0xFF])

/-- A RoCEv2 frame. -/
def roceFrame (h : Hdr) (ident : Nat) (body : Bytes) : Bytes :=
  let len := 8 + body.length + 4
  let udp := toBe 2 h.sport ++ toBe 2 h.dport ++ toBe 2 len ++ [0, 0]
  udpFrame h ident h.v6 (body ++ toLe 4 (icrc h.v6 (ipHeader h ident len) udp body))

/-- Read a RoCEv2 packet; none when its ICRC is bad or it is too short (log entry 75, PRESUMED). -/
def RxPkt.roce (x : RxPkt) : Option RPkt :=
  match x.parsed.ip, x.parsed.l4, x.udp with
  | some ip, some l4, some (b, _) =>
    let n := b.length - 4
    let body := b.take n
    let sum := icrc x.parsed.v6 ((x.data.take l4).drop ip) (slice x.data l4 8) body
    let o := u8 b 0
    let pad := bits (u8 b 1) 5 4
    let r := if rHasReth o then 16 else 0
    let a := if rHasAeth o then 4 else 0
    let i := if rHasImm o then 4 else 0
    let hd := 12 + r + a + i
    if b.length < hd + pad + 4 ∨ le (b.drop n) ≠ sum then none
    else some {
      opcode := o, pkey := fldBe b 2 2, qp := fldBe b 5 3, ackReq := bit (u8 b 8) 7, psn := fldBe b 9 3,
      va := if r = 0 then 0 else fldBe b 12 8, rkey := if r = 0 then 0 else fldBe b 20 4,
      dmaLen := if r = 0 then 0 else fldBe b 24 4, synd := if a = 0 then 0 else u8 b (12 + r),
      imm := if i = 0 then 0 else fldBe b (12 + r + a) 4, payload := (body.drop hd).take (n - hd - pad), ce := x.ce }
  | _, _, _ => none

/-- Distance of 24-bit PSNs. -/
def ahead24 (a b : Nat) : Nat := (a + 2 ^ 24 - b) % 2 ^ 24

/-- Queue a RoCEv2 packet of a connection (log entry 78, DEDUCED). -/
def State.wireR (s : State) (c : Nat) (k : Conn) (p : RPkt) (psn : Option Nat) (ctl : Bool) : State :=
  let sub := k.par.pathSub 0
  let (i, s) := s.draw 16
  let p := { p with pkey := k.par.pkey, qp := k.par.rconn }
  let b := roceFrame (k.par.hdr 0 sub 4791) i (p.bytes k.rc.msn)
  s.joinMember k.spoke sub { data := b, cls := k.par.cls, conn := psn.map fun n => (c, n), ctl := ctl }

/-! ## The requester's stream -/

/-- READ requests that are outstanding. -/
def Conn.readsOut (k : Conn) : Nat := (k.out.filter fun p => match p.wire with
  | .r r => r.opcode == 0xC
  | .y _ => false).length

/-- R308: send packets of the stream while 1,024 packets, 16 reads, the link and an RNR wait allow
(log entry 79, DEDUCED). -/
def State.admitR (s : State) (c : Nat) : Nat → State
  | 0 => s
  | n + 1 =>
    match s.conn c with
    | none => s
    | some k =>
      if k.phase != .active || k.dying.isSome || decide (1024 ≤ k.out.length) || k.rc.rnrAt.isSome || !s.pathUp k 0 then s
      else match k.txq with
        | [] => s
        | p :: t => match p.wire with
          | .y _ => s
          | .r r =>
            if r.opcode = 0xC ∧ 16 ≤ k.readsOut then s
            else
              let p := { p with sent := s.now, order := k.order }
              let k := { k with txq := t, out := k.out ++ [p], order := k.order + 1 }
              State.admitR ((s.setConn c k).wireR c k r (some p.psn) false) c n

/-- R309, R310: send the unacknowledged packets again from a PSN (log entry 79, DEDUCED). -/
def State.goBack (s : State) (c psn : Nat) : State :=
  match s.conn c with
  | none => s
  | some k =>
    if !s.pathUp k 0 then s.modConn c fun k => { k with out := k.out.map fun p => { p with waiting := true } }
    else
      (k.out.filter fun p => decide (ahead24 p.psn psn < 2 ^ 23)).foldl (fun s p =>
        match p.wire with
        | .r r => (s.xcount 7).wireR c k r (some p.psn) false
        | .y _ => s) s

/-- Packets after which the connection goes on are released, then completed work requests end. -/
def State.releaseR (s : State) (c : Nat) (p : OutPkt → Bool) : State :=
  match s.conn c with
  | none => s
  | some k =>
    let s := s.setConn c { k with out := k.out.filter fun x => !p x, rc := { k.rc with rnrTries := 0 } }
    (s.admitR c k.txq.length).completeWorks c

/-- The READ of the stream that is incomplete and stands before a PSN. -/
def Conn.readBefore (k : Conn) (psn : Nat) : Option OutPkt :=
  k.out.find? fun p => match p.wire with
    | .r r => r.opcode == 0xC && decide (ahead24 psn p.psn < 2 ^ 23)
    | .y _ => false

/-- Release everything up to and including a PSN, not past an incomplete READ, which is then sent again. -/
def State.ackedTo (s : State) (c psn : Nat) : State :=
  match s.conn c with
  | none => s
  | some k =>
    match k.readBefore psn with
    | none => s.releaseR c fun p => decide (ahead24 psn p.psn < 2 ^ 23)
    | some r => (s.releaseR c fun p => decide (0 < ahead24 r.psn p.psn) && decide (ahead24 r.psn p.psn < 2 ^ 23)).goBack c r.psn

/-- The RNR timer values in units of 10 µs, by code (log entry 75, PRESUMED). -/
def rnrTimers : List Nat := [65536, 1, 2, 3, 4, 6, 8, 12, 16, 24, 32, 48, 64, 96, 128, 192, 256, 384, 512, 768, 1024, 1536,
  2048, 3072, 4096, 6144, 8192, 12288, 16384, 24576, 32768, 49152]

/-- R310, R311: an ACK, an RNR NAK or a NAK arrives at the requester (log entry 75, PRESUMED). -/
def State.roceAck (s : State) (c : Nat) (p : RPkt) : State :=
  let kind := bits p.synd 7 5
  let prev := (p.psn + 2 ^ 24 - 1) % 2 ^ 24
  if kind = 0 then s.ackedTo c p.psn
  else if kind = 1 then
    match s.conn c with
    | none => s
    | some k =>
      let n := k.rc.rnrTries + 1
      if k.par.rnrRetry ≠ 7 ∧ k.par.rnrRetry < n then s.connError c p.psn .timeout
      else
        let s := s.ackedTo c prev
        s.modConn c fun k =>
          let rc := { k.rc with rnrTries := n, rnrAt := some (p.psn, s.now + 10000 * rnrTimers.getD (bits p.synd 4 0) 1) }
          { k with rc := rc }
  else if p.synd = 0x60 then (s.ackedTo c prev).goBack c p.psn
  else if kind = 3 then (s.ackedTo c prev).connError c p.psn .accessViolation
  else s

/-- A READ response arrives at the requester: only the next one of the oldest READ is placed. -/
def State.roceResp (s : State) (c : Nat) (p : RPkt) (ans : HostAns) : State :=
  match s.conn c with
  | none => s
  | some k =>
    match k.readBefore p.psn with
    | none => s
    | some r =>
      match k.works.find? fun w => some w.op == r.wr with
      | none => s
      | some w =>
        let m := 2 ^ k.par.log2
        if ahead24 p.psn r.psn ≠ w.placed / m ∨ s.destLater k.spoke then s
        else
          let (s, st) := match s.placeBytes k.spoke (w.local_ + w.placed) p.payload false ans with
            | (s, .reject st) => (s, some st)
            | (s, .ok) => (s, some .success)
            | (s, .retry) => (s, none)
          match st with
          | none => s
          | some st =>
            let last := p.opcode == 0xF || p.opcode == 0x10
            let upd (x : Work) : Work := if x.op = w.op then
              { x with placed := x.placed + p.payload.length, respDone := last, status := x.status.worse st } else x
            let s := s.modConn c fun k => { k with works := k.works.map upd }
            if last then s.releaseR c fun x => decide (ahead24 r.psn x.psn < 2 ^ 23)
            else s

/-! ## The responder (R309-R311) -/

/-- Send an Acknowledge packet with a syndrome. -/
def State.roceSendAck (s : State) (c psn synd : Nat) : State :=
  match s.conn c with
  | none => s
  | some k => s.wireR c k { opcode := 0x11, psn := psn, synd := synd } none true

/-- The oldest RECV of a connection posted on a queue that no message has begun to fill (log entry 76, DEDUCED). -/
def State.postedRecv (s : State) (c q : Nat) : Option (Nat × Op) :=
  (s.host.ops.find? fun (i, o) => o.queue == q && o.posted && o.phase == .started && dOpcode o.desc == 0x20 &&
    u32 o.desc 16 % 2 ^ 24 == c &&
    !(match s.conn c with
      | some k => k.rc.recv == some i
      | none => false))

/-- R286, R309: a RECV ends: its completion is the target notification in RX_CQ (log entry 76, DEDUCED). -/
def State.endRecv (s : State) (c o : Nat) (st : Status) (n : Nat) (imm : Option Nat) (ans : HostAns) : State :=
  match s.conn c, s.op o with
  | some k, some x =>
    let upd := match s.queue x.queue with
      | some q => s.updateOf { x with status := st } q
      | none => none
    let s := { s with host.ops := Map.erase s.host.ops o }
    let d : Due := { cookie := dCookie x.desc, count := n, status := st, kind := 0x12, flags := 1 + 2 * b2n imm.isSome,
                     queue := x.queue, consumer := x.consumer, detail := c + 2 ^ 32 * imm.getD 0, upd := upd, irq := dIrq x.desc
                     since := some x.since }
    let s := match s.queue k.par.rxCq with
      | some _ => (s.modQueue k.par.rxCq fun q => { q with due := q.due ++ [d] }).flush k.par.rxCq ans
      | none => match upd with
        | some u => s.sendUpdate u
        | none => s
    s.startFenced x.queue
  | _, _ => s

/-- R311: a rejection is fatal to the connection. -/
def State.roceFatal (s : State) (c : Nat) (p : RPkt) (synd : Nat) (st : Status) (off : Nat) (ans : HostAns) : State :=
  match s.conn c with
  | none => s
  | some k =>
    let s := s.roceSendAck c p.psn synd
    let key := p.rkey % 2 ^ 20
    let s := s.postEvent (if synd = 0x62 then s.remoteSpoke k.spoke key else k.spoke) 0x0401
      (c + 2 ^ 24 * (p.rkey / 2 ^ 20) + 2 ^ 40 * key) off st 0x3FFFF
    let s := match k.rc.recv with
      | some o => s.endRecv c o .accessViolation 0 none ans
      | none => s
    s.connErrorOp c p.psn none st

/-- R310: a RetryLater RNR NAK. -/
def State.roceLater (s : State) (c : Nat) (p : RPkt) : State := (s.xcount 6).roceSendAck c p.psn 0x21

/-- An in-order packet has been accepted: the expected PSN moves, and an ACK goes out when asked for. -/
def State.roceTaken (s : State) (c : Nat) (p : RPkt) (n : Nat) (msgEnd : Bool) : State :=
  let s := s.modConn c fun k =>
    let rc := { k.rc with expected := (p.psn + n) % 2 ^ 24, seqNak := false, msn := (k.rc.msn + b2n msgEnd) % 2 ^ 24 }
    { k with rc := rc }
  if p.ackReq && p.opcode != 0xC then s.roceSendAck c p.psn 0x1F else s

/-- R303: the key check of RoCEv2; the region offset that a virtual address names. -/
def State.roceKey (s : State) (spoke rkey va len : Nat) (write : Bool) : Status × Nat :=
  let key := rkey % 2 ^ 20
  let base := (s.region key).addr
  let st := s.keyCheckY spoke key (rkey / 2 ^ 20) (va - base) len write true
  (if st == .success && decide (va < base) then .accessViolation else st, va - base)

/-- A SEND packet, in order (log entry 75, PRESUMED). -/
def State.roceSend (s : State) (c : Nat) (k : Conn) (p : RPkt) (ans : HostAns) : State :=
  let first := p.opcode == 0 || p.opcode == 4 || p.opcode == 5
  let last := p.opcode == 2 || p.opcode == 3 || p.opcode == 4 || p.opcode == 5
  let imm := if rHasImm p.opcode then some p.imm else none
  if first == k.rc.recv.isSome || (first && k.rc.writeLeft != 0) then s.roceFatal c p 0x61 .accessViolation 0 ans
  else if s.destLater k.spoke then s.roceLater c p
  else match (if first then s.postedRecv c k.par.rxq else k.rc.recv.bind fun o => (s.op o).map fun x => (o, x)) with
    | none => s.roceSendAck c p.psn 0x2C
    | some (o, x) =>
      let off := if first then 0 else k.rc.recvOff
      if u32 x.desc 48 < off + p.payload.length then
        (s.modConn c fun k => { k with rc := { k.rc with recv := some o } }).roceFatal c p 0x61 .accessViolation 0 ans
      else match s.placeBytes k.spoke (u64 x.desc 32 + off) p.payload false ans with
        | (s, .retry) => s.roceLater c p
        | (s, .reject st) =>
          (s.modConn c fun k => { k with rc := { k.rc with recv := some o } }).roceFatal c p 0x62 st 0 ans
        | (s, .ok) =>
          let n := off + p.payload.length
          let s := s.modConn c fun k => { k with rc := { k.rc with recv := if last then none else some o, recvOff := n } }
          (if last then s.endRecv c o .success n imm ans else s).roceTaken c p 1 last

/-- An RDMA WRITE packet, in order (log entry 75, PRESUMED). -/
def State.roceWrite (s : State) (c : Nat) (k : Conn) (p : RPkt) (ans : HostAns) : State :=
  let first := p.opcode == 6 || p.opcode == 0xA || p.opcode == 0xB
  let last := p.opcode == 8 || p.opcode == 9 || p.opcode == 0xA || p.opcode == 0xB
  let left := if first then p.dmaLen else k.rc.writeLeft
  let va := if first then p.va else k.rc.writeVa
  let rkey := if first then p.rkey else k.rc.writeKey
  let total := if first then p.dmaLen else k.rc.writeTotal
  let n := p.payload.length
  if (!first && k.rc.writeLeft = 0) || (first && (k.rc.writeLeft != 0 || k.rc.recv.isSome)) || decide (left < n) ||
      (last && left != n) || (!last && left = n) then s.roceFatal c { p with rkey := rkey } 0x61 .accessViolation 0 ans
  else
    let recv := if rHasImm p.opcode then s.postedRecv c k.par.rxq else none
    let (st, off) := if total = 0 then (.success, 0) else s.roceKey k.spoke rkey va (if first then total else n) true
    if st != .success then s.roceFatal c { p with rkey := rkey } 0x62 st off ans
    else if n != 0 && s.destLater k.spoke then s.roceLater c p
    else if rHasImm p.opcode && recv.isNone then s.roceSendAck c p.psn 0x2C
    else match (if n = 0 then (s, .ok) else s.placeBytes k.spoke ((s.region (rkey % 2 ^ 20)).addr + off) p.payload false ans) with
      | (s, .retry) => s.roceLater c p
      | (s, .reject st) => s.roceFatal c { p with rkey := rkey } 0x62 st off ans
      | (s, .ok) =>
        let s := s.modConn c fun k =>
          let rc := { k.rc with writeVa := va + n, writeKey := rkey, writeLeft := left - n, writeTotal := total }
          { k with rc := rc }
        let s := match recv with
          | some (o, _) => s.endRecv c o .success total (some p.imm) ans
          | none => s
        s.roceTaken c p 1 last

/-- The responses to an RDMA READ request (log entry 74, DEDUCED). -/
def readResps (psn : Nat) : Nat → Nat → List (Bytes × Bool) → List RPkt
  | _, _, [] => []
  | i, n, (b, ep) :: t =>
    if ep then []
    else
      let o := if n = 1 then 0x10 else if i = 0 then 0xD else if i + 1 = n then 0xF else 0xE
      { opcode := o, psn := (psn + i) % 2 ^ 24, synd := 0x1F, payload := b } :: readResps psn (i + 1) n t

/-- An RDMA READ request, in order or again (R309, R312: from a poisoned packet on, no response is sent). -/
def State.roceRead (s : State) (c : Nat) (k : Conn) (p : RPkt) (again : Bool) (ans : HostAns) : State :=
  let m := 2 ^ k.par.log2
  let n := max 1 (ceilDiv p.dmaLen m)
  let (st, off) := if p.dmaLen = 0 then (.success, 0) else s.roceKey k.spoke p.rkey p.va p.dmaLen false
  if st != .success then s.roceFatal c p 0x62 st off ans
  else if p.dmaLen != 0 && s.destLater k.spoke then s.roceLater c p
  else
    let (s, l, r) := s.readPackets k.spoke ((s.region (p.rkey % 2 ^ 20)).addr + off) m ans n 0 p.dmaLen
    if r.status != .success then
      match s.placeFail k.spoke r with
      | (s, .reject st) => s.roceFatal c p 0x62 st off ans
      | (s, _) => s.roceLater c p
    else
      let l := if p.dmaLen = 0 then [([], false)] else l
      let s := if again then s else s.roceTaken c p n true
      match s.conn c with
      | none => s
      | some k => (readResps p.psn 0 n l).foldl (fun s x => s.wireR c k x none false) s

/-- R309: a request packet at the responder. -/
def State.roceRequest (s : State) (c : Nat) (k : Conn) (p : RPkt) (ans : HostAns) : State :=
  let d := ahead24 p.psn k.rc.expected
  if d = 0 then
    if 2 ^ k.par.log2 < p.payload.length then s.roceFatal c p 0x61 .accessViolation 0 ans
    else if p.opcode = 0xC then s.roceRead c k p false ans
    else if p.opcode ≤ 5 then s.roceSend c k p ans
    else s.roceWrite c k p ans
  else if d < 2 ^ 23 then
    if k.rc.seqNak then s
    else ((s.setConn c { k with rc := { k.rc with seqNak := true } }).xcount 11).roceSendAck c k.rc.expected 0x60
  else if p.opcode = 0xC then s.roceRead c k p true ans
  else s.roceSendAck c ((k.rc.expected + 2 ^ 24 - 1) % 2 ^ 24) 0x1F

/-! ## Congestion (R308) -/

/-- The rate of a connection's sub-port in Mb/s, and the connection's rate. -/
def State.roceFull (s : State) (k : Conn) : Nat := s.subRate (k.par.pathSub 0) * 1000
/-- Log entry 77, DESIGN CHOICE. -/
def State.roceRate (s : State) (k : Conn) : Nat := if k.rc.rate = 0 then s.roceFull k else k.rc.rate

/-- A CNP halves the rate, at most once per 50 µs (log entry 77, DESIGN CHOICE). -/
def State.roceCnp (s : State) (c : Nat) (k : Conn) : State :=
  match k.rc.cnpGot with
  | some t => if s.now < t + 50000 then s else
    s.setConn c { k with rc := { k.rc with cnpGot := some s.now, rate := max 1 (s.roceRate k / 2) } }
  | none => s.setConn c { k with rc := { k.rc with cnpGot := some s.now, rate := max 1 (s.roceRate k / 2) } }

/-- A packet with CE is answered with a CNP, at most once per 50 µs. -/
def State.roceCe (s : State) (c : Nat) (k : Conn) (p : RPkt) : State × Conn :=
  let due := match k.rc.cnpSent with
    | some t => decide (t + 50000 ≤ s.now)
    | none => true
  if p.ce && due then
    let k := { k with rc := { k.rc with cnpSent := some s.now } }
    ((s.setConn c k).wireR c k { opcode := 0x81, payload := zeros 16 } none true, k)
  else (s, k)

/-! ## Commands -/

/-- ROCE_PACKET_RECEIVED (R308, R309) (log entry 65, DEDUCED). -/
def State.roceReceived (s : State) (i : Nat) (ans : HostAns) : State :=
  match Map.get s.xpt.rx i with
  | none => s
  | some x =>
    if x.dport ≠ 4791 then s
    else
      let s := { s with xpt.rx := Map.erase s.xpt.rx i }
      match x.roce with
      | none => s.xcount 10
      | some p =>
        match s.conn p.qp with
        | none => s.xcount 10
        | some k =>
          if !k.roce || k.phase != .active || k.dying.isSome || p.pkey != k.par.pkey ||
              !(decide (p.opcode ≤ 0x11) || p.opcode == 0x81) then s.xcount 10
          else
            let s := s.touchCtx p.qp k.par
            if p.opcode = 0x81 then s.roceCnp p.qp k
            else
              let (s, k) := s.roceCe p.qp k p
              if p.opcode = 0x11 then s.roceAck p.qp p
              else if 0xD ≤ p.opcode then s.roceResp p.qp p ans
              else s.roceRequest p.qp k p ans

def execRocePacketReceived (i : Nat) (ans : HostAns) (s : State) : Outcome := .next (s.roceReceived i ans)

/-- ROCE_ACK_TIMEOUT (R311). -/
def State.roceTimeout (s : State) (c psn : Nat) : State :=
  match s.conn c with
  | none => s
  | some k =>
    match k.out.find? fun p => p.psn == psn with
    | none => s
    | some p =>
      if !k.roce || k.rc.rnrAt.isSome then s
      else
        let s := { s with now := max s.now (p.sent + 4096 * 2 ^ k.par.timeout) }
        let s := s.xcount 8
        if k.par.retryLimit ≤ p.tries then s.connError c psn .timeout
        else
          let out := k.out.map fun q => if q.psn = psn then { q with tries := q.tries + 1, sent := s.now } else q
          (s.setConn c { k with out := out }).goBack c psn

def execRoceAckTimeout (c psn : Nat) (s : State) : Outcome := .next (s.roceTimeout c psn)

/-- RNR_TIMER (R310). -/
def State.rnrTimer (s : State) (c : Nat) : State :=
  match s.conn c with
  | none => s
  | some k =>
    match k.rc.rnrAt with
    | none => s
    | some (psn, t) =>
      let s := State.setConn { s with now := max s.now t } c { k with rc := { k.rc with rnrAt := none } }
      (s.goBack c psn).admitR c k.txq.length

def execRnrTimer (c : Nat) (s : State) : Outcome := .next (s.rnrTimer c)

/-- ROCE_RATE_RECOVERY (R308): the rate rises by 1/16 of the sub-port rate (log entry 77, DESIGN CHOICE). -/
def State.rateRecovery (s : State) (c : Nat) : State :=
  match s.conn c with
  | none => s
  | some k =>
    if !k.roce || k.rc.rate = 0 then s
    else
      let r := k.rc.rate + s.roceFull k / 16
      s.setConn c { k with rc := { k.rc with rate := if s.roceFull k ≤ r then 0 else r } }

def execRoceRateRecovery (c : Nat) (s : State) : Outcome := .next (s.rateRecovery c)

end Sys2Proof.Machine
end

