-- ==== Sys2Proof/Machine/Works.lean ====
section
/-! DEFINITION. The work requests of TRANSPORT queues: WRITE, WRITE_TAG, READ, SEND, RECV (R284-R288, R297, R307, R312). -/

namespace Sys2Proof.Machine
open Sys2Proof

/-- The fields of a TRANSPORT descriptor (R284). -/
def tConn (d : Bytes) : Nat := u32 d 16 % 2 ^ 24
def tKey (d : Bytes) : Nat := u32 d 20
def tKeyGen (d : Bytes) : Nat := u16 d 24
def tLocal (d : Bytes) : Nat := u64 d 32
def tRemote (d : Bytes) : Nat := u64 d 40
def tLength (d : Bytes) : Nat := u32 d 48
def tTag (d : Bytes) : Nat := u64 d 56
def tUnordered (d : Bytes) : Bool := bit (dKindWord d) 0

/-- R285: whether a connection's mode permits an opcode. -/
def modeAllows (roce : Bool) (opc : Nat) : Bool :=
  if opc = 1 ∨ opc = 3 then true else if opc = 2 then !roce else roce && (opc == 4 || opc == 5 || opc == 6 || opc == 0x20)

/-- The checks of a work request at its start (R281, R284, R285): the status that ends it, SUCCESS when it goes on. -/
def State.workCheck (s : State) (x : Op) (q : Queue) : Status :=
  match s.conn (tConn x.desc) with
  | none => .notPermitted
  | some k =>
    let opc := dOpcode x.desc
    if k.spoke ≠ q.spoke ∨ k.dying.isSome then .notPermitted
    else if k.roce ∧ tKeyGen x.desc ≠ 0 then .malformed
    else if !modeAllows k.roce opc ∨ bit q.kindWord 0 ≠ (opc == 0x20) then .notPermitted
    else if k.phase = .error then .flushed
    else .success

/-- Read the local buffer of a work request: its packets and the status that their marks give (R180, R307), or none when
the operation parked or ended (log entry 74, DEDUCED). -/
def State.readLocal (s : State) (o : Nat) (x : Op) (q : Queue) (m : Nat) (ans : HostAns) :
    State × Option (List (Bytes × Bool) × Status) :=
  let n := tLength x.desc
  if n = 0 then (s, some ([([], false)], .success))
  else
    let (s, l, r) := s.readPackets q.spoke (tLocal x.desc) m ans (n / m + 1) 0 n
    if r.status = .success then (s, some (l, withMarks .success r.poisoned r.medium))
    else if s.pages q.spoke r then (s.parkOp o (tLocal x.desc + r.done) q.spoke r, none)
    else (s.finish o r.status 0 (2 ^ 32 * tConn x.desc), none)

/-- The packets of a Yekel write. -/
def writePkts (d : Bytes) (op msg m n : Nat) : Nat → List (Bytes × Bool) → List (YPkt × Option Nat × Option Nat)
  | _, [] => []
  | i, (b, ep) :: t =>
    let last := i + 1 == n
    let tag := dOpcode d == 2
    ({ opcode := dOpcode d, poison := ep, ordered := !tUnordered d, last := last, ackReq := last, first := i == 0
       msg := msg, offset := tRemote d + i * m, key := tKey d, keyGen := tKeyGen d, payload := b
       tag := if tag && last then tTag d else 0 : YPkt }, some op, none) :: writePkts d op msg m n (i + 1) t

/-- R297: take the next message id of a connection. -/
def Conn.takeMsg (k : Conn) (unordered : Bool) : Nat × Conn :=
  if unordered then (k.msgU, { k with msgU := (k.msgU + 1) % 2 ^ 32 }) else (k.msgO, { k with msgO := (k.msgO + 1) % 2 ^ 32 })

/-- Put a work request on its connection and its packets in the stream. -/
def State.putWork (s : State) (c o : Nat) (w : Work) (l : List (YPkt × Option Nat × Option Nat)) : State :=
  ((s.modConn c fun k => { k with works := k.works ++ [w] }).modOp o fun x => { x with posted := true }).stream c l

/-- WRITE and WRITE_TAG on a Yekel connection (R287, R288, R297, R307). -/
def State.yWrite (s : State) (o : Nat) (x : Op) (q : Queue) (k : Conn) (ans : HostAns) : State :=
  let c := tConn x.desc
  let m := 2 ^ k.par.log2
  match s.readLocal o x q m ans with
  | (s, none) => s
  | (s, some (l, st)) =>
    let (msg, k) := k.takeMsg (tUnordered x.desc)
    let w : Work := { op := o, msg := msg, ordered := !tUnordered x.desc, read := false, length := tLength x.desc
                      local_ := tLocal x.desc, status := st, first := k.psn, count := l.length }
    ((s.setConn c k).touchCtx c k.par).putWork c o w (writePkts x.desc o msg m l.length 0 l)

/-- READ on a Yekel connection: one READ_REQUEST (R288). -/
def State.yRead (s : State) (o : Nat) (x : Op) (k : Conn) : State :=
  let c := tConn x.desc
  let (msg, k) := k.takeMsg (tUnordered x.desc)
  let w : Work := { op := o, msg := msg, ordered := !tUnordered x.desc, read := true, length := tLength x.desc
                    local_ := tLocal x.desc, first := k.psn, count := 1 }
  let p : YPkt := { opcode := 3, ordered := !tUnordered x.desc, last := true, ackReq := true, first := true, msg := msg
                    offset := tRemote x.desc, key := tKey x.desc, keyGen := tKeyGen x.desc, payload := toLe 8 (tLength x.desc) }
  ((s.setConn c k).touchCtx c k.par).putWork c o w [(p, some o, none)]

/-- The RoCEv2 opcode of packet `i` of `n` of an operation. -/
def rOpcode (opc i n : Nat) : Nat :=
  let imm := opc == 5 || opc == 6
  let base := if opc = 4 ∨ opc = 5 then 0 else 6
  if n = 1 then base + (if imm then 5 else 4)
  else if i = 0 then base
  else if i + 1 = n then base + (if imm then 3 else 2)
  else base + 1

/-- The packets of a RoCEv2 SEND or WRITE from index `i` on. -/
def roceDataPkts (d : Bytes) (n : Nat) : Nat → List (Bytes × Bool) → List RPkt
  | _, [] => []
  | i, (b, _) :: t =>
    let o := rOpcode (dOpcode d) i n
    let r := rHasReth o
    { opcode := o, ackReq := i + 1 == n, va := if r then tRemote d else 0, rkey := if r then tKey d else 0
      dmaLen := if r then tLength d else 0, imm := tTag d % 2 ^ 32, payload := b : RPkt } :: roceDataPkts d n (i + 1) t

/-- Put RoCEv2 packets at the end of a connection's stream; a READ takes one PSN for each response. -/
def State.streamR (s : State) (c : Nat) (op : Nat) (l : List (RPkt × Nat)) : State :=
  match s.conn c with
  | none => s
  | some k =>
    let k := l.foldl (fun (k : Conn) (p, n) =>
      { k with txq := k.txq ++ [{ wire := .r { p with psn := k.psn }, psn := k.psn, wr := some op : OutPkt }]
               psn := (k.psn + n) % 2 ^ 24 }) k
    (s.setConn c k).admitR c k.txq.length

/-- R312: packets before a poisoned one leave, and the connection fails. -/
def State.rocePoison (s : State) (c o msg : Nat) (st : Status) (l : List RPkt) : State :=
  match s.conn c with
  | none => s
  | some k =>
    let s := (l.zipIdx).foldl (fun s (p, i) => s.wireR c k { p with psn := (k.psn + i) % 2 ^ 24 } none false) s
    (s.finish o st 0 (msg + 2 ^ 32 * c)).connErrorOp c ((k.psn + l.length) % 2 ^ 24) (some o) st

/-- A RoCEv2 WRITE, SEND or their immediate forms (R308, R312) (log entry 74, DEDUCED). -/
def State.rSend (s : State) (o : Nat) (x : Op) (q : Queue) (k : Conn) (ans : HostAns) : State :=
  let c := tConn x.desc
  match s.readLocal o x q (2 ^ k.par.log2) ans with
  | (s, none) => s
  | (s, some (l, st)) =>
    let (msg, k) := k.takeMsg false
    let good := l.takeWhile fun p => !p.2
    let pk := roceDataPkts x.desc l.length 0 good
    let s := (s.setConn c k).touchCtx c k.par
    if good.length < l.length then
      if good = [] then s.finish o st 0 (msg + 2 ^ 32 * c) else s.rocePoison c o msg st pk
    else
      let w : Work := { op := o, msg := msg, ordered := false, read := false, length := tLength x.desc
                        local_ := tLocal x.desc, first := k.psn, count := l.length }
      let s := (s.modConn c fun k => { k with works := k.works ++ [w] }).modOp o fun x => { x with posted := true }
      s.streamR c o (pk.map fun p => (p, 1))

/-- A RoCEv2 READ. -/
def State.rRead (s : State) (o : Nat) (x : Op) (k : Conn) : State :=
  let c := tConn x.desc
  let (msg, k) := k.takeMsg false
  let n := max 1 (ceilDiv (tLength x.desc) (2 ^ k.par.log2))
  let w : Work := { op := o, msg := msg, ordered := false, read := true, length := tLength x.desc
                    local_ := tLocal x.desc, first := k.psn, count := n }
  let s := (s.setConn c k).touchCtx c k.par
  let s := (s.modConn c fun k => { k with works := k.works ++ [w] }).modOp o fun x => { x with posted := true }
  s.streamR c o [({ opcode := 0xC, ackReq := true, va := tRemote x.desc, rkey := tKey x.desc, dmaLen := tLength x.desc }, n)]

/-- Start a work request of an opcode: its checks, then its effect by the connection's kind.  On a connection in INIT it
waits, since only CONN_CONNECT starts sending (R281) (log entry 67, DEDUCED). -/
def State.work (s : State) (o opc : Nat) (ans : HostAns) : State :=
  match s.running o .transport with
  | none => s
  | some (x, q) =>
    if dOpcode x.desc ≠ opc ∨ x.posted then s
    else
      let st := s.workCheck x q
      if st ≠ .success then s.finish o st 0 0
      else if opc = 0x20 then s.modOp o fun x => { x with posted := true }
      else match s.conn (tConn x.desc) with
        | none => s
        | some k =>
          if k.phase == .init then s
          else if opc = 3 then (if k.roce then s.rRead o x k else s.yRead o x k)
          else if k.roce then s.rSend o x q k ans
          else s.yWrite o x q k ans

/-- WRITE. -/
def execWrite (o : Nat) (ans : HostAns) (s : State) : Outcome := .next (s.work o 1 ans)

/-- WRITE_TAG. -/
def execWriteTag (o : Nat) (ans : HostAns) (s : State) : Outcome := .next (s.work o 2 ans)

/-- READ. -/
def execRead (o : Nat) (s : State) : Outcome := .next (s.work o 3 (.ok [] false))

/-- SEND_MESSAGE. -/
def execSendMessage (o : Nat) (ans : HostAns) (s : State) : Outcome := .next (s.work o 4 ans)

/-- SEND_IMM. -/
def execSendImm (o : Nat) (ans : HostAns) (s : State) : Outcome := .next (s.work o 5 ans)

/-- WRITE_IMM. -/
def execWriteImm (o : Nat) (ans : HostAns) (s : State) : Outcome := .next (s.work o 6 ans)

/-- RECV. -/
def execRecv (o : Nat) (s : State) : Outcome := .next (s.work o 0x20 (.ok [] false))

end Sys2Proof.Machine
end

