-- ==== Sys2Proof/Machine/Links.lean ====
section
/-! DEFINITION. Ethernet links: port commits and links that fall and rise (R26, R210, R214, R215, R290). -/

namespace Sys2Proof.Machine
open Sys2Proof

/-- R290: the unacknowledged Yekel packets last sent on a sub-port's paths go out again on other paths; RoCEv2
connections, which have one path, wait. -/
def State.movePaths (s : State) (sub : Nat) : State :=
  s.xpt.conns.foldl (fun s (c, k) =>
    if k.roce || k.phase != .active || k.dying.isSome then s
    else (k.out.filter fun p => k.par.pathSub p.path == sub).foldl (fun s p => s.resend c p.psn (some p.path)) s) s

/-- Whether a transport frame waits for its sub-port: that of a RoCEv2 connection. -/
def State.frameStays (s : State) (x : TxFrame) : Bool :=
  match x.conn with
  | some (c, _) => match s.conn c with
    | some k => k.roce
    | none => false
  | none => false

/-- R215: the frames of PACKET_SEND queues that wait for a sub-port complete RETRY_LATER. -/
def State.failSends (s : State) (sub : Nat) : State :=
  (s.host.ops.filter fun (_, x) => x.posted && x.phase == .started && (match s.queue x.queue with
    | some q => q.kind == .packetSend && q.sub == sub
    | none => false)).foldl (fun s x => s.finish x.1 .retryLater 0 0) s

/-- R215, R290: a sub-port's link goes down. -/
def State.linkDown (s : State) (sub : Nat) : State :=
  if !s.net.up.contains sub then s
  else
    let s := { s with net.up := setDel s.net.up sub }
    let t := s.sch.xpt.map fun (k, l) => (k, if k / 8 / 4096 = sub then l.filter s.frameStays else l)
    (State.failSends { s with sch.xpt := t } sub).movePaths sub

def execSubportLinkDown (sub : Nat) (s : State) : Outcome := .next (s.linkDown sub)

/-- Whether both die-to-die W ports of a port's pair are out of service (R26). -/
def State.wPairDown (s : State) (i : Nat) : Bool :=
  let w := s.rfield aD2d 7 0
  bit w (i / 2 * 2) && bit w (i / 2 * 2 + 1)

/-- A connection goes on when a link is up again. -/
def State.resumeAll (s : State) (c : Nat) : State :=
  match s.conn c with
  | none => s
  | some k =>
    if !k.roce then s.resumeConn c
    else match k.out.find? OutPkt.waiting with
      | some p =>
        let s := s.setConn c { k with out := k.out.map fun q => { q with waiting := false } }
        (s.goBack c p.psn).admitR c k.txq.length
      | none => s.admitR c k.txq.length

/-- R210: the lanes of a sub-port: 4 in one, 2 in two, 1 in four. -/
def State.subLanes (s : State) (sub : Nat) : List Nat :=
  let n := 4 / max 1 (modeSubports (s.portMode (sub / 4)))
  (List.range n).map fun i => sub / 4 * 4 + sub % 4 * n + i

/-- R26, R72, R592: a sub-port stays down without its die-to-die pair, its Ethernet reference or one of its lanes. -/
def State.mayRise (s : State) (sub : Nat) : Bool :=
  s.subExists sub && !s.wPairDown (sub / 4) && !s.brd.pll.contains (if sub < 16 then 2 else 3) &&
  (s.subLanes sub).all fun l => !s.brd.badLanes.contains l

/-- R215: a sub-port's link comes up. -/
def State.linkRise (s : State) (sub : Nat) : State :=
  if !s.mayRise sub then s
  else
    let s := { s with net.up := setIns s.net.up sub }
    (Map.keys s.xpt.conns).foldl (fun s c => s.resumeAll c) s

def execSubportLinkUp (sub : Nat) (s : State) : Outcome := .next (s.linkRise sub)

/-- R214: the packets held in a port's ingress and egress buffers are discarded and counted. -/
def State.discardPort (s : State) (i : Nat) : State :=
  let mine (k : Pkt) : Bool := k.sub / 4 == i
  let a := (s.net.lookups.map Lookup.pkt).filter mine ++ (s.net.decrypts.map fun d => d.2.pkt).filter mine
  let s := a.foldl (fun s k => (s.inFlight k.tag false).dropCount k.sub 1) s
  let s := (s.net.held.filter fun h => h.sub / 4 == i).foldl (fun s h => s.dropCount h.sub 1) s
  let ours (q : Nat) : Bool := match s.queue q with
    | some x => x.sub / 4 == i
    | none => false
  let fw := s.sch.queues.filter fun x => ours x.1
  let s := fw.foldl (fun s x => (x.2.filter fun f => f.op.isNone).foldl (fun s _ =>
    s.dropCount (match s.queue x.1 with
      | some q => q.sub
      | none => 0) 1) s) s
  { s with
    net.lookups := s.net.lookups.filter fun x => !mine x.pkt
    net.decrypts := s.net.decrypts.filter fun x => !mine x.2.pkt
    net.held := s.net.held.filter fun h => h.sub / 4 != i
    sch.queues := s.sch.queues.map fun (q, l) => (q, if ours q then l.filter fun f => f.op.isSome else l) }

/-- R214: COMMIT of a port. -/
def State.portCommit (s : State) (i : Nat) : State :=
  let v := s.rget (aPortCfg i)
  let mode := bits v 1 0
  let gone := s.host.queues.any fun (_, q) => q.kind == .packetSend && q.sub / 4 == i && decide (modeSubports mode ≤ q.sub % 4)
  if bits v 21 8 < 1518 ∨ 9216 < bits v 21 8 ∨ gone then s.rset (aPortCfg i) 7 7 1
  else
    let s := (List.range 4).foldl (fun s j => s.linkDown (4 * i + j)) s
    let s := (s.discardPort i).restartUnits [89 + i]
    let s := { s with net.mode := Map.put s.net.mode i (setBits (setBits v 6 6 0) 63 22 0) }
    (List.range (modeSubports mode)).foldl (fun s j => s.emit (.trained (4 * i + j))) s

/-- PORT_COMMIT. -/
def execPortCommit (i : Nat) (s : State) : Outcome := .next (s.portCommit (i % 8))

/-- R26: the W pair of two ports is out of service: every sub-port of both is held down. -/
def State.holdPairDown (s : State) (i : Nat) : State :=
  (List.range 8).foldl (fun s j => s.linkDown (i / 2 * 8 + j)) s

end Sys2Proof.Machine
end

