-- ==== Sys2Proof/Machine/Images.lean ====
section
/-! DEFINITION. Signed images: their header and the checks of R493 and R494. -/

namespace Sys2Proof.Machine
open Sys2Proof

/-- R493: the length of the header, and the payload that follows it. -/
def imgHeader : Nat := 5632
def imgPayload (b : Bytes) : Bytes := (b.drop imgHeader).take (fld b 24 8)
def imgType (b : Bytes) : Nat := fld b 6 2
def imgService (b : Bytes) : Nat := fld b 12 4
def imgSvn (b : Bytes) : Nat := fld b 16 4
def imgVersion (b : Bytes) : Nat := fld b 20 4
def imgKeyId (b : Bytes) : Bytes := slice b 80 48

/-- R517: the services that run on control cores. -/
def coreServices : List Nat := [0, 1, 2, 3, 4, 5, 7, 8]

/-- R494, step 1 (log entry 140, DEDUCED). -/
def imgFormBad (type : Nat) (b : Bytes) : Bool :=
  decide (b.length < imgHeader) || fld b 0 4 != 0x47485344 || fld b 4 2 != 1 || fld b 8 4 != imgHeader || imgType b != type ||
  (slice b 5485 147).any (· != 0) ||
  (if type = 3 then !coreServices.contains (imgService b) || decide (2 ^ 26 < fld b 24 8) else imgService b != 0) ||
  decide (b.length < imgHeader + fld b 24 8)

/-- R494, step 3: unrevoked firmware anchors. -/
def State.anchorOk (s : State) (id : Bytes) : Bool :=
  (s.sec.fuses.fwAnchor.zipIdx).any fun (a, i) => a == id && !bit s.sec.fuses.fwRevoke i

/-- The floor of an image type. -/
def State.svnFloor (s : State) (type : Nat) : Nat :=
  if type = 1 then s.sec.fuses.svnStandby else if type = 2 then s.sec.fuses.svnRoot else s.sec.fuses.svnService

/-- R494: the checks in order; `keyOk` is step 3. -/
def State.imageCheck (s : State) (type : Nat) (keyOk : Bytes → Bool) (b : Bytes) : Status :=
  let id := imgKeyId b
  checks [
    (imgFormBad type b, .malformed),
    (id != padTo 48 (Config.sha384 (slice b 128 1984)), .malformed),
    (!keyOk id, .notPermitted),
    (!Config.edVerify (slice b 128 32) (b.take 2112) (slice b 2112 64) ||
      !Config.mldsaVerify (slice b 160 1952) (b.take 2112) (slice b 2176 3309), .integrity),
    (type != 4 && decide (imgSvn b < s.svnFloor type), .rollback),
    (padTo 48 (Config.sha384 (imgPayload b)) != slice b 32 48, .integrity)]

/-- What is kept of a verified image. -/
def imageOf (b : Bytes) : Image := { svn := imgSvn b, version := imgVersion b, digest := slice b 32 48 }

end Sys2Proof.Machine
end

