-- ==== Sys2Proof/Machine/Lysys.lean ====
section
/-! DEFINITION. The Lysys instruction set: what each slot of a bundle reads and writes (R373-R416). -/

namespace Sys2Proof.Machine
open Sys2Proof

/-! ## Registers -/

def all256 : Nat := 2 ^ 256 - 1
def Tile.rx (t : Tile) (i : Nat) : Nat := if i = 0 then 0 else (Map.get t.x i).getD 0
def Tile.rp (t : Tile) (i : Nat) : Nat := if i = 0 then all256 else (Map.get t.p i).getD 0
def Tile.rv (t : Tile) (i : Nat) : Nat := (Map.get t.v i).getD 0
def Tile.rg (t : Tile) (i : Nat) : Gen := (Map.get t.g i).getD {}
def Tile.ra (t : Tile) (i : Nat) : List Nat := (Map.get t.a i).getD (List.replicate 2048 0)

/-- R412: exception causes. -/
def cIllegal : Nat := 1
def cMisaligned : Nat := 2
def cBounds : Nat := 3
def cFetch : Nat := 4
def cPredicate : Nat := 5
def cCounter : Nat := 6
def cPort : Nat := 7
def cMicrocode : Nat := 8
def cSoftware : Nat := 9
def cConflict : Nat := 0xA
def cGenerator : Nat := 0xB

/-- Effects of a bundle beyond registers and SRAM. -/
inductive Eff where
  | send (port : Nat) (l : List Flit)
  | recv (port n : Nat)                 -- n flits leave the FIFO
  | count (c n : Nat)
  | finish
  | iflush
  | setMode (trap : Bool)
  | clearPf
deriving DecidableEq, Repr

/-- What one slot does (R376): exception causes, whether it stalls, and its writes. -/
structure SlotOut where
  errs : List Nat := []
  stall : Bool := false
  wx : List (Nat × Nat) := []
  wp : List (Nat × Nat) := []
  wv : List (Nat × Nat) := []
  wa : List (Nat × List Nat) := []
  wg : List (Nat × Gen) := []
  mem : List (Nat × Byte) := []
  pf : Nat := 0                         -- byte lanes that received faulted data
  fault : Bool := false
  pc : Option Nat := none
  effs : List Eff := []
  ctr : Nat := 0                        -- free values drawn
  draws : Nat := 0                      -- 16-bit draws of the generator
deriving DecidableEq, Repr, Inhabited

def SlotOut.err (c : Nat) : SlotOut := { errs := [c] }

/-- What a bundle sees outside its registers: its bound, clock, counters, channels and the next free value. -/
structure Env where
  bound : Nat
  clock : Nat
  owns : Nat → Bool
  ins : Nat → Option Chan
  outs : Nat → Option Chan
  ended : Nat → Bool                    -- whether the receiving stage of an output port has ended
  ctr : Nat

/-! ## Memory of a tile (R336, R383, R387, R411) -/

def Tile.read (t : Tile) (a n : Nat) : Nat := le (Memory.readBytes t.sram a n)

/-- The byte positions of an access that lie in faulted words, as a lane mask. -/
def Tile.badLanes (t : Tile) (a n : Nat) : Nat :=
  if t.bad = [] then 0
  else (List.range n).foldl (fun v i => if t.bad.contains ((a + i) / 8) then v + 2 ^ i else v) 0

/-- The causes of an access: alignment, then bounds. -/
def memErrs (bound a n align : Nat) : List Nat :=
  (if a % align = 0 then [] else [cMisaligned]) ++ (if a + n ≤ bound then [] else [cBounds])

/-- The bytes of a store under a lane mask. -/
def storeBytes (a n mask v : Nat) : List (Nat × Byte) :=
  ((List.range n).filter fun i => bit mask i).map fun i => (a + i, BitVec.ofNat 8 (v / 2 ^ (8 * i)))

/-! ## Address generators (R381, R382) -/

/-- The low `b` bits reversed. -/
def revBits : Nat → Nat → Nat
  | 0, _ => 0
  | n + 1, v => v % 2 * 2 ^ n + revBits n (v / 2)

def Gen.ok (g : Gen) : Bool :=
  if g.mode = 2 then g.mod != 0
  else if g.mode = 3 then decide (2 ≤ g.mod) && decide (g.mod ≤ 65536) && 2 ^ Nat.log2 g.mod == g.mod
  else true

def Gen.addr (g : Gen) : Nat :=
  if g.mode = 3 then (g.base + revBits (Nat.log2 g.mod) (g.index % g.mod) * g.step) % 2 ^ 22
  else (g.base + g.index) % 2 ^ 22

def Gen.advance (g : Gen) : Gen :=
  match g.mode with
  | 1 => { g with index := (g.index + g.step) % 2 ^ 22 }
  | 2 => { g with index := (((g.index : Int) + toSigned 22 g.step) % (g.mod : Int)).toNat }
  | 3 => { g with index := (g.index + 1) % g.mod }
  | _ => g

/-- The causes of an access of `n` bytes through a generator. -/
def Gen.errs (g : Gen) (bound n align : Nat) : List Nat :=
  if !g.ok then [cGenerator] else memErrs bound g.addr n align

/-! ## Slot 0 (R384-R389) -/

def sext (w v : Nat) : Int := toSigned w v
def w64 (v : Int) : Nat := ofSigned 64 v

/-- The register operations. -/
def alu (op a b : Nat) : Nat :=
  let sa := toSigned 64 a
  let sb := toSigned 64 b
  match op with
  | 0x01 => (a + b) % 2 ^ 64
  | 0x02 => w64 (sa - sb)
  | 0x03 => a &&& b
  | 0x04 => a ||| b
  | 0x05 => a ^^^ b
  | 0x06 => a * 2 ^ (b % 64) % 2 ^ 64
  | 0x07 => a / 2 ^ (b % 64)
  | 0x08 => w64 (sa / (2 ^ (b % 64) : Nat))
  | 0x09 => a * b % 2 ^ 64
  | 0x0A => w64 (sa * sb / (2 ^ 64 : Nat))
  | 0x0B => a * b / 2 ^ 64
  | 0x0C => if b = 0 then 2 ^ 64 - 1 else w64 (Int.tdiv sa sb)
  | 0x0D => if b = 0 then 2 ^ 64 - 1 else a / b
  | 0x0E => if b = 0 then a else w64 (Int.tmod sa sb)
  | 0x0F => if b = 0 then a else a % b
  | 0x10 => b2n (decide (sa < sb))
  | 0x11 => b2n (decide (a < b))
  | 0x12 => if sa < sb then a else b
  | _ => if sa < sb then b else a

/-- The comparison of a branch: EQ, NE, LT, GE, LTU, GEU. -/
def branchTaken (k a b : Nat) : Bool :=
  let sa := toSigned 64 a
  let sb := toSigned 64 b
  match k with
  | 0 => a == b
  | 1 => a != b
  | 2 => decide (sa < sb)
  | 3 => decide (sb ≤ sa)
  | 4 => decide (a < b)
  | _ => decide (b ≤ a)

/-- Bytes and sign of a load: LB, LBU, LH, LHU, LW, LWU, LD. -/
def loadShape (k : Nat) : Nat × Bool :=
  ([(1, true), (1, false), (2, true), (2, false), (4, true), (4, false), (8, false)] : List (Nat × Bool)).getD k (8, false)

/-- Whether a stage still owes LAST on an output port that a channel binds (R389). -/
def Env.owing (e : Env) : List Nat :=
  (List.range 8).filter fun p => match e.outs p with
    | some c => !c.sentLast
    | none => false

/-- R339: the credits of an output port; a port to an ended stage always has room, one to a parked sink none. -/
def Env.credits (e : Env) (p : Nat) : Nat :=
  match e.outs p with
  | none => 0
  | some c => if e.ended p then 1024 else if c.dstMem then (if c.parked then 0 else 1024) else c.depth - c.fifo.length

/-- One slot-0 operation (log entry 101, DEDUCED). -/
def slot0 (t : Tile) (e : Env) (w : Nat) : SlotOut :=
  let m := bits w 9 0
  let f1 := bits w 14 10
  let f2 := bits w 19 15
  let f3 := bits w 24 20
  let imm := sext 44 (bits w 63 20)
  let immU := w64 imm
  let ill := SlotOut.err cIllegal
  let next := t.pc + 64
  let tgt (off : Int) : Nat := w64 ((t.pc : Int) + off * 64)
  if m = 0xFF then (if w = 0xFF then {} else ill)
  else if 1 ≤ m ∧ m ≤ 0x13 then
    if bits w 63 25 ≠ 0 then ill else { wx := [(f1, alu m (t.rx f2) (t.rx f3))] }
  else if 0x20 ≤ m ∧ m ≤ 0x29 then
    let a := t.rx f2
    match m with
    | 0x20 => { wx := [(f1, (a + immU) % 2 ^ 64)] }
    | 0x21 => { wx := [(f1, a &&& immU)] }
    | 0x22 => { wx := [(f1, a ||| immU)] }
    | 0x23 => { wx := [(f1, a ^^^ immU)] }
    | 0x27 => { wx := [(f1, b2n (decide (toSigned 64 a < imm)))] }
    | 0x28 => if f2 ≠ 0 then ill else { wx := [(f1, immU)] }
    | 0x29 => if bits w 63 40 ≠ 0 then ill else { wx := [(f1, a % 2 ^ 44 + bits w 39 20 * 2 ^ 44)] }
    | _ => if bits w 63 26 ≠ 0 then ill else { wx := [(f1, alu (m - 0x24 + 6) a (bits w 25 20))] }
  else if 0x40 ≤ m ∧ m ≤ 0x46 then
    let (n, sg) := loadShape (m - 0x40)
    let a := w64 ((t.rx f2 : Int) + imm)
    let er := memErrs e.bound a n n
    if er ≠ [] then { errs := er }
    else
      let v := t.read a n
      let bad := t.badLanes a n != 0
      { wx := [(f1, if sg then w64 (toSigned (8 * n) v) else v)], pf := if bad then 255 else 0, fault := bad }
  else if 0x48 ≤ m ∧ m ≤ 0x4B then
    let n := 2 ^ (m - 0x48)
    let a := w64 ((t.rx f2 : Int) + imm)
    let er := memErrs e.bound a n n
    if er ≠ [] then { errs := er } else { mem := storeBytes a n all256 (t.rx f1) }
  else if 0x60 ≤ m ∧ m ≤ 0x65 then
    if branchTaken (m - 0x60) (t.rx f1) (t.rx f2) then { pc := some (tgt imm) } else {}
  else if 0x68 ≤ m ∧ m ≤ 0x6B then
    if branchTaken (m - 0x68) (t.rx f1) (w64 (sext 20 (bits w 34 15))) then { pc := some (tgt (sext 29 (bits w 63 35))) } else {}
  else if m = 0x70 then { wx := [(f1, next)], pc := some (tgt (sext 49 (bits w 63 15))) }
  else if m = 0x71 then
    let a := w64 ((t.rx f2 : Int) + imm)
    if a % 64 ≠ 0 then SlotOut.err cMisaligned else { wx := [(f1, next)], pc := some a }
  else if m = 0x80 then
    let c := t.rx f2
    if f1 ≠ 0 ∨ bits w 63 25 ≠ 0 then ill
    else if 16383 < c ∨ !e.owns c then SlotOut.err cCounter
    else if t.rx f3 = 0 then {} else { effs := [.count c (t.rx f3)] }
  else if m = 0x81 then
    if w ≠ 0x81 then ill
    else if e.owing.any fun p => e.credits p = 0 then { stall := true }
    else { effs := (e.owing.map fun p => .send p [{ data := zeros 64, valid := 0, last := true, fault := t.faulted }]) ++ [.finish] }
  else if m = 0x82 then
    if bits w 63 15 ≠ 0 then ill else { wx := [(f1, e.clock)] }
  else if m = 0x83 then
    if bits w 63 21 ≠ 0 ∨ bits w 19 10 ≠ 0 then ill else { effs := [.setMode (bit w 20)] }
  else if m = 0x84 then (if w = 0x84 then { effs := [.iflush] } else ill)
  else if m = 0x85 then (if w = 0x85 then SlotOut.err cSoftware else ill)
  else ill

/-! ## Slots 4 and 5 (R390, R391) -/

def szBytes (k : Nat) : Nat := if k = 0 then 256 else if k = 1 then 128 else 64

/-- A lane mask repeated every `n` lanes. -/
def repeatLanes (n m : Nat) : Nat := (List.range (256 / n)).foldl (fun v i => v + m * 2 ^ (n * i)) 0

/-- A value of `n` bytes repeated over a register. -/
def repeatBytes (n v : Nat) : Nat := (List.range (256 / n)).foldl (fun r i => r + v * 2 ^ (8 * n * i)) 0

/-- Log entries 93, DEDUCED; 100, DEDUCED. -/
def slotL (t : Tile) (e : Env) (w : Nat) : SlotOut :=
  let m := bits w 9 0
  let pg := t.rp (bits w 13 10)
  let v := bits w 20 15
  let gi := bits w 23 21
  let sz := bits w 25 24
  let g := t.rg gi
  let pred := m == 0x110 || m == 0x111
  let adv := if bit w 26 then [] else [(gi, g.advance)]
  if !([0x100, 0x101, 0x102, 0x110, 0x111] : List Nat).contains m || bits w 63 27 != 0 || sz == 3 ||
      (pred && (sz != 0 || bits w 20 19 != 0)) then SlotOut.err cIllegal
  else
    let n := if pred then 32 else szBytes sz
    let er := g.errs e.bound n (if pred then 32 else 64)
    if er ≠ [] then { errs := er }
    else
      let a := g.addr
      let bl := t.badLanes a n
      match m with
      | 0x100 =>
        { wv := [(v, guarded pg (bit w 14) 2 (t.rv v) (t.read a n))], wg := adv, pf := bl &&& pg, fault := bl &&& pg != 0 }
      | 0x102 =>
        let bl := repeatLanes n bl &&& pg
        { wv := [(v, guarded pg (bit w 14) 2 (t.rv v) (repeatBytes n (t.read a n)))], wg := adv, pf := bl, fault := bl != 0 }
      | 0x101 => { mem := storeBytes a n pg (t.rv v), wg := adv }
      | 0x110 =>
        let lanes := (List.range 32).foldl (fun r i => if bit bl i then r + 255 * 2 ^ (8 * i) else r) 0
        { wp := [(v % 16, t.read a 32)], wg := adv, pf := lanes, fault := lanes != 0 }
      | _ => { mem := storeBytes a 32 all256 (t.rp (v % 16)), wg := adv }

/-! ## Slots 2 and 3 (R392-R398, R414-R416) -/

/-- The registers and temporaries of a custom opcode while its micro-ops run. -/
structure Uop where
  t : Tile                              -- the tile as the sequence sees it
  vd : Nat
  temps : List Nat := [0, 0, 0, 0]
  wroteVd : Bool := false
  gens : List Nat := []
  mem : List (Nat × Byte) := []
  errs : List Nat := []
  pf : Nat := 0
  fault : Bool := false
  ctr : Nat
  draws : Nat := 0
  done : Bool := false

/-- R416: the value of a selector. -/
def Uop.sel (u : Uop) (w i : Nat) : Nat :=
  match i with
  | 0 => u.vd
  | 1 => u.t.rv (bits w 26 21)
  | 2 => u.t.rv (bits w 32 27)
  | 3 => u.t.rv (bits w 38 33)
  | i => u.temps.getD (i - 4) 0

/-- Write a selector: VD under the instruction's guard, a temporary whole. -/
def Uop.put (u : Uop) (pg : Nat) (z : Bool) (h dst v : Nat) : Uop :=
  if dst = 0 then { u with vd := guarded pg z h u.vd v, wroteVd := true }
  else { u with temps := u.temps.set (dst - 4) v }

/-- One micro-op of the instruction word `w`. -/
def Uop.step (u : Uop) (e : Env) (w pg m : Nat) : Uop :=
  if u.done || u.errs != [] then u
  else
    let z := bit w 14
    let gi := if bit m 16 then bits w 44 42 else bits w 41 39
    let g := u.t.rg gi
    let adv (u : Uop) : Uop :=
      { u with t := { u.t with g := Map.put u.t.g gi g.advance }, gens := if u.gens.contains gi then u.gens else u.gens ++ [gi] }
    let rnd := if bits m 30 29 = 3 then bits w 50 49 else bits m 30 29
    let u := match bits m 3 0 with
      | 1 =>
        let opc := bits m 12 5
        let k : VCtl := { fmt := bits m 28 25, fmt2 := bits w 48 45, rnd := rnd, ctr := u.ctr }
        let a := u.sel w (bits m 18 16)
        let b := u.sel w (bits m 21 19)
        let c := u.sel w (bits m 24 22)
        if rnd = 3 ∨ !vAccepts opc k.fmt k.fmt2 then { u with errs := [cIllegal] }
        else
          let u' := { u with ctr := u.ctr + 4096, draws := u.draws + (if rnd = 2 then 512 / fmtHalf k.fmt else 0) }
          if opc = 0x20 then
            let d := bits m 15 13
            if d = 0 then { u' with vd := vConvert k pg z u.vd a, wroteVd := true }
            else u'.put pg z 2 d (vConvert k all256 true 0 a)
          else u'.put pg z (fmtHalf k.fmt) (bits m 15 13) (vMap opc k a b c)
      | 2 =>
        let n := szBytes (bits m 18 17)
        let er := if bits m 18 17 = 3 then [cIllegal] else g.errs e.bound n 64
        if er ≠ [] then { u with errs := er }
        else
          let bl := u.t.badLanes g.addr n
          let bl := if bits m 15 13 = 0 then bl &&& pg else bl
          let u' := u.put pg z 2 (bits m 15 13) (u.t.read g.addr n)
          let u' := { u' with pf := u'.pf ||| bl, fault := u'.fault || bl != 0 }
          if bit m 19 then u' else adv u'
      | 3 =>
        let n := szBytes (bits m 18 17)
        let er := if bits m 18 17 = 3 then [cIllegal] else g.errs e.bound n 64
        if er ≠ [] then { u with errs := er }
        else
          let st := storeBytes g.addr n pg (u.sel w (bits m 15 13))
          let m' := st.foldl (fun s (x : Nat × Byte) => Memory.write s x.1 x.2) u.t.sram
          let u' := { u with mem := u.mem ++ st, t := { u.t with sram := m' } }
          if bit m 19 then u' else adv u'
      | 4 => if g.ok then adv u else { u with errs := [cGenerator] }
      | _ => u
    { u with done := bit m 4 }

/-- A custom opcode (R414, R416). -/
def customOp (t : Tile) (e : Env) (w ctr : Nat) : SlotOut :=
  let n := bits w 9 0 - 0x3C0
  if bits w 63 51 ≠ 0 then SlotOut.err cIllegal
  else if !bit t.mcode.valid n then SlotOut.err cMicrocode
  else
    let pg := t.rp (bits w 13 10)
    let vd := bits w 20 15
    let u0 : Uop := { t := t, vd := t.rv vd, ctr := ctr }
    let u := ((t.mcode.uops.drop (16 * n)).take 16).foldl (fun (u : Uop) m => u.step e w pg m) u0
    { errs := u.errs, wv := if u.wroteVd then [(vd, u.vd)] else [], wg := u.gens.map fun i => (i, u.t.rg i)
      mem := u.mem, pf := u.pf, fault := u.fault, ctr := u.ctr - ctr, draws := u.draws }

/-- R398: the accumulator of VMAC2 for one element (log entry 95, DEDUCED). -/
def mac2Elem (k : VCtl) (i d a b : Nat) : Nat :=
  if k.fmt = 3 then ofSigned 32 (toSigned 32 d + toSigned 8 a * toSigned 8 b)
  else fp32.round .ieee k.rnd (k.r16 i) (((decodeElem k.fmt a).mul (decodeElem k.fmt b)).add (fp32.decode d))

/-- VMAC2 (log entry 93, DEDUCED). -/
def vmac2 (t : Tile) (e : Env) (w ctr : Nat) : SlotOut :=
  let k : VCtl := { fmt := bits w 42 39, rnd := bits w 48 47, ctr := ctr }
  let gi := bits w 35 33
  let gj := bits w 38 36
  let g := t.rg gi
  let q := t.rg gj
  let h := fmtHalf k.fmt
  let n := 32 * h
  let er := (if gi = gj then [cConflict] else []) ++ g.errs e.bound n 64 ++ q.errs e.bound n 64
  if er ≠ [] then { errs := er }
  else
    let pg := t.rp (bits w 13 10)
    let vd := bits w 20 15
    let a := t.read g.addr n
    let b := t.read q.addr n
    let d := t.rv vd
    let new := buildElems 8 64 fun i => mac2Elem k i (elem d 8 i) (elem a h i) (elem b h i)
    let bl := t.badLanes g.addr n ||| t.badLanes q.addr n
    let lanes := predOf pg 8 64 fun i => bl / 2 ^ (h * i / 2) % 2 ^ (h / 2) != 0
    { wv := [(vd, guarded pg (bit w 14) 8 d new)], wg := [(gi, g.advance), (gj, q.advance)], pf := lanes, fault := lanes != 0
      ctr := 4096, draws := if k.rnd = 2 then 64 else 0 }

/-- Log entry 100, DEDUCED. -/
def slotV (t : Tile) (e : Env) (w ctr : Nat) : SlotOut :=
  let m := bits w 9 0
  if 0x3C0 ≤ m then customOp t e w ctr
  else
    let opc := m - 0x200
    let fmt := bits w 42 39
    let fmt2 := bits w 46 43
    let rnd := bits w 48 47
    let pg := t.rp (bits w 13 10)
    let z := bit w 14
    let vd := bits w 20 15
    let unguarded := decide (0x21 ≤ opc) && decide (opc ≤ 0x24)
    if m < 0x200 || decide (0x300 ≤ m) || !vExists opc || !vAccepts opc fmt fmt2 || rnd == 3 || bits w 63 56 != 0 ||
        (isInt fmt && rnd != 0 && !(opc == 0x20 || unguarded)) || (unguarded && (bits w 13 10 != 0 || z)) ||
        (opc == 0x10 && bits w 20 19 != 0) then SlotOut.err cIllegal
    else if opc = 0x40 then vmac2 t e w ctr
    else
      let h := fmtHalf fmt
      let k : VCtl := { fmt := fmt, fmt2 := fmt2, nsat := bit w 49, rnd := rnd, xs := t.rx (bits w 54 50), ctr := ctr }
      let a := t.rv (bits w 26 21)
      let b := if bit w 55 then buildElems h (512 / h) (fun _ => k.xs) else t.rv (bits w 32 27)
      let c := t.rv (bits w 38 33)
      let o (l : List (Nat × Nat)) : SlotOut := { wv := l, ctr := 4096, draws := if rnd = 2 then 512 / h else 0 }
      if opc ≤ 0x0F ∨ 0x30 ≤ opc then o [(vd, guarded pg z h (t.rv vd) (vMap opc k a b c))]
      else if opc = 0x10 then
        { wp := [(vd % 16, predOf pg h (512 / h) fun i => vCompare k (elem a h i) (elem b h i))], ctr := 4096 }
      else if opc ≤ 0x1B then o [(vd, vReduce opc k pg a)]
      else if opc = 0x20 then o [(vd, vConvert k pg z (t.rv vd) a)]
      else o [(vd, vMx opc k a)]

/-! ## Slot 1 (R399-R402) -/

/-- R400: the k of a group of formats; 0 when the pair is not one. -/
def mmaK (a b : Nat) : Nat :=
  if (a = 1 ∨ a = 2) ∧ (b = 1 ∨ b = 2) then 4
  else if (a = 7 ∨ a = 8) ∧ (b = 7 ∨ b = 8) then 8
  else if a = 3 ∧ b = 3 then 8
  else if (a = 9 ∨ a = 10) ∧ (b = 9 ∨ b = 10) then 8
  else if a = 11 ∧ b = 11 then 16
  else 0

/-- R400, R401, R368: one element of aD + A x B. -/
def mmaElem (fa fb k vs : Nat) (mx : Bool) (rnd c acc va vb i j : Nat) : Nat :=
  let ha := fmtHalf fa
  let hb := fmtHalf fb
  let ea (s : Nat) : Nat := elem va ha (i * k + s)
  let eb (s : Nat) : Nat := elem vb hb (s * 64 + j)
  if fa = 3 ∧ !mx then
    ofSigned 32 ((List.range k).foldl (fun a s => a + toSigned 8 (ea s) * toSigned 8 (eb s)) (toSigned 32 acc))
  else
    let sa := elem vs 2 i
    let sb := elem vs 2 (32 + j)
    let da (s : Nat) : Num := if mx then mxDecode fa sa (ea s) else decodeElem fa (ea s)
    let db (s : Nat) : Num := if mx then mxDecode fb sb (eb s) else decodeElem fb (eb s)
    anyOrderSum rnd c ((List.range k).map fun s => (da s).mul (db s)) acc

/-- Log entry 100, DEDUCED. -/
def slotM (t : Tile) (w ctr : Nat) : SlotOut :=
  let m := bits w 9 0
  let ad := bits w 16 14
  let va := bits w 22 17
  let vb := bits w 28 23
  let fa := bits w 38 35
  let fb := bits w 42 39
  let k := mmaK fa fb
  let row := bits w 49 45
  if m < 0x300 ∨ 0x303 < m ∨ bits w 13 10 ≠ 0 ∨ bits w 63 50 ≠ 0 then SlotOut.err cIllegal
  else match m with
    | 0x300 =>
      if k = 0 ∨ vb % 2 = 1 then SlotOut.err cIllegal
      else
        let old := t.ra ad
        let b := t.rv vb + t.rv (vb + 1) * 2 ^ 2048
        let new := (List.range 2048).map fun n =>
          mmaElem fa fb k (t.rv (bits w 34 29)) (bit w 43) (b2n (bit w 44)) (Config.freeValue (ctr + n)) (old.getD n 0) (t.rv va) b
            (n / 64) (n % 64)
        { wa := [(ad, new)], ctr := 2048 }
    | 0x301 => { wa := [(ad, List.replicate 2048 0)] }
    | 0x302 => { wv := [(va, buildElems 8 64 fun c => (t.ra ad).getD (row * 64 + c) 0)] }
    | _ =>
      let src := t.rv va
      { wa := [(ad, (t.ra ad).take (row * 64) ++ (List.range 64).map (elem src 8) ++ (t.ra ad).drop (row * 64 + 64))] }

/-! ## Slot 6 (R403-R406) -/

/-- The flits that SRECV takes: up to `n`, ending with one that carries LAST. -/
def takeFlits : Nat → List Flit → List Flit
  | 0, _ => []
  | _, [] => []
  | n + 1, f :: t => if f.last then [f] else f :: takeFlits n t

/-- The quarters of V that flits fill. -/
def flitValue (l : List Flit) : Nat := le (l.flatMap fun f => padTo 64 (f.data.take f.valid))

/-- Log entry 100, DEDUCED. -/
def slotT (t : Tile) (e : Env) (w : Nat) : SlotOut :=
  let m := bits w 9 0
  let v := bits w 19 14
  let port := bits w 22 20
  let n := bits w 24 23 + 1
  let xs := bits w 35 31
  if m < 0x180 ∨ 0x182 < m ∨ bits w 13 10 ≠ 0 ∨ bits w 63 36 ≠ 0 ∨ (m = 0x182 ∧ v ≠ 0) then SlotOut.err cIllegal
  else if m = 0x181 then
    match e.outs port with
    | none => SlotOut.err cPort
    | some c =>
      if c.sentLast then SlotOut.err cPort
      else if e.credits port < n then { stall := true }
      else
        let xv := bits w 29 25
        let d := toLe 256 (t.rv v)
        let fl (i : Nat) : Flit :=
          let end_ := i + 1 == n
          { data := slice d (64 * i) 64, valid := if end_ && xv != 0 then min (t.rx xv) 64 else 64
            last := end_ && bit w 30, fault := t.faulted }
        { effs := [.send port ((List.range n).map fl)] }
  else
    match e.ins port with
    | none => SlotOut.err cPort
    | some c =>
      if m = 0x182 then
        { wx := [(xs, min c.fifo.length 2047 + 2 ^ 63 * b2n (c.tookLast || c.fifo.any Flit.last))] }
      else if c.tookLast then
        if c.srcMem && n != 1 then SlotOut.err cPort else { wv := [(v, 0)], wx := [(xs, 2 ^ 63)] }
      else
        let l := takeFlits n c.fifo
        let end_ := l.any Flit.last
        if l.length < n && !end_ then { stall := true }
        else
          let lanes := (l.zipIdx).foldl (fun r (f, i) => if f.fault then r + (2 ^ 64 - 1) * 2 ^ (64 * i) else r) 0
          { wv := [(v, flitValue l)], wx := [(xs, l.foldl (fun a f => a + f.valid) 0 + 2 ^ 63 * b2n end_)]
            effs := [.recv port l.length], pf := lanes, fault := lanes != 0 }

/-! ## Slot 7 (R407) -/

def popcount (v : Nat) : Nat := (List.range 256).foldl (fun n i => n + v / 2 ^ i % 2) 0

def Gen.set (g : Gen) (f v : Nat) : Gen :=
  match f with
  | 0 => { g with base := v % 2 ^ 22 }
  | 1 => { g with index := v % 2 ^ 22 }
  | 2 => { g with step := v % 2 ^ 22 }
  | 3 => { g with mod := v % 2 ^ 22 }
  | _ => { g with mode := v % 4 }

def Gen.field (g : Gen) (f : Nat) : Nat :=
  match f with
  | 0 => g.base
  | 1 => g.index
  | 2 => w64 (toSigned 22 g.step)
  | 3 => g.mod
  | _ => g.mode

/-- Log entry 100, DEDUCED. -/
def slotP (t : Tile) (w : Nat) : SlotOut :=
  let m := bits w 9 0
  let pd := bits w 13 10
  let a := t.rp (bits w 17 14)
  let b := t.rp (bits w 21 18)
  let gi := bits w 24 22
  let f := bits w 27 25
  let xa := t.rx (bits w 32 28)
  let xd := bits w 37 33
  let ill := SlotOut.err cIllegal
  if bits w 63 62 ≠ 0 ∨ (m ≠ 0x352 ∧ bits w 61 38 ≠ 0) ∨ ((m = 0x350 ∨ m = 0x351) ∧ 5 ≤ f) then ill
  else match m with
    | 0x340 => { wp := [(pd, a &&& b)] }
    | 0x341 => { wp := [(pd, a ||| b)] }
    | 0x342 => { wp := [(pd, a ^^^ b)] }
    | 0x343 => { wp := [(pd, a &&& (b ^^^ all256))] }
    | 0x344 => { wp := [(pd, a ^^^ all256)] }
    | 0x345 => { wp := [(pd, 2 ^ (min xa 256) - 1)] }
    | 0x346 => { wx := [(xd, popcount a)] }
    | 0x347 => { wp := [(pd, t.pf)], effs := [.clearPf] }
    | 0x350 => { wg := [(gi, (t.rg gi).set f xa)] }
    | 0x351 => { wx := [(xd, (t.rg gi).field f)] }
    | 0x352 =>
      let g := t.rg gi
      { wg := [(gi, { g with base := xa % 2 ^ 22, index := 0, step := bits w 59 38, mode := bits w 61 60 })] }
    | _ => ill

/-! ## The bundle (R375, R376, R411, R412) -/

/-- R375: one slot of a bundle, by its number; the classes each accepts (log entry 101, DEDUCED). -/
def runSlot (t : Tile) (e : Env) (n w ctr : Nat) : SlotOut :=
  if n = 0 then slot0 t e w
  else if w = 0 then {}
  else if n = 1 then slotM t w ctr
  else if n ≤ 3 then slotV t e w ctr
  else if n ≤ 5 then slotL t e w
  else if n = 6 then slotT t e w
  else slotP t w

/-- Whether a list of register numbers names one twice. -/
def twice : List Nat → Bool
  | [] => false
  | a :: t => t.contains a || twice t

/-- R376: two slots write one register (log entry 93, DEDUCED). -/
def conflicts (l : List SlotOut) : Bool :=
  let keys (f : SlotOut → List Nat) : List Nat := l.flatMap fun o => (f o).eraseDups
  twice ((keys fun o => o.wx.map Prod.fst).filter (· != 0)) || twice ((keys fun o => o.wp.map Prod.fst).filter (· != 0)) ||
  twice (keys fun o => o.wv.map Prod.fst) || twice (keys fun o => o.wa.map Prod.fst) || twice (keys fun o => o.wg.map Prod.fst)

/-- The slots of a bundle, each with its own free values. -/
def runSlots (t : Tile) (e : Env) (b : Bytes) : List SlotOut :=
  (List.range 8).map fun n => runSlot t e n (fld b (8 * n) 8) (e.ctr + 16384 * n)

/-- The outcome of a bundle: an exception's cause, a stall, or its slots' results. -/
inductive BundleOut where
  | except (cause : Nat)
  | stalled
  | issued (l : List SlotOut)
deriving DecidableEq

/-- R376, R411, R412: run a bundle: the lowest cause is reported (log entry 92, DEDUCED). -/
def runBundle (t : Tile) (e : Env) (b : Bytes) : BundleOut :=
  let l := runSlots t e b
  let er := l.flatMap SlotOut.errs ++ (if conflicts l then [cConflict] else [])
  if l.any SlotOut.stall then .stalled
  else
    let er := er ++ (if t.trap && l.any SlotOut.fault then [cPredicate] else [])
    match er with
    | [] => .issued l
    | c :: r => .except (r.foldl min c)

/-- R364: one step of the stochastic generator. -/
def rngStep (x : Nat) : Nat :=
  let x := (x ^^^ (x * 2 ^ 13)) % 2 ^ 64
  let x := x ^^^ (x / 2 ^ 7)
  (x ^^^ (x * 2 ^ 17)) % 2 ^ 64

/-- Log entry 96, DESIGN CHOICE. -/
def rngSteps : Nat → Nat → Nat
  | 0, x => x
  | n + 1, x => rngSteps n (rngStep x)

/-- Write bytes in a tile's SRAM: a word written whole is good again. -/
def Tile.store (t : Tile) (l : List (Nat × Byte)) : Tile :=
  let good := t.bad.filter fun w => (List.range 8).all fun i => l.any fun x => x.1 == 8 * w + i
  { t with sram := l.foldl (fun s (x : Nat × Byte) => Memory.write s x.1 x.2) t.sram, bad := t.bad.filter fun w => !good.contains w }

/-- Write a slot's registers and SRAM bytes (log entry 94, DEDUCED). -/
def Tile.apply (t : Tile) (o : SlotOut) : Tile :=
  let t := t.store o.mem
  { t with
    x := o.wx.foldl (fun m r => if r.1 = 0 then m else Map.put m r.1 r.2) t.x
    p := o.wp.foldl (fun m r => if r.1 = 0 then m else Map.put m r.1 r.2) t.p
    v := o.wv.foldl (fun m r => Map.put m r.1 r.2) t.v
    a := o.wa.foldl (fun m r => Map.put m r.1 r.2) t.a
    g := o.wg.foldl (fun m r => Map.put m r.1 r.2) t.g
    rng := rngSteps ((o.draws + 3) / 4) t.rng }

/-- R376, R411: the tile after a bundle that issued (log entry 94, DEDUCED). -/
def Tile.commit (t : Tile) (l : List SlotOut) : Tile :=
  let t' := l.foldl Tile.apply t
  let effs := l.flatMap SlotOut.effs
  let pf := (if effs.contains .clearPf then 0 else t.pf) ||| l.foldl (fun m o => m ||| o.pf) 0
  let trap := if effs.contains (.setMode true) then true else if effs.contains (.setMode false) then false else t.trap
  { t' with
    pf := pf, faulted := t.faulted || l.any SlotOut.fault, trap := trap
    icache := if effs.contains .iflush then [] else t'.icache
    pc := (l.findSome? SlotOut.pc).getD (t.pc + 64) }

end Sys2Proof.Machine
end

