-- ==== Sys2Proof/Machine/Stream.lean ====
section
/-! DEFINITION. The stream array: jobs, channels, scheduling, pre-emption, tile retirement and bundle issue
(R335-R357, R376, R384-R417, R584). -/

namespace Sys2Proof.Machine
open Sys2Proof

/-! ## Tiles and accounts -/

def State.tile (s : State) (t : Nat) : Tile := (Map.get s.str.tiles t).getD {}
def State.setTile (s : State) (t : Nat) (x : Tile) : State := { s with str.tiles := Map.put s.str.tiles t x }
def State.job (s : State) (j : Nat) : Option Job := Map.get s.str.jobs j
def State.setJob (s : State) (j : Nat) (x : Job) : State := { s with str.jobs := Map.put s.str.jobs j x }
def State.modJob (s : State) (j : Nat) (g : Job → Job) : State := { s with str.jobs := Map.modify s.str.jobs j g }

/-- The tiles in use, and those that a job may be bound to. -/
def State.usable (s : State) : Nat := ((List.range 64).filter fun t => !s.str.retired.contains t).length
def State.tileFree (s : State) (t : Nat) : Bool :=
  decide (t < 64) && !s.str.retired.contains t && (s.tile t).phase == .free && !(s.str.retiring.any fun r => r.tile == t)
def State.freeTiles (s : State) : Nat := ((List.range 64).filter s.tileFree).length

/-- The tiles that a job holds. -/
def Job.tiles (j : Job) : List Nat := j.stages.filterMap Stage.tile

/-- R349: the tiles of a spoke that draw tile time: loading, restoring or running. -/
def State.drawing (s : State) (k : Nat) : Nat :=
  (s.str.jobs.filter fun (_, j) => j.spoke == k && j.phase == .bound).foldl (fun n (_, j) => n + j.tiles.length) 0

/-- R349: the most that a bucket holds, in its units (log entry 86, DESIGN CHOICE). -/
def bucketCap (limit : Nat) : Int := 4000000 * limit

/-- R349, R350: bring every spoke's bucket and virtual time up to now (log entry 86, DESIGN CHOICE). -/
def State.account (s : State) : State :=
  let dt := s.now - s.str.accounted
  let s' := s.host.spokes.foldl (fun (a : Map Int × Map Nat) (k, sp) =>
    let n := s.drawing k
    let b := (Map.get s.str.bucket k).getD 0
    let b := min (bucketCap sp.tileLimit) (b + (sp.tileLimit * dt : Nat) - (1000 * n * dt : Nat))
    let v := (Map.get s.str.vtime k).getD 0 + n * dt * 2 ^ 32 / max 1 sp.tileWeight
    (Map.put a.1 k b, Map.put a.2 k v)) (s.str.bucket, s.str.vtime)
  { s with str.bucket := s'.1, str.vtime := s'.2, str.accounted := s.now }

/-- STR_SCHED_CFG, with the least values that the fields take. -/
def State.minRunUs (s : State) : Nat := max 1 (s.rfield 0x600000 15 0)
def State.faultPreemptUs (s : State) : Nat := max 1 (s.rfield 0x600000 31 16)
def State.retireThreshold (s : State) : Nat := s.rfield 0x600000 55 48

/-- The spokes with a job that waits for tiles, and a spoke's virtual time. -/
def State.backlogged (s : State) : List Nat :=
  ((s.str.jobs.filter fun (_, j) => j.phase == .waiting).map fun (_, j) => j.spoke).eraseDups
/-- Log entry 86, DESIGN CHOICE. -/
def State.vt (s : State) (k : Nat) : Nat := (Map.get s.str.vtime k).getD 0

/-- R350: a spoke that becomes backlogged takes at least the lowest virtual time of those that are. -/
def State.becomeBacklogged (s : State) (k : Nat) : State :=
  let others := s.backlogged.filter (· != k)
  match others with
  | [] => s
  | a :: t => { s with str.vtime := Map.put s.str.vtime k (max (s.vt k) (t.foldl (fun m x => min m (s.vt x)) (s.vt a))) }

/-- Clear a tile and free it (R345, R347, R353, R582). -/
def State.clearTile (s : State) (t : Nat) : State := (s.setTile t { freeAt := s.now }).restartUnits [t]

/-! ## Retirement (R357) -/

/-- The last steps of a retirement: gate, list, journal, response, and the threshold. -/
def State.retireNow (s : State) (t : Nat) (who : Option (Nat × Nat)) : State :=
  let s := s.setTile t { gated := true }
  let s := { s with str.retired := setIns s.str.retired t, str.retiring := s.str.retiring.filter fun r => r.tile != t }
  let w : Option JWait := match who with
    | some (f, seq) => if (s.fn f).mb.outstanding && (s.fn f).mb.seq == seq then some ⟨f, .success, [], none, none⟩ else none
    | none => none
  let s : State := s.journal 0x0501 t false (toLe 4 t) w
  if s.retireThreshold < s.str.retired.length then s.retireTray 5 else s

/-- A tile that has become free is retired when that was asked for (log entry 91, DEDUCED). -/
def State.tileFreed (s : State) (t : Nat) : State :=
  match s.str.retiring.find? fun r => r.tile == t with
  | some r => s.retireNow t r.fn
  | none => s

/-- Free the tiles of a job. -/
def State.freeJobTiles (s : State) (l : List Nat) : State := l.foldl (fun s t => (s.clearTile t).tileFreed t) s

/-- Account and take a job off the array, freeing its tiles. -/
def State.dropJob (s : State) (j : Nat) : State :=
  match s.job j with
  | none => s
  | some x =>
    let s := s.account
    (State.freeJobTiles { s with str.jobs := Map.erase s.str.jobs j } x.tiles)

/-- R346, R347: DETAIL of a failure. -/
def failDetail (where_ stage cause : Nat) : Nat := where_ % 2 ^ 48 + stage * 2 ^ 48 + cause * 2 ^ 56

/-- R347: a job fails. -/
def State.failJob (s : State) (j : Nat) (st : Status) (detail : Nat) : State :=
  match s.job j with
  | none => s
  | some x =>
    let s := s.modOp x.op fun o => { o with flags := b2n x.residue }
    (s.dropJob j).finish x.op st (min x.sinkBytes (2 ^ 32 - 1)) detail

/-- R160, R348: jobs whose operation is gone or has ended are dropped. -/
def State.reapJobs (s : State) : State :=
  (s.str.jobs.filter fun (_, x) => match s.op x.op with
    | none => true
    | some o => o.phase == .done).foldl (fun s p => s.dropJob p.1) s

/-- Jobs with more stages than the tiles that remain fail with RESOURCE (R357). -/
def State.failTooBig (s : State) : State :=
  (s.str.jobs.filter fun (_, x) => decide (s.usable < x.stages.length)).foldl (fun s p => s.failJob p.1 .resource 0) s

/-! ## Admission (R341-R344, R415-R417) -/

/-- R342: a stage entry. -/
def stageOf (b : Bytes) : Stage :=
  { program := u64 b 0, programLen := u32 b 8 % 2 ^ 22, units := bits (u8 b 12) 5 0, placeEn := bit (u8 b 13) 0
    place := bits (u8 b 14) 5 0, init := Machine.u64 b 16, initLen := u32 b 24 % 2 ^ 22, initOffset := u32 b 28 % 2 ^ 22 }

/-- Reserved bits or values out of range of a stage entry (log entry 90, DEDUCED). -/
def stageBad (b : Bytes) : Bool :=
  let g := stageOf b
  (u32 b 8 ≥ 2 ^ 22) || bits (u8 b 12) 7 6 != 0 || bits (u8 b 13) 7 1 != 0 || bits (u8 b 14) 7 6 != 0 || u8 b 15 != 0 ||
  (u32 b 24 ≥ 2 ^ 22) || (u32 b 28 ≥ 2 ^ 22) || (slice b 32 32).any (· != 0) ||
  g.program % 64 != 0 || g.programLen % 64 != 0 || g.programLen = 0 || g.units = 0 || decide (48 < g.units) ||
  g.initOffset % 64 != 0

/-- R342: a channel entry. -/
def chanOf (b : Bytes) : Chan :=
  { srcMem := bit (u8 b 0) 0, dstMem := bit (u8 b 0) 1, srcStage := bits (u8 b 1) 5 0, srcPort := bits (u8 b 2) 2 0
    dstStage := bits (u8 b 3) 5 0, dstPort := bits (u8 b 4) 2 0, depth := bits (u16 b 6) 10 0, fifoOffset := u32 b 8 % 2 ^ 22
    memAddr := Machine.u64 b 16, memLen := Machine.u64 b 24 % 2 ^ 40 }

/-- Reserved bits, values out of range and fields that must be zero in a channel entry. -/
def chanBad (stages : Nat) (b : Bytes) : Bool :=
  let c := chanOf b
  bits (u8 b 0) 7 2 != 0 || bits (u8 b 1) 7 6 != 0 || bits (u8 b 2) 7 3 != 0 || bits (u8 b 3) 7 6 != 0 ||
  bits (u8 b 4) 7 3 != 0 || u8 b 5 != 0 || bits (u16 b 6) 15 11 != 0 || (u32 b 8 ≥ 2 ^ 22) || u32 b 12 != 0 ||
  (Machine.u64 b 24 ≥ 2 ^ 40) || (c.srcMem && c.dstMem) ||
  (c.srcMem && (c.srcStage != 0 || c.srcPort != 0)) || (!c.srcMem && decide (stages ≤ c.srcStage)) ||
  (c.dstMem && (c.dstStage != 0 || c.dstPort != 0 || c.depth != 0 || c.fifoOffset != 0)) ||
  (!c.dstMem && (decide (stages ≤ c.dstStage) || decide (c.depth < 2) || decide (1024 < c.depth))) ||
  c.fifoOffset % 64 != 0 || (!c.srcMem && !c.dstMem && (c.memAddr != 0 || c.memLen != 0))

/-- Two ranges overlap. -/
def overlap (a b : Nat × Nat) : Bool := decide (0 < a.2) && decide (0 < b.2) && decide (a.1 < b.1 + b.2) && decide (b.1 < a.1 + a.2)

/-- Whether some two ranges of a list overlap. -/
def anyOverlap : List (Nat × Nat) → Bool
  | [] => false
  | a :: t => t.any (overlap a) || anyOverlap t

/-- R344, step 3: the ranges of a stage's SRAM. -/
def stageRanges (g : Stage) (i : Nat) (cs : List Chan) : List (Nat × Nat) :=
  (0, g.programLen) :: (g.initOffset, g.initLen) ::
    (cs.filter fun c => !c.dstMem && c.dstStage == i).map fun c => (c.fifoOffset, c.depth * 64)

/-- R344, step 3, over a whole pipeline (log entry 90, DEDUCED). -/
def pipeBad (gs : List Stage) (cs : List Chan) : Bool :=
  twice ((cs.filter fun c => !c.srcMem).map fun c => c.srcStage * 8 + c.srcPort) ||
  twice ((cs.filter fun c => !c.dstMem).map fun c => c.dstStage * 8 + c.dstPort) ||
  (gs.zipIdx).any fun (g, i) =>
    let l := stageRanges g i cs
    (l.any fun r => decide (0 < r.2) && decide (g.units * 65536 < r.1 + r.2)) || anyOverlap l

/-- R343: the units of a context area. -/
def ctxUnits (gs : List Stage) : Nat := gs.foldl (fun n g => n + 2 + g.units) 0

/-- R343: the address of the slot of stage `i`. -/
def slotAddr (ctx : Nat) (gs : List Stage) (i : Nat) : Nat := ctx + 65536 * ctxUnits (gs.take i)

/-- R344, step 5: a range of a spoke translates to HBM in a JOBS region, page by page (log entry 90, DEDUCED). -/
def State.ctxCheck (s : State) (k : Nat) : Nat → Nat → Nat → State × Status
  | 0, _, _ => (s, .success)
  | n + 1, va, len =>
    if len = 0 then (s, .success)
    else match s.translate k va true with
      | (.bad st, s) => (s, st)
      | (.ok (.hbm a) left, s) =>
        let m := min len left
        if s.inUse [useJobs] a m then State.ctxCheck s k n (va + m) (len - m) else (s, .accessViolation)
      | (_, s) => (s, .accessViolation)

/-- R416, R417, step 5: whether a micro-op is malformed. -/
def uopBad (m : Nat) : Bool :=
  let d := bits m 15 13
  let dBad := decide (1 ≤ d) && decide (d ≤ 3)
  match bits m 3 0 with
  | 0 => bits m 31 5 != 0
  | 1 =>
    let c := bits m 12 5
    let ok := decide (c ≤ 0x0F) || c == 0x20 || (decide (0x30 ≤ c) && decide (c ≤ 0x34))
    bit m 31 || !ok || !vAccepts c (bits m 28 25) 0 || dBad
  | 2 => bits m 12 5 != 0 || bits m 31 20 != 0 || dBad
  | 3 => bits m 12 5 != 0 || bits m 31 20 != 0
  | 4 => bits m 15 5 != 0 || bits m 31 17 != 0
  | _ => true

/-- Whether an entry is malformed: no LAST, or something after it. -/
def entryBad (l : List Nat) : Bool :=
  match l.dropWhile fun m => !bit m 4 with
  | [] => true
  | _ :: rest => rest.any (· != 0) || l.any uopBad

/-- R415: the table of an image's payload. -/
def mcodeOf (p : Bytes) : Mcode := { valid := Machine.u64 p 8, uops := (List.range 1024).map fun i => u32 p (64 + 4 * i) }

/-- R415: the table header. -/
def tableHeaderBad (p : Bytes) : Bool :=
  decide (p.length < 4160) || u32 p 0 != 0x434D594C || u16 p 4 != 1 || u16 p 6 != 0 || (slice p 16 48).any (· != 0)

/-- R417, step 5. -/
def tableBad (p : Bytes) : Bool :=
  let m := mcodeOf p
  (List.range 64).any fun n =>
    let l := (m.uops.drop (16 * n)).take 16
    if bit m.valid n then entryBad l else l.any (· != 0)

/-- R415: the bytes of a microcode table with its image header. -/
def mcodeBytes : Nat := imgHeader + 64 + 4096

/-- R417: validate a table for a function. -/
def State.mcodeCheck (s : State) (f : Nat) (b : Bytes) : State × Status :=
  let id := imgKeyId b
  let dig := Config.sha384 b
  if s.sec.validated.contains (f, dig, id) then (s, .success)
  else
    let p := imgPayload b
    let st := if imgFormBad 4 b || tableHeaderBad p then .malformed
      else s.imageCheck 4 (fun id => ((Map.get s.sec.enrol f).getD []).contains id) b
    if st ≠ .success then (s, st)
    else if tableBad p then (s, .malformed)
    else ({ s with sec.validated := s.sec.validated ++ [(f, dig, id)] }, .success)

/-- R341: the fields of a RUN descriptor. -/
def rPipeline (d : Bytes) : Nat := Machine.u64 d 16
def rCtx (d : Bytes) : Nat := Machine.u64 d 24
def rCtxUnits (d : Bytes) : Nat := u32 d 32 % 2 ^ 24
def rRunLimit (d : Bytes) : Nat := u32 d 36
def rMcode (d : Bytes) : Bool := bit (dKindWord d) 0
def rMcodeAddr (d : Bytes) : Nat := Machine.u64 d 48

/-- R344: what admission finds. -/
inductive Admit where
  | park (va : Nat) (r : AccRes)
  | bad (st : Status)
  | ok (gs : List Stage) (cs : List Chan)
deriving DecidableEq

/-- R344, steps 2 and 3: read and check the pipeline descriptor (log entry 179, DEDUCED). -/
def State.readPipe (s : State) (k : Nat) (d : Bytes) (ans : HostAns) : State × Admit :=
  let pa := rPipeline d
  let (s, r) := s.spokeRead k pa 64 ans
  let st := withMarks r.status r.poisoned r.medium
  if st ≠ .success then (s, if s.pages k r then .park pa r else .bad st)
  else
    let n := bits (u8 r.data 0) 6 0
    let m := bits (u16 r.data 2) 9 0
    let hb := bit (u8 r.data 0) 7 || u8 r.data 1 != 0 || bits (u16 r.data 2) 15 10 != 0 || (r.data.drop 4).any (· != 0)
    if hb || n = 0 || decide (64 < n) || decide (512 < m) || pa % 64 != 0 then (s, .bad .malformed)
    else
      let rest := match ans with
        | .ok b ep => HostAns.ok (b.drop 64) ep
        | x => x
      let (s, r) := s.spokeRead k (pa + 64) (64 * n + 32 * m) rest
      let st := withMarks r.status r.poisoned r.medium
      if st ≠ .success then (s, if s.pages k r then .park (pa + 64 + r.done) r else .bad st)
      else
        let ge := (List.range n).map fun i => slice r.data (64 * i) 64
        let ce := (List.range m).map fun i => slice r.data (64 * n + 32 * i) 32
        let gs := ge.map stageOf
        let cs := ce.map chanOf
        if ge.any stageBad || ce.any (chanBad n) || pipeBad gs cs || rCtx d % 65536 != 0 || rCtxUnits d = 0 ||
            decide (rCtxUnits d < ctxUnits gs) || rRunLimit d = 0 || (!rMcode d && rMcodeAddr d != 0) then (s, .bad .malformed)
        else (s, .ok gs cs)

/-- R344: take a job in (log entry 90, DEDUCED). -/
def State.admitJob (s : State) (o : Nat) (x : Op) (q : Queue) (ans mans : HostAns) : State :=
  let k := q.spoke
  let limit := match s.spoke k with
    | some sp => sp.tileLimit
    | none => 0
  if limit = 0 then s.finish o .notPermitted 0 0
  else match s.readPipe k x.desc ans with
    | (s, .park va r) => s.parkOp o va k r
    | (s, .bad st) => s.finish o st 0 0
    | (s, .ok gs cs) =>
      if s.usable < gs.length then s.finish o .resource 0 0
      else
        let n := rCtxUnits x.desc * 65536
        match s.ctxCheck k (n / 4096 + 1) (rCtx x.desc) n with
        | (s, .success) =>
          let (s, mc, r) := if rMcode x.desc then
              let (s, r) := s.spokeRead k (rMcodeAddr x.desc) mcodeBytes mans
              let st := withMarks r.status r.poisoned r.medium
              if st ≠ .success then (s, st, r)
              else
                let (s, st) := s.mcodeCheck (s.spokeFn k) r.data
                (s, st, r)
            else (s, .success, {})
          if s.pages k r then s.parkOp o (rMcodeAddr x.desc + r.done) k r
          else if mc ≠ .success then s.finish o mc 0 0
          else
            let j : Job := {
              op := o, queue := x.queue, spoke := k, ctx := rCtx x.desc, runLimit := rRunLimit x.desc
              seed := Machine.u64 x.desc 40, arg := Machine.u64 x.desc 56
              mcode := if rMcode x.desc then mcodeOf (imgPayload r.data) else {}
              stages := gs, chans := cs, waitAt := s.now }
            let s := s.account
            let s := if s.backlogged.contains k then s else s.becomeBacklogged k
            let s := s.modOp o fun x => { x with posted := true }
            { s with str.jobs := Map.put s.str.jobs s.str.nextJob j, str.nextJob := s.str.nextJob + 1 }
        | (s, _) => s.finish o .accessViolation 0 0

/-- RUN (R344). -/
def State.run (s : State) (o : Nat) (ans mans : HostAns) : State :=
  match s.running o .streamJob with
  | none => s
  | some (x, q) =>
    if x.posted || !s.serves 3 || decide (4096 ≤ s.str.jobs.length) then s else s.admitJob o x q ans mans

def execRun (o : Nat) (ans mans : HostAns) (s : State) : Outcome := .next (s.run o ans mans)

/-! ## Scheduling (R349-R353) -/

/-- R350: a spoke's next job: its queues in turn, a queue's jobs in admission order (log entry 87, DEDUCED). -/
def State.nextJobOf (s : State) (k : Nat) : Option (Nat × Job) :=
  let w := s.str.jobs.filter fun (_, j) => j.spoke == k && j.phase == .waiting
  let last := (Map.get s.str.turn k).getD 0
  let qs := (w.map fun (_, j) => j.queue).foldl setIns []
  match qs.find? (last < ·), qs.head? with
  | some q, _ => w.find? fun (_, j) => j.queue == q
  | none, some q => w.find? fun (_, j) => j.queue == q
  | none, none => none

/-- The stages of a job that bind. -/
def Job.live (j : Job) : List Nat := (List.range j.stages.length).filter fun i => match j.stages[i]? with
  | some g => !g.ended
  | none => false

/-- R349: whether a spoke's bucket lets a job of so many stages bind. -/
def State.mayBind (s : State) (k n : Nat) : Bool :=
  match s.spoke k with
  | none => false
  | some sp => decide (((min (n * s.minRunUs * 1000) (4000 * sp.tileLimit) * 1000 : Nat) : Int) ≤ (Map.get s.str.bucket k).getD 0)

/-- R350: the job selected: of the spokes that may bind, the lowest virtual time, then the lowest number. -/
def State.selected (s : State) : Option (Nat × Job) :=
  let l := s.backlogged.filterMap fun k => match s.nextJobOf k with
    | some (j, x) => if s.mayBind k x.live.length then some (k, j, x) else none
    | none => none
  (l.foldl (fun (b : Option (Nat × Nat × Job)) c => match b with
    | none => some c
    | some d => if s.vt c.1 < s.vt d.1 ∨ (s.vt c.1 = s.vt d.1 ∧ c.1 < d.1) then some c else some d) none).map Prod.snd

/-- R353: pre-empt a job: its tiles stop and save (log entry 89, DEDUCED). -/
def State.preempt (s : State) (j : Nat) : State :=
  match s.job j with
  | none => s
  | some x =>
    if x.phase ≠ .bound ∨ x.live = [] then s
    else
      let s := s.account
      let dt := s.now - x.boundAt
      let done := (x.stages.filter Stage.ended).filterMap Stage.tile
      let stages := x.stages.map fun g => if g.ended then { g with tile := none } else g
      let x := { x with phase := .saving, boundNs := x.boundNs + dt, tileNs := x.tileNs + dt * x.tiles.length
                        preempts := x.preempts + 1, stages := stages, stalledAt := none
                        chans := x.chans.map fun c => { c with parked := false } }
      let s := (s.setJob j x).rsat 0x600010 63 0 1
      let s := x.tiles.foldl (fun s t => s.setTile t { s.tile t with phase := .saving }) s
      s.freeJobTiles done

/-- R351: the running jobs of other spokes, highest virtual time first, that may make room for a spoke. -/
def State.victims (s : State) (k : Nat) : List (Nat × Job) :=
  let l := s.str.jobs.filter fun (_, x) =>
    x.phase == .bound && x.spoke != k && decide (s.vt k < s.vt x.spoke) && decide (x.boundAt + s.minRunUs * 1000 ≤ s.now)
  l.mergeSort fun a b => decide (s.vt b.2.spoke ≤ s.vt a.2.spoke)

/-- Victims until enough tiles come free; none when even all would not do. -/
def enough : Nat → List (Nat × Job) → Option (List Nat)
  | 0, _ => some []
  | _ + 1, [] => none
  | n + 1, (j, x) :: t => (enough (n + 1 - x.tiles.length) t).map (j :: ·)

/-- SCHEDULER_DECISION (R349-R351): the pre-emptions (log entry 87, DEDUCED). -/
def State.schedulerDecision (s : State) : State :=
  if !s.serves 3 then s
  else
    let s := s.account
    let dry := s.str.jobs.filter fun (_, x) => x.phase == .bound && decide ((Map.get s.str.bucket x.spoke).getD 0 ≤ 0)
    let s := dry.foldl (fun s p => s.preempt p.1) s
    let waits := s.str.jobs.any fun (_, x) => x.phase == .waiting
    let stalled := s.str.jobs.filter fun (_, x) => x.phase == .bound && (match x.stalledAt with
      | some t => decide (t + s.faultPreemptUs * 1000 < s.now)
      | none => false)
    let s := if waits then stalled.foldl (fun s p => s.preempt p.1) s else s
    match s.selected with
    | none => s
    | some (_, x) =>
      if x.live.length ≤ s.freeTiles then s
      else match enough (x.live.length - s.freeTiles) (s.victims x.spoke) with
        | some l => l.foldl State.preempt s
        | none => s

def execSchedulerDecision (s : State) : Outcome := .next s.schedulerDecision

/-- R350, R351: whether a waiting job may bind now: it is selected, or it fits beside a selected job that does not
(log entry 87, DEDUCED). -/
def State.bindable (s : State) (j : Nat) (x : Job) : Bool :=
  x.phase == .waiting && decide (x.live.length ≤ s.freeTiles) &&
  (match s.selected with
   | none => false
   | some (i, y) =>
     i == j || (decide (s.freeTiles < y.live.length) && decide (s.now < y.waitAt + 2000000) && s.mayBind x.spoke x.live.length &&
       (match s.nextJobOf x.spoke with
        | some (i', _) => i' == j
        | none => false)))

/-- The tile that a stage of a job prefers. -/
def Job.prefers (x : Job) (i : Nat) : Option Nat := (x.stages[i]?).bind fun g => if g.placeEn then some g.place else none

/-- R352: whether a choice of tiles serves the stages of a job: free, distinct, each stage on its preferred tile when that
is free, unless another stage that prefers it is there (log entry 87, DEDUCED). -/
def State.tilesOk (s : State) (x : Job) (l : List Nat) : Bool :=
  let pairs := x.live.zip l
  l.length == x.live.length && !twice l && l.all s.tileFree &&
  pairs.all fun (i, t) => match x.prefers i with
    | none => true
    | some p => t == p || !s.tileFree p || pairs.any fun (j, u) => u == p && x.prefers j == some p

/-- R345: load bytes into a tile; the words of poisoned or uncorrectable data are faulted. -/
def Tile.load (t : Tile) (off : Nat) (b : Bytes) (bad : Bool) : Tile :=
  { t with
    sram := Memory.writeBytes t.sram off b
    bad := if bad then (List.range ((b.length + 7) / 8)).foldl (fun l i => setIns l (off / 8 + i)) t.bad else t.bad }

/-- R345, R364: the registers of a stage at its start. -/
def startTile (x : Job) (i : Nat) (g : Stage) : Tile :=
  let seed := x.seed ^^^ (i * 0x9E3779B97F4A7C15 % 2 ^ 64)
  { phase := .running, stage := i, mcode := x.mcode, rng := if seed = 0 then 1 else seed
    x := [(1, x.arg), (2, i), (3, x.stages.length), (4, g.units * 65536)] }

/-- What loading a stage found. -/
inductive Load where
  | ok (t : Tile)
  | page (r : AccRes)
  | bad (st : Status) (at_ : Nat)

/-- R345: read a stage's program and initial data. -/
def State.loadStage (s : State) (x : Job) (i : Nat) (g : Stage) (pa ia : HostAns) : State × Load :=
  let (s, r) := s.spokeRead x.spoke g.program g.programLen pa
  if r.status ≠ .success then (s, if s.pages x.spoke r then .page r else .bad r.status (g.program + r.done))
  else
    let t := (startTile x i g).load 0 r.data (r.poisoned || r.medium)
    if g.initLen = 0 then (s, .ok t)
    else
      let (s, r) := s.spokeRead x.spoke g.init g.initLen ia
      if r.status ≠ .success then (s, if s.pages x.spoke r then .page r else .bad r.status (g.init + r.done))
      else (s, .ok (t.load g.initOffset r.data (r.poisoned || r.medium)))

/-- Load the stages of a fresh job onto tiles. -/
def State.loadStages (s : State) (j : Nat) (x : Job) (ans : List HostAns) : List (Nat × Nat) → State × List (Nat × Tile) × Option (Status × Nat) × Bool
  | [] => (s, [], none, false)
  | (i, t) :: rest =>
    match x.stages[i]? with
    | none => (s, [], none, false)
    | some g =>
      match s.loadStage x i g (ans.getD (2 * i) (.ok [] false)) (ans.getD (2 * i + 1) (.ok [] false)) with
      | (s, .page r) => (s.pageFor x.spoke r (.tile t), [], none, true)
      | (s, .bad st a) => (s, [], some (st, failDetail a i 0), false)
      | (s, .ok tl) =>
        let (s, l, e, p) := State.loadStages s j x ans rest
        (s, (t, { tl with job := j }) :: l, e, p)

/-- R345, R352, R356: bind all stages of a job: a fresh job loads and starts, a saved one restores
(log entry 87, DEDUCED). -/
def State.jobBind (s : State) (j : Nat) (tiles : List Nat) (ans : List HostAns) : State :=
  let s := s.account
  match s.job j with
  | none => s
  | some x =>
    if !s.serves 3 || !s.bindable j x || !s.tilesOk x tiles then s
    else
      let pairs := x.live.zip tiles
      let stages := (x.stages.zipIdx).map fun (g, i) => match pairs.find? fun p => p.1 == i with
        | some (_, t) => { g with tile := some t }
        | none => g
      let x' := { x with phase := .bound, boundAt := s.now, movedAt := s.now, stages := stages }
      let fresh := x.stages.all fun g => g.saved.isNone
      if fresh then
        match s.loadStages j x ans pairs with
        | (s, _, some (st, d), _) => s.failJob j st d
        | (s, _, none, true) => s
        | (s, l, none, false) =>
          let s := State.restartUnits { s with str.turn := Map.put s.str.turn x.spoke x.queue } tiles
          l.foldl (fun s p => s.setTile p.1 p.2) (s.setJob j x')
      else
        let s := State.restartUnits { s with str.turn := Map.put s.str.turn x.spoke x.queue } tiles
        pairs.foldl (fun s (i, t) => s.setTile t { phase := .restoring, job := j, stage := i }) (s.setJob j x')

def execJobBind (j : Nat) (tiles : List Nat) (ans : List HostAns) (s : State) : Outcome := .next (s.jobBind j tiles ans)

/-! ## Context (R353-R356) -/

/-- The 64-byte blocks of SRAM that hold faulted words. -/
def Tile.badBlocks (t : Tile) : List Nat := (t.bad.map (· / 8)).eraseDups

/-- CONTEXT_SAVE_COMPLETE (R354, R355): the context is in its slot and the tile is free.  The layout of the register
context is not given: its bytes in the slot are free values, and the model keeps the registers beside them
(log entries 88, DESIGN CHOICE; 89, DEDUCED). -/
def State.contextSaved (s : State) (t : Nat) : State :=
  let tl := s.tile t
  match s.job tl.job with
  | none => s
  | some x =>
    match tl.phase, x.stages[tl.stage]? with
    | .saving, some g =>
      let a := slotAddr x.ctx x.stages tl.stage
      let n := 131072 + g.units * 65536
      match s.ctxCheck x.spoke (n / 4096 + 1) a n with
      | (s, .success) =>
        let (regs, s) := s.drawBytes 98304
        let (s, _) := s.spokeWrite x.spoke a regs false (.ok [] false)
        let (s, _) := s.spokeWrite x.spoke (a + 131072) (Memory.readBytes tl.sram 0 (g.units * 65536)) false (.ok [] false)
        let s := tl.badBlocks.foldl (fun s b =>
          (s.spokeWrite x.spoke (a + 131072 + 64 * b) (Memory.readBytes tl.sram (64 * b) 64) true (.ok [] false)).1) s
        let keep : Tile := { tl with sram := [], bad := [], icache := [] }
        let set (i : Nat) (h : Stage) : Stage := if i = tl.stage then { h with saved := some keep, tile := none } else h
        let x := { x with stages := (x.stages.zipIdx).map fun (h, i) => set i h }
        let last := x.tiles = []
        let s := s.setJob tl.job { x with phase := if last then .waiting else .saving, waitAt := s.now }
        let s := if last then (s.account).becomeBacklogged x.spoke else s
        ((s.clearTile t).tileFreed t)
      | (s, st) => s.failJob tl.job st (failDetail a tl.stage 0)
    | _, _ => s

def execContextSaveComplete (t : Nat) (s : State) : Outcome := .next (s.contextSaved t).failTooBig

/-- Read 64-byte blocks of a spoke's memory one by one, each with whether it bears a mark, and the worst status. -/
def State.readContext (s : State) (k va n : Nat) : State × List (Bytes × Bool) × Status :=
  (List.range n).foldl (fun (acc : State × List (Bytes × Bool) × Status) i =>
    let (s, r) := acc.1.spokeRead k (va + 64 * i) 64 (.ok [] false)
    (s, acc.2.1 ++ [(r.data, r.poisoned || r.medium)], acc.2.2.worse r.status)) (s, [], .success)

/-- CONTEXT_RESTORE_COMPLETE (R355, R356): the tile holds the saved context and resumes
(log entries 88, DESIGN CHOICE; 89, DEDUCED). -/
def State.contextRestored (s : State) (t : Nat) : State :=
  let tl := s.tile t
  match s.job tl.job with
  | none => s
  | some x =>
    match tl.phase, (x.stages[tl.stage]?).bind fun g => g.saved.map fun k => (g, k) with
    | .restoring, some (g, keep) =>
      let a := slotAddr x.ctx x.stages tl.stage
      let (s, r) := s.spokeRead x.spoke a 131072 (.ok [] false)
      if r.status ≠ .success then s.failJob tl.job r.status (failDetail a tl.stage 0)
      else if r.medium then s.failJob tl.job .mediumError (failDetail a tl.stage 0)
      else
        let (s, l, st) := s.readContext x.spoke (a + 131072) (g.units * 1024)
        if st ≠ .success then s.failJob tl.job st (failDetail a tl.stage 0)
        else
          let tl' := (l.zipIdx).foldl (fun (k : Tile) (b, i) => k.load (64 * i) b.1 b.2) { keep with sram := [], bad := [] }
          let set (i : Nat) (h : Stage) : Stage := if i = tl.stage then { h with saved := none } else h
          let s := s.modJob tl.job fun y => { y with stages := (y.stages.zipIdx).map fun (h, i) => set i h }
          s.setTile t { tl' with phase := .running }
    | _, _ => s

def execContextRestoreComplete (t : Nat) (s : State) : Outcome := .next (s.contextRestored t)

/-! ## Memory streams (R340, R347, R388) -/

/-- Whether a spoke address lies in the function's own memory. -/
def State.hostLeaf (s : State) (k va : Nat) (w : Bool) : Bool :=
  match (s.translate k va w).1 with
  | .ok (.host _ _) _ => true
  | _ => false

/-- Whether a stream access must wait because its spoke's work is frozen (R166). -/
def State.streamHeld (s : State) (k va : Nat) (w : Bool) : Bool := s.frozenFn (s.spokeFn k) && s.hostLeaf k va w

def Job.setChan (j : Job) (i : Nat) (c : Chan) : Job := { j with chans := j.chans.set i c }

/-- Park a channel on its page. -/
def State.parkChan (s : State) (j : Nat) (x : Job) (i t : Nat) (c : Chan) (r : AccRes) : State :=
  let x := x.setChan i { c with parked := true }
  (s.setJob j { x with stalledAt := some (x.stalledAt.getD s.now) }).pageFor x.spoke r (.tile t)

/-- Write the flits that a sink holds, in order; `t` is the tile that serves it (log entry 89, DEDUCED). -/
def State.drainSink (s : State) (j i t : Nat) (ans : HostAns) : Nat → State
  | 0 => s
  | n + 1 =>
    match s.job j with
    | none => s
    | some x => match x.chans[i]? with
      | none => s
      | some c => match c.fifo with
        | [] => s
        | f :: rest =>
          let va := c.memAddr + c.offset
          if c.parked then s
          else if c.memLen < c.offset + f.valid then s.failJob j .accessViolation (failDetail va c.srcStage 0)
          else if f.valid ≠ 0 ∧ s.streamHeld x.spoke va true then
            s.setJob j { x with stalledAt := some (x.stalledAt.getD s.now) }
          else
            let (s, r) := if f.valid = 0 then (s, {}) else s.spokeWrite x.spoke va (f.data.take f.valid) f.fault ans
            if r.status ≠ .success then
              if s.pages x.spoke r then s.parkChan j x i t c r else s.failJob j r.status (failDetail va c.srcStage 0)
            else
              let x := x.setChan i { c with fifo := rest, offset := c.offset + f.valid }
              let mark := if f.fault && f.valid != 0 && x.marked.isNone then some (failDetail va c.srcStage 0) else x.marked
              let s := s.setJob j { x with sinkBytes := x.sinkBytes + f.valid, marked := mark, movedAt := s.now, stalledAt := none }
              State.drainSink s j i t ans n

/-- The sink channels of a stage. -/
def Job.sinksOf (x : Job) (stage : Nat) : List Nat :=
  (List.range x.chans.length).filter fun i => match x.chans[i]? with
    | some c => c.dstMem && c.srcStage == stage
    | none => false

/-- Whether a stage's sinks have written everything. -/
def Job.drained (x : Job) (stage : Nat) : Bool :=
  (x.sinksOf stage).all fun i => match x.chans[i]? with
    | some c => c.fifo == []
    | none => true

/-- Drain a stage's sinks. -/
def State.drainStage (s : State) (j stage t : Nat) (ans : HostAns) : State :=
  match s.job j with
  | none => s
  | some x => (x.sinksOf stage).foldl (fun s i =>
      let n := match x.chans[i]? with
        | some c => c.fifo.length
        | none => 0
      s.drainSink j i t ans n) s

/-- R388: counter updates whose earlier sink flits have landed go to TRG. -/
def State.landCounts (s : State) (j t : Nat) : State :=
  match s.job j with
  | none => s
  | some x =>
    let tl := s.tile t
    if tl.cnts = [] || !x.drained tl.stage then s
    else
      let s := tl.cnts.foldl (fun s c => s.sendUpdate { counter := c.1, spoke := x.spoke, amount := c.2 }) s
      s.setTile t { tl with cnts := [] }

/-- R340: a memory source moves one flit into its FIFO (log entry 85, DEDUCED). -/
def State.sourceMove (s : State) (j i t : Nat) (ans : HostAns) : State :=
  match s.job j with
  | none => s
  | some x => match x.chans[i]? with
    | none => s
    | some c =>
      let ended := match x.stages[c.dstStage]? with
        | some g => g.ended
        | none => true
      if !c.srcMem || c.sentLast || c.parked || (!ended && decide (c.depth ≤ c.fifo.length)) then s
      else
        let n := min 64 (c.memLen - c.offset)
        let va := c.memAddr + c.offset
        if n ≠ 0 ∧ s.streamHeld x.spoke va false then s.setJob j { x with stalledAt := some (x.stalledAt.getD s.now) }
        else
          let (s, r) := if n = 0 then (s, {}) else s.spokeRead x.spoke va n ans
          if r.status ≠ .success then
            if s.pages x.spoke r then s.parkChan j x i t c r else s.failJob j r.status (failDetail va c.dstStage 0)
          else
            let last := c.memLen ≤ c.offset + n
            let f : Flit := { data := padTo 64 r.data, valid := n, last := last, fault := r.poisoned || r.medium }
            let c := { c with offset := c.offset + n, sentLast := last, fifo := if ended then c.fifo else c.fifo ++ [f] }
            s.setJob j { x.setChan i c with residue := x.residue || ended, movedAt := s.now, stalledAt := none }

/-! ## Bundle issue (R374, R376, R389, R411, R412) -/

/-- The channel of a job at an input or output port of a stage. -/
def Job.inChan (x : Job) (stage port : Nat) : Option (Nat × Chan) :=
  ((x.chans.zipIdx).find? fun (c, _) => !c.dstMem && c.dstStage == stage && c.dstPort == port).map fun (c, i) => (i, c)
def Job.outChan (x : Job) (stage port : Nat) : Option (Nat × Chan) :=
  ((x.chans.zipIdx).find? fun (c, _) => !c.srcMem && c.srcStage == stage && c.srcPort == port).map fun (c, i) => (i, c)

def Job.stageEnded (x : Job) (i : Nat) : Bool :=
  match x.stages[i]? with
  | some g => g.ended
  | none => true

/-- What a tile's bundle sees. -/
def State.env (s : State) (x : Job) (t : Nat) (bound : Nat) : Env :=
  let g := (s.tile t).stage
  { bound := bound, clock := s.counterOf t
    owns := fun c => match Map.get s.trg.counters c with
      | some k => k.spoke == x.spoke
      | none => false
    ins := fun p => (x.inChan g p).map Prod.snd
    outs := fun p => (x.outChan g p).map fun (_, c) => { c with parked := c.parked || (c.dstMem && c.fifo != []) }
    ended := fun p => match x.outChan g p with
      | some (_, c) => !c.dstMem && x.stageEnded c.dstStage
      | none => true
    ctr := s.freeCtr }

/-- One effect of a bundle. -/
def State.bundleEff (s : State) (j t : Nat) (e : Eff) : State :=
  match s.job j with
  | none => s
  | some x =>
    let g := (s.tile t).stage
    match e with
    | .send p l =>
      match x.outChan g p with
      | none => s
      | some (i, c) =>
        let gone := !c.dstMem && x.stageEnded c.dstStage
        let c := { c with sentLast := c.sentLast || l.any Flit.last, fifo := if gone then c.fifo else c.fifo ++ l }
        s.setJob j { x.setChan i c with residue := x.residue || gone }
    | .recv p n =>
      match x.inChan g p with
      | none => s
      | some (i, c) =>
        s.setJob j (x.setChan i { c with fifo := c.fifo.drop n, tookLast := c.tookLast || (c.fifo.take n).any Flit.last })
    | .count c n => s.setTile t { s.tile t with cnts := (s.tile t).cnts ++ [(c, n)] }
    | .finish =>
      let set (i : Nat) (h : Stage) : Stage := if i = g then { h with ended := true } else h
      let left := x.chans.any fun c => !c.dstMem && c.dstStage == g && c.fifo != []
      let cs := x.chans.map fun c => if !c.dstMem && c.dstStage == g then { c with fifo := [] } else c
      s.setJob j { x with stages := (x.stages.zipIdx).map fun (h, i) => set i h, chans := cs, residue := x.residue || left }
    | _ => s

/-- R374: the bundle at the program counter: the cached copy where it still is the SRAM's, either of the two where a
store has changed the SRAM since the fill (a free value decides) (log entry 99, DEDUCED). -/
def State.fetchBundle (s : State) (t : Nat) : State × Bytes × Bool :=
  let tl := s.tile t
  let m := Memory.readBytes tl.sram tl.pc 64
  match Map.get tl.icache tl.pc with
  | some b =>
    if b = m then (s, b, false)
    else
      let (v, s) := s.draw 1
      if v = 0 then (s, b, false)
      else (s.setTile t { tl with icache := Map.put tl.icache tl.pc m }, m, tl.badLanes tl.pc 64 != 0)
  | none =>
    if tl.badLanes tl.pc 64 != 0 then (s, m, true)
    else (s.setTile t { tl with icache := Map.put tl.icache tl.pc m }, m, false)

/-- Run the next bundle of a tile (log entry 85, DEDUCED). -/
def State.issue (s : State) (j t : Nat) (ans : HostAns) : State :=
  match s.job j with
  | none => s
  | some x =>
    let stage := (s.tile t).stage
    let bound := match x.stages[stage]? with
      | some g => g.units * 65536
      | none => 0
    let exc (s : State) (c : Nat) : State := s.failJob j .tileException (failDetail (s.tile t).pc stage c)
    if x.stageEnded stage then s
    else if bound < (s.tile t).pc + 64 then exc s cBounds
    else
      let (s, b, bad) := s.fetchBundle t
      if bad then exc s cFetch
      else
        let tl := s.tile t
        match runBundle tl (s.env x t bound) b with
        | .stalled => s
        | .except c => exc s c
        | .issued l =>
          let n := l.foldl (fun a o => a + o.ctr) 0
          let s := { s with freeCtr := if n = 0 then s.freeCtr else s.freeCtr + 131072 }
          let s := s.setTile t (tl.commit l)
          let s := (s.modJob j fun y => { y with movedAt := s.now })
          let s := (l.flatMap SlotOut.effs).foldl (fun s e => s.bundleEff j t e) s
          (s.drainStage j stage t ans).landCounts j t

/-- R357: record uncorrectable SRAM words of a tile; three distinct offsets within 24 hours retire it
(log entry 91, DEDUCED). -/
def State.upsetTile (s : State) (t : Nat) (l : List Nat) : State × Bool :=
  if l = [] then (s, false)
  else
    let tl := s.tile t
    let old := ((Map.get s.str.uncorr t).getD []).filter fun x => s.now < x.2 + 86400000000000
    let r := old ++ l.map fun w => (w, s.now)
    let s := { s with str.uncorr := Map.put s.str.uncorr t r }
    (s.setTile t { tl with bad := l.foldl setIns tl.bad }, decide (3 ≤ ((r.map Prod.fst).eraseDups).length))

/-- R357: start the retirement of a tile (log entry 91, DEDUCED). -/
def State.retireTile (s : State) (t : Nat) (who : Option (Nat × Nat)) : State :=
  if (s.tile t).phase = .free then s.retireNow t who
  else
    let s := { s with str.retiring := s.str.retiring ++ [Retiring.mk t who] }
    s.preempt (s.tile t).job

/-- BUNDLE_ISSUE (R376): the stream unit moves the named sources' flits and the sinks' backlog, then the tile issues
one bundle unless it stalls.  `upsets` are SRAM words that an access finds uncorrectable (log entry 85, DEDUCED). -/
def State.bundleIssue (s : State) (t : Nat) (upsets : List Nat) (srcs : List (Nat × HostAns)) (ans : HostAns) : State :=
  let tl := s.tile t
  if tl.phase ≠ .running then s
  else
    let j := tl.job
    let (s, gone) := s.upsetTile t upsets
    let s := (s.drainStage j tl.stage t ans).landCounts j t
    let mine (i : Nat) : Bool := match s.job j with
      | some x => match x.chans[i]? with
        | some c => c.srcMem && c.dstStage == tl.stage
        | none => false
      | none => false
    let s := (srcs.filter fun p => mine p.1).foldl (fun s p => s.sourceMove j p.1 t p.2) s
    let s := s.issue j t ans
    if gone && !s.str.retired.contains t && !(s.str.retiring.any fun r => r.tile == t) then (s.retireTile t none).failTooBig else s

def execBundleIssue (t : Nat) (upsets : List Nat) (srcs : List (Nat × HostAns)) (ans : HostAns) (s : State) : Outcome :=
  .next (s.bundleIssue t upsets srcs ans)

/-! ## The end of a job (R346, R347) -/

/-- JOB_COMPLETE (R346). -/
def State.jobComplete (s : State) (j : Nat) (ans : HostAns) : State :=
  match s.job j with
  | none => s
  | some x =>
    if x.phase ≠ .bound ∨ !(x.stages.all Stage.ended) then s
    else
      let s := (List.range x.stages.length).foldl (fun s i =>
        let t := ((x.stages[i]?).bind Stage.tile).getD 0
        (s.drainStage j i t ans).landCounts j t) s
      match s.job j with
      | none => s
      | some x =>
        if !((List.range x.stages.length).all x.drained) then s
        else
          let dt := s.now - x.boundAt
          let us := (x.tileNs + dt * x.tiles.length) / 1000
          let s := s.modOp x.op fun o => { o with flags := b2n x.residue }
          let n := min x.sinkBytes (2 ^ 32 - 1)
          match x.marked with
          | some d => (s.dropJob j).finish x.op .poisoned n d
          | none => (s.dropJob j).finish x.op .success n (us % 2 ^ 32 + min x.preempts 65535 * 2 ^ 32)

def execJobComplete (j : Nat) (ans : HostAns) (s : State) : Outcome := .next (s.jobComplete j ans)

/-- RUN_LIMIT_EXPIRE (R347). -/
def State.runLimit (s : State) (j : Nat) : State :=
  match s.job j with
  | none => s
  | some x =>
    if x.phase ≠ .bound ∨ x.runLimit = 0xFFFFFFFF then s
    else
      let due := x.boundAt + (x.runLimit * 1000 - x.boundNs) + 1
      State.failJob { s with now := max s.now due } j .timeout 0

def execRunLimitExpire (j : Nat) (s : State) : Outcome := .next (s.runLimit j)

/-- DEADLOCK_TIMEOUT (R347): no bundle and no stream movement, with no stream parked. -/
def State.deadlock (s : State) (j : Nat) : State :=
  match s.job j with
  | none => s
  | some x =>
    if x.phase ≠ .bound ∨ x.stalledAt.isSome ∨ x.chans.any Chan.parked ∨ x.live = [] then s
    else
      let due := x.movedAt + 1000 * max 100 (s.rfield 0x600000 47 32)
      State.failJob { s with now := max s.now due } j .timeout 0

def execDeadlockTimeout (j : Nat) (s : State) : Outcome := .next (s.deadlock j)

/-! ## TILE_RETIRE and gating (R357, R584) -/

/-- TILE_RETIRE: the response comes when the tile is gated and its record is committed. -/
def State.tileRetire (s : State) (f : Nat) (p : Bytes) : Reply :=
  let t := bits (u8 p 0) 5 0
  if f % 4 ≠ 0 then Reply.err s .notPermitted
  else if bit (u8 p 1) 0 then
    if (s.jGet 0x0501 t).isNone then Reply.ok s [] else { st := s, journal := [(0x0501, t, true, [])] }
  else if s.str.retired.contains t then Reply.ok s []
  else if s.str.retiring.any fun r => r.tile == t then
    { st := { s with str.retiring := s.str.retiring ++ [⟨t, some (f, (s.fn f).mb.seq)⟩] }, wait := true }
  else { st := (s.retireTile t (some (f, (s.fn f).mb.seq))).failTooBig, wait := true }

def execTileRetire (f : Nat) (s : State) : Outcome := .next (s.perform f 0x0501 fun p s => s.tileRetire f p)

/-- TILE_GATE (R584): a tile free for GATE_IDLE_US is power-gated. -/
def State.tileGate (s : State) (t : Nat) : State :=
  let tl := s.tile t
  if !s.tileFree t || tl.gated || s.rfield aLowPwr 31 16 = 0 then s
  else
    let s := { s with now := max s.now (tl.freeAt + 1000 * s.rfield aLowPwr 31 16) }
    s.setTile t { tl with gated := true }

def execTileGate (t : Nat) (s : State) : Outcome := .next (s.tileGate t)

end Sys2Proof.Machine
end

