-- ==== Sys2Proof/Machine/Copy.lean ====
section
/-! DEFINITION. COPY and FILL, the answers to the H9's own non-posted requests, and page requests (R94, R95, R110,
R111, R125, R134, R203, R205-R207). -/

namespace Sys2Proof.Machine
open Sys2Proof

/-! ## Tagged requests (R94, R134) -/

/-- R94: the non-posted requests that a link holds at most, quarantined tags included (R135). -/
def tagLimit : Nat := 16384

/-- The key of an outstanding request: port and tag. -/
def reqKey (q tag : Nat) : Nat := tagLimit * q + tag

/-- The lowest free tag of a port. -/
def State.freeTag (s : State) (q : Nat) : Option Nat :=
  (Map.freeFrom s.host.reqs (reqKey q 0) tagLimit).map (· - reqKey q 0)

/-- Note a request under a tag of a port. -/
def State.noteReq (s : State) (q tag : Nat) (r : Req) : State :=
  { s with host.reqs := Map.put s.host.reqs (reqKey q tag) r }

/-- R134: abandon outstanding requests: their tags are quarantined. -/
def State.quarantineReqs (s : State) (p : Req → Bool) : State :=
  { s with host.reqs := s.host.reqs.map fun (k, r) => (k, if p r then { r with quarantined := true } else r) }

/-! ## COPY and FILL (R205, R207) -/

def cSrc (d : Bytes) : Nat := Machine.u64 d 16
def cDst (d : Bytes) : Nat := Machine.u64 d 24
def cLen (d : Bytes) : Nat := fld d 32 5
def cSrcDev (d : Bytes) : Bool := bit (dKindWord d) 0
def cDstDev (d : Bytes) : Bool := bit (dKindWord d) 1

/-- The uses of the regions that a device operand may name (R205). -/
def devUses : List Nat := [useJobs, useStaging, usePtab]

/-- The end of a page-bounded piece that starts at a source and a destination address (log entry 41, DEDUCED). -/
def pieceLen (src dst left : Nat) : Nat := min left (min (4096 - src % 4096) (4096 - dst % 4096))

/-- Finish a COPY or FILL; the detail of a success or of a refused field is zero. -/
def State.copyEnd (s : State) (o : Nat) (x : Op) (st : Status) (detail : Nat) : State :=
  let st := withMarks st x.poisoned x.medium
  s.finish o st (min x.bytes (2 ^ 32 - 1)) (if st == .success then 0 else detail)

/-- Write bytes to the destination from offset `off` on. -/
def State.copyWrite (s : State) (k : Nat) (d : Bytes) (off : Nat) (b : Bytes) (ep : Bool) (ans : HostAns) : State × AccRes :=
  let a := cDst d + off
  if cDstDev d then
    if s.inUse devUses a b.length then (s.hbmWrite a b ep, { done := b.length }) else (s, { status := .accessViolation })
  else s.spokeWrite k a b ep ans

/-- R205: the bytes written where source and destination overlap are free values (log entry 42, DEDUCED). -/
def State.overlapFree (s : State) (d : Bytes) (off : Nat) (b : Bytes) : State × Bytes :=
  let lo := max (cSrc d) (cDst d)
  let hi := min (cSrc d) (cDst d) + cLen d
  let a := cDst d + off
  if cSrcDev d != cDstDev d || hi ≤ lo || hi ≤ a || a + b.length ≤ lo then (s, b)
  else
    let i := max lo a - a
    let n := min hi (a + b.length) - a - i
    let (f, s) := s.drawBytes n
    (s, patch b i f)

/-- Write the bytes that a COPY holds; a page fault parks it, a failure ends it (log entry 41, DEDUCED). -/
def State.copyFlush (s : State) (o : Nat) (x : Op) (q : Queue) (b : Bytes) (ep : Bool) (ans : HostAns) : State :=
  let (s, b') := s.overlapFree x.desc x.bytes b
  let (s, r) := s.copyWrite q.spoke x.desc x.bytes b' ep ans
  let y : Op := { x with bytes := x.bytes + r.done, buf := none, poisoned := x.poisoned || ep }
  if r.status == .success then
    let s := s.modOp o fun _ => y
    if cLen x.desc ≤ y.bytes then s.copyEnd o y .success y.detail else s
  else
    let y : Op := { y with buf := some (b.drop r.done, ep) }
    let s := s.modOp o fun _ => y
    let a := cDst x.desc + y.bytes
    if s.pages q.spoke r then s.parkOp o a q.spoke r else s.copyEnd o y r.status a

/-- Read a piece of the source: from HBM at once, from a host or a port by a tagged read (log entry 41, DEDUCED). -/
def State.copyRead (s : State) (o : Nat) (x : Op) (q : Queue) (rd wr : HostAns) : State :=
  let d := x.desc
  let a := cSrc d + x.bytes
  let n := pieceLen a (cDst d + x.bytes) (cLen d - x.bytes)
  let got (s : State) (addr : Nat) : State :=
    let (s, b, f) := s.hbmRead addr n
    let y : Op := { x with medium := x.medium || f == .uncorrectable, poisoned := x.poisoned || f == .poisoned,
                           detail := if f == .clean || x.poisoned || x.medium then x.detail else a }
    s.copyFlush o y q b (f != .clean) wr
  if cSrcDev d then
    if s.inUse devUses a n then got s a else s.copyEnd o x .accessViolation a
  else
    match s.spoke q.spoke, s.translate q.spoke a false with
    | some sp, (.ok leaf _, s) =>
      let (port, e) := match leaf with
        | .peer b => (((s.claims (sp.fn / 4) b).getD 0), s.leafRead sp leaf n 0 (.ok [] false))
        | _ => (upPort sp.fn, s.leafRead sp leaf n 0 rd)
      match leaf with
      | .hbm b => got s b
      | _ =>
        let s := e.1
        if e.2.status != .success then
          if s.pages q.spoke e.2 then s.parkOp o a q.spoke e.2 else s.copyEnd o x e.2.status a
        else match s.freeTag port with
          | none => s
          | some tag =>
            let f := s.fn sp.fn
            let untr := !sp.base && !f.atsEn && (match leaf with
              | .host _ _ => true
              | _ => false)
            let s := s.noteReq port tag { fn := sp.fn, port := port, purpose := .copyRead o a n, issued := s.now, pasid := untr }
            let s := s.emit (match leaf with
              | .host b _ => .memRead sp.fn sp.pasidOpt f.atsEn b n tag
              | .peer b => .peerRead sp.fn b n tag
              | .hbm b => .peerRead sp.fn b n tag)
            s.modOp o fun y => { y with reading := true }
    | _, (.bad st, s) => s.copyEnd o x st a
    | none, _ => s

/-- R205: a device operand on another spoke than PF0's base spoke. -/
def State.devRefused (s : State) (d : Bytes) (k : Nat) : Bool :=
  (cSrcDev d || cDstDev d) && !(s.pf0Base 0 == some k || s.pf0Base 1 == some k)

/-- COPY: one piece, up to the end of a page.  `rd` is what the host's translation of a source page gives, `wr` what
answers the writes (log entry 41, DEDUCED). -/
def State.copy (s : State) (o : Nat) (rd wr : HostAns) : State :=
  match s.running o .copy with
  | none => s
  | some (x, q) =>
    if dOpcode x.desc ≠ 1 || x.reading then s
    else if s.devRefused x.desc q.spoke then s.finish o .notPermitted 0 0
    else if cLen x.desc = 0 then s.finish o .success 0 0
    else match x.buf with
      | some (b, ep) => s.copyFlush o x q b ep wr
      | none => s.copyRead o x q rd wr

def execCopy (o : Nat) (rd wr : HostAns) (s : State) : Outcome := .next (s.copy o rd wr).hbmReport

/-- R205: `n` bytes of a pattern from address `a` on: byte i of it goes to every address congruent to i modulo 8. -/
def fillBytes (pat a n : Nat) : Bytes :=
  (List.range n).map fun i => BitVec.ofNat 8 (pat / 256 ^ ((a + i) % 8))

/-- FILL: one piece, up to the end of a page. -/
def State.fill (s : State) (o : Nat) (wr : HostAns) : State :=
  match s.running o .copy with
  | none => s
  | some (x, q) =>
    if dOpcode x.desc ≠ 2 then s
    else if s.devRefused x.desc q.spoke then s.finish o .notPermitted 0 0
    else if cLen x.desc ≤ x.bytes then s.finish o .success 0 0
    else
      let a := cDst x.desc + x.bytes
      let n := min (cLen x.desc - x.bytes) (4096 - a % 4096)
      let (s, r) := s.copyWrite q.spoke x.desc x.bytes (fillBytes (cSrc x.desc) a n) false wr
      let y : Op := { x with bytes := x.bytes + r.done }
      let s := s.modOp o fun _ => y
      if r.status == .success then (if cLen x.desc ≤ y.bytes then s.copyEnd o y .success 0 else s)
      else
        let b := cDst x.desc + y.bytes
        if s.pages q.spoke r then s.parkOp o b q.spoke r else s.copyEnd o y r.status b

def execFill (o : Nat) (wr : HostAns) (s : State) : Outcome := .next (s.fill o wr)

/-! ## Completions (R95, R116, R125, R134) -/

/-- The status that an error completion gives the operation of a request (R95, R203) (log entry 43, DEDUCED). -/
def Req.errStatus (r : Req) : Status := if r.pasid then .translationFault else .accessViolation

/-- The end of the tagged read of a COPY with an error. -/
def State.readFailed (s : State) (o va : Nat) (st : Status) : State :=
  match s.op o with
  | none => s
  | some x => if x.phase == .done then s else s.copyEnd o x st va

/-- A COPY's read returns data: it is written at once, or kept while its queue is frozen. -/
def State.copyGot (s : State) (o : Nat) (b : Bytes) (ep : Bool) (wr : HostAns) : State :=
  match s.op o with
  | none => s
  | some x =>
    if x.phase == .done then s
    else
      let y : Op := { x with reading := false, buf := some (b, ep) }
      let s := s.modOp o fun _ => y
      match s.running o .copy with
      | some (_, q) => s.copyFlush o y q b ep wr
      | none => s

/-- PCIE_COMPLETION_RECEIVED: on port `q` for `tag`, bearing the Requester ID of function `f`. -/
def State.completion (s : State) (q tag f : Nat) (st : CplStatus) (data : Bytes) (ep : Bool) (wr : HostAns) : State :=
  match Map.get s.host.reqs (reqKey q tag) with
  | none => s.emit (.aer f .unexpectedCompletion)
  | some r =>
    if r.quarantined then s.rsat (aPortCnt q 1) 63 0 1
    else
      let s : State := { s with host.reqs := Map.erase s.host.reqs (reqKey q tag) }
      match r.purpose with
      | .other _ => s
      | .forwarded q' tag' _ => s.emit (.cpl q' tag' st (if st == .success then data else []) ep)
      | .copyRead o va n =>
        if st == .success then
          let s := if ep then s.emit (.aer r.fn .poisonedTlp) else s
          s.copyGot o (padTo n data) ep wr
        else s.readFailed o va r.errStatus

def execPcieCompletionReceived (q tag f : Nat) (st : CplStatus) (data : Bytes) (ep : Bool) (wr : HostAns) (s : State) :
    Outcome := .next (if q < 40 ∧ tag < tagLimit then s.completion q tag f st data ep wr else s)

/-- COMPLETION_TIMEOUT (R95, R120, R125). -/
def State.completionTimeout (s : State) (q tag : Nat) : State :=
  match Map.get s.host.reqs (reqKey q tag) with
  | none => s
  | some r =>
    if r.quarantined then s
    else
      let s : State := { s with now := max s.now (r.issued + 50_000_000), host.reqs := Map.erase s.host.reqs (reqKey q tag) }
      let s := s.emit (.aer r.fn .completionTimeout)
      match r.purpose with
      | .other _ => s
      | .forwarded q' tag' _ => s.emit (.cpl q' tag' .abort [] false)
      | .copyRead o va _ => s.readFailed o va .timeout

/-- Log entry 5, DEDUCED. -/
def execCompletionTimeout (q tag : Nat) (s : State) : Outcome :=
  .next (if q < 40 ∧ tag < tagLimit then s.completionTimeout q tag else s)

/-- TAG_QUARANTINE_RELEASE (R133, R134). -/
def State.tagRelease (s : State) (q tag : Nat) : State :=
  match Map.get s.host.reqs (reqKey q tag) with
  | none => s
  | some r =>
    if !r.quarantined then s
    else { s with now := max s.now (r.issued + 50_000_000), host.reqs := Map.erase s.host.reqs (reqKey q tag) }

def execTagQuarantineRelease (q tag : Nat) (s : State) : Outcome :=
  .next (if q < 40 ∧ tag < tagLimit then s.tagRelease q tag else s)

/-! ## Page requests (R110, R111, R206, R207) -/

/-- An operation's page request ends: it goes on, or completes with the status. -/
def State.opPage (s : State) (o : Nat) (st : Status) : State :=
  match s.op o with
  | none => s
  | some x =>
    if x.phase != .parked then s
    else if st == .success then s.modOp o fun x => { x with phase := .started }
    else match s.queue x.queue with
      | none => s
      | some q =>
        let s := s.modOp o fun x => { x with phase := .started }
        match q.kind with
        | .checkpoint =>
          let s := s.ckpFail (fun k => (k.ckpts.any fun c => c.op == some o) || (match k.restore with
            | some r => r.op == o
            | none => false)) st
          s.finish o st 0 0
        | .copy => s.copyEnd o x st x.parkAddr
        | _ => s.finish o st x.bytes x.parkAddr

/-- The failing address and stage of a parked channel. -/
def Job.parkedAt (x : Job) (t : Nat) : Option (Nat × Nat) :=
  x.chans.findSome? fun c =>
    let stage := if c.srcMem then c.dstStage else c.srcStage
    if c.parked && (x.stages[stage]?.bind Stage.tile) == some t then some (c.memAddr + c.offset, stage) else none

/-- The page of a tile's stream arrives, or does not (R207). -/
def State.tilePage (s : State) (t : Nat) (st : Status) : State :=
  match s.str.jobs.find? fun (_, x) => (x.parkedAt t).isSome with
  | none => s
  | some (j, x) =>
    if st == .success then
      s.setJob j { x with chans := x.chans.map fun c =>
        let stage := if c.srcMem then c.dstStage else c.srcStage
        if (x.stages[stage]?.bind Stage.tile) == some t then { c with parked := false } else c
                          stalledAt := none, movedAt := s.now }
    else match x.parkedAt t with
      | none => s
      | some (va, stage) => s.failJob j st (failDetail va stage 0)

/-- What waited for a page goes on or fails. -/
def State.wake (s : State) (p : PageReq) (st : Status) (w : Waiter) : State :=
  match w with
  | .op o => s.opPage o st
  | .fetch q =>
    if st == .success then s else match s.queue q with
      | some x => if x.state == .active then s.queueError q st x.consumer else s
      | none => s
  | .ring r =>
    if st == .success then s.flush r (.ok [] false) else match s.queue r with
      | some x => if x.state == .active then s.queueError r st x.pi else s
      | none => s
  | .place k => if st == .success then s else { s with xpt.failed := s.xpt.failed ++ [(k, p.page, s.now + 10_000_000)] }
  | .tile t => s.tilePage t st
  | .nv i => if st == .success then s else s.nvFail i st false

/-- R110: page requests of a function that waited for its allocation are sent. -/
def State.sendPages (s : State) (f : Nat) : State :=
  s.host.pageReqs.foldl (fun s p =>
    if p.fn = f && !p.sent && s.mayPage f then
      let l := s.host.pageReqs.map fun r => if r.fn = f && r.pasid == p.pasid && r.page == p.page then { r with sent := true } else r
      State.emit { s with host.pageReqs := l } (.pageRequest f p.pasid p.page)
    else s) s

/-- A page request ends with a status; its waiters go on in order. -/
def State.pageEnd (s : State) (p : PageReq) (st : Status) : State :=
  let same (r : PageReq) : Bool := r.fn == p.fn && r.pasid == p.pasid && r.page == p.page
  let s : State := { s with host.pageReqs := s.host.pageReqs.filter fun r => !same r }
  (p.waiters.foldl (fun s w => s.wake p st w) s).sendPages p.fn

/-- PAGE_RESPONSE (R110). -/
def State.pageResponse (s : State) (f : Nat) (pasid : Option Nat) (page : Nat) (code : PageCode) : State :=
  match s.host.pageReqs.find? fun p => p.fn == f && p.pasid == pasid && p.page == page && p.sent with
  | none => s
  | some p => s.pageEnd p (if code == .success then .success else .translationFault)

/-- Log entry 5, DEDUCED. -/
def execPageResponse (f : Nat) (pasid : Option Nat) (page : Nat) (code : PageCode) (s : State) : Outcome :=
  .next (s.pageResponse f pasid page code)

/-- R111: the PRI timeout in nanoseconds, by configuration item (log entry 44, DEDUCED). -/
def State.priTimeout (s : State) : Nat := s.cfgItem 0x0112 100 * 1_000_000

/-- PRI_TIMEOUT (R111): what a waiter needed the page for ends with TIMEOUT; others that share it go on waiting. -/
def State.pageTimeout (s : State) (w : Waiter) : State :=
  match s.host.pageReqs.find? fun p => p.waiters.contains w with
  | none => s
  | some p =>
    let l := s.host.pageReqs.map fun r => if r == p then { r with waiters := r.waiters.filter (· != w) } else r
    let s : State := { s with now := max s.now (p.since + s.priTimeout)
                              host.pageReqs := l.filter fun r => r.sent || r.waiters != [] }
    s.wake p .timeout w

def execPriTimeout (w : Waiter) (s : State) : Outcome := .next (s.pageTimeout w)

end Sys2Proof.Machine
end

