-- ==== Sys2Proof/Machine/Mesh.lean ====
section
/-! DEFINITION. Chapter 1: mesh lanes, die-to-die ports and time snapshots. -/

namespace Sys2Proof.Machine
open Sys2Proof

/-! ## Mesh and die-to-die errors (R21, R25, R26) -/

/-- MESH_LANE_ERROR (R21): a corrected error is counted; an uncorrectable one is counted and marks the data that
operation `o` was moving (log entry 10, DEDUCED). -/
def State.meshError (s : State) (uncorrectable : Bool) (o : Nat) : State :=
  if !uncorrectable then { s with brd.meshCorrected := satAdd 64 s.brd.meshCorrected 1 }
  else
    let s : State := { s with brd.meshUncorrectable := satAdd 64 s.brd.meshUncorrectable 1 }
    s.modOp o fun x => if x.phase == .done then x else
      { x with poisoned := true, buf := x.buf.map fun b => (b.1, true) }

def execMeshLaneError (uncorrectable : Bool) (o : Nat) (s : State) : Outcome := .next (s.meshError uncorrectable o)

/-- Whether a die-to-die port is out of service: link 0 is W, 1 is E. -/
def State.d2dDown (s : State) (link port : Nat) : Bool := bit (s.rget aD2d) (8 * link + port)

/-- R25, R26: a die-to-die port goes out of service. -/
def State.d2dFail (s : State) (link port : Nat) : State :=
  let s := (s.rset aD2d (8 * link + port) (8 * link + port) 1).retireTray 11
  if link = 0 ∧ s.wPairDown port then s.holdPairDown port else s

/-- D2D_REPLAY (R25): the replay of a unit succeeds or fails; the eighth consecutive failure ends the port's service. -/
def State.d2dReplay (s : State) (link port : Nat) (failed : Bool) : State :=
  if 2 ≤ link ∨ 8 ≤ port ∨ s.d2dDown link port then s
  else
    let s := s.rsat aD2d 47 16 1
    let key := 8 * link + port
    if !failed then { s with brd.d2dFails := Map.erase s.brd.d2dFails key }
    else
      let n := (Map.get s.brd.d2dFails key).getD 0 + 1
      let s : State := { s with brd.d2dFails := Map.put s.brd.d2dFails key n }
      if 8 ≤ n then s.d2dFail link port else s

def execD2dReplay (link port : Nat) (failed : Bool) (s : State) : Outcome := .next (s.d2dReplay link port failed)

/-! ## Snapshots (R33-R37) -/

/-- R517: the group of a control core. -/
def groupOf (c : Nat) : Nat :=
  if c < 8 then c / 2 else if c < 12 then 4 else if c < 14 then 5 else c - 8

/-- R36: whether a unit is power-gated or held in reset. -/
def State.unitDark (s : State) (i : Nat) : Bool :=
  if i = 115 then !s.brd.resetN
  else !s.brd.mainPg ||
    (if i < 64 then s.str.retired.contains i || (match Map.get s.str.tiles i with
        | some t => t.gated
        | none => false)
     else if i < 80 then (Map.get s.fwm.groupState (groupOf (i - 64))).getD 0 == 0
     else if i = 80 then !s.brd.scReleased
     else if 105 ≤ i then s.portRole (4 * (i - 105)) == 3
     else false)

/-- The value that a snapshot records for a unit: its counter, or its 1588 clock, plus up to two cycles
(log entry 9, DEDUCED). -/
def State.record (s : State) (i : Nat) : State :=
  if 116 ≤ i then s
  else if s.unitDark i then s.rput (aTimeRec + 8 * i) (2 ^ 64 - 1)
  else
    let (d, s) := s.draw 8
    let v := if 97 ≤ i ∧ i < 105 then s.ptp (i - 97) else s.counterOf i
    s.rput (aTimeRec + 8 * i) ((v + d % 3) % 2 ^ 64)

def State.snapNext (s : State) : State := s.rset aTimeSnap 63 32 (s.rfield aTimeSnap 63 32 + 1)

/-- R33-R35: launch a snapshot, or drop the trigger (log entry 9, DEDUCED). -/
def State.snapshot (s : State) : State :=
  if s.rfield aTimeSnap 1 1 = 1 then s.rset aTimeSnap 2 2 1
  else
    let s : State := { s with brd.snapLaunch := s.now }
    ((List.range 128).foldl State.record s).snapNext.rset aTimeSnap 1 1 1

/-- TIME_SNAP_TRIGGER. -/
def execTimeSnapTrigger (s : State) : Outcome := .next s.snapshot

/-- PERIODIC_SNAPSHOT. -/
def execPeriodicSnapshot (s : State) : Outcome :=
  .next (if s.rfield aTimeSnap 4 4 = 1 ∧ s.rfield aTimeSnap 31 16 ≠ 0 then s.snapshot else s)

/-- SNAPSHOT_COMPLETE (R33, R34): within 100 ns of the launch (log entry 9, DEDUCED). -/
def execSnapshotComplete (s : State) : Outcome :=
  .next (if s.rfield aTimeSnap 1 1 = 1 then s.snapNext.rset aTimeSnap 1 1 0 else s)

end Sys2Proof.Machine
end

