-- ==== Sys2Proof/Machine/Desc.lean ====
section
/-! DEFINITION. What each queue kind makes of a descriptor's reserved fields (R7, R138) and of the kind fields of
QUEUE_CREATE (R159). -/

namespace Sys2Proof.Machine
open Sys2Proof

/-- Whether any of the masked bits of the listed bytes is set; the list is (offset, bytes, mask). -/
def anySet (d : Bytes) (l : List (Nat × Nat × Nat)) : Bool :=
  l.any fun (off, n, mask) => (slice d off n).any fun b => b.toNat &&& mask != 0

/-- R205: the reserved fields of a COPY queue's descriptors; a FILL has no source. -/
def copyReserved (d : Bytes) : Bool :=
  anySet d [(4, 1, 0xFC), (5, 3, 0xFF), (37, 3, 0xFF), (40, 24, 0xFF)] ||
  (dOpcode d != 1 && dOpcode d != 2) || (dOpcode d == 2 && bit (dKindWord d) 0)

/-- R224, R225: SEND and POST. -/
def sendReserved (d : Bytes) : Bool := anySet d [(4, 1, 0xFC), (5, 3, 0xFF), (25, 1, 0xC0), (26, 38, 0xFF)] || dOpcode d != 1
def postReserved (d : Bytes) : Bool := anySet d [(4, 4, 0xFF), (28, 36, 0xFF)] || dOpcode d != 1

/-- R284, R285, R314: the opcodes; LENGTH is at most 2^31; RECV has no trigger value; TAG is zero but for WRITE_TAG, and
holds a 32-bit immediate in SEND_IMM and WRITE_IMM. -/
def workReserved (d : Bytes) : Bool :=
  !([1, 2, 3, 4, 5, 6, 0x20].contains (dOpcode d)) || decide (2 ^ 31 < u32 d 48) ||
  (dOpcode d == 0x20 && dTrigger d != 0) ||
  anySet d [(4, 1, 0xFE), (5, 3, 0xFF), (19, 1, 0xFF), (26, 6, 0xFF)] ||
  (dOpcode d != 2 && anySet d [(60, 4, 0xFF)]) ||
  (dOpcode d != 2 && dOpcode d != 5 && dOpcode d != 6 && anySet d [(56, 4, 0xFF)])

/-- R341: RUN. -/
def runReserved (d : Bytes) : Bool := anySet d [(4, 1, 0xFE), (5, 3, 0xFF), (35, 1, 0xFF)] || dOpcode d != 1

/-- R462, R480: CAPTURE and RESTORE. -/
def ckpReserved (d : Bytes) : Bool :=
  anySet d [(4, 4, 0xFF), (16, 1, 0xC0)] ||
  (if dOpcode d = 1 then anySet d [(17, 1, 0xF8), (18, 2, 0xFF), (40, 24, 0xFF)]
   else if dOpcode d = 2 then anySet d [(17, 1, 0xFE), (18, 6, 0xFF), (32, 32, 0xFF)]
   else true)

/-- R7: whether a descriptor is MALFORMED by its reserved fields or its opcode (log entry 53, DEDUCED). -/
def descMalformed (k : QKind) (d : Bytes) : Bool :=
  headerReserved d ||
  match k with
  | .copy => copyReserved d
  | .packetSend => sendReserved d
  | .packetReceive => postReserved d
  | .transport => workReserved d
  | .streamJob => runReserved d
  | .checkpoint => ckpReserved d
  | _ => false

/-- R159: whether KIND_WORD and KIND_BODY hold a bit that the queue kind does not define: a PACKET_SEND queue has its
sub-port and class (R223), a TRANSPORT queue RECEIVE (R284). -/
def kindFieldsBad (k : QKind) (kw : Nat) (body : Bytes) : Bool :=
  body.any (· != 0) ||
  match k with
  | .packetSend => kw &&& 0xFFFFF8E0 != 0
  | .transport => decide (1 < kw)
  | _ => kw != 0

end Sys2Proof.Machine
end

