-- ==== Sys2Proof/Machine/Queues.lean ====
section
/-! DEFINITION. Chapter 4: doorbells, descriptors, the mailbox post, queues, spokes and host presence. -/

namespace Sys2Proof.Machine
open Sys2Proof

/-! ## Doorbells (R147-R149, R151) -/

/-- R148: discard a doorbell that fails its check, count it and post BAD_DOORBELL. -/
def State.rejectDoorbell (s : State) (qi : Nat) (q : Queue) (index ring : Nat) : State :=
  (s.modQueue qi fun q => { q with bad := satAdd 16 q.bad 1 }).postEvent q.spoke 0x0102 index ring .malformed qi

/-- R148: a doorbell of a work ring sets PI when both differences are at most the size. -/
def State.doorbellWork (s : State) (qi : Nat) (q : Queue) (index : Nat) : State :=
  let a := (index + 2 ^ 32 - q.consumer) % 2 ^ 32
  let b := (index + 2 ^ 32 - q.pi) % 2 ^ 32
  if a ≤ q.size ∧ b ≤ q.size then s.modQueue qi fun q => { q with pi := index }
  else s.rejectDoorbell qi q index 0

/-- R148: a doorbell of a completion or event ring sets the consumer index and may arm the ring. -/
def State.doorbellRing (s : State) (qi : Nat) (q : Queue) (index : Nat) (arm : Bool) : State :=
  if (index + 2 ^ 32 - q.consumer) % 2 ^ 32 ≤ q.used then
    (s.modQueue qi fun q => { q with consumer := index, armed := q.armed || arm }).flush qi (.ok [] false)
  else s.rejectDoorbell qi q index 1

/-- R106, R149: a write to a doorbell page, with its checks before R148's. -/
def State.doorbell (s : State) (f off width v : Nat) : State :=
  let qi := bits v 16 0
  let ring := bit v 17
  let arm := bit v 18
  let index := bits v 63 32
  match s.spoke (off / 4096), s.queue qi with
  | some sp, some q =>
    if sp.fn != f || width != 8 || off % 8 != 0 || bits v 31 19 != 0 || (arm && !ring) || q.spoke != off / 4096 then
      s.badAccess 3 f
    else if q.state == .error then s.modQueue qi fun q => { q with bad := satAdd 16 q.bad 1 }
    else if ring != q.kind.isRing then s.rejectDoorbell qi q index (b2n ring)
    else if ring then s.doorbellRing qi q index arm
    else s.doorbellWork qi q index
  | _, _ => s.badAccess 3 f

/-! ## Descriptors (R139, R150, R151, R325, R326) -/

/-- R325: the target of the next descriptor of a queue. -/
def Queue.target (q : Queue) : Nat :=
  if q.waitRepeat then min (q.waitThreshold * (q.fetched + 1)) (2 ^ 64 - 1) else q.waitThreshold

/-- How the counter wait of a queue stands. -/
inductive WaitState where
  | go
  | waiting
  | failed (st : Status)
deriving DecidableEq, Repr

/-- R325, R326: evaluate a queue's wait against its counter. -/
def State.waitState (s : State) (q : Queue) : WaitState :=
  if !q.waitEn then .go
  else match Map.get s.trg.counters q.waitCounter with
    | none => if q.target = 0 then .go else .waiting
    | some c => if q.target ≤ c.value then .go else if c.failed then .failed c.failStatus else .waiting

/-- Whether a queue may fetch now: ACTIVE, behind its PI, its completion ring not full, nothing unstarted ahead. -/
def State.mayFetch (s : State) (qi : Nat) (q : Queue) : Bool :=
  !q.kind.isRing && q.kind != .nvme && !(q.kind == .streamJob && (decide (4096 ≤ s.str.jobs.length) || s.heldNew 3)) &&
  q.state == .active && s.canMaster (s.spokeFn q.spoke) && q.pi != q.consumer &&
  !s.stalled q && decide (s.host.ops.length < 65536) && (s.opsOf qi).all fun o => match s.op o with
    | some x => x.phase != .fenced && x.phase != .held
    | none => true

/-- A fetched descriptor becomes an operation and starts, waits for its fence, or completes at once. -/
def State.takeDescriptor (s : State) (qi : Nat) (q : Queue) (d : Bytes) : State :=
  let o := s.host.nextOp
  let c := (q.consumer + 1) % 2 ^ 32
  let first := s.opsOf qi == []
  let op : Op := { queue := qi, index := q.consumer, consumer := c, desc := d, since := s.now }
  let w := s.waitState q
  let s := { s with host.ops := Map.put s.host.ops o op, host.nextOp := o + 1 }
  let s := s.modQueue qi fun q => { q with consumer := c, fetched := q.fetched + 1 }
  if descMalformed q.kind d then s.finish o .malformed 0 0
  else match w with
    | .failed st => s.finish o .waitFailed 0 (waitDetail st false q.waitCounter)
    | _ => if dFence d && !first then s.modOp o fun x => { x with phase := .fenced } else s.startOp o

/-- R150, R151: a descriptor read completes. -/
def State.descriptorFetched (s : State) (qi : Nat) (ans : HostAns) : State :=
  match s.queue qi with
  | none => s
  | some q =>
    if !s.mayFetch qi q || s.waitState q == .waiting then s
    else
      let (s, r) := s.spokeRead q.spoke (q.base + 64 * (q.consumer % q.size)) 64 ans
      let st := withMarks r.status r.poisoned r.medium
      if st == .success then s.takeDescriptor qi q r.data
      else if s.pages q.spoke r then s.pageFor q.spoke r (.fetch qi)
      else s.queueError qi st q.consumer

/-- DESCRIPTOR_FETCHED. -/
def execDescriptorFetched (q : Nat) (ans : HostAns) (s : State) : Outcome := .next (s.descriptorFetched q ans)

/-- The operations of a queue in progress: started and not completed (R170). -/
def State.inProgress (s : State) (qi : Nat) : Nat :=
  ((s.opsOf qi).filter fun o => match s.op o with
    | some x => x.phase != .fenced && x.phase != .held
    | none => false).length

/-- R151: answer a QUEUE_STOP once no operation is in progress. -/
def State.stopCheck (s : State) (qi : Nat) : State :=
  match s.queue qi with
  | none => s
  | some q => match q.stopFn with
    | none => s
    | some f =>
      if s.inProgress qi = 0 then (s.modQueue qi fun q => { q with stopFn := none }).respond f .success [] false
      else s

/-- R139: an operation completes. -/
def State.operationComplete (s : State) (o : Nat) (ans : HostAns) : State :=
  match s.op o with
  | none => s
  | some x => (s.retire o ans).stopCheck x.queue

/-- OPERATION_COMPLETE. -/
def execOperationComplete (o : Nat) (ans : HostAns) (s : State) : Outcome := .next (s.operationComplete o ans).hbmReport

/-! ## The mailbox post (R154, R156) -/

/-- R154: the write of header bytes 0-7 (log entry 6, DESIGN CHOICE). -/
def State.mailboxPost (s : State) (f v : Nat) : State :=
  let x := s.fn f
  if x.mb.outstanding then s.badAccess 4 f
  else
    let m := x.mb.write 0 (toLe 8 v)
    let s := s.setFn f { x with mb := { m with outstanding := true, hdr1 := setBits m.hdr1 16 16 0, posted := s.now } }
    match s.requestCheck f with
    | none => s
    | some .versionMismatch => s.respond f .versionMismatch (toLe 4 0x0103_0003) false
    | some st => s.respond f st [] false

/-- MAILBOX_POST. -/
def execMailboxPost (f value : Nat) (s : State) : Outcome := .next (s.mailboxPost f value)

/-! ## Host presence (R161, R164-R166) -/

/-- The heartbeat timeout in nanoseconds: 100 to 10,000 ms. -/
def FnState.hbTimeout (x : FnState) : Nat := max 100 (min x.timeoutMs 10000) * 1_000_000

/-- R164: restart the heartbeat timer. -/
def State.restartTimer (s : State) (f : Nat) : State :=
  s.modFn f fun x => { x with hbDue := s.now + x.hbTimeout }

/-- Word A of the presence events: function and hierarchy. -/
def fnWord (f : Nat) : Nat := f % 4 + 256 * (f / 4)

/-- R165, R166, R244: a function enters freewheel. -/
def State.enterFreewheel (s : State) (f : Nat) : State :=
  let s := ((s.modFn f fun x => { x with attach := .freewheel }).freezeFn f).releaseLock f
  s.postPf0 (f / 4) 0x0001 (fnWord f) (s.fn f).driver .success 0x3FFFF

/-- The base spoke of a function at its first HELLO (R161). -/
def State.makeBase (s : State) (f : Nat) (limit : Nat) : Option State :=
  let mine := (s.host.spokes.filter fun (_, sp) => sp.fn == f).length
  match Map.lowestFree s.host.spokes 2048 with
  | none => none
  | some k =>
    if limit ≤ mine then none
    else some ((({ s with host.spokes := Map.put s.host.spokes k { fn := f, base := true } }).modFn f
      fun x => { x with baseSpoke := some k }).bump)

/-- R161, R165: the reply to an accepted HELLO. -/
def State.helloReply (s : State) (f : Nat) (prev : Nat) (drv : Nat) : Reply :=
  let s := (s.modFn f fun x => { x with attach := .attached, driver := drv }).restartTimer f
  Reply.ok s (toLe 2 ((s.fn f).baseSpoke.getD 0) ++ toLe 1 (f % 4) ++ toLe 1 (f / 4) ++ zeros 4 ++ toLe 8 prev ++
    toLe 8 s.host.epoch)

/-- R161, R165: HELLO in each attach state (log entry 25, DEDUCED). -/
def State.hello (s : State) (f limit : Nat) (p : Bytes) : Reply :=
  let x := s.fn f
  let drv := u64 p 0
  if drv = 0 then Reply.err s .malformed
  else match x.attach with
    | .detached =>
      match x.baseSpoke with
      | some _ => s.helloReply f 0 drv
      | none => match s.makeBase f limit with
        | none => Reply.err s .resource
        | some s => s.helloReply f 0 drv
    | .attached => (s.freezeFn f).helloReply f x.driver drv
    | .freewheel =>
      let r := s.helloReply f x.driver drv
      { r with st := (r.st.postPf0 (f / 4) 0x0002 (fnWord f) drv .success 0x3FFFF).flushFn f }

/-- GOODBYE (R165). -/
def execGoodbye (f : Nat) (s : State) : Outcome :=
  .next (s.perform f 0x0002 fun _ s => Reply.ok (s.enterFreewheel f) [])

/-- R164, R165: BEAT restarts the timer, or is counted outside ATTACHED. -/
def State.beat (s : State) (f : Nat) : State :=
  if (s.fn f).attach == .attached then s.restartTimer f
  else s.modFn f fun x => { x with ignored := satAdd 32 x.ignored 1 }

/-- BEAT. -/
def execBeat (f : Nat) (s : State) : Outcome := .next (s.beat f)

/-- HEARTBEAT_TIMEOUT (R164, R165): the timer runs only in ATTACHED and in D0. -/
def execHeartbeatTimeout (f : Nat) (s : State) : Outcome :=
  let x := s.fn f
  if x.attach == .attached && !x.d3hot then
    .next (({ s with now := max s.now x.hbDue }).enterFreewheel f)
  else .next s

/-! ## Spokes (R162) -/

/-- The fields of the payload of R162 at an offset. -/
structure SpokeArgs where
  pf : Nat
  pasid : Nat
  queueQuota : Nat
  counterQuota : Nat
  ptRoot : Nat
  schWeight : Nat
  tileWeight : Nat
  tileLimit : Nat
  cir : Nat
  pir : Nat
deriving DecidableEq, Repr

def spokeArgs (p : Bytes) : SpokeArgs :=
  { pf := bits (u8 p 0) 1 0, pasid := u32 p 4, queueQuota := u32 p 8, counterQuota := u32 p 12, ptRoot := u64 p 16,
    schWeight := u16 p 24, tileWeight := u16 p 26, tileLimit := u32 p 28, cir := u64 p 32, pir := u64 p 40 }

/-- The value checks that hold for SPOKE_CREATE and SPOKE_MODIFY alike. -/
def SpokeArgs.bad (a : SpokeArgs) : Bool :=
  a.queueQuota = 0 || decide (a.queueQuota > 131072) || decide (a.counterQuota > 16384) || a.schWeight = 0 ||
  a.tileWeight = 0 || decide (a.tileLimit > 64000) || (a.pir != 0 && decide (a.pir < a.cir))

/-- R198: PT_ROOT is 4 KiB-aligned and lies in the data area of a PTAB region. -/
def State.rootBad (s : State) (root : Nat) : Bool := root % 4096 != 0 || !s.inUse [usePtab] root 4096

/-- R162: whether a PASID is taken by another spoke of a function that carries one. -/
def State.pasidTaken (s : State) (f pasid : Nat) : Bool :=
  s.host.spokes.any fun (_, sp) => sp.fn == f && !sp.base && sp.pasid == pasid

/-- R162: the reply to SPOKE_CREATE; `limit` gives each function's spoke limit of the configuration journal. -/
def State.spokeCreate (s : State) (f : Nat) (limit : Nat → Nat) (p : Bytes) : Reply :=
  let a := spokeArgs p
  let g := f / 4 * 4 + a.pf
  let mine := (s.host.spokes.filter fun (_, sp) => sp.fn == g).length
  let st := checks [
    (a.bad || s.pasidTaken g a.pasid || s.rootBad a.ptRoot, .malformed),
    (f % 4 != 0 && g != f, .notPermitted),
    (!(s.fn g).pasidEn, .notPermitted),
    (decide (limit g ≤ mine), .resource)]
  if st != .success then Reply.err s st
  else match Map.lowestFree s.host.spokes 2048 with
    | none => Reply.err s .resource
    | some k =>
      let sp : Spoke := {
        fn := g, pasid := a.pasid, queueQuota := a.queueQuota, counterQuota := a.counterQuota,
        ptRoot := a.ptRoot, schWeight := a.schWeight, tileWeight := a.tileWeight, tileLimit := a.tileLimit,
        cir := a.cir, pir := a.pir }
      Reply.ok (State.bump { s with host.spokes := Map.put s.host.spokes k sp })
        (toLe 2 k ++ zeros 6 ++ toLe 8 (4096 * k))

/-- The queues and the counters a spoke holds. -/
def State.queuesHeld (s : State) (k : Nat) : Nat := (s.host.queues.filter fun (_, q) => q.spoke == k).length
def State.countersHeld (s : State) (k : Nat) : Nat := (s.trg.counters.filter fun (_, c) => c.spoke == k).length

/-- R162: the reply to SPOKE_MODIFY. -/
def State.spokeModify (s : State) (f : Nat) (p : Bytes) : Reply :=
  let k := u16 p 0
  let a := spokeArgs (p.drop 8)
  match s.spoke k with
  | none => Reply.err s .malformed
  | some sp =>
    let st := checks [
      (a.bad || a.pf != sp.fn % 4 || a.pasid != sp.pasid || a.ptRoot != sp.ptRoot, .malformed),
      (!sp.base && s.rootBad a.ptRoot, .malformed),
      (!s.mayNameSpoke f k, .notPermitted),
      (decide (a.queueQuota < s.queuesHeld k) || decide (a.counterQuota < s.countersHeld k), .resource)]
    if st != .success then Reply.err s st
    else Reply.ok ((s.modSpoke k fun sp => { sp with
      queueQuota := a.queueQuota, counterQuota := a.counterQuota, schWeight := a.schWeight, tileWeight := a.tileWeight, tileLimit := a.tileLimit, cir := a.cir, pir := a.pir }).bump) []

/-- SPOKE_MODIFY. -/
def execSpokeModify (f : Nat) (s : State) : Outcome := .next (s.perform f 0x0103 fun p s => s.spokeModify f p)

/-! ## Queues (R151, R159, R160) -/

/-- R145: the functions that may create queues of a kind (log entry 29, DEDUCED). -/
def kindFns : QKind → List Nat
  | .completion => [0, 1, 2, 3]
  | .event => [0, 1, 2, 3]
  | .packetSend => [0, 1]
  | .packetReceive => [0, 1]
  | .transport => [0, 1, 3]
  | .streamJob => [0, 3]
  | .checkpoint => [0, 3]
  | .copy => [0, 3]
  | .nvme => []

/-- R314: whether a kind may wait on a counter. -/
def kindWaits : QKind → Bool
  | .streamJob => true
  | .checkpoint => true
  | .copy => true
  | _ => false

/-- The bytes of a ring, and the alignment R137 asks of its base. -/
def ringBytes (k : QKind) (log2 : Nat) : Nat := 2 ^ log2 * (if k.isRing then 32 else 64)

/-- R159, R314, R324: the MALFORMED conditions of QUEUE_CREATE. -/
def State.queueCreateBad (s : State) (p : Bytes) (k : QKind) : Bool :=
  let spoke := u16 p 2
  let log2 := u8 p 4
  let cq := u32 p 16
  let wait := slice p 24 16
  let waitEn := bit (u16 p 24) 15
  (s.spoke spoke).isNone || decide (log2 < 4) || decide (log2 > 16) ||
  u64 p 8 % (min (ringBytes k log2) 4096) != 0 ||
  (k == .event && (s.eventRing spoke).isSome) ||
  (k.isRing && cq != 0x3FFFF) ||
  (!k.isRing && (bit (u8 p 1) 1 || u16 p 6 != 0)) ||
  (!k.isRing && !(match s.queue cq with
    | some c => c.kind == .completion && c.spoke == spoke && c.state != .error
    | none => false)) ||
  (!waitEn && wait.any (· != 0)) || (waitEn && !kindWaits k) ||
  kindFieldsBad k (u32 p 20) (slice p 40 24)

/-- R159: the reply to QUEUE_CREATE (log entry 29, DEDUCED). -/
def State.queueCreate (s : State) (f : Nat) (p : Bytes) : Reply :=
  match QKind.ofCode (u8 p 0) with
  | none => Reply.err s .malformed
  | some k =>
    let spoke := u16 p 2
    let wc := bits (u16 p 24) 13 0
    let waitEn := bit (u16 p 24) 15
    let fn := s.spokeFn spoke
    let owns := match Map.get s.trg.counters wc with
      | some c => c.spoke == spoke
      | none => false
    let quota := match s.spoke spoke with
      | some sp => sp.queueQuota
      | none => 0
    let st := checks [
      (s.queueCreateBad p k, .malformed),
      (!s.mayNameSpoke f spoke || !(kindFns k).contains (f % 4) || (waitEn && !owns), .notPermitted),
      (decide (quota ≤ s.queuesHeld spoke), .resource)]
    if st != .success then Reply.err s st
    else match Map.lowestFree s.host.queues 131072 with
      | none => Reply.err s .resource
      | some n =>
        let start := bit (u8 p 1) 0
        let bme := (s.fn fn).bme
        let q : Queue := {
          kind := k, spoke := spoke, log2 := u8 p 4, base := u64 p 8, vector := u16 p 6,
          state := if k.isRing || (start && bme) then .active else .stopped,
          cq := if k.isRing then none else some (u32 p 16),
          armed := k.isRing && bit (u8 p 1) 1, bmeStop := !k.isRing && start && !bme,
          waitEn := waitEn, waitCounter := wc, waitRepeat := bit (u8 p 26) 0, waitThreshold := u64 p 32,
          kindWord := u32 p 20, kindBody := slice p 40 24 }
        Reply.ok ((s.setQueue n q).bump) (toLe 4 n)

/-- QUEUE_CREATE. -/
def execQueueCreate (f : Nat) (s : State) : Outcome := .next (s.perform f 0x0110 fun p s => s.queueCreate f p)

/-- R151: the reply to QUEUE_START (log entry 28, DEDUCED). -/
def State.queueStart (s : State) (f : Nat) (p : Bytes) : Reply :=
  let qi := u32 p 0
  match s.queue qi with
  | none => Reply.err s .malformed
  | some q =>
    let g := s.spokeFn q.spoke
    if q.kind == .nvme then Reply.err s .malformed
    else if !s.mayNameSpoke f q.spoke then Reply.err s .notPermitted
    else match q.state with
      | .active => Reply.ok s []
      | .error => Reply.err s .notPermitted
      | _ =>
        let cqErr := match q.cq with
          | some r => match s.queue r with
            | some rq => rq.state == .error
            | none => true
          | none => false
        if (s.fn g).attach != .attached || !(s.fn g).bme || cqErr then Reply.err s .notPermitted
        else
          let s := (s.modQueue qi fun q => { q with state := .active, bmeStop := false }).bump
          let s := match q.cq with
            | some r => s.flush r (.ok [] false)
            | none => s
          let s := if s.frozenFn g then s else s.thawMirrors g
          let s := (s.trg.entries.filter fun (_, e) => e.spoke == q.spoke).foldl
            (fun s e => s.release e.1 e.2.heads.length) s
          Reply.ok s []

/-- R151: the reply to QUEUE_STOP; it comes once every operation in progress has completed. -/
def State.queueStop (s : State) (f : Nat) (p : Bytes) : Reply :=
  let qi := u32 p 0
  match s.queue qi with
  | none => Reply.err s .malformed
  | some q =>
    if q.kind == .nvme then Reply.err s .malformed
    else if !s.mayNameSpoke f q.spoke then Reply.err s .notPermitted
    else match q.state with
      | .error => Reply.err s .notPermitted
      | .active =>
        if q.kind.isRing then Reply.err s .notPermitted
        else
          let busy := s.inProgress qi != 0
          let s := (s.modQueue qi fun q => { q with state := .stopped, stopFn := if busy then some f else none }).bump
          { st := s, wait := busy }
      | _ => Reply.ok s []

/-- QUEUE_STOP. -/
def execQueueStop (f : Nat) (s : State) : Outcome := .next (s.perform f 0x0113 fun p s => s.queueStop f p)

end Sys2Proof.Machine
end

