-- ==== Sys2Proof/Machine/Teardown.lean ====
section
/-! DEFINITION. The end of queues, spokes and functions: QUEUE_DESTROY, SPOKE_DESTROY, FLR, and what resets share with
them (R133-R136, R158, R159, R160, R282, R334, R348, R485). -/

namespace Sys2Proof.Machine
open Sys2Proof

/-! ## Destruction (R159, R160) -/

/-- What a spoke still owns besides queues ends with it; `who` is the request whose response awaits its connections. -/
def State.spokeEnds (s : State) (k : Nat) (who : Option (Nat × Nat)) : State :=
  let s := s.nvSpokeGone k
  let s := (s.xpt.conns.filter fun (_, c) => c.spoke == k).foldl (fun s c => s.killConn c.1 false who) s
  let s := (s.revokeSpoke k).freeTrg k
  let s : State := { s with
    host.spokes := Map.erase s.host.spokes k
    host.atc := s.host.atc.filter fun e => e.spoke != k
    host.pageReqs := s.host.pageReqs.map fun p => { p with waiters := p.waiters.filter (· != .place k) }
    sch.services := s.sch.services.filter fun p => p.1 / 8 != k
    sch.xpt := s.sch.xpt.filter fun p => p.1 / 8 % 4096 != k
    str.vtime := Map.erase s.str.vtime k, str.bucket := Map.erase s.str.bucket k, str.turn := Map.erase s.str.turn k }
  (s.reapJobs.reapCkp).pruneNodes.bump

/-- SPOKE_DESTROY's effect: queues first, work queues before rings, then the rest; the operations abandoned. -/
def State.destroySpoke (s : State) (k : Nat) (who : Option (Nat × Nat)) : State × Nat :=
  let s := s.nvSpokeGone k
  let qs := s.host.queues.filter fun (_, q) => q.spoke == k
  let order := (qs.filter fun p => !p.2.kind.isRing) ++ qs.filter fun p => p.2.kind.isRing
  let (s, n) := order.foldl (fun (sn : State × Nat) p => let (s, m) := sn.1.destroyQueue p.1; (s, sn.2 + m)) (s, 0)
  (s.spokeEnds k who, n)

/-- SPOKE_DESTROY: the response comes once no packet of its connections can be placed (log entry 32, DEDUCED). -/
def State.spokeDestroy (s : State) (f : Nat) (p : Bytes) : Reply :=
  let k := u16 p 0
  match s.spoke k with
  | none => Reply.err s .malformed
  | some sp =>
    if !s.mayNameSpoke f k || sp.base then Reply.err s .notPermitted
    else
      let who := (f, (s.fn f).mb.seq)
      let (s, _) := s.destroySpoke k (some who)
      { st := s, wait := s.xpt.conns.any fun (_, c) => c.dying == some (some who) }

def execSpokeDestroy (f : Nat) (s : State) : Outcome := .next (s.perform f 0x0102 fun p s => s.spokeDestroy f p)

/-- R159: whether a completion ring is named by a work queue or by a connection as its RX_CQ. -/
def State.ringNamed (s : State) (q : Nat) : Bool :=
  (s.host.queues.any fun (_, x) => x.cq == some q) || s.xpt.conns.any fun (_, c) => c.par.rxCq == q

/-- QUEUE_DESTROY. -/
def State.queueDestroy (s : State) (f : Nat) (p : Bytes) : Reply :=
  let qi := u32 p 0
  match s.queue qi with
  | none => Reply.err s .malformed
  | some q =>
    if q.kind == .nvme then Reply.err s .malformed
    else if !s.mayNameSpoke f q.spoke || (q.kind == .completion && s.ringNamed qi) then Reply.err s .notPermitted
    else
      let (s, n) := s.destroyQueue qi
      Reply.ok s.reapJobs.reapCkp (toLe 4 n)

def execQueueDestroy (f : Nat) (s : State) : Outcome := .next (s.perform f 0x0111 fun p s => s.queueDestroy f p)

/-! ## Function Level Reset (R133-R136, R158) -/

/-- R158, R537: no response of function `f` awaits a journal record, a QUEUE_STOP or an asynchronous end any longer
(log entry 32, DEDUCED). -/
def State.dropRequests (s : State) (f : Nat) : State :=
  { s with
    fwm.jpend := s.fwm.jpend.map fun w => match w.wait with
      | some x => if x.fn = f then { w with wait := none } else w
      | none => w
    host.asyncs := s.host.asyncs.map fun a => if a.fn = f then { a with fn := 8 } else a
    host.queues := s.host.queues.map fun (i, q) => (i, if q.stopFn == some f then { q with stopFn := none } else q)
    str.retiring := s.str.retiring.map fun r => match r.fn with
      | some (g, _) => if g = f then { r with fn := none } else r
      | none => r
    xpt.conns := s.xpt.conns.map fun (i, c) => (i, match c.dying with
      | some (some (g, _)) => if g = f then { c with dying := some none } else c
      | _ => c)
    xpt.keys := s.xpt.keys.map fun (i, k) => (i, match k.phase with
      | .revoking l => { k with phase := .revoking (l.filter (· != f)) }
      | _ => k) }

/-- The first three rows of R133: requests are abandoned, queues and spokes destroyed, nothing is written
(log entry 32, DEDUCED). -/
def State.abandonFn (s : State) (f : Nat) : State :=
  let s := s.quarantineReqs fun r => r.fn == f && (match r.purpose with
    | .forwarded _ _ _ => false
    | _ => true)
  let s : State := { s with host.pageReqs := s.host.pageReqs.filter fun p => p.fn != f }
  let s := (s.nvFuncReset f).releaseLock f
  let mine := (s.host.spokes.filter fun (_, x) => x.fn == f).map Prod.fst
  let s := (mine.foldl (fun s k => (s.destroySpoke k none).1) s).dropRequests f
  let s := s.modFn f fun x => { x with attach := .detached, baseSpoke := none, pba := [], msiPend := [], mb := {} }
  if f % 4 = 0 then
    { s with fwm.logs := Map.erase s.fwm.logs (f / 4)
             tel.ring := match s.tel.ring with
               | some r => if r.fn = f then none else some r
               | none => none }
  else s

/-- R576: what waits for the end of a soft reset: 0 FLR of f, 1 and 2 Secondary Bus Reset of q set and cleared, 3 and 4
PERST# of hierarchy h low and high (log entry 155, DEDUCED). -/
def State.defer (s : State) (kind x : Nat) : State := { s with brd.deferred := s.brd.deferred ++ [(kind, x)] }

/-- FLR_INITIATE. -/
def State.flrStart (s : State) (f : Nat) : State :=
  if s.brd.soft.isSome then s.defer 0 f
  else if (s.fn f).flr then s
  else (s.modFn f fun x => { x with flr := true }).abandonFn f

def execFlrInitiate (f : Nat) (s : State) : Outcome := .next (if f < 8 then s.flrStart f else s)

/-- A function's configuration space, FUNC registers and mailbox at their reset values (log entry 19, DEDUCED). -/
def State.fnReset (s : State) (f : Nat) : State :=
  let s := s.setFn f { bar4Log2 := s.brd.bar4Log2 }
  if f % 4 = 0 then { s with regs := Map.erase s.regs (0xA02208 + 8 * (f / 4)) } else s

/-- R282: connections of destroyed spokes are gone. -/
def State.freeDead (s : State) : State :=
  let dead (k : Conn) : Bool := k.dying.isSome && (s.spoke k.spoke).isNone
  let l := (s.xpt.conns.filter fun p => dead p.2).map Prod.fst
  { s with
    xpt.conns := s.xpt.conns.filter fun p => !dead p.2
    xpt.freed := s.xpt.freed ++ l.map fun c => (c, s.now)
    xpt.ctxCache := s.xpt.ctxCache.map fun (h, x) => (h, x.filter fun c => !l.contains c) }

/-- Revocations that no spoke owns any longer are over (R305). -/
def State.freeRevoked (s : State) : State :=
  let t := s.xpt.keys.map fun (i, k) => (i, match k.phase with
    | .revoking [] => if (s.spoke k.spoke).isNone then { k with phase := .revoked } else k
    | _ => k)
  { s with xpt.keys := t }

/-- FLR_COMPLETE. -/
def State.flrEnd (s : State) (f : Nat) : State :=
  if (s.fn f).flr then (s.freeDead.freeRevoked).fnReset f else s

def execFlrComplete (f : Nat) (s : State) : Outcome := .next (if f < 8 then s.flrEnd f else s)

end Sys2Proof.Machine
end

