-- ==== Sys2Proof/Machine/Pcie.lean ====
section
/-! DEFINITION. Chapter 3: interrupts, Bus Master Enable and power states, containment and resets of downstream ports,
link power, ATS invalidation, windows and configuration requests (R91-R136, R580-R583, R615). -/

namespace Sys2Proof.Machine
open Sys2Proof

/-! ## Bus Master Enable and D3hot (R115, R130, R131, R583) -/

/-- Whether an address of a spoke lies in its function's memory. -/
def State.inHost (s : State) (k va : Nat) : Bool :=
  match (s.translate k va false).1 with
  | .ok (.host _ _) _ => true
  | _ => false

/-- Whether a job reads its programs from its function's memory, or streams to or from it. -/
def State.jobInHost (s : State) (x : Job) : Bool :=
  (x.stages.any fun g => s.inHost x.spoke g.program) ||
  x.chans.any fun c => (c.srcMem || c.dstMem) && (s.inHost x.spoke c.memAddr || s.inHost x.spoke (c.memAddr + c.offset))

/-- Whether the queue of an operation belongs to a function. -/
def State.opFn (s : State) (x : Op) : Nat := match s.queue x.queue with
  | some q => s.spokeFn q.spoke
  | none => 8

/-- The operations of a function's queues that have started and not finished. -/
def State.opsStarted (s : State) (f : Nat) : List (Nat × Op) :=
  s.host.ops.filter fun (_, x) => (x.phase == .started || x.phase == .parked) && s.opFn x == f

/-- R130: what clearing Bus Master Enable does to a function's queues and operations (log entry 12, DEDUCED). -/
def State.bmeStopFn (s : State) (f : Nat) : State :=
  let jobs := s.str.jobs.filter fun (_, x) => s.spokeFn x.spoke == f && s.jobInHost x
  let s := jobs.foldl (fun s j => s.failJob j.1 .flushed 0) s
  let s := s.ckpFail (fun k => s.spokeFn k.spoke == f) .flushed
  let keep := (s.str.jobs.map fun j => j.2.op)
  let l := ((s.opsStarted f).map Prod.fst).filter fun o => !keep.contains o
  let s := l.foldl (fun s o => s.modOp o fun x =>
    if x.phase == .done then x else { x with phase := .done, status := .flushed, detail := 0 }) s
  let qs := s.host.queues.map fun (i, q) =>
    (i, if s.spokeFn q.spoke == f && !q.kind.isRing && q.state == .active then { q with state := .stopped, bmeStop := true } else q)
  let pr := s.host.pageReqs.map fun p => { p with waiters := p.waiters.filter fun w => match w with
    | .op o => !l.contains o
    | _ => true }
  let fr := s.sch.queues.map fun (q, x) => (q, x.filter fun y => match y.op with
    | some o => !l.contains o
    | none => true)
  let s : State := { s with host.queues := qs, host.pageReqs := pr, sch.queues := fr }
  (s.nvBmeClear f).bump

/-- R130, R135: Bus Master Enable of a function is cleared; during an FLR that has no further effect
(log entry 12, DEDUCED). -/
def State.bmeClear (s : State) (f : Nat) : State :=
  let x := s.fn f
  if !x.bme then s
  else
    let s := s.setFn f { x with bme := false, bmeTime := s.now }
    if x.flr then s else s.bmeStopFn f

/-- R130, R583: once both D0 and Bus Master Enable hold, held entries are written, then held interrupts sent. -/
def State.deliverFn (s : State) (f : Nat) : State :=
  if !s.canMaster f then s
  else
    let s := (s.flushFn f).sendHeld f
    let s := if s.frozenFn f then s else s.thawMirrors f
    ((s.settleXpt (.ok [] false)).nvResume f).sendPages f

/-- Bus Master Enable of a function is set. -/
def State.bmeSet (s : State) (f : Nat) : State :=
  if (s.fn f).bme then s else (s.modFn f fun x => { x with bme := true }).deliverFn f

def execBusMasterDisable (f : Nat) (s : State) : Outcome := .next (if f < 8 then s.bmeClear f else s)
def execBusMasterEnable (f : Nat) (s : State) : Outcome := .next (if f < 8 then s.bmeSet f else s)

/-- D3HOT_ENTRY (R583). -/
def State.d3Enter (s : State) (f : Nat) : State :=
  if (s.fn f).d3hot then s else (s.modFn f fun x => { x with d3hot := true }).bmeStopFn f

/-- D0_ENTRY (R583, R164). -/
def State.d0Enter (s : State) (f : Nat) : State :=
  if !(s.fn f).d3hot then s else ((s.modFn f fun x => { x with d3hot := false }).restartTimer f).deliverFn f

def execD3hotEntry (f : Nat) (s : State) : Outcome := .next (if f < 8 then s.d3Enter f else s)
def execD0Entry (f : Nat) (s : State) : Outcome := .next (if f < 8 then s.d0Enter f else s)

/-- R115: an MSI-X vector is unmasked. -/
def State.unmask (s : State) (f v : Nat) : State :=
  let x := s.fn f
  (s.setFn f { x with msix := Map.put x.msix (2 * v + 1) (setBits (x.msixWord (2 * v + 1)) 32 32 0) }).sendHeld f

def execMsixUnmask (f v : Nat) (s : State) : Outcome := .next (if f < 8 ∧ v < 4096 then s.unmask f v else s)

/-! ## Containment and secondary bus reset (R90, R121, R581, R615) -/

/-- One of the counters of a port (R600). -/
def State.portCount (s : State) (q k : Nat) : State := s.rsat (aPortCnt q k) 63 0 1

/-- Terminate one request that is outstanding through a port: its tag is quarantined. -/
def State.terminate (s : State) (key : Nat) (r : Req) : State :=
  let s : State := { s with host.reqs := Map.put s.host.reqs key { r with quarantined := true } }
  match r.purpose with
  | .copyRead o va _ => s.readFailed o va .linkContained
  | .forwarded q tag _ => s.emit (.cpl q tag .abort [] false)
  | .other _ => s

/-- R121, R581: every request outstanding through a port is terminated. -/
def State.terminatePort (s : State) (q : Nat) : State :=
  (s.host.reqs.filter fun (_, r) => r.port == q && !r.quarantined).foldl (fun s p => s.terminate p.1 p.2) s

/-- A port becomes contained. -/
def State.contain (s : State) (q : Nat) : State :=
  (s.modPort q fun p => { p with contained := true, link := .down }).terminatePort q

/-- Whether a port is a downstream port or a root port in use. -/
def State.isDown (s : State) (q : Nat) : Bool := s.portExists q && (s.portRole q == 1 || s.portRole q == 2)

/-- DPC_TRIGGER: at a root port the error goes to firmware and is counted (log entry 15, DEDUCED). -/
def State.dpcTrigger (s : State) (q : Nat) : State :=
  if s.portRole q = 2 then s.portCount q 6
  else
    let p := s.port q
    if !p.dpcEn || p.dpcTriggered then s
    else ((s.setPort q { p with dpcTriggered := true }).portCount q 3).contain q

def execDpcTrigger (q : Nat) (s : State) : Outcome := .next (if s.isDown q then s.dpcTrigger q else s)

/-- DOWNSTREAM_LINK_DOWN: a link lost without a reset contains its port (log entry 15, DEDUCED). -/
def State.downLost (s : State) (q : Nat) : State :=
  let p := s.port q
  if p.link = .down then s
  else if p.sbrActive then s.setPort q { p with link := .down }
  else
    let s := if s.portRole q = 2 then s.portCount q 6 else s.emit (.aer (8 + q) .surpriseDown)
    s.contain q

def execDownstreamLinkDown (q : Nat) (s : State) : Outcome := .next (if s.isDown q then s.downLost q else s)

/-- DOWNSTREAM_LINK_UP: the sub-link reaches L0 (log entry 15, DEDUCED). -/
def State.downUp (s : State) (q : Nat) : State :=
  let p := s.port q
  if !p.perst || p.blocked || p.link = .l0 || s.brd.pll.contains 1 then s
  else (s.setPort q { p with link := .l0, width := p.fullWidth, contained := p.contained && p.dpcTriggered,
                             sbrActive := p.sbr }).portCount q 4

def execDownstreamLinkUp (q : Nat) (s : State) : Outcome := .next (if s.isDown q then s.downUp q else s)

/-- DPC_STATUS_CLEAR. -/
def State.dpcClear (s : State) (q : Nat) : State :=
  s.modPort q fun p => { p with dpcTriggered := false, contained := p.contained && p.link != .l0 }

def execDpcStatusClear (q : Nat) (s : State) : Outcome := .next (if s.isDown q then s.dpcClear q else s)

/-- SECONDARY_BUS_RESET_SET. -/
def State.sbrSet (s : State) (q : Nat) : State :=
  let p := s.port q
  if s.brd.soft.isSome then s.defer 1 q
  else if p.sbr then s
  else
    let s := s.setPort q { p with sbr := true, sbrActive := true, perst := false, perstTime := s.now, link := .down }
    (s.emit (.perst q false)).terminatePort q

def execSecondaryBusResetSet (q : Nat) (s : State) : Outcome := .next (if s.isDown q then s.sbrSet q else s)

/-- SECONDARY_BUS_RESET_CLEAR. -/
def State.sbrClear (s : State) (q : Nat) : State :=
  if s.brd.soft.isSome then s.defer 2 q else s.modPort q fun p => { p with sbr := false }

def execSecondaryBusResetClear (q : Nat) (s : State) : Outcome := .next (if s.isDown q then s.sbrClear q else s)

/-- SBR_PERST_RELEASE: no sooner than 100 µs after PERST# was asserted. -/
def State.sbrRelease (s : State) (q : Nat) : State :=
  let p := s.port q
  if !p.sbrActive || p.sbr || p.perst then s
  else
    let s : State := { s with now := max s.now (p.perstTime + 100_000) }
    (s.setPort q { p with perst := true, perstTime := s.now, link := .training }).emit (.perst q true)

def execSbrPerstRelease (q : Nat) (s : State) : Outcome := .next (if s.isDown q then s.sbrRelease q else s)

/-- DOWNSTREAM_BME_CHANGE (R132). -/
def execDownstreamBmeChange (q : Nat) (on : Bool) (s : State) : Outcome :=
  .next (if s.isDown q then s.modPort q fun p => { p with bme := on } else s)

/-! ## Link power (R118, R119) -/

/-- R118: the latency tolerance in nanoseconds that the upstream port of a hierarchy reports by LTR: 20 µs while a queue of
its functions is active, 1 ms otherwise.  It is a function of the state; the messages that carry it are not recorded
(log entry 24, DEDUCED). -/
def State.ltr (s : State) (h : Nat) : Nat :=
  if s.host.queues.any fun (_, q) => q.state == .active && s.spokeFn q.spoke / 4 == h && (s.spoke q.spoke).isSome
  then 20_000 else 1_000_000

/-- L1_ENTRY. -/
def State.l1Enter (s : State) (q : Nat) : State :=
  let p := s.port q
  if p.link = .l0 ∧ p.l1En ∧ s.rfield (aCtlCfg (q / 4)) 15 8 ≠ 0 then
    (s.setPort q { p with link := .l1 }).emit (.linkPm q p.width true)
  else s

def execL1Entry (q : Nat) (s : State) : Outcome := .next (if s.portExists q then s.l1Enter q else s)

/-- Change the width of a link. -/
def State.setWidth (s : State) (q w : Nat) : State :=
  let p := s.port q
  if p.width = w then s
  else ((s.setPort q { p with width := w }).emit (.linkPm q w false)).portCount q 5

/-- L0P_NARROW: half the width, never below four lanes. -/
def State.l0pNarrow (s : State) (q : Nat) : State :=
  let p := s.port q
  if p.link = .l0 ∧ p.l0pEn ∧ s.rfield (aCtlCfg (q / 4)) 16 16 = 1 ∧ 8 ≤ p.width then s.setWidth q (p.width / 2) else s

def execL0pNarrow (q : Nat) (s : State) : Outcome := .next (if s.portExists q then s.l0pNarrow q else s)

/-- L0P_WIDEN. -/
def execL0pWiden (q : Nat) (s : State) : Outcome :=
  .next (if s.portExists q ∧ (s.port q).link = .l0 then s.setWidth q (s.port q).fullWidth else s)

/-- A link in L1 returns to L0 when something crosses it. -/
def State.wakeLink (s : State) (q : Nat) : State :=
  s.modPort q fun p => if p.link = .l1 then { p with link := .l0 } else p

/-! ## ATS invalidation (R109) -/

/-- Whether ranges meet. -/
def meets (a n b m : Nat) : Bool := decide (a < b + m) && decide (b < a + n)

/-- Whether a cached entry leads to a host page of an invalidated range. -/
def State.invalidates (s : State) (f : Nat) (pasid : Option Nat) (all : Bool) (addr size : Nat) (e : AtcEntry) : Bool :=
  match s.spoke e.spoke, e.leaf with
  | some sp, .host a _ => sp.fn == f && (all || sp.pasidOpt == pasid) && meets a e.size addr size
  | _, _ => false

/-- Whether an outstanding read of a function used the invalidated range (log entry 16, DEDUCED). -/
def State.readHit (s : State) (f : Nat) (pasid : Option Nat) (all : Bool) (addr size : Nat) (r : Req) : Option Nat :=
  match r.purpose with
  | .copyRead o va n =>
    match s.op o with
    | none => none
    | some x => match s.queue x.queue with
      | none => none
      | some q => match s.spoke q.spoke, (s.translate q.spoke va false).1 with
        | some sp, .ok (.host a _) _ =>
          if sp.fn = f && (all || sp.pasidOpt == pasid) && meets a n addr size && !r.quarantined then some o else none
        | _, _ => none
  | _ => none

/-- ATS_INVALIDATE: entries go; reads that used them are read again, their completions discarded on arrival.
`all` is the Global Invalidate bit (log entry 16, DEDUCED). -/
def State.atsInvalidate (s : State) (f : Nat) (pasid : Option Nat) (all : Bool) (addr size : Nat) : State :=
  let hits := s.host.reqs.filterMap fun (k, r) => (s.readHit f pasid all addr size r).map (k, ·)
  let s : State := { s with host.atc := s.host.atc.filter fun e => !s.invalidates f pasid all addr size e }
  let s := hits.foldl (fun s (h : Nat × Nat) =>
    let s : State := { s with host.reqs := Map.modify s.host.reqs h.1 fun r => { r with purpose := .other h.2 } }
    s.modOp h.2 fun x => { x with reading := false }) s
  s.emit (.invalidateCpl f)

def execAtsInvalidate (f : Nat) (pasid : Option Nat) (all : Bool) (addr size : Nat) (s : State) : Outcome :=
  .next (if f < 8 then s.atsInvalidate f pasid all addr size else s)

/-! ## Peer windows (R122-R129) -/

/-- One window of a set. -/
structure Win where
  base : Nat
  limit : Nat
  target : Nat                          -- TARGET × 65,536
  valid : Bool
  port : Bool
  tport : Nat
  rd : Bool
  wr : Bool
  atomic : Bool
deriving DecidableEq, Repr

/-- The window at an offset of the register block: shadow, or current 0x800 above it. -/
def State.winAt (s : State) (a : Nat) : Win :=
  let at_ := s.rget (a + 0x18)
  { base := bits (s.rget a) 37 16, limit := bits (s.rget (a + 8)) 37 16, target := bits (s.rget (a + 0x10)) 63 16 * 65536
    valid := bit at_ 0, port := bit at_ 1, tport := bits at_ 7 2, rd := bit at_ 8, wr := bit at_ 9, atomic := bit at_ 10 }

def State.winShadow (s : State) (q w : Nat) : Win := s.winAt (aWinBase q w)
def State.winCurrent (s : State) (q w : Nat) : Win := s.winAt (aWinBase q w + 0x800)

/-- The bytes that a window spans. -/
def Win.span (x : Win) : Nat := (x.limit + 1 - x.base) * 65536

/-- R128: whether a valid window fails its own checks. -/
def State.winBad (s : State) (x : Win) : Bool :=
  decide (x.limit < x.base) ||
  (if x.port then !s.isDown x.tport
   else decide (2 ^ 48 ≤ x.target) || decide (0x0036_0000_0000 < x.target + x.span))

/-- R128: the lowest shadow window that fails. -/
def State.winFailing (s : State) (q : Nat) : Option Nat :=
  let l := (List.range 64).map fun w => (w, s.winShadow q w)
  (l.find? fun (w, x) => x.valid && (s.winBad x || l.any fun (v, y) =>
    y.valid && v != w && decide (x.base ≤ y.limit) && decide (y.base ≤ x.limit))).map Prod.fst

/-- R129: the counts of requests in flight: OLDEST_LIVE and BUSY follow (log entry 21, DEDUCED). -/
def State.winShow (s : State) (q : Nat) : State :=
  let cur := s.rfield (aWinGen q) 31 0
  let prev := (cur + 2 ^ 32 - 1) % 2 ^ 32
  let busy := s.host.winReqs.any fun (_, r) => r.q == q && r.gen == prev
  (s.rset (aWinGen q) 63 32 (if busy then prev else cur)).rset (aWinCtl q) 1 1 (b2n busy)

/-- R128: WINDOW_COMMIT of a port. -/
def State.windowCommit (s : State) (q : Nat) : State :=
  if s.rfield (aWinCtl q) 1 1 = 1 then s.rset (aWinCtl q) 2 2 1
  else match s.winFailing q with
    | some w => (s.rset (aWinCtl q) 3 3 1).rset (aWinCtl q) 9 4 w
    | none =>
      let s := (List.range 64).foldl (fun s w => (List.range 4).foldl (fun s i =>
        let a := aWinBase q w + 8 * i
        s.rput (a + 0x800) (s.rget a)) s) s
      (s.rset (aWinGen q) 31 0 (s.rfield (aWinGen q) 31 0 + 1)).winShow q

/-- WINDOW_COMMIT. -/
def execWindowCommit (q : Nat) (s : State) : Outcome := .next (if q < 40 then s.windowCommit q else s)

/-- WINDOW_REQUEST_PERFORMED (R129): request `i` is over; a forwarded read is so only after its completion
(log entry 21, DEDUCED). -/
def State.windowDone (s : State) (i : Nat) : State :=
  match Map.get s.host.winReqs i with
  | none => s
  | some r =>
    let open_ := s.host.reqs.any fun (_, x) => !x.quarantined && (match x.purpose with
      | .forwarded _ _ w => w == i
      | _ => false)
    if open_ then s else State.winShow { s with host.winReqs := Map.erase s.host.winReqs i } r.q

def execWindowRequestPerformed (i : Nat) (s : State) : Outcome := .next (s.windowDone i)

/-- Answer a request that is not performed: Unsupported Request, or nothing for a posted one. -/
def State.unsupported (s : State) (q : Nat) (kind : ReqKind) (tag : Nat) : State :=
  if kind = .write then s else s.emit (.cpl q tag .unsupported [] false)

/-- R121, R581: answer a request that arrives for a contained port or for one in reset (log entry 15, DEDUCED). -/
def State.blockedAnswer (s : State) (t q : Nat) (kind : ReqKind) (tag : Nat) : State :=
  let p := s.port t
  if kind = .write then s.portCount t 2
  else s.emit (.cpl q tag (if p.contained && p.dpcCa && !p.sbrActive then .abort else .unsupported) [] false)

/-- R126: a BAR4 request that no window serves. -/
def State.windowMiss (s : State) (f q : Nat) (kind : ReqKind) (tag : Nat) : State :=
  ((s.portCount q 0).unsupported q kind tag).emit (.aer f .unsupportedRequest)

/-- Whether a window permits a kind of request. -/
def Win.permits (x : Win) : ReqKind → Bool
  | .read => x.rd
  | .write => x.wr
  | _ => x.atomic

/-- The new value that an AtomicOp of `n` bytes stores. -/
def atomicResult (kind : ReqKind) (n old : Nat) (data : Bytes) : Nat :=
  match kind with
  | .fetchAdd => (old + fld data 0 n) % 2 ^ (8 * n)
  | .swap => fld data 0 n
  | .cas => if old = fld data 0 n then fld data n n else old
  | _ => old

/-- R94: the operand sizes of the AtomicOps (log entry 14, PRESUMED). -/
def atomicSize (kind : ReqKind) (n : Nat) : Bool :=
  match kind with
  | .fetchAdd => n == 4 || n == 8
  | .swap => n == 4 || n == 8
  | .cas => n == 4 || n == 8 || n == 16
  | _ => true

/-- R124, R116, R117: perform a request on HBM. -/
def State.hbmRequest (s : State) (q : Nat) (kind : ReqKind) (a n : Nat) (data : Bytes) (ep : Bool) (tag : Nat) : State :=
  match kind with
  | .write => s.hbmWrite a data ep
  | .read =>
    let (s, d, f) := s.hbmRead a n
    s.emit (.cpl q tag .success d (f != .clean))
  | _ =>
    let (s, d, f) := s.hbmRead a n
    let s := s.hbmWrite a (toLe n (atomicResult kind n (le d) data)) ep
    s.emit (.cpl q tag .success d (f != .clean))

/-- Note a request in flight under the current generation of its port (R127) (log entry 21, DEDUCED). -/
def State.noteWindow (s : State) (q : Nat) (port : Bool) (kind : ReqKind) (tag : Nat) : State :=
  let i := s.host.nextWin
  let r : WinReq := { q := q, gen := s.rfield (aWinGen q) 31 0, port := port, tag := tag, posted := kind == .write }
  { s with host.winReqs := Map.put s.host.winReqs i r, host.nextWin := i + 1 }

/-- R125: the Requester ID of what a window forwards out of a port: PF3 of its hierarchy, or bus 0 of a root port. -/
def State.forwardId (s : State) (t : Nat) : Nat := if s.portRole t = 1 then 4 * s.portHier t + 3 else 8

/-- R125: forward a request out of a port; with no tag free it stays with its sender
(log entries 13, DEDUCED; 14, PRESUMED). -/
def State.windowForward (s : State) (q t : Nat) (kind : ReqKind) (a n : Nat) (data : Bytes) (ep : Bool) (tag : Nat) : State :=
  let p := s.port t
  let d := if kind = .read then toLe 4 n else data
  if p.contained || p.sbrActive then s.blockedAnswer t q kind tag
  else if p.link ≠ .l0 ∧ p.link ≠ .l1 then s.unsupported q kind tag
  else if kind = .write then ((s.wakeLink t).noteWindow q true kind tag).emit (.forward t kind a d ep 0 (s.forwardId t))
  else match s.freeTag t with
    | none => s
    | some tg =>
      let w := s.host.nextWin
      let s := (s.wakeLink t).noteWindow q true kind tag
      let s := s.noteReq t tg { fn := 4 * s.portHier t + 3, port := t, purpose := .forwarded q tag w, issued := s.now }
      s.emit (.forward t kind a d ep tg (s.forwardId t))

/-- Whether memory requests reach a function's BARs (R26, R133, R583). -/
def State.barsOpen (s : State) (f : Nat) : Bool :=
  let x := s.fn f
  x.mse && !x.d3hot && !x.flr && !s.rimDown

/-- R132: what a downstream port answers while its Bus Master Enable is clear. -/
def State.ingressShut (s : State) (q : Nat) : Bool := s.portRole q == 1 && !(s.port q).bme

/-- A request to BAR4 of PF3 of the hierarchy of port `q`, at an offset (R123-R126). -/
def State.bar4Request (s : State) (q : Nat) (kind : ReqKind) (off n : Nat) (data : Bytes) (ep : Bool) (tag : Nat) : State :=
  let f := 4 * s.portHier q + 3
  let len := if kind = .write then data.length else n
  let s := if ep then s.emit (.aer f .poisonedTlp) else s
  if !s.barsOpen f || decide (2 ^ (s.fn f).bar4Log2 < off + len) then (s.unsupported q kind tag).emit (.aer f .unsupportedRequest)
  else if !atomicSize kind len then s.unsupported q kind tag
  else match ((List.range 64).map (s.winCurrent q)).find? fun x =>
      x.valid && decide (x.base * 65536 ≤ off) && decide (off + len ≤ (x.limit + 1) * 65536) with
    | none => s.windowMiss f q kind tag
    | some x =>
      let a := x.target + (off - x.base * 65536)
      if !x.permits kind then s.windowMiss f q kind tag
      else if x.port then s.windowForward q x.tport kind a len data ep tag
      else if !s.inUse [useJobs] a len then s.windowMiss f q kind tag
      else (s.noteWindow q false kind tag).hbmRequest q kind a len data ep tag

/-- Whether a request can arrive on a port. -/
def State.canArrive (s : State) (q : Nat) : Bool :=
  s.portExists q && ((s.port q).link == .l0 || (s.port q).link == .l1)

/-- The answer of a downstream port whose Bus Master Enable is clear (log entry 15, DEDUCED). -/
def State.ingressAnswer (s : State) (q : Nat) (kind : ReqKind) (tag : Nat) : State :=
  if kind = .write then s.portCount q 2 else s.unsupported q kind tag

/-- BAR4_REQUEST. -/
def execBar4Request (q : Nat) (kind : ReqKind) (off n : Nat) (data : Bytes) (ep : Bool) (tag : Nat) (s : State) : Outcome :=
  .next (if !s.canArrive q then s
    else if s.ingressShut q then (s.wakeLink q).ingressAnswer q kind tag
    else (s.wakeLink q).bar4Request q kind off n data ep tag)

/-- BAR4_RESIZE (R107). -/
def State.bar4Resize (s : State) (h log2 : Nat) : State :=
  let x := s.fn (4 * h + 3)
  if x.mse ∨ log2 < 30 ∨ 38 < log2 then s else s.setFn (4 * h + 3) { x with bar4Log2 := log2, bar4 := x.bar4 / 2 ^ log2 * 2 ^ log2 }

def execBar4Resize (h log2 : Nat) (s : State) : Outcome := .next (if h < 2 then s.bar4Resize h log2 else s)

/-! ## Configuration requests (R3, R88, R97-R107, R133) -/

/-- The device ID and class code of PFk. -/
def pfDevice (k : Nat) : Nat := 0x9490 + k
def pfClass (k : Nat) : Nat := match k with
  | 0 => 0x088000
  | 1 => 0x020000
  | 2 => 0x010802
  | _ => 0x120000

/-- R4: the stepping, which is the Revision ID of every function. -/
def State.stepping (s : State) : Nat := s.rfield 0 39 32

/-- The size of a BAR as log2: BAR0, BAR2 and, on PF3, BAR4. -/
def State.barLog2 (s : State) (f n : Nat) : Option Nat :=
  if n = 0 then some 26 else if n = 2 then some 24 else if n = 4 ∧ f % 4 = 3 then some (s.fn f).bar4Log2 else none

def FnState.barVal (x : FnState) (n : Nat) : Nat := if n = 0 then x.bar0 else if n = 2 then x.bar2 else x.bar4
def FnState.setBar (x : FnState) (n v : Nat) : FnState :=
  if n = 0 then { x with bar0 := v } else if n = 2 then { x with bar2 := v } else { x with bar4 := v }

/-- What a configuration read of a field returns (log entry 18, DESIGN CHOICE). -/
def State.cfgRead (s : State) (f : Nat) (c : CfgField) : Nat :=
  let x := s.fn f
  match c with
  | .ids => 0x1F9D + 2 ^ 16 * pfDevice (f % 4)
  | .classRev => s.stepping + 2 ^ 8 * pfClass (f % 4)
  | .subsystem => 0x1F9D + 2 ^ 16 * s.brd.subsys
  | .busMaster => b2n x.bme
  | .memorySpace => b2n x.mse
  | .bar n => match s.barLog2 f (n / 2 * 2) with
    | none => 0
    | some _ => if n % 2 = 0 then bits (x.barVal n) 31 0 + 4 + (if n = 4 then 8 else 0) else x.barVal (n - 1) / 2 ^ 32
  | .msi => b2n x.msiEn + 2 * Nat.log2 x.msiCount
  | .msix => b2n x.msixEn + 2 * b2n x.msixFnMask
  | .pasid => b2n x.pasidEn
  | .ats => b2n x.atsEn
  | .pri => b2n x.priEn
  | .priAlloc => x.priAlloc
  | .powerState => if x.d3hot then 3 else 0
  | .barSize => if f % 4 = 3 then x.bar4Log2 - 20 else 0
  | .serial => s.sec.fuses.serial
  | .portBusMaster q => b2n (s.port q).bme
  | .portWindow q => (s.port q).memBase / 2 ^ 20 + 2 ^ 32 * ((s.port q).memLimit / 2 ^ 20)
  | .portBuses q => (s.port q).secBus + 256 * (s.port q).subBus
  | .portSbr q => b2n (s.port q).sbr
  | .portDpc q => b2n (s.port q).dpcEn + 2 * b2n (s.port q).dpcCa + 4 * b2n (s.port q).dpcTriggered
  | .portLinkPm q => b2n (s.port q).l1En + 2 * b2n (s.port q).l0pEn
  | .portAcs q => b2n (s.port q).acsRedirect
  | .portIds q => 0x1F9D + 2 ^ 16 * (if s.portRole q = 0 then 0x9480 else 0x9481)
  | .flr => 0
  | .interruptPin => 0
  | .other => 0

/-- What a configuration write of a function's field does.  ATS, PRI and PASID exist on PF1-PF3 (R103)
(log entries 18, DESIGN CHOICE; 19, DEDUCED). -/
def State.cfgWriteFn (s : State) (f : Nat) (c : CfgField) (v : Nat) : State :=
  let x := s.fn f
  let pf0 := f % 4 == 0
  match c with
  | .busMaster => if bit v 0 then s.bmeSet f else s.bmeClear f
  | .memorySpace => s.setFn f { x with mse := bit v 0 }
  | .bar n => match s.barLog2 f (n / 2 * 2) with
    | none => s
    | some l =>
      let b := n / 2 * 2
      let w := if n % 2 = 0 then setBits (x.barVal b) 31 0 v else setBits (x.barVal b) 63 32 v
      s.setFn f (x.setBar b (w / 2 ^ l * 2 ^ l))
  | .msi => (s.setFn f { x with msiEn := bit v 0, msiCount := 2 ^ min 5 (bits v 3 1) }).sendHeld f
  | .msix => (s.setFn f { x with msixEn := bit v 0, msixFnMask := bit v 1 }).sendHeld f
  | .pasid => if pf0 then s else s.setFn f { x with pasidEn := bit v 0 }
  | .ats => if pf0 then s else s.setFn f { x with atsEn := bit v 0 }
  | .pri => if pf0 then s else s.setFn f { x with priEn := bit v 0 }
  | .priAlloc => if pf0 then s else (s.setFn f { x with priAlloc := v % 2 ^ 32 }).sendPages f
  | .powerState => if bits v 1 0 = 3 then s.d3Enter f else if bits v 1 0 = 0 then s.d0Enter f else s
  | .barSize => if f % 4 = 3 then s.bar4Resize (f / 4) (v + 20) else s
  | .flr => if bit v 0 then s.flrStart f else s
  | _ => s

/-- What a configuration write of a port's field does (log entry 18, DESIGN CHOICE). -/
def State.cfgWritePort (s : State) (q : Nat) (c : CfgField) (v : Nat) : State :=
  match c with
  | .portBusMaster _ => s.modPort q fun p => { p with bme := bit v 0 }
  | .portWindow _ => s.modPort q fun p => { p with memBase := bits v 31 0 * 2 ^ 20, memLimit := bits v 63 32 * 2 ^ 20 }
  | .portBuses _ => s.modPort q fun p => { p with secBus := bits v 7 0, subBus := bits v 15 8 }
  | .portSbr _ => if bit v 0 then s.sbrSet q else s.sbrClear q
  | .portDpc _ =>
    let s := s.modPort q fun p => { p with dpcEn := bit v 0, dpcCa := bit v 1 }
    if bit v 2 then s.dpcClear q else s
  | .portLinkPm _ => s.modPort q fun p => { p with l1En := bit v 0, l0pEn := bit v 1 }
  | .portAcs _ => s.modPort q fun p => { p with acsRedirect := bit v 0 }
  | _ => s

/-- The port that a field belongs to. -/
def portOf : CfgField → Option Nat
  | .portBusMaster q => some q
  | .portWindow q => some q
  | .portBuses q => some q
  | .portSbr q => some q
  | .portDpc q => some q
  | .portLinkPm q => some q
  | .portAcs q => some q
  | .portIds q => some q
  | _ => none

/-- CONFIG_REQUEST: a read, or a write of a value, of a field of function `f` or of a port of its hierarchy.  Until the
H9 is ready, and during an FLR of the function, it gets Request Retry Status (log entry 20, DEDUCED). -/
def State.configRequest (s : State) (f : Nat) (c : CfgField) (wr : Option Nat) : State :=
  let up := s.port (upPort f)
  if up.link ≠ .l0 ∧ up.link ≠ .l1 then s
  else
    let s := s.wakeLink (upPort f)
    if !s.brd.scReleased && s.brd.soft.isNone then s.emit (.cfgCpl f .retry 0)
    else match portOf c with
      | some q =>
        if !s.portExists q || s.portRole q = 2 || s.portHier q ≠ f / 4 then s.emit (.cfgCpl (8 + q) .unsupported 0)
        else match wr with
          | none => s.emit (.cfgCpl (8 + q) .success (s.cfgRead f c))
          | some v => (s.cfgWritePort q c v).emit (.cfgCpl (8 + q) .success 0)
      | none =>
        if (s.fn f).flr then s.emit (.cfgCpl f .retry 0)
        else match wr with
          | none => s.emit (.cfgCpl f .success (s.cfgRead f c))
          | some v => (s.cfgWriteFn f c v).emit (.cfgCpl f .success 0)

def execConfigRequest (f : Nat) (c : CfgField) (wr : Option Nat) (s : State) : Outcome :=
  .next (if f < 8 then s.configRequest f c wr else s)

end Sys2Proof.Machine
end

