-- ==== Sys2Proof/Machine/Memory.lean ====
section
/-! DEFINITION. Chapter 5: regions, checker test mode, the raw window, patrol scrub, the repair list, invalidation of
translations and self-refresh (R182-R197, R204, R585). -/

namespace Sys2Proof.Machine
open Sys2Proof

/-! ## Regions (R182-R187) -/

/-- The region that a payload of HBM_REGION_SET describes. -/
def regionArg (p : Bytes) : Region :=
  { valid := bit (u8 p 1) 0, strong := bit (u8 p 1) 1, use := bits (u8 p 1) 4 2, base := u32 p 4, size := u32 p 8 }

/-- The valid region at an index; with HBM absent none is valid (R189). -/
def State.hbmRegion (s : State) (i : Nat) : Option Region :=
  if s.mem.absent then none else match Map.get s.mem.regions i with
  | some r => if r.valid then some r else none
  | none => none

/-- Whether two regions overlap. -/
def Region.overlaps (a b : Region) : Bool := meets a.base a.size b.base b.size

/-- R185: whether the memory of the spoke addresses of a job lies in a range of HBM. -/
def State.jobHolds (s : State) (x : Job) (lo n : Nat) : Bool :=
  let at_ (va : Nat) : Bool := match (s.translate x.spoke va false).1 with
    | .ok (.hbm a) _ => decide (lo ≤ a) && decide (a < lo + n)
    | _ => false
  at_ x.ctx || (x.stages.any fun g => at_ g.program) ||
    x.chans.any fun c => (c.srcMem || c.dstMem) && (at_ c.memAddr || at_ (c.memAddr + c.memLen - 1))

/-- The windows (port, window) whose current attributes have ever been set; every other window is invalid. -/
def State.windowsSet (s : State) : List (Nat × Nat) :=
  s.regs.filterMap fun (off, _) =>
    let r := off - aWinBase 0 0
    let (q, x) := (r / 0x2000, r % 0x2000)
    if aWinBase 0 0 ≤ off ∧ q < 40 ∧ 0x818 ≤ x ∧ x < 0x1018 ∧ x % 0x20 = 0x18 then some (q, (x - 0x818) / 0x20) else none

/-- R185: whether a window, a page table or memory that a job or session names lies in the range of a region
(log entry 39, DEDUCED). -/
def State.rangeBusy (s : State) (r : Region) : Bool :=
  let lo := r.baseByte
  let n := r.bytes
  (s.windowsSet.any fun (q, w) =>
    let x := s.winCurrent q w
    x.valid && !x.port && meets x.target x.span lo n) ||
  (s.host.spokes.any fun (_, k) => !k.base && meets k.ptRoot 4096 lo n) ||
  (s.str.jobs.any fun (_, x) => s.jobHolds x lo n) ||
  (s.ckp.sessions.any fun (_, k) => k.shards.any fun x => x.device && meets x.addr (65536 * x.pages) lo n)

/-- R185: whether a region is in use; a session holds memory in PANNIER, a connection in TABLES and REORDER
(log entry 39, DEDUCED). -/
def State.regionBusy (s : State) (r : Region) : Bool :=
  r.test || r.zeroing || s.rangeBusy r || (r.use == usePannier && s.ckp.sessions != []) ||
  (s.xpt.conns.any fun (_, k) => r.use == useTables || (r.use == useReorder && k.stored != []))

/-- R185, check 1. -/
def State.regionBad (s : State) (i : Nat) (r : Region) : Bool :=
  let others := s.mem.regions.filter fun (j, x) => j != i && x.valid
  if !r.valid then r.strong || r.use != 0 || r.base != 0 || r.size != 0
  else decide (64 ≤ i) || r.size == 0 || r.use == 7 || decide (110592 < r.base + r.size) ||
    (others.any fun (_, x) => x.overlaps r) ||
    (r.use == usePannier && decide (81920 < r.size + (others.filter fun p => p.2.use == usePannier).foldl (fun n p => n + p.2.size) 0))

/-- HBM_REGION_SET (log entry 38, DEDUCED). -/
def State.regionSet (s : State) (f : Nat) (p : Bytes) : Reply :=
  let i := u8 p 0
  let r := regionArg p
  let old := s.hbmRegion i
  let fw := (match old with
    | some x => x.use == useFirmware || s.regionBusy x
    | none => false) || (r.valid && (r.use == useFirmware || s.rangeBusy r))
  if f % 4 ≠ 0 then Reply.err s (if decide (64 ≤ i) || s.regionBad i r then .malformed else .notPermitted)
  else if decide (64 ≤ i) || s.regionBad i r then Reply.err s .malformed
  else if fw then Reply.err s .notPermitted
  else if s.mem.absent then Reply.err s .resource
  else if (match old with
      | none => !r.valid
      | some x => x == r) then Reply.ok s []
  else if !s.jRoom p.length then Reply.err s .resource
  else if !r.valid then
    { st := { s with mem.regions := Map.erase s.mem.regions i }, journal := [(0x0201, i, false, p)] }
  else
    { st := { s with mem.regions := Map.put s.mem.regions i { r with zeroing := true } }
      async := some i, journal := [(0x0201, i, false, p)] }

def execHbmRegionSet (f : Nat) (s : State) : Outcome := .next (s.perform f 0x0201 fun p s => s.regionSet f p)

/-- Fill a range of HBM with zeros: data and check symbols, in whole blocks. -/
def State.zeroRange (s : State) (lo n : Nat) : State :=
  let out (a : Nat) : Bool := !(decide (lo ≤ a) && decide (a < lo + n))
  { s with
    mem.hbm := s.mem.hbm.filter fun c => out c.1
    mem.poison := s.mem.poison.filter fun b => out (64 * b)
    mem.uncorr := s.mem.uncorr.filter fun b => out (64 * b)
    mem.rawCheck := s.mem.rawCheck.filter fun c => out (64 * c.1) }

/-- REGION_ZEROING_COMPLETE (R187, R196): the fill of a region ends, once its command has responded
(log entry 38, DEDUCED). -/
def State.zeroingDone (s : State) (i : Nat) : State :=
  match Map.get s.mem.regions i with
  | none => s
  | some r =>
    if !r.zeroing || s.fwm.jpend.any (fun w => w.type == 0x0201 && w.key == i) then s
    else
      let s := s.zeroRange r.baseByte r.bytes
      let s : State := { s with mem.regions := Map.put s.mem.regions i { r with zeroing := false, test := false } }
      s.asyncDone (fun a => (a.opcode == 0x0201 || a.opcode == 0x0210) && a.arg == i) .success

def execRegionZeroingComplete (i : Nat) (s : State) : Outcome := .next (s.zeroingDone i)

/-- MEM_ECC_TEST (R196) (log entry 40, DEDUCED). -/
def State.eccTest (s : State) (f : Nat) (p : Bytes) : Reply :=
  let i := u8 p 0
  if 64 ≤ i then Reply.err s .malformed
  else if f % 4 ≠ 0 then Reply.err s .notPermitted
  else match s.hbmRegion i with
    | none => Reply.err s .notPermitted
    | some r =>
      let put (r : Region) : State := { s with mem.regions := Map.put s.mem.regions i r }
      if bit (u8 p 1) 0 then
        if r.use = useFirmware ∨ s.regionBusy r ∨ s.mem.regions.any (fun x => x.2.test) then Reply.err s .notPermitted
        else Reply.ok (put { r with test := true }) []
      else if !r.test || r.zeroing then Reply.err s .notPermitted
      else { st := put { r with zeroing := true }, async := some i }

def execMemEccTest (f : Nat) (s : State) : Outcome := .next (s.perform f 0x0210 fun p s => s.eccTest f p)

/-! ## Translations (R204) -/

/-- PT_INVALIDATE: entries of the range go at once; the response waits for reads that used them
(log entry 45, DEDUCED). -/
def State.ptInvalidate (s : State) (f : Nat) (p : Bytes) : Reply :=
  let k := u16 p 0
  let a := Machine.u64 p 8
  let n := Machine.u64 p 16
  if (s.spoke k).isNone then Reply.err s .malformed
  else if !s.mayNameSpoke f k then Reply.err s .notPermitted
  else
    let s : State := { s with host.atc := s.host.atc.filter fun e => !(e.spoke == k && meets e.page e.size a n) }
    let busy := s.host.reqs.any fun (_, r) => !r.quarantined && (match r.purpose with
      | .copyRead o va m => meets va m a n && (match s.op o with
        | some x => (match s.queue x.queue with
          | some q => q.spoke == k
          | none => false)
        | none => false)
      | _ => false)
    { st := s, wait := busy }

def execPtInvalidate (f : Nat) (s : State) : Outcome := .next (s.perform f 0x0220 fun p s => s.ptInvalidate f p)

/-! ## Repair list and patrol scrub (R191-R193) -/

/-- MEM_REPAIR_LIST (log entry 40, DEDUCED). -/
def State.repairList (s : State) (p : Bytes) : Reply :=
  let l := (s.mem.repairs.drop (u32 p 0)).take 509
  Reply.ok s (toLe 4 l.length ++ toLe 4 (if u32 p 0 + l.length < s.mem.repairs.length then u32 p 0 + l.length else 0) ++
    l.flatMap fun r => toLe 8 r.word)

def execMemRepairList (f : Nat) (s : State) : Outcome := .next (s.perform f 0x0230 fun p s => s.repairList p)

/-- The first block from `b` on that scrub reads: of a valid region that is neither in test mode nor being zeroed. -/
def State.scrubFrom (s : State) (b : Nat) : Option Nat :=
  let l := (Map.vals s.mem.regions).filter fun r => r.valid && !r.test && !r.zeroing && decide (b < (r.baseByte + r.bytes) / 64)
  match l with
  | [] => none
  | r :: t => some (t.foldl (fun m x => min m (max b (x.baseByte / 64))) (max b (r.baseByte / 64)))

/-- R192, R193: a block has been corrected; `pin` is the channel's pin when all its errors lie on one (72: several)
(log entry 37, DEDUCED). -/
def State.corrected (s : State) (blk pin : Nat) : State :=
  let a := 64 * blk
  let st := stackOf a
  let s := s.rsat (aHbmStat st) 47 16 1
  let k := rowKey a
  let rows := s.mem.corrRows.filter fun x => decide (s.now < x.2.2 + dayNs) && !(x.1 == k && x.2.1 == a)
  let rows := rows ++ [(k, a, s.now)]
  let s : State := { s with mem.corrRows := rows }
  let s := if 3 ≤ (rows.filter fun x => x.1 == k).length then s.addRepair (rowRepair a) else s
  if 72 ≤ pin then s
  else
    let ch := channelOf (stackAddr a)
    let pk := (st * 16 + ch) * 72 + pin
    let hits := (s.mem.pinHits.filter fun x => decide (s.now < x.2 + 1_000_000_000)) ++ [(pk, s.now)]
    let s : State := { s with mem.pinHits := hits }
    if (hits.filter fun x => x.1 == pk).length < 16 ∨ s.mem.failing.contains pk then s
    else State.addRepair { s with mem.failing := setIns s.mem.failing pk }
      { lane := true, stack := st, channel := ch, pseudo := 0, bank := 0, row := pin }

/-- SCRUB_READ: the next block.  `upsets` are blocks whose stored bits have become uncorrectable; `fixed` says that the
block read is corrected, at `pin` (log entry 37, DEDUCED). -/
def State.scrubRead (s : State) (upsets : List Nat) (fixed : Bool) (pin : Nat) : State :=
  let s : State := { s with mem.uncorr := upsets.foldl setIns s.mem.uncorr }
  if s.rfield aScrub 0 0 = 0 ∨ s.mem.refresh ∨ s.mem.absent then s
  else match s.scrubFrom s.mem.scrubPos with
    | none => s
    | some b =>
      let s := if s.mem.poison.contains b then s
        else if s.mem.uncorr.contains b then (s.uncorrectable b).hbmReport
        else if fixed then s.corrected b pin else s
      match s.scrubFrom (b + 1) with
      | some _ => { s with mem.scrubPos := b + 1 }
      | none => State.rsat { s with mem.scrubPos := 0 } aScrub 63 32 1

def execScrubRead (upsets : List Nat) (fixed : Bool) (pin : Nat) (s : State) : Outcome := .next (s.scrubRead upsets fixed pin)

/-! ## The raw window (R179, R196, R197) -/

/-- The region in test mode when the block of MEM_RAW_ADDR lies in its data area. -/
def State.rawRegion (s : State) : Option Region :=
  let a := s.rfield aRawAddr 47 6 * 64
  (Map.vals s.mem.regions).find? fun r => r.valid && r.test && !r.zeroing && decide (r.baseByte ≤ a) && decide (a + 64 ≤ r.dataEnd)

/-- The check bits of a region's code. -/
def checkBits (strong : Bool) (d : Bytes) : Nat := if strong then Config.strongCheck d % 2 ^ 32 else Config.lightCheck d % 2 ^ 64

/-- R179: what the poison mark adds to the check bits. -/
def markBits (strong : Bool) : Nat := if strong then 0x3C5A_C3A5 else 2 ^ 64 - 1

/-- The check bits of a block as stored (log entry 36, PRESUMED). -/
def State.storedCheck (s : State) (strong : Bool) (blk : Nat) (d : Bytes) : Nat :=
  match Map.get s.mem.rawCheck blk with
  | some c => c
  | none => checkBits strong d ^^^ (if s.mem.poison.contains blk then markBits strong else 0)

/-- R179: whether check bits stored beside data bear the poison mark. -/
def bearsMark (strong : Bool) (d : Bytes) (c : Nat) : Bool :=
  let x := c ^^^ checkBits strong d
  if strong then x == markBits true else decide (5 ≤ ((toLe 8 x).filter (· == 255)).length)

/-- Store eight registers of data. -/
def State.putRaw (s : State) (d : Bytes) : State := (List.range 8).foldl (fun s k => s.rput (aRawData k) (Machine.u64 d (8 * k))) s

/-- The 64 bytes of MEM_RAW_DATA. -/
def State.rawBytes (s : State) : Bytes := (List.range 8).flatMap fun k => toLe 8 (s.rget (aRawData k))

/-- A raw command: 1 READ_RAW, 2 WRITE_RAW, 3 READ_DECODED. -/
def State.rawCommand (s : State) (f op : Nat) : State :=
  match s.rawRegion with
  | none => s.badAccess 5 f
  | some r =>
    let a := s.rfield aRawAddr 47 6 * 64
    let b := a / 64
    let d := Memory.readBytes s.mem.hbm a 64
    let c := s.storedCheck r.strong b d
    if op = 1 then (s.putRaw d).rput aRawCheck c
    else if op = 2 then
      let k := s.rget aRawCheck % (if r.strong then 2 ^ 32 else 2 ^ 64)
      { s with mem.hbm := Memory.writeBytes s.mem.hbm a s.rawBytes, mem.rawCheck := Map.put s.mem.rawCheck b k
               mem.poison := setDel s.mem.poison b, mem.uncorr := setDel s.mem.uncorr b }
    else
      let done (s : State) (d : Bytes) (res n : Nat) : State :=
        ((s.putRaw d).rset aRawCmd 5 4 res).rset aRawCmd 15 8 n
      if s.mem.uncorr.contains b then done s d 2 0
      else if bearsMark r.strong d c then done s d 3 0
      else if c = checkBits r.strong d then done s d 0 0
      else match Config.eccDecode r.strong d c with
        | none => done s d 2 0
        | some (x, n) => done s (padTo 64 x) 1 n

/-- READ_RAW, WRITE_RAW, READ_DECODED: the write of OP by function `f`. -/
def execReadRaw (f : Nat) (s : State) : Outcome := .next (s.rawCommand f 1)
def execWriteRaw (f : Nat) (s : State) : Outcome := .next (s.rawCommand f 2)
def execReadDecoded (f : Nat) (s : State) : Outcome := .next (s.rawCommand f 3)

/-! ## Self-refresh (R585) -/

/-- The functions of the hierarchies that exist: those whose controller P0 or P1 is upstream. -/
def State.liveFns (s : State) : List Nat := (List.range 8).filter fun f => s.portRole (upPort f) == 0

/-- R585: the conditions of self-refresh. -/
def State.mayRefresh (s : State) : Bool :=
  s.rfield aLowPwr 0 0 == 1 && (s.liveFns.all fun f => (s.fn f).d3hot) &&
  (s.str.jobs.all fun (_, j) => j.phase == .waiting) && (s.ckp.sessions.all fun (_, k) => k.ckpts == [] && k.restore.isNone) &&
  s.nvme.cmds == [] && !s.mem.absent

/-- HBM_SELF_REFRESH_ENTRY. -/
def execHbmSelfRefreshEntry (s : State) : Outcome := .next (if s.mayRefresh then { s with mem.refresh := true } else s)

end Sys2Proof.Machine
end

