-- ==== Sys2Proof/Machine/Views.lean ====
section
/-! DEFINITION. What a read of each BAR0 register returns: fields that mirror other state are computed here. -/

namespace Sys2Proof.Machine
open Sys2Proof

/-- GLB_CNT_STAT. -/
def Counter.statWord (c : Counter) : Nat :=
  c.spoke + 2 ^ 11 + 2 ^ 12 * b2n c.failed + 2 ^ 13 * b2n c.irqArmed + 2 ^ 14 * b2n c.mirrorEn + 2 ^ 16 * c.failStatus.code

/-- GLB_TRG_STAT. -/
def State.trgStat (s : State) : Nat :=
  s.trg.counters.length + 2 ^ 16 * s.trg.entries.length + 2 ^ 32 * s.trg.unmatched + 2 ^ 48 * s.trg.refused

/-- MEM_REGION. -/
def Region.word (r : Region) : Nat :=
  if !r.valid then 0
  else 1 + 2 * b2n r.strong + 4 * r.use + 32 * b2n r.test + 64 * b2n r.zeroing + 2 ^ 8 * r.base + 2 ^ 32 * r.size

/-- PKT_PORT_CFG.LINK_UP. -/
def State.linkBits (s : State) (i : Nat) : Nat := (List.range 4).foldl (fun v j => v + b2n (s.net.up.contains (4 * i + j)) * 2 ^ j) 0

/-- R247: the oldest version not retired. -/
def State.oldestLive (s : State) : Nat :=
  let d (v : Nat) := (s.net.current + 2 ^ 32 - v) % 2 ^ 32
  (Map.vals s.net.vers).foldl (fun m x => if d m < d x.number then x.number else m) s.net.current

/-- STR_TILE.STATE. -/
def TilePhase.code : TilePhase → Nat
  | .free => 0
  | .loading => 1
  | .running => 2
  | .saving => 3
  | .restoring => 4
  | .clearing => 5

/-- STR_TILE. -/
def State.tileWord (s : State) (t : Nat) : Nat :=
  let x := (Map.get s.str.tiles t).getD {}
  let held := x.phase != .free
  let spoke := match Map.get s.str.jobs x.job with
    | some j => j.spoke
    | none => 0
  let un := ((Map.get s.str.uncorr t).getD []).filter fun p => decide (s.now < p.2 + dayNs)
  (if s.str.retired.contains t then 6 else x.phase.code) + 8 * b2n x.gated + (if held then 16 * x.stage + 2 ^ 16 * spoke else 0) +
    2 ^ 32 * min 255 un.length

/-- STR_STAT. -/
def State.strStat (s : State) : Nat :=
  s.usable + 2 ^ 16 * (s.str.jobs.filter fun (_, j) => j.phase != .waiting).length + 2 ^ 32 * s.str.jobs.length

/-- STO_STAT. -/
def State.stoStat (s : State) : Nat :=
  let cs := (s.nvme.ctrls.filter fun (_, x) => x.spoke.isSome || bit x.cc 0).length
  let sq := (s.nvme.sqs.filter fun p => p.1 % 65536 != 0).length
  let dg := (s.nvme.spaces.filter fun (_, n) => match n.b with
    | some b => n.a.failed || b.failed || n.resync.isSome
    | none => false).length
  cs + 2 ^ 16 * s.nvme.spaces.length + 2 ^ 32 * sq + 2 ^ 48 * min 255 dg

/-- CKP_STAT. -/
def State.ckpStat (s : State) : Nat :=
  let bytes := s.ckp.sessions.foldl (fun n p => n + p.2.pannier) 0
  s.ckp.sessions.length + 2 ^ 8 * (s.ckp.sessions.filter fun (_, x) => x.inCapture.isSome).length + 2 ^ 16 * ceilDiv bytes (2 ^ 20)

/-- SEC_STAT: the fuse fields over the stored ones. -/
def State.secStat (s : State) (v : Nat) : Nat :=
  let f : Fuses := if s.brd.scan then {} else s.sec.fuses
  let v := setBits (setBits v 5 5 (b2n f.pwdDisable)) 6 6 (b2n f.customerLock)
  setBits (setBits (setBits v 38 32 f.svnStandby) 45 39 f.svnRoot) 52 46 f.svnService

/-- FWM_SERVICE_STAT.STATE. -/
def SvcState.code : SvcState → Nat
  | .absent => 0
  | .running => 1
  | .staged => 2
  | .activating => 3
  | .restarting => 4
  | .failed => 5

/-- FWM_SERVICE_STAT. -/
def State.svcWord (s : State) (v : Nat) : Nat :=
  let x := s.service v
  let hold := match x.staged with
    | some g => g.hold
    | none => false
  x.state.code + 8 * b2n hold + 2 ^ 8 * min 255 (x.recent.filter fun t => decide (s.now < t.1 + 600_000_000_000)).length +
    2 ^ 32 * (match x.image with
      | some i => i.version
      | none => 0)

/-- GEN of the active bank (R545). -/
def State.jGen (s : State) : Nat := (s.fwm.slots.findSome? fun x => match x with
  | .record 1 _ _ _ _ _ _ b => some (u16 b 0)
  | _ => none).getD 0

/-- FWM_JOURNAL_STAT; FAULT is stored. -/
def State.journalWord (s : State) (v : Nat) : Nat :=
  s.fwm.bank + 4 * bits v 2 2 + 2 ^ 8 * s.jGen + 2 ^ 24 * s.jUsed + 2 ^ 43 * s.jLive

/-- TEL_STAT; CACHE_FULL is stored. -/
def State.telWord (s : State) (v : Nat) : Nat :=
  s.tel.flows.length + 2 ^ 19 * b2n s.tel.ipfix.isSome + 2 ^ 20 * b2n s.tel.ring.isSome + 2 ^ 32 * bits v 47 32 +
    2 ^ 48 * min 255 (s.tel.dropped / 256) + 2 ^ 56 * min 255 (s.tel.ringLost / 256)

/-- What a read of the 64-bit register at a BAR0 offset of PF0 returns; none where no register is. -/
def State.regRead (s : State) (off : Nat) : Option Nat :=
  if 0x110000 ≤ off ∧ off < 0x160000 ∧ 0x800 ≤ (off - 0x110000) % 0x2000 ∧ (off - 0x110000) % 0x2000 < 0x1000 then some (s.rget off)
  else match findReg off with
    | none => none
    | some (d, ix) =>
      let v := s.rget off
      let i := ix.headD 0
      some (match d.name with
        | .glbTrgStat => s.trgStat
        | .glbCntValue => match Map.get s.trg.counters i with
          | some c => c.value
          | none => 0
        | .glbCntStat => match Map.get s.trg.counters i with
          | some c => c.statWord
          | none => 0
        | .memRegion => if s.mem.absent then 0 else match Map.get s.mem.regions i with
          | some r => r.word
          | none => 0
        | .memHbmStat => setBits v 3 3 (b2n s.mem.refresh)
        | .pktPortCfg => setBits v 35 32 (s.linkBits i)
        | .pktShift => s.net.current + 2 ^ 32 * s.oldestLive
        | .pktVerSlot => match Map.get s.net.vers i with
          | some x => x.number + 2 ^ 32 * (x.inFlight % 2 ^ 31) + 2 ^ 63
          | none => 0
        | .xptReorder => setBits v 31 0 s.reorderUsed
        | .strStat => s.strStat
        | .strTile => s.tileWord i
        | .stoStat => s.stoStat
        | .ckpStat => s.ckpStat
        | .secStat => s.secStat v
        | .fwmCoreStat => setBits (setBits v 3 0 (groupOf i)) 5 4 ((Map.get s.fwm.groupState (groupOf i)).getD 0)
        | .fwmServiceStat => s.svcWord i
        | .fwmJournalStat => s.journalWord v
        | .glbLowpwr => setBits (setBits v 32 32 (b2n s.mem.refresh)) 46 40 (s.str.tiles.filter fun (_, t) => t.gated).length
        | .tstStat => setBits (setBits v 0 0 (b2n s.brd.testRun.isSome)) 17 8 s.brd.tests.length
        | .telStat => s.telWord v
        | _ => v)

end Sys2Proof.Machine
end

