-- ==== Sys2Proof/Machine/Bars.lean ====
section
/-! DEFINITION. Memory requests to BAR0 and BAR2 of the functions: registers under their access codes, mailbox pages,
doorbell pages, the MSI-X table; and the requests that the switch core routes (R8, R9, R42, R43, R101, R105, R106,
R116, R149, R154, R578). -/

namespace Sys2Proof.Machine
open Sys2Proof

/-! ## Doorbells (R147-R149, R431) -/

/-- A write to a doorbell page: NVMe queues of spoke controllers take their doorbells after the checks of R149. -/
def State.doorbellAny (s : State) (f off width v : Nat) : State :=
  match s.spoke (off / 4096), s.queue (bits v 16 0) with
  | some sp, some q =>
    if q.kind == .nvme then
      if sp.fn != f || width != 8 || off % 8 != 0 || bits v 31 19 != 0 || bit v 18 || q.spoke != off / 4096 then s.badAccess 3 f
      else s.nvDoorbell (bits v 16 0) (bit v 17) (bits v 63 32)
    else (s.doorbell f off width v).settleXpt (.ok [] false)
  | _, _ => s.badAccess 3 f

/-- DOORBELL: a write of `width` bytes at an offset of BAR2 of function `f`. -/
def execDoorbell (f off width value : Nat) (s : State) : Outcome :=
  .next (if off < 0x80_0000 ∧ f < 8 then s.doorbellAny f off width value else s)

/-! ## BAR0 registers -/

/-- A mask of one 32-bit half, or of the whole register. -/
def halfMask (off width : Nat) : Nat := if width = 8 then 2 ^ 64 - 1 else (2 ^ 32 - 1) * 2 ^ (8 * (off % 8))

/-- The value of a register field after a write of `v` in the bits of `mask` (R9). -/
def RegField.written (x : RegField) (old v mask : Nat) : Nat :=
  let m := bits mask x.hi x.lo
  let o := bits old x.hi x.lo
  let n := bits v x.hi x.lo
  match x.acc with
  | .rw => (n &&& m) ||| (o &&& (2 ^ (x.hi + 1 - x.lo) - 1 - m))
  | .rwc => (n &&& m) ||| (o &&& (2 ^ (x.hi + 1 - x.lo) - 1 - m))
  | .w1c => o &&& (2 ^ (x.hi + 1 - x.lo) - 1 - (n &&& m))
  | _ => o

/-- The stored word of a register after a write. -/
def RegDef.written (d : RegDef) (old v mask : Nat) : Nat :=
  d.fields.foldl (fun w x => setBits w x.hi x.lo (x.written old v mask)) old

/-- R272: whether a write to a gate entry is discarded. -/
def State.gateEntryShut (s : State) (ix : List Nat) : Bool :=
  let i := ix.headD 0
  let b := (ix.drop 1).headD 0
  b == s.gateBank i || s.gateArmed i

/-- The actions that a write starts: the W1S and WO fields, and ENABLE = 0 of a gate cassette
(log entry 22, DEDUCED). -/
def State.regAction (s : State) (f : Nat) (d : RegDef) (i v mask : Nat) : State :=
  let w := v &&& mask
  match d.name with
  | .glbTimeSnap => if bit w 0 then s.snapshot else s
  | .pciWinCtl => if bit w 0 then s.windowCommit i else s
  | .memRawCmd => if bits w 1 0 = 0 then s else s.rawCommand f (bits w 1 0)
  | .pktPortCfg => if bit w 6 then s.portCommit i else s
  | .schGateCtl =>
    let s := if bit mask 0 && !bit v 0 then s.disableGate i else s
    let s := if bit w 3 then s.armGate i else s
    if bit w 4 then s.disarmGate i else s
  | _ => s

/-- A write to an occupied register of BAR0 of PF0: fields first, then actions (log entry 22, DEDUCED). -/
def State.regWrite (s : State) (f off v mask : Nat) : State :=
  match findReg off with
  | none => s
  | some (d, ix) =>
    if d.name == .schGateEntry && s.gateEntryShut ix then s.badAccess 6 f
    else (s.rput off (d.written (s.rget off) v mask)).regAction f d (ix.headD 0) v mask

/-- The function's own GLB_HEARTBEAT. -/
def FnState.heartbeat (x : FnState) : Nat :=
  2 * (match x.attach with
    | .detached => 0
    | .attached => 1
    | .freewheel => 2) + 2 ^ 16 * x.timeoutMs + 2 ^ 32 * x.ignored

/-- A write to a function's own GLB_HEARTBEAT. -/
def State.heartbeatWrite (s : State) (f v mask : Nat) : State :=
  let s := if bit mask 16 then s.modFn f fun x => { x with timeoutMs := bits v 29 16 } else s
  if bit (v &&& mask) 0 then s.beat f else s

/-- What lies at an aligned 64-bit word of a function's BAR0. -/
inductive Bar0Place where
  | none
  | glbId
  | heartbeat
  | reg (off : Nat)
  | nvme (off : Nat)
  | request (off : Nat)
  | response (off : Nat)
deriving DecidableEq, Repr

/-- R105: the layout of BAR0 by function. -/
def State.place0 (s : State) (f w : Nat) : Bar0Place :=
  if 0xA0_0000 ≤ w ∧ w < 0xA0_1000 then .request (w - 0xA0_0000)
  else if 0xA0_1000 ≤ w ∧ w < 0xA0_2000 then .response (w - 0xA0_1000)
  else if f % 4 = 0 then
    if w = 0x200 then .heartbeat else if (s.regRead w).isSome then .reg w else .none
  else if f % 4 = 2 then
    if w = 0x1_0000 then .glbId else if w = 0x1_0200 then .heartbeat
    else if w < 0x1_0000 ∧ (nvOccupied w || nvOccupied (w + 4)) then .nvme w else .none
  else if w = 0 then .glbId else if w = 0x200 then .heartbeat else .none

/-- The 64-bit word of a response page (log entry 34, DEDUCED). -/
def Mailbox.respWord (m : Mailbox) (off : Nat) : Nat :=
  if off = 0 then m.hdr0 else if off = 8 then m.hdr1 else Machine.u64 (padTo 8 (slice m.resp (off - 16) 8)) 0

/-- R8, R42, R578: a read of `n` bytes of BAR0. -/
def State.bar0Read (s : State) (f off n : Nat) : State × Nat :=
  let ones := 2 ^ (8 * n) - 1
  if (n ≠ 4 ∧ n ≠ 8) ∨ off % n ≠ 0 then (s.badAccess 1 f, ones)
  else
    let w := off / 8 * 8
    let part (v : Nat) : Nat := if n = 8 then v else v / 2 ^ (8 * (off % 8)) % 2 ^ 32
    let p := s.place0 f w
    if s.brd.soft.isSome ∧ p ≠ .glbId ∧ p ≠ .reg 0 ∧ p ≠ .reg aResetCause then (s, ones)
    else match p with
      | .none => (s.badAccess 2 f, 0)
      | .glbId => (s, part (s.rget 0))
      | .heartbeat => (s, part (s.fn f).heartbeat)
      | .reg o => (s, part ((s.regRead o).getD 0))
      | .nvme o => (s, part (s.nvRegRead (f / 4) o + 2 ^ 32 * s.nvRegRead (f / 4) (o + 4)))
      | .request o => (s, part ((s.fn f).mb.word o))
      | .response o => (s, part ((s.fn f).mb.respWord o))

/-- R154: a write to the request page. -/
def State.requestWrite (s : State) (f off n v : Nat) : State :=
  if off = 0xA0_0000 ∧ n = 8 then s.mailboxPost f v
  else
    let x := s.fn f
    if x.mb.outstanding then s.badAccess 4 f
    else s.setFn f { x with mb := x.mb.write (off - 0xA0_0000) (toLe n v) }

/-- R8, R9, R42, R154, R578: a write of `n` bytes of BAR0. -/
def State.bar0Write (s : State) (f off n v : Nat) : State :=
  if s.brd.soft.isSome then s
  else if (n ≠ 4 ∧ n ≠ 8) ∨ off % n ≠ 0 then s.badAccess 1 f
  else
    let w := off / 8 * 8
    let x := v * 2 ^ (8 * (off % 8)) % 2 ^ 64
    let m := halfMask off n
    match s.place0 f w with
    | .none => s.badAccess 2 f
    | .glbId => s
    | .heartbeat => s.heartbeatWrite f x m
    | .reg o => s.regWrite f o x m
    | .nvme o => if n = 8 then (s.nvRegWrite (f / 4) o (v % 2 ^ 32)).nvRegWrite (f / 4) (o + 4) (v / 2 ^ 32)
                 else s.nvRegWrite (f / 4) off v
    | .request _ => s.requestWrite f off n v
    | .response _ => s.badAccess 4 f

/-- REGISTER_WRITE: a write of `width` bytes at an offset of BAR0 of function `f`. -/
def execRegisterWrite (f off width value : Nat) (s : State) : Outcome :=
  .next (if f < 8 ∧ off < 0x400_0000 then s.bar0Write f off width value else s)

/-! ## BAR2 (R104, R106) -/

/-- The pending-bit array as 64-bit words. -/
def FnState.pbaWord (x : FnState) (w : Nat) : Nat := (List.range 64).foldl (fun v i => v + b2n (x.pba.contains (64 * w + i)) * 2 ^ i) 0

/-- A read of BAR2. -/
def State.bar2Read (s : State) (f off n : Nat) : State × Nat :=
  let x := s.fn f
  let ones := 2 ^ (8 * n) - 1
  let part (v : Nat) : Nat := if n = 8 then v else v / 2 ^ (8 * (off % 8)) % 2 ^ 32
  if s.brd.soft.isSome then (s, ones)
  else if off < 0x80_0000 ∨ 0x81_0200 ≤ off then (s, 0)
  else if (n ≠ 4 ∧ n ≠ 8) ∨ off % n ≠ 0 then (s.badAccess 3 f, ones)
  else if off < 0x81_0000 then (s, part (x.msixWord ((off - 0x80_0000) / 8)))
  else (s, part (x.pbaWord ((off - 0x81_0000) / 8)))

/-- A write to the MSI-X table: of a vector's control word only the Mask bit is kept (log entry 23, DEDUCED). -/
def State.msixWrite (s : State) (f off n v : Nat) : State :=
  let x := s.fn f
  let w := (off - 0x80_0000) / 8
  let old := x.msixWord w
  let m := halfMask off n
  let y := (v * 2 ^ (8 * (off % 8)) % 2 ^ 64 &&& m) ||| (old &&& (2 ^ 64 - 1 - m))
  let y := if w % 2 = 1 then bits y 32 0 else y
  (s.setFn f { x with msix := Map.put x.msix w y }).sendHeld f

/-- A write to BAR2. -/
def State.bar2Write (s : State) (f off n v : Nat) : State :=
  if s.brd.soft.isSome then s
  else if off < 0x80_0000 then s.doorbellAny f off n v
  else if 0x81_0200 ≤ off ∨ (n ≠ 4 ∧ n ≠ 8) ∨ off % n ≠ 0 then s.badAccess 3 f
  else if off < 0x81_0000 then s.msixWrite f off n v
  else s

/-! ## Requests from a link -/

/-- A request to BAR0 or BAR2 of function `f` that has arrived on port `q`: a read of `n` bytes, or a write of `data`
(log entry 5, DEDUCED). -/
def State.barRequest (s : State) (q f bar off : Nat) (kind : ReqKind) (n : Nat) (data : Bytes) (ep : Bool) (tag : Nat) : State :=
  let s := if ep then s.emit (.aer f .poisonedTlp) else s
  if !s.barsOpen f || decide ((if bar = 0 then 0x400_0000 else 0x100_0000) < off + (if kind = .write then data.length else n)) then
    (s.unsupported q kind tag).emit (.aer f .unsupportedRequest)
  else match kind with
    | .read =>
      let (s, v) := if bar = 0 then s.bar0Read f off n else s.bar2Read f off n
      s.emit (.cpl q tag .success (toLe n v) false)
    | .write =>
      if ep then s.badAccess 7 f
      else if bar = 0 then s.bar0Write f off data.length (le data) else s.bar2Write f off data.length (le data)
    | _ => s.unsupported q kind tag

/-- BAR_MEMORY_REQUEST. -/
def execBarMemoryRequest (q f bar off : Nat) (kind : ReqKind) (n : Nat) (data : Bytes) (tag : Nat) (s : State) : Outcome :=
  .next (if !s.canArrive q ∨ 8 ≤ f ∨ (bar ≠ 0 ∧ bar ≠ 2) then s
    else if s.ingressShut q then (s.wakeLink q).ingressAnswer q kind tag
    else (s.wakeLink q).barRequest q f bar off kind n data false tag)

/-- POISONED_TLP_RECEIVED (R116): a write with EP set to a BAR of function `f`. -/
def execPoisonedTlpReceived (q f bar off : Nat) (data : Bytes) (s : State) : Outcome :=
  .next (if !s.canArrive q ∨ 8 ≤ f then s
    else if s.ingressShut q then (s.wakeLink q).ingressAnswer q .write 0
    else if bar = 4 then (s.wakeLink q).bar4Request q .write off 0 data true 0
    else if bar = 0 ∨ bar = 2 then (s.wakeLink q).barRequest q f bar off .write 0 data true 0
    else s)

/-- The function and BAR of a hierarchy that an address lies in, with the offset. -/
def State.barHit (s : State) (h a : Nat) : Option (Nat × Nat × Nat) :=
  (List.range 12).findSome? fun i =>
    let f := 4 * h + i / 3
    let b := i % 3 * 2
    match s.barLog2 f b with
    | none => none
    | some l =>
      let base := (s.fn f).barVal b
      if (s.fn f).mse && base != 0 && decide (base ≤ a) && decide (a < base + 2 ^ l) then some (f, b, a - base) else none

/-- Route a request out of port `t` (log entry 14, PRESUMED). -/
def State.routeTo (s : State) (q t : Nat) (kind : ReqKind) (a : Nat) (d : Bytes) (ep : Bool) (tag : Nat) : State :=
  let p := s.port t
  if p.contained || p.sbrActive then s.blockedAnswer t q kind tag
  else if p.link ≠ .l0 ∧ p.link ≠ .l1 then s.unsupported q kind tag
  else (s.wakeLink t).emit (.forward t kind a d ep tag 9)

/-- R101, R132: the switch core routes a request by its address. -/
def State.switchRoute (s : State) (q : Nat) (kind : ReqKind) (a n : Nat) (data : Bytes) (ep : Bool) (tag : Nat) : State :=
  let h := s.portHier q
  let up := 4 * h
  let d := if kind = .read then toLe 4 n else data
  match s.barHit h a with
  | some (_, 4, off) => s.bar4Request q kind off n data ep tag
  | some (f, b, off) => s.barRequest q f b off kind n data ep tag
  | none =>
    match s.claims h a with
    | some t =>
      if t = q then s.unsupported q kind tag
      else if s.portRole q = 1 ∧ (s.port q).acsRedirect then s.routeTo q up kind a d ep tag
      else s.routeTo q t kind a d ep tag
    | none => if s.portRole q = 1 then s.routeTo q up kind a d ep tag else s.unsupported q kind tag

/-- SWITCH_ROUTED_REQUEST: a request that arrives on a port of a hierarchy. -/
def execSwitchRoutedRequest (q : Nat) (kind : ReqKind) (a n : Nat) (data : Bytes) (ep : Bool) (tag : Nat) (s : State) : Outcome :=
  .next (if !s.canArrive q ∨ 2 ≤ s.portRole q then s
    else if s.ingressShut q then (s.wakeLink q).ingressAnswer q kind tag
    else (s.wakeLink q).switchRoute q kind a n data ep tag)

end Sys2Proof.Machine
end

