-- ==== Sys2Proof/Machine/Keys.lean ====
section
/-! DEFINITION. Chapter 15: key slots and handles, enrolment, SVN floors and fuses (R490-R495, R503-R505). -/

namespace Sys2Proof.Machine
open Sys2Proof

/-- Store a key. -/
def State.setKey (s : State) (p : Nat) (k : KeySlot) : State := { s with sec.keys := Map.put s.sec.keys p k }
def State.modKey (s : State) (p : Nat) (g : KeySlot → KeySlot) : State := { s with sec.keys := Map.modify s.sec.keys p g }

/-- The handle of a key at a place. -/
def KeySlot.handle (k : KeySlot) (p : Nat) : Nat := p % 65536 + 65536 * k.cls + 2 ^ 20 * k.gen

/-- R503: the algorithms of a class. -/
def algOk (cls alg : Nat) : Bool :=
  if cls = 1 then decide (alg ≤ 2) else if cls = 6 then alg == 3 else decide (2 ≤ cls) && decide (cls ≤ 5) && alg == 1

/-- Bytes of a symmetric key. -/
def algBytes (alg : Nat) : Nat := if alg = 0 then 16 else 32

/-- Whether PF0's base spoke owns the keys of a class. -/
def pf0Class (cls : Nat) : Bool := decide (2 ≤ cls) && decide (cls ≤ 5)

/-- The checks of the fields that KEY_GENERATE and KEY_IMPORT share (log entry 126, DEDUCED). -/
def State.keyFields (s : State) (f : Nat) (p : Bytes) : Status :=
  let cls := u8 p 0
  let owner := u16 p 4
  checks [
    (!algOk cls (u8 p 1) || (s.spoke owner).isNone, .malformed),
    (!s.mayNameSpoke f owner || (pf0Class cls && s.pf0Base (f / 4) != some owner), .notPermitted)]

/-- The lowest free place of a class (log entry 125, DEDUCED). -/
def State.freeKey (s : State) (cls : Nat) : Option Nat :=
  if cls = 6 then (lowestWhere (fun i => !Map.has s.sec.keys (65536 + i)) 64).map (65536 + ·)
  else Map.lowestFree (s.sec.keys.filter fun p => decide (p.1 < 65536)) 32768

/-- R504: the journal object of a persistent key: the payload's first 8 bytes, handle, salt and the wrapped key
(log entry 137, DESIGN CHOICE). -/
def KeySlot.body (k : KeySlot) (p : Nat) : Bytes :=
  toLe 1 k.cls ++ toLe 1 k.alg ++ toLe 1 1 ++ toLe 1 0 ++ toLe 2 k.owner ++ zeros 2 ++ toLe 4 (k.handle p) ++ toLe 4 k.salt ++
  Config.aesKwWrap storeKek k.value

/-- Install a new key; its reply carries the handle, and for a pair its identity and public keys
(log entries 125, DEDUCED; 126, DEDUCED). -/
def State.installKey (s : State) (p : Bytes) (v : Bytes) : Reply :=
  let cls := u8 p 0
  match s.freeKey cls with
  | none => Reply.err s .resource
  | some i =>
    let (salt, s) := s.draw 32
    let persist := bit (u8 p 2) 0 || cls == 2
    let k : KeySlot := {
      cls := cls, gen := (Map.get s.sec.gens i).getD 1, alg := u8 p 1, owner := u16 p 4, persist := persist, value := v,
      salt := salt, physical := s.sec.nextPhysical }
    let s : State := { s with sec.nextPhysical := s.sec.nextPhysical + 1 }
    let s := s.setKey i k
    let pub := if cls = 6 then keyIdentity v ++ pairEd v ++ pairMl v else []
    let j := if persist then [(0x0802, i, false, toLe 8 (2 ^ 32)), (0x0801, i, false, k.body i)] else []
    { st := s, payload := toLe 4 (k.handle i) ++ pub, journal := j }

/-- KEY_GENERATE: the key's bytes are free values. -/
def State.keyGenerate (s : State) (f : Nat) (p : Bytes) : Reply :=
  let st := s.keyFields f p
  if st != .success then Reply.err s st
  else if (s.freeKey (u8 p 0)).isNone then Reply.err s .resource
  else
    let (v, s) := s.drawBytes (if u8 p 0 = 6 then 64 else algBytes (u8 p 1))
    s.installKey p v

def execKeyGenerate (f : Nat) (s : State) : Outcome := .next (s.perform f 0x0801 fun p s => s.keyGenerate f p)

/-- KEY_IMPORT: the key comes wrapped under a WRAP key of PF0's base spoke. -/
def State.keyImport (s : State) (f : Nat) (p : Bytes) : Reply :=
  let cls := u8 p 0
  let n := algBytes (u8 p 1) + 8
  let owner := (s.pf0Base (f / 4)).getD 4096
  let h := u32 p 8
  let kst := s.keyCheck h [5] owner
  let fst := s.keyFields f p
  let wrapped := slice p 16 n
  if cls == 6 || fst == .malformed || kst == .malformed || (p.drop (16 + n)).any (· != 0) then Reply.err s .malformed
  else if kst == .keyStale then Reply.err s kst
  else if fst != .success || cls == 5 || kst == .notPermitted then Reply.err s .notPermitted
  else if kst != .success then Reply.err s kst
  else match (s.keyBytes h).bind fun k => Config.aesKwUnwrap k wrapped with
    | none => Reply.err s .integrity
    | some v => s.installKey p (padTo (algBytes (u8 p 1)) v)

def execKeyImport (f : Nat) (s : State) : Outcome := .next (s.perform f 0x0802 fun p s => s.keyImport f p)

/-- R504: whether a namespace, SA, open session or context uses a key. -/
def State.keyUsed (s : State) (h : Nat) : Bool :=
  (s.nvme.spaces.any fun (_, n) => n.encrypt && n.key == h) ||
  (s.net.macsec.any fun a => a.handle == h) || (s.net.ipsec.any fun (_, a) => a.handle == h) ||
  (s.ckp.sessions.any fun (_, x) => x.signKey == h) || s.sec.ctxs.any fun (_, c) => u32 c 0 == h

/-- The check of a handle by a command of PF0 that takes a key of any spoke of its hierarchy, or of a spoke that has
gone (log entry 126, DEDUCED). -/
def State.keyAny (s : State) (f h : Nat) (classes : List Nat) : Status :=
  let owner := (s.keyOf h).map KeySlot.owner |>.getD 4096
  s.keyCheck h classes (if (s.spoke owner).isSome && !s.mayNameSpoke f owner then 4096 else owner)

/-- KEY_DESTROY: the index's generation moves on (log entry 126, DEDUCED). -/
def State.keyDestroy (s : State) (f : Nat) (p : Bytes) : Reply :=
  let h := u32 p 0
  let st := s.keyAny f h [1, 2, 3, 4, 5, 6]
  if st == .malformed || st == .keyStale then Reply.err s st
  else if st == .notPermitted || s.keyUsed h then Reply.err s .notPermitted
  else if st != .success then Reply.err s st
  else
    let i := keyPlace h
    let g := bits h 31 20
    let persist := (s.keyOf h).any KeySlot.persist
    let s : State := { s with sec.keys := Map.erase s.sec.keys i, sec.gens := Map.put s.sec.gens i (if g = 4095 then 1 else g + 1) }
    { st := s, journal := if persist then [(0x0802, i, true, []), (0x0801, i, true, [])] else [] }

def execKeyDestroy (f : Nat) (s : State) : Outcome := .next (s.perform f 0x0803 fun p s => s.keyDestroy f p)

/-- KEY_QUERY: a FAILED key is reported, not refused (log entry 126, DEDUCED). -/
def State.keyQuery (s : State) (f : Nat) (p : Bytes) : Reply :=
  let h := u32 p 0
  let st := s.keyAny f h [1, 2, 3, 4, 5, 6]
  if st == .malformed || st == .keyStale then Reply.err s st
  else if st == .notPermitted then Reply.err s .notPermitted
  else match s.keyOf h with
    | none => Reply.err s .keyStale
    | some k => Reply.ok s (toLe 1 k.cls ++ toLe 1 k.alg ++ toLe 1 (b2n k.persist + 2 * b2n k.failed) ++ zeros 1 ++ toLe 2 k.owner ++ zeros 2)

def execKeyQuery (f : Nat) (s : State) : Outcome := .next (s.perform f 0x0804 fun p s => s.keyQuery f p)

/-- KEY_WRAP: a key of classes 1 to 5, wrapped. -/
def State.keyWrap (s : State) (f : Nat) (p : Bytes) : Reply :=
  let h := u32 p 0
  let w := u32 p 4
  let a := s.keyAny f h [1, 2, 3, 4, 5]
  let b := s.keyCheck w [5] ((s.pf0Base (f / 4)).getD 4096)
  if a == .malformed || b == .malformed then Reply.err s .malformed
  else if a == .keyStale || b == .keyStale then Reply.err s .keyStale
  else if a == .notPermitted || b == .notPermitted then Reply.err s .notPermitted
  else match s.keyBytes h, s.keyBytes w with
    | some k, some kek => Reply.ok s (padTo 40 (Config.aesKwWrap kek k))
    | _, _ => Reply.err s .keyFailed

def execKeyWrap (f : Nat) (s : State) : Outcome := .next (s.perform f 0x0805 fun p s => s.keyWrap f p)

/-! ## Enrolment, floors and fuses -/

/-- The enrolment list of a function. -/
def State.enrolled (s : State) (g : Nat) : List Bytes := (Map.get s.sec.enrol g).getD []

/-- MCODE_KEY_ENROLL (R495) (log entry 127, DEDUCED). -/
def State.mcodeEnroll (s : State) (f : Nat) (p : Bytes) : Reply :=
  let g := f / 4 * 4 + u8 p 0
  let id := slice p 4 48
  let rm := bit (u8 p 1) 0
  let l := s.enrolled g
  if 3 < u8 p 0 || (rm && !l.contains id) || (!rm && (l.contains id || decide (16 ≤ l.length))) then Reply.err s .malformed
  else if f % 4 ≠ 0 then Reply.err s .notPermitted
  else
    let l := if rm then l.filter (· != id) else l ++ [id]
    let s : State := { s with sec.enrol := if l = [] then Map.erase s.sec.enrol g else Map.put s.sec.enrol g l
                              sec.validated := s.sec.validated.filter fun v => !(rm && v.1 == g && v.2.2 == id) }
    let s := s.measure 7 4 0 0 (Config.sha384 p)
    { st := s, journal := [(0x0810, g, l == [], l.flatten)] }

def execMcodeKeyEnroll (f : Nat) (s : State) : Outcome := .next (s.perform f 0x0810 fun p s => s.mcodeEnroll f p)

/-- The SVN of the image of a type now running; of services, the lowest (log entry 127, DEDUCED). -/
def State.runningSvn (s : State) (type : Nat) : Option Nat :=
  match type with
  | 1 => if s.brd.standbyImage then some (if s.fwm.runB then s.fwm.copyB.svn else s.fwm.copyA.svn) else none
  | 2 => s.fwm.root.map Image.svn
  | _ => (s.fwm.services.filterMap fun (_, v) => if v.state == .absent || v.state == .failed then none else v.image.map Image.svn).min?

/-- SVN_COMMIT (R492) (log entry 127, DEDUCED). -/
def State.svnCommit (s : State) (f : Nat) (p : Bytes) : Reply :=
  let t := u8 p 0
  if t = 0 ∨ 3 < t then Reply.err s .malformed
  else if f % 4 ≠ 0 then Reply.err s .notPermitted
  else if 64 ≤ s.svnFloor t then Reply.err s .resource
  else match s.runningSvn t with
    | none => Reply.err s .notPermitted
    | some v =>
      let n := max (s.svnFloor t) v
      let x := s.sec.fuses
      let x : Fuses := if t = 1 then { x with svnStandby := n } else if t = 2 then { x with svnRoot := n } else { x with svnService := n }
      Reply.ok { s with sec.fuses := x } (toLe 4 n)

def execSvnCommit (f : Nat) (s : State) : Outcome := .next (s.perform f 0x0850 fun p s => s.svnCommit f p)

/-- SEC_STAT.DEBUG_LEVEL. -/
def State.debugLevel (s : State) : Nat := s.rfield 0x900000 4 3

/-- FUSE_PROGRAM (R491). -/
def State.fuseProgram (s : State) (f : Nat) (p : Bytes) : Reply :=
  let w := u8 p 0
  let v := slice p 4 48
  let x := s.sec.fuses
  let takes := w = 0 ∨ w = 1 ∨ w = 4
  let old : Bytes := if w = 4 then x.pwdHash else (Map.get x.dbgAnchor (2 + w)).getD []
  let set := old.any (· != 0)
  if 6 < w ∨ (!takes ∧ v.any (· != 0)) then Reply.err s .malformed
  else if f % 4 ≠ 0 ∨ s.debugLevel ≠ 0 then Reply.err s .notPermitted
  else if takes ∧ x.customerLock then Reply.err s .notPermitted
  else if takes ∧ set then Reply.err s .malformed
  else
    let x : Fuses := match w with
      | 0 => { x with dbgAnchor := Map.put x.dbgAnchor 2 v }
      | 1 => { x with dbgAnchor := Map.put x.dbgAnchor 3 v }
      | 2 => { x with dbgRevoke := x.dbgRevoke ||| 4 }
      | 3 => { x with dbgRevoke := x.dbgRevoke ||| 8 }
      | 4 => { x with pwdHash := v }
      | 5 => { x with pwdDisable := true }
      | _ => { x with customerLock := true }
    Reply.ok { s with sec.fuses := x } []

def execFuseProgram (f : Nat) (s : State) : Outcome := .next (s.perform f 0x0851 fun p s => s.fuseProgram f p)

end Sys2Proof.Machine
end

