-- ==== Sys2Proof/Machine/Persist.lean ====
section
/-! DEFINITION. The journal's defaults: what FW_PERSIST writes (R543) and what a start takes from the journal
(R184, R235, R268, R276, R541, R590). -/

namespace Sys2Proof.Machine
open Sys2Proof

/-- Cut a sequence into pieces of `n` bytes; `fuel` bounds the pieces. -/
def piecesOf (n : Nat) : Nat → Bytes → List Bytes
  | 0, _ => []
  | fuel + 1, b => if b.length < n ∨ n = 0 then [] else b.take n :: piecesOf n fuel (b.drop n)

def pieces (n : Nat) (b : Bytes) : List Bytes := piecesOf n (b.length + 1) b

/-! ## Default rule set (types 0x0301-0x0304) -/

/-- The profiles and the class map: PROFILE_SET payloads of 16 bytes, then CLASS_MAP_SET payloads of 8 bytes
(log entry 137, DESIGN CHOICE). -/
def State.profilesBody (s : State) : Bytes :=
  ((List.range 32).flatMap fun k => toLe 8 k ++ toLe 8 (s.bitmap k)) ++
  (s.rules s.net.current).classMap.flatMap fun (c, e, w, g) => toLe 1 c ++ toLe 1 e ++ toLe 1 w ++ toLe 1 g ++ zeros 4

/-- The sub-port defaults: DEFAULT_SET payloads (log entry 137, DESIGN CHOICE). -/
def State.defaultsBody (s : State) : Bytes :=
  (s.rules s.net.current).defaults.flatMap fun (b, a) => toLe 4 b ++ toLe 4 a

/-- The entries that hold in the current version. -/
def State.emNow (s : State) : List EmEntry := s.net.em.filter fun e => e.holds s.net.current
def State.aclNow (s : State) : Map AclEntry := s.net.acl.filter fun p => p.2.holds s.net.current

/-- Every action that the current version names: ACTION_SET payloads (log entry 137, DESIGN CHOICE). -/
def State.actionsBody (s : State) : Bytes :=
  let l := s.emNow.map EmEntry.action ++ s.aclNow.map (fun p => p.2.action) ++ (s.rules s.net.current).defaults.map Prod.snd
  (l.foldl setIns []).flatMap fun a => toLe 4 a ++ zeros 4 ++ padTo 64 (s.action a)

/-- The entries: the number of exact-match entries, then EM_ADD payloads, then ACL_ADD payloads
(log entry 137, DESIGN CHOICE). -/
def State.entriesBody (s : State) : Bytes :=
  toLe 4 s.emNow.length ++
  (s.emNow.flatMap fun e => toLe 4 e.profile ++ toLe 4 e.action ++ padTo 48 e.key) ++
  s.aclNow.flatMap fun (i, e) => toLe 4 i ++ toLe 4 e.action ++ toLe 2 e.prio ++ toLe 1 (b2n e.overrides + 2 * b2n e.egress) ++
    toLe 1 e.profile ++ zeros 4 ++ padTo 48 e.key ++ padTo 48 e.mask

/-- The rule set that the journal holds, as version 1. -/
def State.loadRules (s : State) : State :=
  let get (t : Nat) : Bytes := (s.jGet t 0).getD []
  let pb := get 0x0301
  let profiles : Map Nat := (pieces 16 (pb.take 512)).foldl (fun m p => if u64 p 8 = 0 then m else Map.put m (u8 p 0) (u64 p 8)) []
  let cm : Map (Nat × Nat × Nat) := (pieces 8 (pb.drop 512)).foldl (fun m p => Map.put m (u8 p 0) (u8 p 1, u8 p 2, u8 p 3)) []
  let defs : Map Nat := (pieces 8 (get 0x0302)).foldl (fun m p => Map.put m (u8 p 0) (u32 p 4)) []
  let acts : Map Bytes := (pieces 72 (get 0x0303)).foldl (fun m p => Map.put m (u32 p 0) (slice p 8 64)) []
  let eb := get 0x0304
  let n := u32 eb 0
  let acl : Map AclEntry := (pieces 112 (eb.drop (4 + 56 * n))).foldl (fun m p =>
    let e : AclEntry := {
      profile := u8 p 11, key := slice p 16 48, mask := slice p 64 48, prio := u16 p 8, overrides := bit (u8 p 10) 0,
      egress := bit (u8 p 10) 1, lo := 1, action := u32 p 4 }
    Map.put m (u32 p 0) e) []
  let s : State := { s with net := {
    profiles := profiles, actions := acts, acl := acl
    vers := [(0, { number := 1, rules := { classMap := cm, defaults := defs } })] } }
  (pieces 56 (slice eb 4 (56 * n))).foldl (fun s p =>
    match s.emInsert { profile := u8 p 0, key := slice p 8 48, lo := 1, action := u32 p 4, bucket := 0 } with
    | (s, some em) => { s with net.em := em }
    | (s, none) => s) s

/-! ## Cassettes, overheads, port modes (types 0x0390-0x0392) -/

/-- One port's active bank: BASE, ENABLE and ACT_COUNT, then its entries. -/
def State.cassette (s : State) (i : Nat) : Bytes :=
  toLe 8 (s.rget (aGateBase i)) ++ toLe 4 (b2n (s.gateOn i)) ++ toLe 4 (s.actCount i) ++
  (List.range (s.actCount i)).flatMap fun e => toLe 8 (s.rget (aGateEntry i (s.gateBank i) e))

/-- Log entry 137, DESIGN CHOICE. -/
def State.cassettesBody (s : State) : Bytes := (List.range 8).flatMap s.cassette
/-- Log entry 137, DESIGN CHOICE. -/
def State.overheadsBody (s : State) : Bytes := (List.range 16).flatMap fun p => toLe 1 (s.rfield (0x400100 + 8 * p) 6 0)
/-- Log entry 137, DESIGN CHOICE. -/
def State.modesBody (s : State) : Bytes := (List.range 8).flatMap fun i => toLe 1 (s.portMode i)

/-- Load the cassettes of the ports from `i` on. -/
def State.loadCassettes (s : State) : Nat → Nat → Bytes → State
  | 0, _, _ => s
  | n + 1, i, b =>
    if b.length < 16 then s
    else
      let cnt := u32 b 12
      let s := (List.range cnt).foldl (fun s e => s.rput (aGateEntry i 0 e) (u64 b (16 + 8 * e))) s
      let s := (s.rput (aGateBase i) (u64 b 0)).rput (aGateCycle i) (cycleOf (s.gateList i 0 cnt))
      let s := (s.rset (aGateCtl i) 0 0 (u32 b 8 % 2)).rset (aGateCtl i) 42 32 cnt
      State.loadCassettes s n (i + 1) (b.drop (16 + 8 * cnt))

/-- The port modes, in the registers and in effect. -/
def State.loadModes (s : State) : State :=
  ((s.jGet 0x0392 0).getD []).zipIdx.foldl (fun s (b, i) =>
    let s := s.rset (aPortCfg i) 1 0 b.toNat
    { s with net.mode := Map.put s.net.mode i (s.rget (aPortCfg i)) }) s

/-- R590, row J: rules, meters, cassettes, overhead profiles and port modes as the journal has them. -/
def State.loadDefaults (s : State) : State :=
  let s := (s.loadRules.loadModes).resetMeters
  let s := s.loadCassettes 8 0 ((s.jGet 0x0390 0).getD [])
  let s := ((s.jGet 0x0391 0).getD []).zipIdx.foldl (fun s (b, p) => s.rset (0x400100 + 8 * p) 6 0 b.toNat) s
  s.rset 0x600000 55 48 (s.cfgItem 0x0500 8)

/-! ## Regions, repairs, tiles, engines, enrolment, causes, power -/

/-- R184: the table of regions, each index that the journal names replaced. -/
def State.regionTable (s : State) : Map Region :=
  (s.jAll 0x0201).foldl (fun m (k, b) => if (regionArg b).valid then Map.put m k (regionArg b) else Map.erase m k) defaultRegions

/-- A repair-list entry from its 8 bytes. -/
def repairOf (w : Nat) : Repair :=
  { lane := bit w 0, unrepairable := bit w 2, stack := bits w 5 3, channel := bits w 9 6, pseudo := bits w 10 10
    bank := bits w 16 11, row := bits w 31 17 }

/-- R237, R357, R508, R495: the lists that the journal keeps. -/
def State.journalTiles (s : State) : List Nat := (s.jAll 0x0501).foldl (fun l p => setIns l p.1) []
def State.journalEngines (s : State) : Nat := (s.jAll 0x0820).foldl (fun w p => setBits w p.1 p.1 1) 0
def State.journalEnrol (s : State) : Map (List Bytes) := (s.jAll 0x0810).foldl (fun m p => Map.put m p.1 (pieces 48 p.2)) []
def State.journalCauses (s : State) : Nat := match s.jGet 0x0B01 0 with
  | some b => u16 b 0
  | none => 0

/-- Whether the journal holds an object, or it is on its way there (log entry 162, DEDUCED). -/
def State.jHas (s : State) (type key : Nat) : Bool :=
  (s.jGet type key).isSome || s.fwm.jpend.any fun w => w.type == type && w.key == key && !w.delete

/-- R552, R569: HOST_W, FALLBACK_W and BUDGET_TIMEOUT_MS from the journal. -/
def State.loadPower (s : State) : State :=
  let s := match s.jGet 0x0A01 0 with
    | some p => s.rset 0xB00008 9 0 (u16 p 0)
    | none => s
  match s.jGet 0x0A02 0 with
  | some p => (s.rset 0xB00008 41 32 (u16 p 0)).rset 0xB00008 63 48 (u16 p 2)
  | none => s

end Sys2Proof.Machine
end

