-- ==== Sys2Proof/Machine/Power.lean ====
section
/-! DEFINITION. Chapter 17: wheels, the limiter, droop and temperature, the peloton and the chainring (R548-R574). -/

namespace Sys2Proof.Machine
open Sys2Proof

def aPwrStat : Nat := 0xB00000
def aPwrCap : Nat := 0xB00008
def aWheel (d : Nat) : Nat := 0xB00100 + 8 * d
def aPeloton : Nat := 0xB00200
def aCrStat : Nat := 0xB00300
def aDroop : Nat := 0xB00400
def aPwrCnt (k : Nat) : Nat := 0xB01000 + 8 * k

def State.pwrCount (s : State) (k : Nat) : State := s.rsat (aPwrCnt k) 63 0 1

/-! ## Wheels (R548, R549) -/

def State.kEff (s : State) (d : Nat) : Nat := s.rfield (aWheel d) 5 0
def State.kBudget (s : State) (d : Nat) : Nat := s.rfield (aWheel d) 13 8
def State.kPeloton (s : State) (d : Nat) : Nat := s.rfield (aWheel d) 21 16
def State.kThermal (s : State) (d : Nat) : Nat := s.rfield (aWheel d) 29 24
def State.kDroop (s : State) (d : Nat) : Nat := s.rfield (aWheel d) 37 32
def State.setBudget (s : State) (d k : Nat) : State := s.rset (aWheel d) 13 8 k
def State.setThermal (s : State) (d k : Nat) : State := s.rset (aWheel d) 29 24 k

/-- R548: whether slot `i` of a wheel is skipped at skip count `k`. -/
def skipped (k i : Nat) : Bool := decide (i * k / 64 < (i + 1) * k / 64)

/-- The largest request of a wheel. -/
def State.kTarget (s : State) (d : Nat) : Nat :=
  max (max (s.kBudget d) (s.kPeloton d)) (max (s.kThermal d) (s.kDroop d))

/-- Set an effective skip count; TILE's is also in PWR_STAT. -/
def State.setEff (s : State) (d k : Nat) : State :=
  let s := s.rset (aWheel d) 5 0 k
  if d = 0 then s.rset aPwrStat 21 16 k else s

/-- R549: effective skip counts rise to their requests at once. -/
def State.raiseWheels (s : State) : State :=
  (List.range 4).foldl (fun s d => if s.kEff d < s.kTarget d then s.setEff d (s.kTarget d) else s) s

/-- K_RAMP_DOWN (R549): an effective skip count above its requests falls by at most 4 (log entry 145, DEDUCED). -/
def State.rampDown (s : State) : State :=
  (List.range 4).foldl (fun s d => if s.kTarget d < s.kEff d then s.setEff d (max (s.kTarget d) (s.kEff d - 4)) else s) s

def execKRampDown (s : State) : Outcome := .next s.rampDown

/-! ## The peloton (R556-R563) -/

/-- R557: send a cadence proposal to a peer, on path 0 of its connection. -/
def State.sendCadence (s : State) (g : Peloton) (c own : Nat) (capped leaving : Bool) : State :=
  match s.conn c with
  | none => s
  | some k =>
    if k.phase != .active || k.dying.isSome then s
    else
      let y : YPkt := { opcode := 0x20, conn := k.par.rconn, epoch := k.par.repoch, msg := g.id, offset := g.round,
                        key := own + 256 * (b2n capped + 2 * b2n leaving) }
      s.wireY c k y 0 none true

def State.cOwn (s : State) : Nat := s.rfield aPeloton 14 8

/-- R558: start a round: nothing seen, the own proposal to every peer not excluded. -/
def State.startRound (s : State) (r : Nat) (capped : Bool) : State :=
  match s.pwr.peloton with
  | none => s
  | some g =>
    let g : Peloton := { g with round := r, started := s.now, peers := g.peers.map fun (c, p) => (c, { p with seen := false }) }
    let s : State := { s with pwr.peloton := some g }
    (g.peers.filter fun (_, p) => !p.excluded).foldl (fun s x => s.sendCadence g x.1 s.cOwn capped false) s

/-- The number of peers not excluded, in PWR_PELOTON. -/
def State.showPeers (s : State) : State :=
  match s.pwr.peloton with
  | none => s
  | some g => s.rset aPeloton 54 48 (g.peers.filter fun (_, p) => !p.excluded).length

/-- R558-R560: the own proposal follows the wheel; a change starts a round, and a need beyond K_LIMIT is reported once
(log entry 149, DEDUCED). -/
def State.ownChange (s : State) : State :=
  match s.pwr.peloton with
  | none => s
  | some g =>
    if !s.serves 7 then s
    else
      let need := max (s.kBudget 0) (s.kThermal 0)
      let own := max (64 - g.kLimit) (64 - need)
      let isOver := decide (g.kLimit < need)
      let s := s.rset aPwrStat 31 31 (b2n isOver)
      let s := if isOver && !g.limitPosted then s.postEvent g.spoke 0x0A04 need g.round .success 0x3FFFF else s
      let s : State := { s with pwr.peloton := some { g with limitPosted := isOver } }
      let old := s.cOwn
      if own = old then s else (s.rset aPeloton 14 8 own).startRound (g.round + 1) (decide (own < old))

/-- A request has changed: effective skip counts rise, the peloton hears of it. -/
def State.wheelsMoved (s : State) : State := s.raiseWheels.ownChange

/-- R562: post CADENCE_CHANGED. -/
def State.postCadence (s : State) : State :=
  match s.pwr.peloton with
  | none => s
  | some g =>
    let s : State := { s with pwr.peloton := some { g with posted := some s.now, pending := false } }
    s.postEvent g.spoke 0x0A01 (g.adopted + 2 ^ 8 * s.kEff 0 + 2 ^ 16 * (g.accelW * g.adopted / 64)) g.round .success 0x3FFFF

/-- R558: the cadence that a finishing round adopts. -/
def Peloton.cadence (g : Peloton) (own : Nat) : Nat :=
  (g.peers.filter fun (_, p) => !p.excluded).foldl (fun m x => min m x.2.lastC) own

/-- ROUND_FINISH (R558, R561, R562): after 100 µs, or after 20 µs once every peer has been heard.  A request above 56
is taken as 56 (R548) (log entries 148, DEDUCED; 149, DEDUCED). -/
def State.roundFinish (s : State) : State :=
  match s.pwr.peloton with
  | none => s
  | some g =>
    if !s.serves 7 then s
    else
      let live := g.peers.filter fun (_, p) => !p.excluded
      let all := live.all fun (_, p) => p.seen
      let s : State := { s with now := max s.now (g.started + if all then 20_000 else 100_000) }
      let c := g.cadence s.cOwn
      let quiet := (live.filter fun (_, p) => !p.seen).map Prod.fst
      let peers := g.peers.map fun (i, p) => (i, if quiet.contains i then { p with silent := p.silent + 1 } else p)
      let s : State := { s with pwr.peloton := some { g with adopted := c, peers := peers } }
      let s := ((s.pwrCount 1).rset (aWheel 0) 21 16 (min 56 (64 - c))).raiseWheels
      let s := (s.rset aPeloton 6 0 c).rset aPeloton 47 32 (g.accelW * c / 64)
      let s := if c = g.adopted then s
        else match g.posted with
          | some t => if s.now < t + 1_000_000 then { s with pwr.peloton := s.pwr.peloton.map fun g => { g with pending := true } }
                      else s.postCadence
          | none => s.postCadence
      let lost := (peers.filter fun (_, p) => !p.excluded && decide (10 ≤ p.silent)).map Prod.fst
      let s := (lost.foldl (fun s i => s.excludePeer i 0) s).showPeers
      s.startRound (g.round + 1) false

def execRoundFinish (s : State) : Outcome := .next s.roundFinish

/-- CADENCE_CHANGED (R562): the end of the 1 ms limit. -/
def execCadenceChanged (s : State) : Outcome :=
  .next (match s.pwr.peloton with
    | none => s
    | some g =>
      if !g.pending then s
      else State.postCadence { s with now := max s.now ((g.posted.getD 0) + 1_000_000) })

/-- R557: whether a proposal is in order for the peloton (log entry 148, DEDUCED). -/
def State.cadenceOk (s : State) (g : Peloton) (p : YPkt) : Bool :=
  (match s.conn p.conn with
   | some k => !k.roce && k.phase == .active && k.dying.isNone && p.epoch == k.epoch
   | none => false) &&
  p.msg == g.id && p.psn == 0 && !bit p.key 7 && bits p.key 31 10 == 0 && p.keyGen == 0 && p.payload == [] &&
  Map.has g.peers p.conn

/-- CADENCE (R557, R558, R561, R563): a proposal arrives (log entry 148, DEDUCED). -/
def State.cadence (s : State) (i : Nat) : State :=
  match s.takeY i 0x20 with
  | (s, none) => s
  | (s, some p) =>
    match s.pwr.peloton with
    | none => s.pwrCount 2
    | some g =>
      if !s.serves 7 || !s.cadenceOk g p then s.pwrCount 2
      else match Map.get g.peers p.conn with
        | none => s.pwrCount 2
        | some x =>
          if p.offset < x.lastR then s.pwrCount 3
          else
            let leaving := bit p.key 9
            let y : Peer := { x with lastR := p.offset, lastC := bits p.key 6 0, silent := 0, excluded := x.excluded && leaving }
            let s : State := { s with pwr.peloton := some { g with peers := Map.put g.peers p.conn y } }
            if leaving then (s.excludePeer p.conn 2).showPeers
            else
              let s := (if g.round < p.offset then s.startRound p.offset false else s).showPeers
              match s.pwr.peloton with
              | none => s
              | some g =>
                if p.offset = g.round then
                  { s with pwr.peloton := some { g with peers := Map.modify g.peers p.conn fun x => { x with seen := true } } }
                else s

def execCadence (i : Nat) (s : State) : Outcome := .next (s.cadence i)

/-- The connections that PELOTON_JOIN names. -/
def joinConns (p : Bytes) : List Nat := (List.range (u8 p 5)).map fun i => u32 p (16 + 4 * i)

/-- R556: the MALFORMED conditions of PELOTON_JOIN. -/
def State.joinBad (s : State) (f : Nat) (p : Bytes) : Bool :=
  let l := joinConns p
  u32 p 0 = 0 || decide (56 < u8 p 4) || u8 p 5 = 0 || decide (63 < u8 p 5) || (s.spoke (u16 p 6)).isNone ||
  (p.drop (16 + 4 * u8 p 5)).any (· != 0) || l.eraseDups.length != l.length ||
  l.any fun c => !(match s.conn c with
    | some k => !k.roce && k.phase == .active && k.dying.isNone && s.spokeFn k.spoke / 4 == f / 4
    | none => false)

/-- PELOTON_JOIN (log entry 149, DEDUCED). -/
def State.pelotonJoin (s : State) (f : Nat) (p : Bytes) : Reply :=
  if s.joinBad f p then Reply.err s .malformed
  else if f % 4 ≠ 0 || s.pwr.peloton.isSome || !s.mayNameSpoke f (u16 p 6) then Reply.err s .notPermitted
  else
    let own := max (64 - u8 p 4) (64 - max (s.kBudget 0) (s.kThermal 0))
    let g : Peloton := {
      id := u32 p 0, kLimit := u8 p 4, accelW := u16 p 8, spoke := u16 p 6
      peers := (joinConns p).foldl (fun m c => Map.put m c {}) [] }
    let s : State := { s with pwr.peloton := some g }
    let s := (s.rset aPwrStat 30 30 1).rput aPeloton (64 + 2 ^ 8 * own + 2 ^ 16 * g.kLimit + 2 ^ 32 * g.accelW)
    Reply.ok (s.showPeers.startRound 1 false).ownChange []

def execPelotonJoin (f : Nat) (s : State) : Outcome := .next (s.perform f 0x0A10 fun p s => s.pelotonJoin f p)

/-- R561: the membership ends; nothing is sent. -/
def State.endPeloton (s : State) : State :=
  let s : State := { s with pwr.peloton := none }
  ((s.rput aPeloton 0x4040).rset aPwrStat 31 30 0).rset (aWheel 0) 21 16 0

/-- PELOTON_LEAVE. -/
def State.pelotonLeave (s : State) (f : Nat) : Reply :=
  match s.pwr.peloton with
  | none => Reply.err s .malformed
  | some g =>
    if f % 4 ≠ 0 then Reply.err s .notPermitted
    else Reply.ok ((g.peers.foldl (fun s x => s.sendCadence g x.1 s.cOwn false true) s).endPeloton) []

def execPelotonLeave (f : Nat) (s : State) : Outcome := .next (s.perform f 0x0A11 fun _ s => s.pelotonLeave f)

/-! ## The budget (R552-R555) -/

/-- R552: the cap in effect, in W. -/
def State.capW (s : State) : Nat :=
  let h := s.rfield aPwrCap 9 0
  let r := s.rfield aPwrCap 25 16
  if r = 0 then h else min h r

/-- The cap may have changed: PWR_STAT shows it. -/
def State.capChanged (s : State) : State :=
  if s.rfield aPwrStat 9 0 = s.capW then s else (s.rset aPwrStat 9 0 s.capW).bump

/-- R450: the power that a controller's state reserves, in W. -/
def Ctrl.mp (x : Ctrl) : Nat := if x.ps = 0 then 25 else if x.ps = 1 then 15 else 8

/-- R552: the sum of MP of the controllers in PS0 to PS2. -/
def State.storageW (s : State) : Nat := ((Map.vals s.nvme.ctrls).filter fun x => x.rdy && x.ps != 3).foldl (fun n x => n + x.mp) 0

/-- R552: whether the prediction with skip count `k` stays within 98 % of the cap (mW) (log entry 146, DEDUCED). -/
def withinCap (e tile : Int) (kNow k cap : Nat) : Bool :=
  decide (tile * (64 - (k : Int)) + (e - tile) * (64 - (kNow : Int)) ≤ 980 * (cap : Int) * (64 - (kNow : Int)))

/-- R552: the least skip count from `k` to 56 that is within the cap (log entry 146, DEDUCED). -/
def leastSkip (e tile : Int) (kNow cap : Nat) : Nat → Nat → Option Nat
  | _, 0 => none
  | k, n + 1 => if 56 < k then none else if withinCap e tile kNow k cap then some k else leastSkip e tile kNow cap (k + 1) n

/-- R552: set the K_BUDGET of PKT, NOC and CTRL (log entry 146, DEDUCED). -/
def State.setOthers (s : State) (k : Nat) : State := ((s.setBudget 1 k).setBudget 2 k).setBudget 3 k

/-- R552, R553: the prediction E, in mW, for the means `raw` and `stor`; a negative offset is not used in conservative mode
(log entry 147, DEDUCED). -/
def State.predicted (s : State) (raw stor : Nat) : Int :=
  let o := if s.rfield aPwrStat 24 24 = 1 then max s.pwr.offset 0 else s.pwr.offset
  raw + o - stor + max (stor : Int) (1000 * s.storageW)

/-- LIMITER_TICK (R552, R553): `raw` is E_raw, `tile` and `stor` its parts for the tiles and for storage, in mW
(log entries 145, DEDUCED; 146, DEDUCED). -/
def State.limiterTick (s : State) (raw tile stor : Nat) : State :=
  let e := s.predicted raw stor
  let cap := s.capW
  let kNow := s.kEff 0
  let k := s.kBudget 0
  let oth := s.kBudget 1
  let s :=
    if 980 * (cap : Int) < e then
      let s := match leastSkip e tile kNow cap k 57 with
        | some k' => s.setBudget 0 k'
        | none => (s.setBudget 0 56).setOthers (min 56 (oth + 4))
      if s.kBudget 0 = 56 ∧ s.kBudget 1 = 56 ∧ 1000 * (cap : Int) < e then s.rset aPwrStat 27 27 1 else s
    else if e < 950 * (cap : Int) then
      let s :=
        if 0 < oth then if withinCap e tile kNow k cap then s.setOthers (oth - 4) else s
        else match ([k - 4, k - 3, k - 2, k - 1] : List Nat).find? fun j => withinCap e tile kNow j cap with
          | some j => s.setBudget 0 j
          | none => s
      s.rset aPwrStat 27 27 0
    else s
  let s := if s.rfield aPwrStat 27 27 = 1 then s.pwrCount 7 else s
  s.wheelsMoved

def execLimiterTick (raw tile stor : Nat) (s : State) : Outcome := .next (s.limiterTick raw tile stor)

/-- OFFSET_UPDATE (R553, R555): the means of M and of E_raw over 100 µs, in mW (log entry 145, DEDUCED). -/
def State.offsetUpdate (s : State) (m e : Nat) : State :=
  if !s.serves 7 then s
  else State.rset { s with pwr.offset := (m : Int) - e, pwr.meanM := m } aPwrStat 41 32 (min 1023 (m / 1000))

def execOffsetUpdate (m e : Nat) (s : State) : Outcome := .next (s.offsetUpdate m e)

/-- The state of sensor 35 (R611) (log entry 152, DEDUCED). -/
def State.powerMode (s : State) : Nat :=
  if s.rfield aPwrStat 24 24 = 1 then 2 else if s.rfield aPwrStat 28 28 = 1 then 3 else 1

/-- The states of sensors 32 to 36 (R611). -/
def State.sensorState (s : State) (id : Nat) : Nat :=
  match id with
  | 32 => if s.rget aRetire = 0 then 1 else 2
  | 33 => if s.brd.thermTrip then 2 else 1
  | 34 => if s.brd.mainPg then 1 else if s.brd.railFault then 3 else 2
  | 35 => s.powerMode
  | _ => if s.brd.strapFault then 2 else if s.brd.configFault then 3 else 1

/-- R612: report the state sensors of a list whose states have moved since an earlier state
(log entry 173, DEDUCED). -/
def State.sensorMoves (s old : State) (ids : List Nat) : State :=
  ids.foldl (fun s i => if s.sensorState i = old.sensorState i then s else s.pldm i (s.sensorState i)) s

/-- Report a change of the power mode (R612) (log entry 152, DEDUCED). -/
def State.modeMoved (s : State) (old : Nat) : State := if s.powerMode = old then s else s.pldm 35 s.powerMode

/-- R554: enter or leave conservative mode, with the event and the FAULT. -/
def State.conservative (s : State) (on : Bool) (m e : Nat) : State :=
  let a := m / 1000 % 65536 + 65536 * (e / 1000 % 65536)
  let old := s.powerMode
  let s := (s.rset aPwrStat 24 24 (b2n on)).postBoth (if on then 0x0A02 else 0x0A03) a s.capW .success
  ((s.crFault (if on then 0x0010 else 0x0011) a).modeMoved old).bump

/-- DIVERGENCE_WINDOW (R554, R555): the means of a 1 ms window in mW; `missing` while a rail gives no reading
(log entries 145, DEDUCED; 147, DEDUCED). -/
def State.divergence (s : State) (m e : Nat) (missing : Bool) : State :=
  let s := (State.rset { s with pwr.meanE := e } aPwrStat 51 42 (min 1023 (e / 1000)))
  if !s.serves 7 then s
  else
    let d := if e ≤ m then m - e else e - m
    let cap := 1000 * s.capW
    let high := missing || decide (15 * cap < 100 * d)
    let low := !missing && decide (100 * d ≤ 10 * cap)
    let on := s.rfield aPwrStat 24 24 = 1
    let s := if high then s.pwrCount 6 else s
    let s : State := { s with pwr.overRun := if high then s.pwr.overRun + 1 else 0, pwr.okRun := if low then s.pwr.okRun + 1 else 0 }
    if !on ∧ 8 ≤ s.pwr.overRun then State.conservative { s with pwr.okRun := 0 } true m e
    else if on ∧ 100 ≤ s.pwr.okRun then State.conservative { s with pwr.overRun := 0 } false m e
    else s

def execDivergenceWindow (m e : Nat) (missing : Bool) (s : State) : Outcome := .next (s.divergence m e missing)

/-- PWR_LIMIT_SET. -/
def State.limitSet (s : State) (f : Nat) (p : Bytes) : Reply :=
  let w := u16 p 0
  if w < 250 || decide (750 < w) then Reply.err s .malformed
  else if f % 4 ≠ 0 then Reply.err s .notPermitted
  else { st := (s.rset aPwrCap 9 0 w).capChanged, journal := if bit (u8 p 2) 0 then [(0x0A01, 0, false, p)] else [] }

def execPwrLimitSet (f : Nat) (s : State) : Outcome := .next (s.perform f 0x0A01 fun p s => s.limitSet f p)

/-- R555, R563: the power agent is back: both runs of windows start from zero, and it starts the round after its last. -/
def State.powerReturn (s : State) (v : Nat) : State :=
  if v ≠ 7 then s
  else
    let s : State := { s with pwr.overRun := 0, pwr.okRun := 0 }
    match s.pwr.peloton with
    | none => s
    | some g =>
      let s := s.ownChange
      match s.pwr.peloton with
      | none => s
      | some h => if h.round = g.round then s.startRound (g.round + 1) false else s

/-! ## Droop and temperature (R550, R551) -/

/-- DROOP_TRIP. -/
def State.droopTrip (s : State) : State :=
  let k := min 56 (s.rfield aDroop 13 8)
  let hold := max 1 (s.rfield aDroop 23 16)
  let s := (List.range 4).foldl (fun s d => s.rset (aWheel d) 37 32 k) s
  let s := State.pwrCount { s with pwr.droopUntil := s.now + 100 * hold } 0
  (s.rset aPwrStat 26 26 1).raiseWheels

def execDroopTrip (s : State) : Outcome := .next s.droopTrip

/-- DROOP_HOLD_EXPIRE. -/
def State.droopExpire (s : State) : State :=
  if s.rfield aPwrStat 26 26 = 0 then s
  else
    let s : State := { s with now := max s.now s.pwr.droopUntil }
    ((List.range 4).foldl (fun s d => s.rset (aWheel d) 37 32 0) s).rset aPwrStat 26 26 0

def execDroopHoldExpire (s : State) : Outcome := .next s.droopExpire

/-- THERMAL_SAMPLE: the hottest sensor, in °C (log entry 145, DEDUCED). -/
def State.thermalSample (s : State) (t : Nat) : State :=
  let s := s.rset aPwrStat 58 52 (min 127 t)
  let k := s.kThermal 0
  let hot := 100 ≤ t ∧ t < 104
  let h := if hot then s.pwr.hotTick + 1 else 0
  let c := if t < 98 then s.pwr.coolTick + 1 else 0
  let s :=
    if 104 ≤ t then (List.range 4).foldl (fun s d => s.setThermal d 56) s
    else
      let s := if t < 102 then ((s.setThermal 1 0).setThermal 2 0).setThermal 3 0 else s
      if hot ∧ 10 ≤ h then s.setThermal 0 (min 56 (k + 4)) else if 100 ≤ c then s.setThermal 0 (k - 1) else s
  let s : State := { s with pwr.hotTick := if 10 ≤ h then 0 else h, pwr.coolTick := if 100 ≤ c then 0 else c }
  (s.rset aPwrStat 25 25 (b2n ((List.range 4).any fun d => s.kThermal d != 0))).wheelsMoved

def execThermalSample (t : Nat) (s : State) : Outcome := .next (s.thermalSample t)

/-! ## The chainring (R564-R572) -/

def State.crNumbered (s : State) : Bool := s.rfield aCrStat 1 0 == 3
def State.crPos (s : State) : Nat := s.rfield aCrStat 14 8
def State.crEpoch (s : State) : Nat := s.rfield aCrStat 31 16

/-- R565: whether a received frame is the member's own. -/
def State.crOwn (s : State) (type src epoch : Nat) (body : Bytes) : Bool :=
  if s.crNumbered then src == s.crPos && epoch == s.crEpoch
  else type == 4 && src == 0xFFFF && fld body 8 8 == s.sec.fuses.serial

/-- R565: a frame arrives; unless it is dropped or stripped, `act` acts on it and gives the body to forward
(log entry 150, DEDUCED). -/
def State.crFrame (s : State) (type ttl src seq epoch : Nat) (body : Bytes) (ok : Bool)
    (act : State → State × Bytes) : State :=
  if !s.crOpen then s
  else if !ok || decide (1024 < body.length) then s.pwrCount 4
  else if s.crOwn type src epoch body then s
  else if ttl ≤ 1 then s
  else
    let (s, b) := act s
    s.emit (.chainring type (ttl - 1) src seq epoch b)

/-- The type codes of R564. -/
def crCount : Nat := 1
def crBudget : Nat := 2
def crAck : Nat := 3
def crFaultType : Nat := 4

/-- R567: COUNT numbers the member (log entry 150, DEDUCED). -/
def State.crNumber (s : State) (epoch : Nat) (body : Bytes) : State × Bytes :=
  let n := u16 body 0
  let s := s.rset aCrStat 31 16 epoch
  if 64 ≤ n then (((s.rset aCrStat 1 0 2).rset aCrStat 14 8 0), body)
  else
    let s := (s.rset aCrStat 1 0 3).rset aCrStat 14 8 (n + 1)
    ({ s with pwr.lastBudget := s.now }, toLe 2 (n + 1) ++ body.drop 2 ++ toLe 8 s.sec.fuses.serial)

/-- COUNT_FRAME; `ok` says that CRC, TYPE and LENGTH are good. -/
def execCountFrame (ttl src seq epoch : Nat) (body : Bytes) (ok : Bool) (s : State) : Outcome :=
  .next (s.crFrame crCount ttl src seq epoch body ok fun s => s.crNumber epoch body)

/-- R566: the body of an ACK. -/
def State.ackBody (s : State) (seq type : Nat) : Bytes :=
  let fl := s.rfield aPwrStat 24 24 + 2 * s.rfield aPwrStat 25 25 + 4 * s.rfield aPwrStat 28 28 + 8 * s.rfield aPwrStat 27 27 +
    16 * b2n s.brd.standby + 32 * b2n s.brd.thermTrip
  toLe 2 0 ++ toLe 2 seq ++ toLe 1 type ++ toLe 1 fl ++ toLe 2 (min 65535 (s.pwr.meanM / 1000)) ++ toLe 2 s.capW ++
    toLe 1 (s.kEff 0) ++ zeros 1

/-- Send an ACK to the master. -/
def State.crAckSend (s : State) (seq type : Nat) : State :=
  let n := s.pwr.crSeq
  State.crSend { s with pwr.crSeq := (n + 1) % 65536 } crAck n (s.ackBody seq type)

/-- R568: apply a share; 0xFFFF is none. -/
def State.applyShare (s : State) (seq w : Nat) : State :=
  let share := if w = 0xFFFF then none else some (min 750 (max 250 w))
  let old := s.powerMode
  let s : State := { s with pwr.lastShare := share }
  let s := ((s.rset aPwrCap 25 16 (share.getD 0)).rset aCrStat 47 32 seq).rset aPwrStat 28 28 0
  (s.modeMoved old).capChanged

/-- R568: a BUDGET (log entry 150, DEDUCED). -/
def State.crApply (s : State) (seq epoch : Nat) (body : Bytes) : State :=
  if !s.crNumbered then s
  else if epoch ≠ s.crEpoch then s.pwrCount 5
  else
    let s : State := { s with pwr.lastBudget := s.now }
    let d := (seq + 65536 - s.rfield aCrStat 47 32) % 65536
    let s :=
      if u16 body 0 < s.crPos then s.pwrCount 5
      else if 1 ≤ d ∧ d ≤ 32767 then s.applyShare seq (u16 body (4 + 2 * (s.crPos - 1)))
      else s.pwrCount 5
    s.crAckSend seq crBudget

/-- BUDGET_FRAME. -/
def execBudgetFrame (ttl src seq epoch : Nat) (body : Bytes) (ok : Bool) (s : State) : Outcome :=
  .next (s.crFrame crBudget ttl src seq epoch body ok fun s => (s.crApply seq epoch body, body))

/-- R570: an ACK of a FAULT of this member. -/
def State.crAcked (s : State) (body : Bytes) : State :=
  let me := if s.crNumbered then s.crPos else 0xFFFF
  if u16 body 0 = me ∧ u8 body 4 = crFaultType then
    { s with pwr.crFaults := s.pwr.crFaults.filter fun x => x.seq != u16 body 2 }
  else s

/-- ACK_FRAME. -/
def execAckFrame (ttl src seq epoch : Nat) (body : Bytes) (ok : Bool) (s : State) : Outcome :=
  .next (s.crFrame crAck ttl src seq epoch body ok fun s => (s.crAcked body, body))

/-- FAULT_FRAME. -/
def execFaultFrame (ttl src seq epoch : Nat) (body : Bytes) (ok : Bool) (s : State) : Outcome :=
  .next (s.crFrame crFaultType ttl src seq epoch body ok fun s => (s, body))

/-- FAULT_RETRANSMIT (R570): the FAULT with a SEQ is sent again. -/
def State.faultAgain (s : State) (seq : Nat) : State :=
  match s.pwr.crFaults.find? fun x => x.seq == seq with
  | none => s
  | some x => s.crSend crFaultType seq (s.faultBody x.code x.detail)

def execFaultRetransmit (seq : Nat) (s : State) : Outcome := .next (s.faultAgain seq)

/-- BUDGET_TIMEOUT (R569) (log entry 151, DEDUCED). -/
def State.budgetTimeout (s : State) : State :=
  if !s.crNumbered || s.rfield aPwrStat 28 28 == 1 then s
  else
    let t := s.pwr.lastBudget + s.rfield aPwrCap 63 48 * 1_000_000
    let s : State := { s with now := max s.now t }
    let fb := s.rfield aPwrCap 41 32
    let w := match s.pwr.lastShare with
      | some x => min x fb
      | none => fb
    let old := s.powerMode
    let s := (s.rset aPwrCap 25 16 w).rset aPwrStat 28 28 1
    let s := s.postBoth 0x0A06 w ((s.now - s.pwr.lastBudget) / 1_000_000) .success
    (s.modeMoved old).capChanged

def execBudgetTimeout (s : State) : Outcome := .next s.budgetTimeout

/-- R571: begin the join sequence. -/
def State.crJoin (s : State) : State :=
  let s : State := { s with pwr.crPhase := .settling, brd.bypassHigh := true }
  (s.rset aCrStat 1 0 1).emit (.pin 2 true)

/-- JOIN_BYPASS_SETTLED. -/
def State.joinSettled (s : State) : State :=
  if s.pwr.crPhase != .settling then s
  else (State.rset { s with pwr.crPhase := .joined } aCrStat 1 0 2).crFault 0x0001 0

def execJoinBypassSettled (s : State) : Outcome := .next s.joinSettled

/-- JOINED_REPEAT: with the SEQ that still awaits its ACK, or as a new FAULT (log entry 151, DEDUCED). -/
def State.joinedRepeat (s : State) : State :=
  if !s.crOpen || s.crNumbered then s
  else match s.pwr.crFaults.find? fun x => x.code == 0x0001 with
    | some x => s.faultAgain x.seq
    | none => s.crFault 0x0001 0

def execJoinedRepeat (s : State) : Outcome := .next s.joinedRepeat

/-- LEAVE_BYPASS_CLOSE (log entry 151, DEDUCED). -/
def State.leaveClose (s : State) : State :=
  match s.pwr.crPhase with
  | .leaving seq =>
    let s : State := { s with pwr.crPhase := .bypassed, brd.bypassHigh := false, pwr.lastShare := none
                              pwr.crFaults := s.pwr.crFaults.filter fun x => x.seq != seq }
    let s := ((s.rset aCrStat 14 0 0).rset aPwrCap 25 16 0).emit (.pin 2 false)
    s.capChanged
  | _ => s

def execLeaveBypassClose (s : State) : Outcome := .next s.leaveClose

/-- CR_SET (log entry 151, DEDUCED). -/
def State.crSet (s : State) (f : Nat) (p : Bytes) : Reply :=
  let w := u16 p 0
  let t := u16 p 2
  let leave := bit (u8 p 4) 1
  let rejoin := bit (u8 p 4) 2
  if w < 250 || decide (750 < w) || decide (t < 100) || decide (60000 < t) || (leave && rejoin) || s.rfield aStrap 19 19 = 0 then
    Reply.err s .malformed
  else if f % 4 ≠ 0 then Reply.err s .notPermitted
  else
    let s := (s.rset aPwrCap 41 32 w).rset aPwrCap 63 48 t
    let s := if leave && s.pwr.crPhase == .joined then
        let seq := s.pwr.crSeq
        { s.crFault 0x0002 0 with pwr.crPhase := .leaving seq }
      else if rejoin && s.pwr.crPhase == .bypassed then s.crJoin
      else s
    { st := s, journal := if bit (u8 p 4) 0 then [(0x0A02, 0, false, p)] else [] }

/-- Log entry 153, DEDUCED. -/
def execCrSet (f : Nat) (s : State) : Outcome := .next (s.perform f 0x0A20 fun p s => s.crSet f p)

end Sys2Proof.Machine
end

