-- ==== Sys2Proof/Machine/Resets.lean ====
section
/-! DEFINITION. What resets do to the state (R575-R580, R590, R595, R598): the operations that the commands of
chapters 2, 15 and 18 share. -/

namespace Sys2Proof.Machine
open Sys2Proof

/-- R577, second row: queues stop, operations are abandoned, requests are abandoned and their tags quarantined, every
sub-port goes down and the frames it holds are dropped and counted. -/
def State.stopPaths (s : State) : State :=
  let s := (Map.keys s.host.ops).foldl State.abandonOp s
  let s := (s.nvAbandon fun _ => true).quarantineReqs fun _ => true
  let s := (List.range 8).foldl State.discardPort s
  let s := s.sch.xpt.foldl (fun s (k, l) => l.foldl (fun s _ => s.dropCount (k / 8 / 4096) 1) s) s
  let qs := s.host.queues.map fun (i, q) => (i, { q with state := if q.state == .active then .stopped else q.state, due := [] })
  { s with host.queues := qs, host.pageReqs := [], net.up := [], net.held := [], sch.queues := [], sch.xpt := [] }

/-- A function after a soft reset: detached, its heartbeat at reset values, its configuration space and MSI-X kept. -/
def FnState.softened (x : FnState) (keepMb : Bool) : FnState :=
  { x with attach := .detached, timeoutMs := 500, ignored := 0, hbDue := 0, driver := 0, baseSpoke := none, flr := false,
           msiPend := [], mb := if keepMb then x.mb else {} }

/-- The 1588 clocks restart from zero (R590) (log entry 165, DEDUCED). -/
def State.restartClocks (s : State) : State :=
  let off := (2 ^ 64 - s.now % 2 ^ 64) % 2 ^ 64
  { s with brd.clockOffset := (List.range 8).foldl (fun m i => Map.put m i off) [] }

/-- R504, R511: the persistent keys, each counter at its committed LIMIT (log entry 162, DEDUCED). -/
def State.keepKeys (s : State) : Map KeySlot :=
  (s.sec.keys.filter fun p => p.2.persist && s.jHas 0x0801 p.1).map fun (i, k) =>
    (i, { k with failed := false, busy := false, counter := match s.jGet 0x0802 i with
      | some b => u64 b 0
      | none => k.counter })

/-- The state that SC loses at every reset: volatile keys, contexts, measurements, sessions, the unlock nonce
(log entry 162, DEDUCED). -/
def State.secReset (s : State) : SecState :=
  let keys := s.keepKeys
  { fuses := s.sec.fuses, keys := keys, gens := keys.foldl (fun m p => Map.put m p.1 p.2.gen) []
    quarantined := s.sec.quarantined, nextPhysical := s.sec.nextPhysical, enrol := s.sec.enrol
    unlockDelay := s.sec.unlockDelay, dusClosed := s.sec.dusClosed }

/-- Namespaces, backings and attachments that the journal holds (R455, R590); spoke controllers are gone
(log entry 162, DEDUCED). -/
def State.nvKept (s : State) : NvmeState :=
  let spaces := (s.nvme.spaces.filter fun p => s.jHas 0x0602 p.1).map fun (i, n) =>
    (i, { n with ctrls := n.ctrls.filter fun c => decide (c < 2) && s.jHas 0x0603 (i + 65536 * c)
                 resync := none, waiting := [], clearing := [], lastWrite := [] })
  { spaces := spaces, backings := s.nvme.backings.filter fun p => s.jHas 0x0601 p.1 }

/-- The journal entries on their way when SC and the cores are reset: MGB completes them, their responses are gone
(log entry 161, DEDUCED). -/
def State.jAlone (s : State) : List JWrite := s.fwm.jpend.map fun w => { w with wait := none }

/-- R577, R579, R590: what hub and rim die W return to; `lost` when HBM's contents are lost, `who` the function whose
response page is kept. -/
def State.softClear (s : State) (lost : Bool) (who : Option Nat) : State :=
  let s := s.endPeloton
  let f := s.fwm
  let p := s.pwr
  let t := s.tel
  let seed := s.freeCtr
  let s : State := { s with
    freeCtr := if lost then s.freeCtr + 1 else s.freeCtr
    host := { fns := s.host.fns.map fun (i, x) => (i, x.softened (who == some i))
              ports := s.host.ports, reqs := s.host.reqs, epoch := s.host.epoch }
    trg := {}
    mem := { hbm := if lost then [] else s.mem.hbm, poison := if lost then [] else s.mem.poison
             uncorr := if lost then [] else s.mem.uncorr, rawCheck := if lost then [] else s.mem.rawCheck
             regions := s.mem.regions, absent := s.mem.absent, repairs := s.mem.repairs, failing := s.mem.failing
             refresh := !lost && s.mem.refresh }
    sch := {}
    xpt := if lost then { seed := some seed } else { epochs := s.xpt.epochs, keyGens := s.xpt.keyGens, seed := s.xpt.seed }
    str := { retired := s.str.retired, accounted := s.now }
    nvme := s.nvKept
    ckp := {}
    sec := s.secReset
    fwm := { bank := f.bank, slots := f.slots, jpend := s.jAlone, copyA := f.copyA, copyB := f.copyB, runB := f.runB }
    pwr := { crPhase := p.crPhase, crSeq := p.crSeq, crFaults := p.crFaults, lastShare := p.lastShare, lastBudget := p.lastBudget }
    tel := { eid := t.eid, tid := t.tid, receiver := t.receiver, events := t.events
             alert := t.alert, readings := t.readings, readAt := t.readAt, fwUpdate := t.fwUpdate, fwChunk := t.fwChunk
             fwData := t.fwData }
    brd.d2dFails := [], brd.testRun := none, brd.scReleased := false }
  let s := s.rreset [.soft, .unit]
  let s : State := { s with regs := s.regs.filter fun r => !(decide (0x110000 ≤ r.1) && decide (r.1 < 0x160000)) }
  let s := (s.rset 0x900000 4 0 0).loadDefaults
  (s.restartUnits (List.range 83 ++ (List.range 8).map (89 + ·))).restartClocks

/-- The registers that MGMT holds through package standby (R586), besides the POR domain (log entry 160, DEDUCED). -/
def State.mgmtRegs (s : State) : Map Nat :=
  [aStrap, aRetire, 0xB00008, 0xB00300].map (fun a => (a, s.rget a)) ++ [(0x900000, setBits (setBits (s.rget 0x900000) 6 0 0) 63 10 0)]

/-- The functions at reset, BAR4 at its default size (R104). -/
def State.freshFns (s : State) : Map FnState :=
  if s.brd.bar4Log2 = 36 then [] else (List.range 8).map fun f => (f, { bar4Log2 := s.brd.bar4Log2 })

/-- Store the controllers' roles: ROLE, BIFUR, HIER and SRIS of PCI_CTL_CFG from word `n` of a list
(log entry 160, DEDUCED). -/
def State.setRoles (s : State) (l : List Nat) : State :=
  (l.zipIdx).foldl (fun s (w, n) => s.rput (aCtlCfg n) (setBits (setBits (s.rget (aCtlCfg n)) 4 0 w) 17 17 (w / 2 ^ 17))) s

/-- Everything on the main rails is lost; `std` when MGMT keeps its registers (log entry 160, DEDUCED). -/
def State.mainClear (s : State) (std : Bool) : State :=
  let keep := if std then s.mgmtRegs else []
  let s := s.softClear true none
  let s : State := { s with host := { fns := s.freshFns }
                            mem := { regions := s.mem.regions.map fun (i, r) => (i, { r with test := false, zeroing := false })
                                     repairs := s.mem.repairs }
                            sec.quarantined := [], brd.soft := none, brd.deferred := [], brd.badLanes := [], brd.pll := []
                            brd.corePllBad := false, brd.meshCorrected := 0, brd.meshUncorrectable := 0 }
  let words := if std then (List.range 10).map fun n => s.rget (aCtlCfg n) else []
  let s := s.rreset [.pkg, .soft, .link, .func, .unit]
  let s : State := { s with regs := defaultRoles.foldl (fun m r => Map.put m r.1 r.2) s.regs }
  let s := s.setRoles words
  let s := keep.foldl (fun s r => s.rput r.1 r.2) s
  ((s.restartUnits (List.range 115)).loadDefaults).capChanged

/-- R10, R87: the whole package but the POR domain; the journal, the fuses and SPI NOR stay.  The record that MGB was
programming may be left torn (R546) (log entry 161, DEDUCED). -/
def State.packageReset (s : State) : State :=
  let (t, s) := s.draw 1
  let cut := s.fwm.jpend != [] && t == 1
  let s : State := { s with fwm.jpend := [], fwm.slots := if cut then s.fwm.slots ++ [.torn] else s.fwm.slots }
  let s := s.mainClear false
  { s with
    tel := {}, pwr := {}
    sec := { fuses := s.sec.fuses, keys := s.sec.keys, gens := s.sec.gens, enrol := s.journalEnrol }
    str.retired := s.journalTiles, mem.regions := s.regionTable, host := {}
    mem.repairs := (s.jAll 0x0202).map fun (p : Nat × Bytes) => repairOf (Machine.u64 p.2 0)
    brd := { aon := s.brd.aon, thermTrip := s.brd.thermTrip, perst := s.brd.perst, perstAt := s.brd.perstAt
             pwrEnAt := s.brd.pwrEnAt, unitStart := s.brd.unitStart, clockOffset := s.brd.clockOffset }
    }.restartUnits (List.range 116)

/-- Drive the pins that fall with the main rails: downstream PERST#, then PWR_EN_MAIN (log entry 178, DEDUCED). -/
def State.railsOff (s : State) : State :=
  let low := (List.range 40).filter fun q => s.isDown q && (s.port q).perst
  let s := low.foldl (fun s q => (s.modPort q fun p => { p with perst := false, perstTime := s.now, link := .down }).emit (.perst q false)) s
  if s.brd.pwrEn then { s with brd.pwrEn := false, brd.pwrEnAt := s.now, brd.mainPg := false }.emit (.pin 0 false)
  else { s with brd.mainPg := false }

/-- R586: the main rails go and MGB alone serves. -/
def State.enterStandby (s : State) : State :=
  let s := s.railsOff.mainClear true
  { s with brd.standby := true, brd.standbyFn := none }

/-! ## The start of SC (R496 step 4, R497) -/

/-- GLB_RESET_CAUSE.KIND. -/
def State.setKind (s : State) (k : Nat) : State := s.rset aResetCause 2 0 k

/-- The standby copy that runs. -/
def State.standbyCopy (s : State) : Copy := if s.fwm.runB then s.fwm.copyB else s.fwm.copyA

/-- R496 step 4: SC is released; with its tests and the standby image good, it draws a boot nonce and measures. -/
def State.scBoot (s : State) (ok : Bool) : State :=
  let s : State := { s with brd.scReleased := true }
  if !ok then (s.rset 0x900000 2 0 4).retireTray 7
  else
    let (n, s) := s.drawBytes 32
    let s := State.rset { s with sec.bootNonce := n } 0x900000 2 0 1
    let x := s.standbyCopy
    let u := s.sec.fuses
    let s := s.measure 1 0 0 0 (padTo 48 Config.romDigest)
    let s := s.measure 2 1 x.version x.svn x.digest
    s.measure 5 0 0 0 (padTo 48 (Config.sha384 (Config.configRecord (s.rget aStrap) u.svnStandby u.svnRoot u.svnService u.fwRevoke)))

/-! ## Self-test results (R591-R596) -/

/-- R594: keep a record; MGB holds the 512 most recent. -/
def State.testRecord (s : State) (r : TestResult) : State :=
  let l := s.brd.tests ++ [TestRec.mk r (s.counterOf 115)]
  let s : State := { s with brd.tests := l.drop (l.length - 512) }
  if r.result = 1 then s.rsat 0xC00000 47 32 1 else s

/-- R592: what a failed test does (log entry 157, DEDUCED). -/
def State.testFailed (s : State) (r : TestResult) : State :=
  if r.result ≠ 1 then s
  else match r.test with
    | 1 => if r.unit < 64 then (if s.str.retired.contains r.unit then s else s.retireNow r.unit none) else s.retireTray 0
    | 2 => if r.unit < 64 then (if s.str.retired.contains r.unit then s else s.retireNow r.unit none) else s.retireTray 1
    | 3 => s.addRepair (repairOf r.locator)
    | 4 => if r.unit < 192 then State.retireTray { s with brd.badLanes := setIns s.brd.badLanes r.unit } 9 else s
    | 5 =>
      if r.unit < 5 then
        State.retireTray { s with brd.pll := setIns s.brd.pll r.unit, brd.corePllBad := s.brd.corePllBad || r.unit == 0 } 10
      else s
    | _ => s

/-- A start discards the records of the start before it. -/
def State.newStart (s : State) : State := State.rset { s with brd.tests := [] } 0xC00000 47 32 0

/-- The results of tests (log entry 157, DEDUCED). -/
def State.results (s : State) (l : List TestResult) : State := l.foldl (fun s r => (s.testRecord r).testFailed r) s

/-! ## Zeroisation (R595) -/

/-- R497: register 6 takes the debug record of a change of level. -/
def State.debugMeasure (s : State) (level method : Nat) (id : Bytes) : State :=
  s.measure 6 0 0 0 (padTo 48 (Config.sha384 (Config.debugRecord level method id)))

/-- R595, steps 1 to 4 with every byte read back as zero. -/
def State.zeroised (s : State) : State :=
  let s := s.stopPaths
  let s : State := { s with
    brd.scan := true
    fwm.services := [], fwm.groupState := [], fwm.jpend := s.jAlone
    sec := { fuses := s.sec.fuses, gens := s.sec.gens, enrol := s.sec.enrol, regs := s.sec.regs, log := s.sec.log
             logCut := s.sec.logCut, dusClosed := true, unlockDelay := s.sec.unlockDelay }
    net.macsec := [] }
  s.rset aResetCause 10 10 1

end Sys2Proof.Machine
end

