-- ==== Sys2Proof/Machine/Boot.lean ====
section
/-! DEFINITION. Power, resets and bring-up (R65-R90, R188, R195, R575-R592): the commands of chapters 2 and 18. -/

namespace Sys2Proof.Machine
open Sys2Proof

/-! ## Power-on and RESET_N -/

/-- POWER_ON: every domain returns to its reset value. -/
def State.powerOn (s : State) : State :=
  { s.packageReset.rreset [.por] with brd := { aon := true } }

def execPowerOn (s : State) : Outcome := .next s.powerOn

/-- VDD_AON_REMOVED (R81, R85): THERMTRIP_N is released, CR_BYPASS_N is high-impedance, so its switch closes. -/
def State.aonRemoved (s : State) : State :=
  if !s.brd.aon then s
  else
    let s := if s.brd.thermTrip then s.emit (.pin 1 true) else s
    let s := if s.brd.bypassHigh then s.emit (.pin 2 false) else s
    { s.railsOff.powerOn with brd := {} }

def execVddAonRemoved (s : State) : Outcome := .next s.aonRemoved

/-- RESET_N_ASSERT (R81, R86, R87). -/
def State.resetAssert (s : State) : State :=
  if !s.brd.aon || !s.brd.resetN then s
  else
    let s := if s.brd.bypassHigh then s.emit (.pin 2 false) else s
    s.railsOff.packageReset.setKind 1

def execResetNAssert (s : State) : Outcome := .next s.resetAssert

/-! ## Straps and roles (R73-R77, R91-R99) -/

/-- A strap-overriding item of the journal, unless STRAP_SAFE is set. -/
def State.overrides (s : State) (safe : Bool) (item dflt : Nat) : Nat := if safe then dflt else s.cfgItem item dflt

/-- R91, R96: ROLE, BIFUR, HIER and SRIS of controller `n`; `rec` is its journal item, if it applies. -/
def ctlWord (up : Nat) (down : Bool) (n : Nat) (item : Option Nat) : Nat :=
  let r := item.getD 0
  let isUp := decide (n < 2) && bit up n
  let other := if n ≥ 2 && item.isSome then bits r 1 0 else if down then 1 else 2
  let role := if up = 0 then 3 else if isUp then 0 else other
  let hier := if role ≠ 1 then 0 else if up = 1 then 0 else if up = 2 then 1
    else match item with
      | some v => bits v 4 4
      | none => b2n (decide (6 ≤ n))
  role + 4 * (if role = 0 then 0 else bits r 3 2) + 16 * hier + 2 ^ 17 * bits r 5 5

/-- The downstream ports that a controller's word gives a hierarchy. -/
def ctlPorts (h w : Nat) : Nat := if bits w 1 0 = 1 && bits w 4 4 == h then 2 ^ min 2 (bits w 3 2) else 0

/-- R99: whether a hierarchy would have more than 31 downstream ports (log entry 163, PRESUMED). -/
def tooMany (l : List Nat) (h : Nat) : Bool := decide (31 < l.foldl (fun n w => n + ctlPorts h w) 0)

/-- The ten words of PCI_CTL_CFG [4:0], [17], and whether R99 applied (log entry 163, PRESUMED). -/
def State.ctlWords (s : State) (safe : Bool) (up : Nat) (down : Bool) : List Nat × Bool :=
  let item (n : Nat) : Option Nat := if safe then none else (s.jGet 2 (0x0100 + n)).map fun b => Machine.u64 b 8
  let l := (List.range 10).map fun n => ctlWord up down n (item n)
  let bad (w : Nat) : Bool := bits w 1 0 == 1 && tooMany l (bits w 4 4)
  ((l.zipIdx).map fun (w, n) => if bad w then ctlWord up down n none else w, l.any bad)

/-- R597: a start reports the causes that the journal holds again (log entry 164, DEDUCED). -/
def State.reportCauses (s : State) : State :=
  let v := s.rget aRetire
  if v = 0 then s else State.pldm (State.crFault { s with brd.retireDue := [0, 1] } 0x0030 v) 32 2

/-- PWR_EN_MAIN rises, no sooner than 20 ms after it fell (R69). -/
def State.raiseMain (s : State) : State :=
  if s.brd.thermTrip || s.brd.noPower then s
  else
    let t := if s.brd.pwrEnAt = 0 then s.now else max s.now (s.brd.pwrEnAt + 20_000_000)
    { s with now := t, brd.pwrEn := true, brd.pwrEnAt := t }.emit (.pin 0 true)

/-- R520: the standby copy that starts: the verified copy with the higher SEQ; whether it is B. -/
def State.pickCopy (s : State) : Option Bool :=
  let a := s.fwm.copyA
  let b := s.fwm.copyB
  let okA := a.tagged && a.valid
  let okB := b.tagged && b.valid
  if okA && okB then some (decide (a.seq < b.seq)) else if okA then some false else if okB then some true else none

/-- The standby image starts: the journal, straps in effect, roles, the chainring join and main power. -/
def State.standbyStart (s : State) (smp : Nat) : State :=
  let safe := bit smp 8
  let up := s.overrides safe 1 (bits smp 1 0) % 4
  let down := s.overrides safe 2 (bits smp 2 2) % 2
  let cr := s.overrides safe 3 (bits smp 7 7) % 2
  let test := bit smp 9
  let (words, bad) := s.ctlWords safe up (down == 1)
  let s : State := { s with
    brd.testEn := test, brd.strapFault := up == 0, brd.configFault := bad
    brd.bar4Log2 := s.cfgItem 0x0110 36, brd.subsys := s.cfgItem 0x0111 0
    brd.pmbus := (List.range 16).filterMap fun k => (s.jGet 2 (0x0A80 + k)).map fun b => (k, Machine.u64 b 8)
    brd.standbyImage := true }
  let s : State := { s with host.fns := s.freshFns }
  let s := s.rput aStrap (smp + 2 ^ 16 * up + 2 ^ 18 * down + 2 ^ 19 * cr)
  let s := s.setRoles (if test then List.replicate 10 3 else words)
  let s := (s.loadPower.capChanged).rput aRetire s.journalCauses
  let s := if cr = 1 then s.crJoin else s
  let s := s.reportCauses
  let s := if up = 0 then (s.crFault 0x0041 0).pldm 36 2 else if bad then s.pldm 36 3 else s
  s.raiseMain

/-- RESET_N_RELEASE: `straps` is laid out as GLB_STRAP [9:0] (log entry 154, DEDUCED). -/
def State.resetRelease (s : State) (straps : Nat) : State :=
  if !s.brd.aon || s.brd.resetN then s
  else
    let smp := straps % 1024
    let s : State := { s with brd.resetN := true }
    match s.pickCopy with
    | none => s.rput aStrap smp
    | some b => State.standbyStart { s with fwm.runB := b } smp

def execResetNRelease (straps : Nat) (s : State) : Outcome := .next (s.resetRelease straps)

/-! ## Main power (R65-R69, R85) -/

/-- MAIN_PG_RISE: `results` are those of the tests that run at every start (R591) (log entry 154, DEDUCED). -/
def State.mainRise (s : State) (results : List TestResult) : State :=
  if !s.brd.pwrEn || s.brd.mainPg then s
  else
    let old := s
    let s : State := { s with brd.mainPg := true, brd.mainPgAt := s.now, brd.standby := false }
    let s := s.sensorMoves old [34]
    let s := s.newStart.results (results.filter fun r => r.test != 3)
    if s.brd.corePllBad then s else (List.range 6).foldl (fun s x => s.rset (aHbmStat x) 1 0 1) s

def execMainPgRise (results : List TestResult) (s : State) : Outcome := .next (s.mainRise results)

/-- MAIN_PG_TIMEOUT (R68): 100 ms after PWR_EN_MAIN rose. -/
def State.mainTimeout (s : State) : State :=
  if !s.brd.pwrEn || s.brd.mainPg then s
  else
    let s : State := { s with now := max s.now (s.brd.pwrEnAt + 100_000_000), brd.noPower := true, brd.railFault := true }
    let s : State := State.emit { s with brd.pwrEn := false, brd.pwrEnAt := s.now } (.pin 0 false)
    ((s.rset aResetCause 9 9 1).crFault 0x0040 0).pldm 34 3

def execMainPgTimeout (s : State) : Outcome := .next s.mainTimeout

/-- MAIN_POWER_LOSS (R67). -/
def State.mainLoss (s : State) : State :=
  if s.brd.pwrEn && s.brd.mainPg then (s.enterStandby.rset aResetCause 8 8 1).sensorMoves s [34, 35] else s

def execMainPowerLoss (s : State) : Outcome := .next s.mainLoss

/-- THERMAL_TRIP (R85). -/
def State.trip (s : State) : State :=
  if !s.brd.aon || s.brd.thermTrip then s
  else
    let t : State := State.emit { s with brd.thermTrip := true } (.pin 1 false)
    (t.enterStandby.crFault 0x0020 0).sensorMoves s [33, 34, 35]

def execThermalTrip (s : State) : Outcome := .next s.trip

/-! ## Links and PERST# (R86-R90, R580, R592) -/

/-- The first lane and the number of lanes of a port (R92). -/
def State.portLanes (s : State) (q : Nat) : Nat × Nat :=
  let n := 16 / 2 ^ min 2 (s.rfield (aCtlCfg (q / 4)) 3 2)
  (q / 4 * 16 + q % 4 * n, n)

/-- R592: the widest width at either end of a port's lanes without an excluded lane; 0 when there is none
(log entry 156, DEDUCED). -/
def State.trainWidth (s : State) (q : Nat) : Nat :=
  let (base, n) := s.portLanes q
  let good (l : List Nat) : Bool := l.all fun i => !s.brd.badLanes.contains (32 + base + i)
  (([16, 8, 4, 2, 1] : List Nat).find? fun w =>
    decide (w ≤ n) && (good (List.range w) || good ((List.range w).map fun i => n - w + i))).getD 0

/-- The upstream link of a hierarchy leaves Detect and trains to L0 (log entry 156, DEDUCED). -/
def State.trainUp (s : State) (h : Nat) : State :=
  let q := 4 * h
  let w := s.trainWidth q
  if s.portRole q ≠ 0 || w = 0 || s.brd.pll.contains 1 || (s.port q).link != .down then s
  else s.modPort q fun p => { p with link := .l0, width := w, fullWidth := w }

/-- LINK_TRAINING_START (R89): 50 ms after MAIN_PG for a PERST# that rose earlier (log entry 156, DEDUCED). -/
def State.trainStart (s : State) (h : Nat) : State :=
  if s.brd.mainPg && s.brd.perst.contains h then
    State.trainUp { s with now := max s.now (s.brd.mainPgAt + 50_000_000) } h
  else s

def execLinkTrainingStart (h : Nat) (s : State) : Outcome := .next (if h < 2 then s.trainStart h else s)

/-- UPSTREAM_PERST_RELEASE (R88, R89): while RESET_N or MAIN_PG is low the link stays in Detect
(log entry 156, DEDUCED). -/
def State.perstRise (s : State) (h : Nat) : State :=
  if s.brd.soft.isSome then s.defer 4 h
  else
    let s : State := { s with brd.perst := setIns s.brd.perst h, brd.perstAt := Map.put s.brd.perstAt h s.now }
    if s.brd.resetN && s.brd.mainPg && decide (s.brd.mainPgAt + 50_000_000 ≤ s.now) then s.trainUp h else s

def execUpstreamPerstRelease (h : Nat) (s : State) : Outcome := .next (if h < 2 then s.perstRise h else s)

/-- R580: a port's configuration and LINK state at reset values; its sub-link stays as it is. -/
def Port.configReset (p : Port) : Port :=
  { link := p.link, width := p.width, fullWidth := p.fullWidth, perst := p.perst, perstTime := p.perstTime
    blocked := p.blocked, sbrActive := p.sbrActive, contained := p.contained && p.link != .l0 }

/-- UPSTREAM_PERST_ASSERT (R580). -/
def State.perstFall (s : State) (h : Nat) : State :=
  if s.brd.soft.isSome then s.defer 3 h
  else
    let s : State := { s with brd.perst := setDel s.brd.perst h }
    if !s.brd.resetN || !s.brd.mainPg || s.portRole (4 * h) ≠ 0 then s
    else
      let s := (List.range 4).foldl (fun s k => s.abandonFn (4 * h + k)) s
      let s := s.freeDead.freeRevoked
      let s := (List.range 4).foldl (fun s k => s.fnReset (4 * h + k)) s
      let mine := (List.range 40).filter fun q => s.portExists q && s.portRole q != 2 && s.portHier q == h
      let s := mine.foldl (fun s q => s.modPort q Port.configReset) s
      s.modPort (4 * h) fun p => { p with link := .down }

def execUpstreamPerstAssert (h : Nat) (s : State) : Outcome := .next (if h < 2 then s.perstFall h else s)

/-- DOWNSTREAM_PERST_RELEASE (R86, R90): no earlier than 100 ms after MAIN_PG (log entry 156, DEDUCED). -/
def State.downPerst (s : State) (q : Nat) : State :=
  let p := s.port q
  if !s.brd.mainPg || p.perst || p.sbrActive then s
  else
    let s : State := { s with now := max s.now (s.brd.mainPgAt + 100_000_000) }
    let w := s.trainWidth q
    (s.setPort q { p with perst := true, perstTime := s.now, link := .training, width := w, fullWidth := w
                          blocked := p.blocked || w == 0 }).emit (.perst q true)

def execDownstreamPerstRelease (q : Nat) (s : State) : Outcome := .next (if s.isDown q then s.downPerst q else s)

/-! ## HBM and the start of SC (R188, R189, R194-R196) -/

/-- R188, R189, R195: HBM has been trained, repaired and filled; `failed` are stacks that failed, `spares` the entries
of the repair list that found no spare left. -/
def State.hbmStart (s : State) (failed spares : List Nat) : State :=
  let bad := failed.filter fun x => decide (x < 6)
  let lost := (s.mem.repairs.zipIdx).filter fun x => spares.contains x.2
  let reps := (s.mem.repairs.zipIdx).map fun x => { x.1 with unrepairable := spares.contains x.2 }
  let s : State := { s with mem.absent := bad != [], mem.repairs := reps }
  let s := (List.range 6).foldl (fun s x =>
    let n := (lost.filter fun e => e.1.stack == x).length
    ((s.rset (aHbmStat x) 1 0 (if bad.contains x then 0 else 3)).rset (aHbmStat x) 2 2 (b2n (bad.contains x))).rset
      (aHbmStat x) 15 8 (min 255 n)) s
  let s := if lost != [] then s.retireTray 4 else s
  if bad != [] then s.retireTray 2 else s

/-- HBM_FILL_COMPLETE: `ok` is whether the known-answer tests and the standby image pass in step 4 of R496
(log entries 154, DEDUCED; 164, DEDUCED). -/
def State.fillComplete (s : State) (failed spares : List Nat) (ok : Bool) : State :=
  if !s.brd.mainPg || s.brd.scReleased || s.brd.corePllBad || s.brd.soft.isSome || s.brd.scan then s
  else
    let s := s.hbmStart failed spares
    let eng := (List.range 32).foldl (fun w e => w + b2n (s.jHas 0x0820 e) * 2 ^ e) 0
    let s := (s.rset 0x900008 31 0 eng).scBoot ok
    if s.brd.testEn then State.debugMeasure s.zeroised 0 0 [] else s

def execHbmFillComplete (failed spares : List Nat) (ok : Bool) (s : State) : Outcome := .next (s.fillComplete failed spares ok)

/-! ## Soft device reset (R576-R579) -/

/-- The checks of DEVICE_SOFT_RESET and STANDBY_ENTER (R576) (log entry 155, DEDUCED). -/
def State.resetBusy (s : State) : Bool := s.brd.soft.isSome || s.brd.standbyFn.isSome || s.debugLevel == 3

/-- DEVICE_SOFT_RESET: the response first, then what follows it (log entry 154, DEDUCED). -/
def State.softReset (s : State) (f : Nat) : State :=
  let t := s.perform f 0x0005 fun p s =>
    if f % 4 ≠ 0 || s.resetBusy then Reply.err s .notPermitted
    else Reply.ok { s with brd.soft := some (bit (u8 p 0) 0) } []
  match t.brd.soft, s.brd.soft with
  | some test, none => (t.stopPaths.softClear test (some f)).sensorMoves t [35]
  | _, _ => t

def execDeviceSoftReset (f : Nat) (s : State) : Outcome := .next (s.softReset f)

/-- R576: a reset that met the soft reset is performed (log entry 155, DEDUCED). -/
def State.performDeferred (s : State) (d : Nat × Nat) : State :=
  match d.1 with
  | 0 => s.flrStart d.2
  | 1 => s.sbrSet d.2
  | 2 => s.sbrClear d.2
  | 3 => s.perstFall d.2
  | _ => s.perstRise d.2

/-- SOFT_RESET_COMPLETE: with HBM_TEST the results of test 3 and the outcome of the fill; `ok` as at a start
(log entry 154, DEDUCED). -/
def State.softDone (s : State) (results : List TestResult) (failed spares : List Nat) (ok : Bool) : State :=
  match s.brd.soft with
  | none => s
  | some test =>
    let s := if test then
        ((s.newStart.results (results.filter fun r => r.test == 3)).hbmStart failed spares).reportCauses
      else s
    let defer := s.brd.deferred
    let s : State := { s with brd.soft := none, brd.deferred := [] }
    let s := (s.scBoot ok).setKind (if test then 4 else 3)
    let s := s.rsat aResetCause 31 16 1
    let s := s.emits ((List.range 32).filter s.subExists |>.map fun i => .trained i)
    defer.foldl State.performDeferred s

def execSoftResetComplete (results : List TestResult) (failed spares : List Nat) (ok : Bool) (s : State) : Outcome :=
  .next (s.softDone results failed spares ok)

/-! ## Package standby (R586, R610) -/

/-- A requested entry is accepted. -/
def State.standbyAsk (s : State) (f : Nat) : State := State.rset { s with brd.standbyFn := some f } 0xB00000 29 29 1

/-- STANDBY_ENTER. -/
def execStandbyEnter (f : Nat) (s : State) : Outcome :=
  .next (s.perform f 0x0006 fun _ s =>
    if f % 4 ≠ 0 || s.resetBusy then Reply.err s .notPermitted else Reply.ok (s.standbyAsk f) [])

/-- STANDBY_ENTERED: the second row of R577, then the pins and the rails (log entry 154, DEDUCED). -/
def execStandbyEntered (s : State) : Outcome := .next (if s.brd.standbyFn.isSome then s.stopPaths.enterStandby.sensorMoves s [34, 35] else s)

/-- A reply to a vendor-defined PCI message (log entry 171, PRESUMED). -/
def State.vendorReply (s : State) (cmd code : Nat) (data : Bytes) : State := s.emit (.mctp 0x7E cmd code data)

/-- MGB takes management messages once the standby image runs (log entry 159, DEDUCED). -/
def State.mgmtUp (s : State) : Bool := s.brd.aon && s.brd.resetN && s.brd.standbyImage

/-- MCTP_STANDBY_ENTER: in standby already, there is nothing to enter (log entry 159, DEDUCED). -/
def execMctpStandbyEnter (s : State) : Outcome :=
  .next (if !s.mgmtUp then s
    else if s.resetBusy || s.brd.standby || !s.brd.mainPg then s.vendorReply 1 1 []
    else (s.standbyAsk 8).vendorReply 1 0 [])

/-- STANDBY_EXIT: not after a thermal trip, nor after a main-rail fault (R68), nor outside standby
(log entry 159, DEDUCED). -/
def State.standbyExit (s : State) : State :=
  if s.brd.thermTrip || s.brd.noPower || !s.brd.standby || s.brd.pwrEn then s.vendorReply 2 1 []
  else ((s.raiseMain.setKind 2).reportCauses).vendorReply 2 0 []

def execStandbyExit (s : State) : Outcome := .next (if s.mgmtUp then s.standbyExit else s)

/-- GET_STATUS. -/
def execGetStatus (s : State) : Outcome :=
  .next (if !s.mgmtUp then s
    else s.vendorReply 3 0 (([aRetire, 0xB00000, 0xB00300, aResetCause, aStrap] : List Nat).flatMap fun a => toLe 8 (s.rget a)))

end Sys2Proof.Machine
end

