-- ==== Sys2Proof/Machine/Cipher.lean ====
section
/-! DEFINITION. Chapter 15: chaining contexts, the CIPHER and CTX commands, and engine faults (R506-R512). -/

namespace Sys2Proof.Machine
open Sys2Proof

/-! ## Contexts (R509) -/

def ctxHandle (c : Bytes) : Nat := u32 c 0
def ctxMode (c : Bytes) : Nat := u8 c 4
def ctxPhase (c : Bytes) : Nat := u8 c 5
def ctxAadLen (c : Bytes) : Nat := u64 c 8
def ctxPayLen (c : Bytes) : Nat := u64 c 56

/-- Whether a mode encrypts or generates, so that the H9 chooses the IV (R511). -/
def modeOut (m : Nat) : Bool := m == 1 || m == 3 || m == 5

/-- The COUNTER field after `n` payload bytes: GCM J0 with its 32-bit counter, or ChaCha20's nonce and block counter. -/
def ctxCounter (m : Nat) (iv : Bytes) (n : Nat) : Bytes :=
  iv ++ (if m ≤ 4 then toBe 4 ((1 + n / 16) % 2 ^ 32) else toLe 4 ((1 + n / 64) % 2 ^ 32))

/-- The low 32 bits of the boot nonce. -/
def State.ctxEpoch (s : State) : Nat := fld s.sec.bootNonce 0 4

/-- A fresh context. -/
def State.newCtx (s : State) (h m : Nat) (iv : Bytes) : Bytes :=
  toLe 4 h ++ toLe 1 m ++ zeros 3 ++ zeros 8 ++ ctxCounter m iv 0 ++ zeros 24 ++ zeros 8 ++ zeros 16 ++ zeros 8 ++ toLe 4 s.ctxEpoch ++ zeros 4

/-- Exclusive or of two byte sequences. -/
def xorBytes (a b : Bytes) : Bytes := List.zipWith (· ^^^ ·) a b

/-- Run bytes through a context: the context after them and the output (log entry 123, DEDUCED). -/
def ctxRun (key c : Bytes) (pay : Bool) (d : Bytes) : Bytes × Bytes :=
  let m := ctxMode c
  let out := if pay then xorBytes d (padTo d.length (Config.aeadStream m key c d.length)) else []
  let auth := if pay && (m == 1 || m == 5) then out else d
  let acc := padTo 24 (Config.aeadAcc m key c pay auth)
  let aad := if pay then ctxAadLen c else ctxAadLen c + d.length
  let pl := if pay then ctxPayLen c + d.length else ctxPayLen c
  let part := (if pay then pl else aad) % 16
  let held := (if pay && ctxPhase c == 0 then [] else (slice c 64 16).take (u8 c 6)) ++ auth
  let buf := padTo 16 (held.drop (held.length - part))
  (toLe 4 (ctxHandle c) ++ toLe 1 m ++ toLe 1 (b2n pay) ++ toLe 1 part ++ zeros 1 ++ toLe 8 aad ++ ctxCounter m (slice c 16 12) pl ++
    acc ++ toLe 8 pl ++ buf ++ slice c 80 16, out)

/-- Whether the key of a handle is being put back, so that operations that name it wait (R508). -/
def State.keyBusy (s : State) (h : Nat) : Bool := (s.keyOf h).any KeySlot.busy

/-- PF0's base spoke, for which the CIPHER commands act. -/
def State.cipherOwner (s : State) (f : Nat) : Nat := (s.pf0Base (f / 4)).getD 4096

/-- The committed LIMIT of a persistent key's invocation counter (R511, R452). -/
def State.keyLimit (s : State) (i : Nat) : Nat :=
  match s.jGet 0x0802 i with
  | some b => u64 b 0
  | none => 0

/-- Ask for a record with LIMIT + 2^32 unless one is on its way. -/
def State.renewKey (s : State) (i : Nat) : State :=
  if s.fwm.jpend.any fun w => w.type == 0x0802 && w.key == i then s
  else s.journal 0x0802 i false (toLe 8 (s.keyLimit i + 2 ^ 32)) none

/-- CIPHER_INIT: in modes 1, 3 and 5 the IV is the key's salt and its next invocation counter
(log entry 128, DEDUCED). -/
def State.cipherInit (s : State) (f : Nat) (p : Bytes) : Reply :=
  let h := u32 p 0
  let m := u8 p 4
  let iv := slice p 8 12
  let i := keyPlace h
  let st := s.keyCheck h [1] (s.cipherOwner f)
  match s.keyOf h with
  | none => Reply.err s (if m = 0 ∨ 6 < m ∨ st == .malformed then .malformed else if f % 4 ≠ 0 then .notPermitted else st)
  | some k =>
    let fits := if m ≤ 4 then decide (k.alg ≤ 1) else k.alg == 2
    if m = 0 ∨ 6 < m ∨ (modeOut m ∧ iv.any (· != 0)) ∨ !fits ∨ st == .malformed then Reply.err s .malformed
    else if f % 4 ≠ 0 then Reply.err s .notPermitted
    else if st != .success then Reply.err s st
    else match Map.lowestFree s.sec.ctxs 1024 with
      | none => Reply.err s .resource
      | some c =>
        if s.keyBusy h then { st := s, wait := true }
        else if modeOut m && k.persist && decide (s.keyLimit i ≤ k.counter) then { st := s.renewKey i, wait := true }
        else
          let iv := if modeOut m then toLe 4 k.salt ++ toLe 8 k.counter else iv
          let s := if modeOut m then s.modKey i fun k => { k with counter := k.counter + 1 } else s
          let s := if modeOut m && k.persist && decide (s.keyLimit i ≤ k.counter + 1 + 2 ^ 31) then s.renewKey i else s
          Reply.ok { s with sec.ctxs := Map.put s.sec.ctxs c (s.newCtx h m iv) } (toLe 2 c ++ zeros 2 ++ iv)

def execCipherInit (f : Nat) (s : State) : Outcome := .next (s.perform f 0x0820 fun p s => s.cipherInit f p)

/-- R510: a request of a command reaches PF0's memory by bus address, without PASID (log entry 128, DEDUCED). -/
def State.busRead (s : State) (f a n : Nat) (ans : HostAns) : State × AccRes :=
  s.leafRead { fn := f, base := true } (.host a false) n 0 ans
/-- Log entry 128, DEDUCED. -/
def State.busWrite (s : State) (f a : Nat) (d : Bytes) (ans : HostAns) : State × AccRes :=
  s.leafWrite { fn := f, base := true } (.host a false) d false ans

/-- R506: the limits of a message. -/
def ctxTooLong (c : Bytes) (pay : Bool) (n : Nat) : Bool :=
  if pay then decide ((if ctxMode c ≤ 4 then 2 ^ 36 - 32 else 2 ^ 38 - 64) < ctxPayLen c + n)
  else decide (2 ^ 61 - 1 < ctxAadLen c + n)

/-- CIPHER_UPDATE: `rd` answers the read of the source, `wr` the write of the destination
(log entry 128, DEDUCED). -/
def State.cipherUpdate (s : State) (f : Nat) (rd wr : HostAns) (p : Bytes) : Reply :=
  let i := u16 p 0
  let pay := bit (u8 p 2) 0
  let n := u32 p 24
  match Map.get s.sec.ctxs i with
  | none => Reply.err s .malformed
  | some c =>
    if (!pay && ctxPhase c == 1) || decide (2 ^ 24 < n) || ctxTooLong c pay n then Reply.err s .malformed
    else if f % 4 ≠ 0 then Reply.err s .notPermitted
    else if n = 0 then Reply.ok { s with sec.ctxs := Map.put s.sec.ctxs i (c.take 5 ++ toLe 1 (max (ctxPhase c) (b2n pay)) ++ c.drop 6) } []
    else if s.keyBusy (ctxHandle c) then { st := s, wait := true }
    else match s.keyBytes (ctxHandle c) with
      | none => Reply.err s .keyFailed
      | some key =>
        let (s1, r) := s.busRead f (u64 p 8) n rd
        let st := withMarks r.status r.poisoned r.medium
        if st != .success then Reply.err s1 st
        else
          let (c', out) := ctxRun key c pay r.data
          let m := ctxMode c
          let (s2, w) := if pay && m != 3 && m != 4 then s1.busWrite f (u64 p 16) out wr else (s1, ({} : AccRes))
          if w.status != .success then Reply.err s2 w.status
          else Reply.ok { s2 with sec.ctxs := Map.put s2.sec.ctxs i c' } []

def execCipherUpdate (f : Nat) (rd wr : HostAns) (s : State) : Outcome :=
  .next (s.perform f 0x0821 fun p s => s.cipherUpdate f rd wr p)

/-- CIPHER_FINAL: the context ends whatever the outcome, unless the key has failed. -/
def State.cipherFinal (s : State) (f : Nat) (p : Bytes) : Reply :=
  let i := u16 p 0
  let tag := slice p 4 16
  match Map.get s.sec.ctxs i with
  | none => Reply.err s .malformed
  | some c =>
    let out := modeOut (ctxMode c)
    if out && tag.any (· != 0) then Reply.err s .malformed
    else if f % 4 ≠ 0 then Reply.err s .notPermitted
    else if s.keyBusy (ctxHandle c) then { st := s, wait := true }
    else match s.keyBytes (ctxHandle c) with
      | none => Reply.err s .keyFailed
      | some key =>
        let t := padTo 16 (Config.aeadTag (ctxMode c) key c)
        let s : State := { s with sec.ctxs := Map.erase s.sec.ctxs i }
        if out then Reply.ok s t else if t = tag then Reply.ok s (zeros 16) else Reply.err s .integrity

def execCipherFinal (f : Nat) (s : State) : Outcome := .next (s.perform f 0x0822 fun p s => s.cipherFinal f p)

/-- The wrapping key that a CTX command names; zero names the context wrapping key. -/
def State.ctxWrap (s : State) (f h : Nat) : Except Status Bytes :=
  if h = 0 then .ok s.ctxKek
  else
    let st := s.keyCheck h [5] (s.cipherOwner f)
    if st != .success then .error st
    else match s.keyBytes h with
      | some k => .ok k
      | none => .error .keyFailed

/-- CTX_EXPORT (R512). -/
def State.ctxExport (s : State) (f : Nat) (wr : HostAns) (p : Bytes) : Reply :=
  let i := u16 p 0
  match Map.get s.sec.ctxs i with
  | none => Reply.err s .malformed
  | some c =>
    let out := modeOut (ctxMode c)
    match s.ctxWrap f (u32 p 4) with
    | .error st => Reply.err s (if f % 4 ≠ 0 ∧ st != .malformed ∧ st != .keyStale then .notPermitted else st)
    | .ok kek =>
      if f % 4 ≠ 0 then Reply.err s .notPermitted
      else if out && decide (4096 ≤ s.sec.serials.length) then Reply.err s .resource
      else
        let n := s.sec.serial
        let x := c.take 80 ++ toLe 8 n ++ toLe 4 s.ctxEpoch ++ zeros 4
        let b := toLe 4 0x5854_4344 ++ toLe 4 s.ctxEpoch ++ toLe 8 n ++ padTo 104 (Config.aesKwWrap kek x)
        let (s, w) := s.busWrite f (u64 p 8) b wr
        if w.status != .success then Reply.err s w.status
        else Reply.ok { s with sec.serial := (n + 1) % 2 ^ 64, sec.serials := if out then s.sec.serials ++ [n] else s.sec.serials
                               sec.ctxs := Map.erase s.sec.ctxs i } []

def execCtxExport (f : Nat) (wr : HostAns) (s : State) : Outcome := .next (s.perform f 0x0823 fun p s => s.ctxExport f wr p)

/-- CTX_IMPORT (R512) (log entry 128, DEDUCED). -/
def State.ctxImport (s : State) (f : Nat) (rd : HostAns) (p : Bytes) : Reply :=
  match s.ctxWrap f (u32 p 0) with
  | .error st => Reply.err s (if f % 4 ≠ 0 ∧ st != .malformed ∧ st != .keyStale then .notPermitted else st)
  | .ok kek =>
    if f % 4 ≠ 0 then Reply.err s .notPermitted
    else
      let (s, r) := s.busRead f (u64 p 8) 120 rd
      let st := withMarks r.status r.poisoned r.medium
      if st != .success then Reply.err s st
      else match Config.aesKwUnwrap kek (r.data.drop 16) with
        | none => Reply.err s .integrity
        | some c =>
          let c := padTo 96 c
          let n := u64 c 80
          let out := modeOut (ctxMode c)
          if u32 r.data 0 != 0x5854_4344 || n != u64 r.data 8 || u32 c 88 != u32 r.data 4 then Reply.err s .integrity
          else if out && !s.sec.serials.contains n then Reply.err s .notPermitted
          else
            let kst := s.keyCheck (ctxHandle c) [1] (s.cipherOwner f)
            if kst != .success then Reply.err s kst
            else match Map.lowestFree s.sec.ctxs 1024 with
              | none => Reply.err s .resource
              | some i =>
                let x := c.take 80 ++ zeros 8 ++ c.drop 88
                Reply.ok { s with sec.ctxs := Map.put s.sec.ctxs i x
                                  sec.serials := if out then s.sec.serials.filter (· != n) else s.sec.serials } (toLe 2 i ++ zeros 2)

def execCtxImport (f : Nat) (rd : HostAns) (s : State) : Outcome := .next (s.perform f 0x0824 fun p s => s.ctxImport f rd p)

/-! ## Engine faults (R508) -/

/-- KEY_FAILED: the key is FAILED, and its owner is told. -/
def State.failKey (s : State) (h : Nat) : State :=
  match s.keyOf h with
  | none => s
  | some k =>
    let s := s.modKey (keyPlace h) fun k => { k with failed := true, busy := false }
    s.postEvent k.owner 0x0801 h (s.counterOf 80) .success 0x3FFFF

/-- The physical slot of a key is quarantined; a spare takes the key in, or the key fails when none is left
(log entry 125, DEDUCED). -/
def State.quarantine (s : State) (h : Nat) : State :=
  match s.keyOf h with
  | none => s
  | some k =>
    let n := s.sec.quarantined.length
    let s : State := { s with sec.quarantined := setIns s.sec.quarantined k.physical }
    let s := s.rset 0x900000 24 16 (min 256 s.sec.quarantined.length)
    if 256 ≤ n then s.failKey h
    else
      let s := s.modKey (keyPlace h) fun k => { k with busy := true, physical := s.sec.nextPhysical }
      { s with sec.nextPhysical := s.sec.nextPhysical + 1 }

/-- The operation of a user ends with CIPHER_FAULT (log entry 129, DEDUCED). -/
def State.cipherFail (s : State) (user arg : Nat) : State :=
  match user with
  | 0 =>
    let f := arg % 8
    let m := (s.fn f).mb
    if m.outstanding && [0x0820, 0x0821, 0x0822, 0x0823, 0x0824].contains m.opcode then s.respond f .cipherFault [] false else s
  | 1 => s.nvDone arg 0 nvInternal Status.cipherFault.code (.ok [] false)
  | 2 => match (s.session arg).bind Session.inCapture with
    | some c => s.failCkpt arg c.ckpt .cipherFault 4
    | none => s
  | _ => s.rsat (aDrop arg 6) 63 0 1

/-- CIPHER_CHECK_FAULT: an engine's check fails in an operation of a user; a retry that faults again ends it
(log entries 129, DEDUCED; 143, DEDUCED). -/
def State.cipherFault (s : State) (engine h user arg : Nat) : State :=
  if (s.keyOf h).isNone || decide (31 < engine) then s
  else
    let again := s.sec.faults.any fun e => e.handle == h && e.user == user && e.arg == arg && e.retried
    let s := s.rsat 0x900008 63 32 1
    let s := s.log 16 3 0 0x0801 [engine, h, s.counterOf 80]
    let rest := s.sec.faults.filter fun e => !(e.handle == h && e.user == user && e.arg == arg)
    let e : CipherFault := { engine := engine, handle := h, user := user, arg := arg, retried := false }
    let s : State := { s with sec.faults := if again then rest else rest ++ [e] }
    let s := s.quarantine h
    let s := if again then s.cipherFail user arg else s
    if (s.keyOf h).any KeySlot.failed then { s with sec.faults := s.sec.faults.filter fun e => e.handle != h } else s

def execCipherCheckFault (engine h user arg : Nat) (s : State) : Outcome := .next (s.cipherFault engine h user arg)

/-- Retire an engine; a cluster without an engine retires the tray. -/
def State.retireEngine (s : State) (e : Nat) : State :=
  let w := s.rfield 0x900008 31 0
  if bit w e then s
  else
    let s := (s.rset 0x900008 31 0 (w + 2 ^ e)).journal 0x0820 e false (toLe 4 e) none
    if bits (s.rfield 0x900008 31 0) (e / 4 * 4 + 3) (e / 4 * 4) = 15 then s.retireTray 6 else s

/-- KEY_REINSTALL_COMPLETE: `engineOk` and `slotOk` are the known-answer tests of the engine and of the spare slot
(log entry 129, DEDUCED). -/
def State.reinstalled (s : State) (h : Nat) (engineOk slotOk : Bool) : State :=
  if !s.keyBusy h then s
  else
    let es := s.sec.faults.filter fun e => e.handle == h && !e.retried
    let s := if engineOk then s else es.foldl (fun s e => s.retireEngine e.engine) s
    if !slotOk then State.failKey { s with sec.faults := s.sec.faults.filter fun e => e.handle != h } h
    else
      let s := s.modKey (keyPlace h) fun k => { k with busy := false }
      { s with sec.faults := s.sec.faults.map fun e => if e.handle = h then { e with retried := true } else e }

def execKeyReinstallComplete (h : Nat) (engineOk slotOk : Bool) (s : State) : Outcome := .next (s.reinstalled h engineOk slotOk)

/-- KEY_RAM_UNCORRECTABLE: the slot is quarantined, from step 2 of R508 on. -/
def State.keyRamBad (s : State) (h : Nat) : State := if s.keyBusy h then s else s.quarantine h

def execKeyRamUncorrectable (h : Nat) (s : State) : Outcome := .next (s.keyRamBad h)

end Sys2Proof.Machine
end

