-- ==== Sys2Proof/Machine/Presence.lean ====
section
/-! DEFINITION. Chapter 4: HELLO, SPOKE_CREATE, QUEUE_START and STATE_SUMMARY (R131, R161, R162, R165, R168-R170, R333,
R597). -/

namespace Sys2Proof.Machine
open Sys2Proof

/-! ## A function's own memory (R131) -/

/-- Read bytes of a function's memory for a mailbox command: the answer gives them. -/
def State.fnRead (s : State) (f n : Nat) (ans : HostAns) : Except Status Bytes :=
  if !s.canMaster f then .error .flushed
  else if s.rimDown then .error .resource
  else match ans with
    | .fail st => .error st
    | .noAccess => .error .translationFault
    | .ok d ep => if ep then .error .poisoned else .ok (padTo n d)

/-- Write bytes of a function's memory for a mailbox command; as for spokes, the answer counts only under ATS
(log entry 43, DEDUCED). -/
def State.fnWrite (s : State) (f a : Nat) (d : Bytes) (ans : HostAns) : State × Status :=
  if !s.canMaster f then (s, .flushed)
  else if s.rimDown then (s, .resource)
  else match ans, (s.fn f).atsEn with
    | .fail st, true => (s, st)
    | .noAccess, true => (s, .translationFault)
    | _, _ => (if d = [] then s else (s.hitProt (some f) a d.length).emit (.memWrite f none (s.fn f).atsEn a d false), .success)

/-! ## HELLO, SPOKE_CREATE, QUEUE_START -/

/-- R597: the first HELLO of PF0 since a start reports the causes loaded from the journal
(log entry 164, DEDUCED). -/
def State.tellRetire (s : State) (f : Nat) : State :=
  if f % 4 ≠ 0 ∨ !s.brd.retireDue.contains (f / 4) then s
  else
    let v := s.rget aRetire
    let s : State := { s with brd.retireDue := setDel s.brd.retireDue (f / 4) }
    ((List.range 12).filter fun i => bit v i).foldl (fun s i => s.postPf0 (f / 4) 0x0B01 v i .success 0x3FFFF) s

/-- HELLO: what its effect leaves to the rest of the block besides the reply. -/
def State.helloAll (s : State) (f : Nat) (p : Bytes) : Reply :=
  let r := s.hello f (s.spokeLimit f) p
  if r.status != .success then r else { r with st := (r.st.nvResume f).tellRetire f }

def execHello (f : Nat) (s : State) : Outcome := .next (s.perform f 0x0001 fun p s => s.helloAll f p)

def execSpokeCreate (f : Nat) (s : State) : Outcome := .next (s.perform f 0x0101 fun p s => s.spokeCreate f s.spokeLimit p)

/-- QUEUE_START: a queue that runs again lets what waited for its function's memory go on. -/
def State.queueStartAll (s : State) (f : Nat) (p : Bytes) : Reply :=
  let r := s.queueStart f p
  if r.status != .success then r else { r with st := r.st.settleXpt (.ok [] false) }

def execQueueStart (f : Nat) (s : State) : Outcome := .next (s.perform f 0x0112 fun p s => s.queueStartAll f p)

/-! ## STATE_SUMMARY (R168-R170, R333) -/

/-- A record without its header: its type and body. -/
abbrev Rec := Nat × Bytes

def QState.code : QState → Nat
  | .stopped => 1
  | .active => 2
  | .frozen => 3
  | .error => 4

/-- Whether an entry is held for a queue (R130, R166). -/
def State.holds (s : State) (qi : Nat) (q : Queue) : Bool :=
  if q.kind.isRing then q.due.any fun d => s.entryHeld q d
  else s.host.queues.any fun (_, r) => r.due.any fun d => d.src == some qi && s.entryHeld r d

def State.spokeRec (s : State) (k : Nat) (x : Spoke) : Rec :=
  (0x10, toLe 2 k ++ toLe 1 (x.fn % 4) ++ toLe 1 (b2n x.base) ++ toLe 4 x.pasid ++ toLe 4 x.queueQuota ++
    toLe 4 (s.queuesHeld k) ++ toLe 4 x.counterQuota ++ toLe 4 x.eventsLost ++ toLe 8 x.ptRoot)

def State.queueRec (s : State) (i : Nat) (q : Queue) : Rec :=
  (0x11, toLe 4 i ++ toLe 1 q.kind.code ++ toLe 1 q.state.code ++ toLe 2 q.spoke ++ toLe 4 q.pi ++ toLe 4 q.consumer ++
    toLe 4 (q.cq.getD 0x3FFFF) ++ toLe 1 q.log2 ++ toLe 1 (b2n q.bmeStop + 2 * b2n (s.holds i q) + 4 * b2n q.armed) ++
    toLe 2 q.bad ++ toLe 8 q.base ++ toLe 4 (s.inProgress i) ++ zeros 4)

/-- The records of region keys in use. -/
def keyRec (i : Nat) (k : RegionKey) : Option Rec :=
  let body (st : Nat) : Rec := (0x20, toLe 4 i ++ toLe 2 k.gen ++ toLe 1 st ++ zeros 1 ++ toLe 2 k.spoke ++ zeros 6 ++ toLe 8 k.length)
  match k.phase with
  | .active => some (body 0)
  | .revoking _ => some (body 1)
  | .revoked => none

def State.trigRec (e : TrigEntry) : Rec :=
  (0x41, toLe 4 e.value ++ toLe 2 e.spoke ++ toLe 1 (b2n e.count + 2 * b2n e.failed) ++ toLe 1 e.failStatus.code ++
    toLe 4 e.credits ++ toLe 2 (min e.heads.length 65535) ++ toLe 2 (if e.feedEn || e.count then e.counter else 0xFFFF))

/-- The records of a summary for the functions of its scope, without BEGIN and END (log entry 30, DEDUCED). -/
def State.records (s : State) (mine : Nat → Bool) : List Rec :=
  let sp (k : Nat) : Bool := mine (s.spokeFn k)
  ((s.host.spokes.filter fun (_, x) => mine x.fn).map fun (k, x) => s.spokeRec k x) ++
  ((s.host.queues.filter fun (_, q) => sp q.spoke).map fun (i, q) => s.queueRec i q) ++
  ((s.xpt.keys.filter fun (_, k) => sp k.spoke).filterMap fun (i, k) => keyRec i k) ++
  (s.net.vers.map fun (_, v) => (0x30, toLe 4 v.number ++ toLe 1 (b2n (v.number != s.net.current)) ++ zeros 3 ++ toLe 8 v.inFlight)) ++
  ((s.trg.counters.filter fun (_, c) => sp c.spoke).map fun (i, c) => (0x40, toLe 2 i ++ toLe 2 c.spoke ++ zeros 4 ++ toLe 8 c.value)) ++
  ((s.trg.entries.filter fun (_, e) => sp e.spoke).map fun (_, e) => State.trigRec e) ++
  ((s.ckp.sessions.filter fun (_, x) => sp x.spoke).map fun (i, x) =>
    (0x50, toLe 4 i ++ toLe 1 x.stateByte ++ zeros 3 ++ toLe 8 (x.step.getD 0) ++ toLe 8 x.committed)) ++
  (s.fwm.services.filterMap fun (v, x) => x.image.map fun i => (0x60, toLe 4 v ++ toLe 4 i.version)) ++
  [(0x70, toLe 2 (s.rfield 0xB00000 9 0) ++ toLe 1 (s.rfield 0xB00000 21 16) ++
    toLe 1 (s.rfield 0xB00000 24 24 + 2 * s.rfield 0xB00000 29 29) ++ zeros 4 ++ toLe 8 (s.rget 0xB00000))]

/-- A record with its header. -/
def recBytes (i : Nat) (r : Rec) : Bytes := toLe 2 r.1 ++ toLe 2 (r.2.length + 8) ++ toLe 4 i ++ r.2

/-- The whole summary, in order (log entry 30, DEDUCED). -/
def State.summary (s : State) (mine : Nat → Bool) : List Bytes :=
  let l := s.records mine
  let l := (0x01, toLe 8 s.host.epoch ++ toLe 8 (s.rget 0)) :: l
  let l := l ++ [(0x02, toLe 8 s.host.epoch ++ toLe 4 (l.length + 1) ++ zeros 4)]
  l.zipIdx.map fun (r, i) => recBytes i r

/-- The whole records that fit in a buffer. -/
def fitting : Nat → List Bytes → List Bytes
  | _, [] => []
  | n, r :: t => if r.length ≤ n then r :: fitting (n - r.length) t else []

/-- STATE_SUMMARY (log entry 31, DEDUCED). -/
def State.stateSummary (s : State) (f : Nat) (p : Bytes) (ans : HostAns) : Reply :=
  let len := u32 p 8
  let all := bit (u8 p 12) 0
  let cur := Machine.u64 p 16
  let from_ : Option Nat := if cur = 0 then some 0 else
    (s.host.cursors.find? fun c => c.token == cur && c.fn == f && c.all == all).map Cursor.next
  match from_ with
  | none => Reply.err s .malformed
  | some start =>
    if len % 8 ≠ 0 ∨ len < 64 then Reply.err s .malformed
    else if all && f % 4 != 0 then Reply.err s .notPermitted
    else
      let l := (s.summary fun g => if all then g / 4 == f / 4 else g == f).drop start
      let out := fitting len l
      match s.fnWrite f (Machine.u64 p 0) out.flatten ans with
      | (s, .success) =>
        let more := decide (out.length < l.length)
        let tok := s.host.cursors.length + 1
        let s : State := if more then { s with host.cursors := s.host.cursors ++ [⟨tok, f, all, start + out.length⟩] } else s
        Reply.ok s (toLe 4 out.flatten.length ++ toLe 4 out.length ++ toLe 8 (if more then tok else 0) ++ toLe 8 s.host.epoch)
      | (s, st) => Reply.err s st

def execStateSummary (f : Nat) (ans : HostAns) (s : State) : Outcome :=
  .next (s.perform f 0x0010 fun p s => s.stateSummary f p ans)

end Sys2Proof.Machine
end

