-- ==== Sys2Proof/Machine/SelfTest.lean ====
section
/-! DEFINITION. On-demand self-tests, their records and the tray-retirement causes (R591-R597). -/

namespace Sys2Proof.Machine
open Sys2Proof

/-- R591: whether a test defines a unit. -/
def testUnit (test unit : Nat) : Bool :=
  match test with
  | 1 => decide (unit ≤ 66)
  | 2 => decide (unit ≤ 69)
  | 4 => decide (unit < 192) || unit == 0xFFF0 || unit == 0xFFF1
  | 5 => decide (unit < 8)
  | _ => false

/-- R593: whether a lane is unused: of a port in MODE 0b11, or of an inactive controller. -/
def State.laneFree (s : State) (unit : Nat) : Bool :=
  if unit < 32 then s.portMode (unit / 4) == 3
  else if unit < 192 then s.portRole ((unit - 32) / 16 * 4) == 3
  else false

/-- R593: the answer to a TST_RUN that runs no test (log entry 158, DEDUCED). -/
def State.testRefused (s : State) (f test unit : Nat) : Option Status :=
  let st := checks [
    (!testUnit test unit, .malformed),
    (f % 4 != 0, .notPermitted),
    (s.brd.testRun.isSome, .retryLater),
    (decide (test ≤ 2) && decide (64 ≤ unit), .notPermitted),
    (decide (test ≤ 2) && s.str.retired.contains unit, .notPermitted),
    (decide (test ≤ 2) && !s.tileFree unit, .retryLater),
    (test == 4 && !s.laneFree unit, .notPermitted)]
  if st == .success then none else some st

/-- TST_RUN: the response follows when the test ends (log entry 158, DEDUCED). -/
def State.testRun (s : State) (f : Nat) (p : Bytes) : Reply :=
  let test := u8 p 0
  let unit := u16 p 2
  match s.testRefused f test unit with
  | some st => Reply.err s st
  | none =>
    let s := if test ≤ 2 then s.setTile unit { s.tile unit with phase := .clearing } else s
    { st := { s with brd.testRun := some (test, unit, f) }, wait := true }

def execTstRun (f : Nat) (s : State) : Outcome :=
  .next (s.perform f 0x0B10 fun p s => s.testRun f p)

/-- R591, R594: COVERAGE of a test. -/
def testCoverage (test : Nat) : Nat := if test = 1 then 952 else if test = 5 then 0 else 1000

/-- R594: a record's 32 bytes. -/
def TestRec.bytes (t : TestRec) : Bytes :=
  let r := t.res
  toLe 1 r.test ++ toLe 1 (r.result % 4) ++ toLe 2 r.unit ++ toLe 2 (testCoverage r.test) ++ zeros 2 ++ toLe 4 r.durationUs ++
  toLe 4 r.fails ++ toLe 8 r.locator ++ toLe 8 t.time

/-- TEST_COMPLETE: `passed` and the record's figures are the outcome of the test that runs
(log entry 158, DEDUCED). -/
def State.testComplete (s : State) (passed : Bool) (durationUs fails locator : Nat) : State :=
  match s.brd.testRun with
  | none => s
  | some (test, unit, f) =>
    let r : TestResult := { test := test, unit := unit, result := b2n !passed, durationUs := durationUs, fails := fails, locator := locator }
    let s : State := { s with brd.testRun := none }
    let s := if test ≤ 2 then s.clearTile unit else s
    let s := s.testRecord r
    let b := match s.brd.tests.getLast? with
      | some t => t.bytes
      | none => []
    let m := (s.fn f).mb
    let s := s.testFailed r
    let s := if test ≤ 2 then s.tileFreed unit else s
    if m.outstanding && m.opcode == 0x0B10 then s.respond f .success b false else s

def execTestComplete (passed : Bool) (durationUs fails locator : Nat) (s : State) : Outcome :=
  .next (s.testComplete passed durationUs fails locator)

/-- TST_RESULTS: the number of records that follow and the index of the next one, 0 after the last
(log entry 158, DEDUCED). -/
def State.testResults (s : State) (f : Nat) (p : Bytes) : Reply :=
  if f % 4 ≠ 0 then Reply.err s .notPermitted
  else
    let i := u32 p 0
    let l := (s.brd.tests.drop i).take 127
    Reply.ok s (toLe 4 l.length ++ toLe 4 (if i + l.length < s.brd.tests.length then i + l.length else 0) ++ l.flatMap TestRec.bytes)

def execTstResults (f : Nat) (s : State) : Outcome := .next (s.perform f 0x0B11 fun p s => s.testResults f p)

/-- TRAY_RETIRE_CLEAR: from the register and, before the response, from the journal. -/
def State.retireClear (s : State) (f : Nat) (p : Bytes) : Reply :=
  if f % 4 ≠ 0 then Reply.err s .notPermitted
  else
    let v := (List.range 12).foldl (fun w i => w + b2n (bit (s.rget aRetire) i && !bit (u32 p 0) i) * 2 ^ i) 0
    { st := (s.rput aRetire v).sensorMoves s [32], journal := [(0x0B01, 0, false, toLe 2 v)] }

def execTrayRetireClear (f : Nat) (s : State) : Outcome := .next (s.perform f 0x0B12 fun p s => s.retireClear f p)

end Sys2Proof.Machine
end

