-- ==== Sys2Proof/Machine/Debug.lean ====
section
/-! DEFINITION. The debug lock (R513-R516). -/

namespace Sys2Proof.Machine
open Sys2Proof

/-- Whether SC runs: released, its tests passed, not zeroised. -/
def State.scRuns (s : State) : Bool := s.brd.scReleased && decide (1 ≤ s.boot) && decide (s.boot ≤ 3) && !s.brd.scan

/-- R514: a fresh nonce; a new one invalidates the one before it. -/
def State.challenge (s : State) : Bytes × State :=
  let (n, s) := s.drawBytes 32
  (n, { s with sec.nonce := some (n, s.now) })

/-- DEBUG_CHALLENGE. -/
def execDebugChallenge (f : Nat) (s : State) : Outcome :=
  .next (s.perform f 0x0830 fun _ s =>
    if f % 4 ≠ 0 then Reply.err s .notPermitted
    else
      let (n, s) := s.challenge
      Reply.ok s n)

/-- DBG_AUTH_READ (log entry 133, DESIGN CHOICE). -/
def execDbgAuthRead (s : State) : Outcome :=
  .next (if !s.scRuns then s
    else
      let (n, s) := s.challenge
      s.emit (.jtag n))

/-- R516: after three failures every unlock fails until RESET_N. -/
def State.lockedOut (s : State) : Bool := s.rfield 0x900000 7 7 == 1

/-- R514: whether an identity is an unrevoked debug anchor. -/
def State.debugAnchor (s : State) (id : Bytes) : Bool :=
  s.sec.fuses.dbgAnchor.any fun (i, a) => decide (i < 4) && a == id && a.any (· != 0) && !bit s.sec.fuses.dbgRevoke i

/-- The nonce that is valid now (R514). -/
def State.nonceNow (s : State) : Option Bytes := match s.sec.nonce with
  | some (n, t) => if s.now ≤ t + 60_000_000_000 then some n else none
  | none => none

/-- R514: whether 5,364 bytes unlock, with a nonce. -/
def State.signedOk (s : State) (nonce : Option Bytes) (b : Bytes) : Bool :=
  match nonce with
  | none => false
  | some n =>
    let msg := ascii "DLH9-DBG" ++ toLe 8 s.sec.fuses.serial ++ n ++ b.take 1
    let lv := u8 b 0
    decide (1 ≤ lv) && decide (lv ≤ 3) && (slice b 1 3).all (· == 0) && (slice b 5361 3).all (· == 0) &&
    s.debugAnchor (padTo 48 (Config.sha384 (slice b 4 1984))) &&
    Config.edVerify (slice b 4 32) msg (slice b 1988 64) && Config.mldsaVerify (slice b 36 1952) msg (slice b 2052 3309)

/-- R515: whether 36 bytes unlock. -/
def State.passwordOk (s : State) (b : Bytes) : Bool :=
  let x := s.sec.fuses
  decide (u8 b 0 ≤ 2) && (slice b 1 3).all (· == 0) && x.pwdHash.any (· != 0) && !x.pwdDisable &&
  padTo 48 (Config.sha384 (slice b 4 32)) == x.pwdHash

/-- R516: an unlock that fails is counted and delays the next accepted request (log entry 132, DEDUCED). -/
def State.unlockFails (s : State) : State :=
  let n := min 3 (s.rfield 0x900000 9 8 + 1)
  State.rset { s with sec.unlockDelay := s.now + 1_000_000_000 } 0x900000 9 8 n |>.rset 0x900000 7 7 (b2n (decide (3 ≤ n)))

/-- R516: set the level and extend register 6. -/
def State.setLevel (s : State) (level method : Nat) (id : Bytes) : State := (s.rset 0x900000 4 3 level).debugMeasure level method id

/-- R514-R516, R595: an unlock with its bytes, in the signed form or the password form; `clean` is the read-back of the
zeroisation that level 3 needs (log entry 132, DEDUCED). -/
def State.unlock (s : State) (signed : Bool) (b : Bytes) (clean : Bool) : State × Status :=
  if s.lockedOut then (s, .notPermitted)
  else
    let s : State := { s with now := max s.now s.sec.unlockDelay }
    let nonce := s.nonceNow
    let s : State := if signed then { s with sec.nonce := none } else s
    let ok := if signed then s.signedOk nonce b else s.passwordOk b
    let lv := u8 b 0
    let id := if signed then padTo 48 (Config.sha384 (slice b 4 1984)) else slice b 4 32
    if !ok then (s.unlockFails, .notPermitted)
    else if lv < 3 then (s.setLevel lv (b2n !signed) id, .success)
    else if clean then (s.zeroised.setLevel 3 0 id, .success)
    else (State.rset s.zeroised aResetCause 10 10 (s.rfield aResetCause 10 10), .notPermitted)

/-- DEBUG_UNLOCK: `ans` gives the bytes that the signed form names; a read that fails is no failed unlock
(log entry 132, DEDUCED). -/
def State.debugUnlock (s : State) (f : Nat) (ans : HostAns) (clean : Bool) (p : Bytes) : Reply :=
  if f % 4 ≠ 0 then Reply.err s .notPermitted
  else if p.length = 36 then
    let (s, st) := s.unlock false p clean
    { st := s, status := st }
  else match s.fnRead f 5364 ans with
    | .error st => Reply.err s st
    | .ok b =>
      let b := if u8 b 0 = u8 p 0 then b else 0 :: b.drop 1
      let (s, st) := s.unlock true b clean
      { st := s, status := st }

/-- The reserved bytes depend on the form: 1-7 of the signed form, 1-3 of the password form. -/
def unlockMalformed (p : Bytes) : Bool := (slice p 1 (if p.length = 36 then 3 else 7)).any (· != 0)

def execDebugUnlock (f : Nat) (ans : HostAns) (clean : Bool) (s : State) : Outcome :=
  .next (s.perform f 0x0831 fun p s => if unlockMalformed p then Reply.err s .malformed else s.debugUnlock f ans clean p)

/-- DEBUG_LOCK (log entry 132, DEDUCED). -/
def execDebugLock (f : Nat) (s : State) : Outcome :=
  .next (s.perform f 0x0832 fun p s =>
    let lv := u8 p 0
    if 3 < lv then Reply.err s .malformed
    else if f % 4 ≠ 0 || decide (s.debugLevel < lv) then Reply.err s .notPermitted
    else Reply.ok (s.setLevel lv 2 []) [])

/-- DBG_AUTH_WRITE: the number of bytes tells the form (log entry 133, DESIGN CHOICE). -/
def execDbgAuthWrite (b : Bytes) (clean : Bool) (s : State) : Outcome :=
  .next (if !s.scRuns || (b.length != 5364 && b.length != 36) then s
    else
      let (s, st) := s.unlock (b.length == 5364) b clean
      s.emit (.jtag (toLe 1 st.code)))

end Sys2Proof.Machine
end

