-- ==== Sys2Proof/Machine/Spdm.lean ====
section
/-! DEFINITION. Attestation: SPDM requests on PF0's DOE mailboxes and on MCTP (R499-R501, R505).  A request's operands
are its transport (0, 1 the DOE of hierarchy 0, 1; 2 MCTP), its bytes `req` as DSP0274 lays them out, and the fields
that this model names. -/

namespace Sys2Proof.Machine
open Sys2Proof

/-- The error codes of DSP0274 that the model answers with. -/
def spdmInvalid : Nat := 0x01
def spdmNoSession : Nat := 0x02
/-- Log entry 130, PRESUMED. -/
def spdmBusy : Nat := 0x03
def spdmUnexpected : Nat := 0x04
/-- Log entry 130, PRESUMED. -/
def spdmSessionLimit : Nat := 0x0A

/-- Answer ERROR. -/
def State.spdmError (s : State) (t e : Nat) : State := s.emit (.spdm t 0x7F [BitVec.ofNat 8 e])

/-- Answer a request; both messages enter the transcript. -/
def State.spdmReply (s : State) (t code : Nat) (req resp : Bytes) : State :=
  State.emit { s with sec.transcript := s.sec.transcript ++ req ++ resp } (.spdm t code resp)

/-- The bytes of a response that DSP0274 gives and this spec does not, with fresh randomness. -/
def State.spdmBody (s : State) (code : Nat) (req : Bytes) : Bytes × State :=
  let (r, s) := s.draw 64
  (Config.spdmBody code req r, s)

/-- Whether a transport reaches SC: PF0's DOE while its link is up, MCTP while MGB serves. -/
def State.spdmUp (s : State) (t : Nat) : Bool :=
  s.scRuns && (if t < 2 then (s.port (4 * t)).link == .l0 || (s.port (4 * t)).link == .l1 else t == 2 && s.mgmtUp)

/-- Serve a request in connection state `need` or later; root firmware answers, so before it runs SC is busy
(log entry 130, PRESUMED). -/
def State.spdm (s : State) (t need : Nat) (body : State → State) : State :=
  if !s.spdmUp t then s
  else if s.boot < 2 then s.spdmError t spdmBusy
  else if s.sec.spdmState < need then s.spdmError t spdmUnexpected
  else body s

/-- Answer a request with its body alone and move the connection state (log entry 130, PRESUMED). -/
def State.spdmStep (s : State) (t code next : Nat) (req : Bytes) : State :=
  let (b, s) := s.spdmBody code req
  State.spdmReply { s with sec.spdmState := next } t code req b

/-- GET_VERSION: a new connection. -/
def execGetVersion (t : Nat) (req : Bytes) (s : State) : Outcome :=
  .next (s.spdm t 0 fun s => State.spdmStep { s with sec.transcript := [], sec.sessions := [] } t 0x04 1 req)

def execGetCapabilities (t : Nat) (req : Bytes) (s : State) : Outcome :=
  .next (s.spdm t 1 fun s => s.spdmStep t 0x61 2 req)

def execNegotiateAlgorithms (t : Nat) (req : Bytes) (s : State) : Outcome :=
  .next (s.spdm t 2 fun s => s.spdmStep t 0x63 3 req)

/-- R500: the chain of a slot. -/
def State.chain (s : State) (slot : Nat) : Bytes := Config.certChain slot (padTo 48 ((Map.get s.sec.regs 3).getD []))

/-- GET_DIGESTS: the digests of slots 0 and 1. -/
def execGetDigests (t : Nat) (req : Bytes) (s : State) : Outcome :=
  .next (s.spdm t 3 fun s =>
    s.spdmReply t 0x01 req (toLe 1 3 ++ padTo 48 (Config.sha384 (s.chain 0)) ++ padTo 48 (Config.sha384 (s.chain 1))))

/-- GET_CERTIFICATE: a portion of a chain and what remains after it. -/
def execGetCertificate (t : Nat) (req : Bytes) (slot off n : Nat) (s : State) : Outcome :=
  .next (s.spdm t 3 fun s =>
    let c := s.chain slot
    if 1 < slot ∨ c.length ≤ off then s.spdmError t spdmInvalid
    else
      let x := slice c off n
      s.spdmReply t 0x02 req (toLe 1 slot ++ toLe 2 x.length ++ toLe 2 (c.length - off - x.length) ++ x))

/-- R501: the opaque element, with the ML-DSA-65 signature's place filled by `sig`. -/
def State.signElement (s : State) (sig : Bytes) : Bytes :=
  toLe 2 0x1F9D ++ toLe 2 0x0001 ++ toLe 4 3357 ++ keyIdentity s.aliasPair ++ sig

/-- R501: the two signatures of a response, in its four steps. -/
def State.signTwice (s : State) (code : Nat) (req body : Bytes) (rnd : Nat) : Bytes :=
  let tr := s.sec.transcript ++ req
  let r0 := body ++ s.signElement (zeros 3309)
  let ml := pairMlSign s.aliasPair (Config.spdmMessage code tr r0) rnd
  let r1 := body ++ s.signElement ml
  r1 ++ pairEdSign s.aliasPair (Config.spdmMessage code tr r1)

/-- CHALLENGE. -/
def execChallenge (t : Nat) (req : Bytes) (slot : Nat) (s : State) : Outcome :=
  .next (s.spdm t 3 fun s =>
    if 1 < slot then s.spdmError t spdmInvalid
    else
      let (b, s) := s.spdmBody 0x03 req
      let (r, s) := s.draw 256
      s.spdmReply t 0x03 req (s.signTwice 0x03 req b r))

/-- R499: the measurement blocks: one per non-zero register, and the log at index 0xFD. -/
def State.measBlocks (s : State) : List (Nat × Bytes) :=
  (s.sec.regs.filter fun p => p.2.any (· != 0)) ++
  [(0xFD, s.sec.log.flatMap fun e => toLe 1 e.index ++ toLe 1 e.type ++ toLe 1 (b2n e.truncated) ++ toLe 4 e.version ++ toLe 4 e.svn ++ e.digest)]

/-- GET_MEASUREMENTS: operation 0 asks for the number of blocks, 0xFF for all, another for the block of that index.
Every answer says whether the log has been cut (R498). -/
def execGetMeasurements (t : Nat) (req : Bytes) (op : Nat) (sign : Bool) (s : State) : Outcome :=
  .next (s.spdm t 3 fun s =>
    let all := s.measBlocks
    let l := if op = 0 then [] else if op = 0xFF then all else all.filter fun b => b.1 == op
    if op ≠ 0 ∧ l = [] then s.spdmError t spdmInvalid
    else
      let (b, s) := s.spdmBody 0x60 req
      let body := b ++ toLe 1 (if op = 0 then all.length else l.length) ++ toLe 1 (b2n s.sec.logCut) ++
        l.flatMap fun x => toLe 1 x.1 ++ toLe 3 x.2.length ++ x.2
      let (r, s) := s.draw 256
      s.spdmReply t 0x60 req (if sign then s.signTwice 0x60 req body r else body))

/-! ## Sessions -/

/-- KEY_EXCHANGE: at most four sessions on all transports together. -/
def execKeyExchange (t : Nat) (req : Bytes) (s : State) : Outcome :=
  .next (s.spdm t 3 fun s =>
    match (List.range 4).find? fun i => !s.sec.sessions.any fun x => x.id == i with
    | none => s.spdmError t spdmSessionLimit
    | some i =>
      let (b, s) := s.spdmBody 0x64 req
      State.spdmReply { s with sec.sessions := s.sec.sessions ++ [{ id := i }] } t 0x64 req (toLe 1 i ++ b))

/-- Serve a request of a session. -/
def State.inSession (s : State) (t sid : Nat) (finished : Bool) (body : State → State) : State :=
  match s.sec.sessions.find? fun x => x.id == sid with
  | none => s.spdmError t spdmNoSession
  | some x => if x.finished == finished then body s else s.spdmError t spdmUnexpected

/-- Change a session. -/
def State.modSpdm (s : State) (sid : Nat) (g : SpdmSession → SpdmSession) : State :=
  { s with sec.sessions := s.sec.sessions.map fun x => if x.id = sid then g x else x }

/-- FINISH; `ok` is whether the requester's verify data is right. -/
def execFinish (t sid : Nat) (req : Bytes) (ok : Bool) (s : State) : Outcome :=
  .next (s.spdm t 3 fun s => s.inSession t sid false fun s =>
    if !ok then State.spdmError { s with sec.sessions := s.sec.sessions.filter fun x => x.id != sid } t spdmInvalid
    else
      let (b, s) := s.spdmBody 0x65 req
      (s.modSpdm sid fun x => { x with finished := true }).spdmReply t 0x65 req b)

def execHeartbeat (t sid : Nat) (s : State) : Outcome :=
  .next (s.spdm t 3 fun s => s.inSession t sid true fun s => s.emit (.spdm t 0x68 []))

/-- KEY_UPDATE: the session's keys move on. -/
def execKeyUpdate (t sid : Nat) (s : State) : Outcome :=
  .next (s.spdm t 3 fun s => s.inSession t sid true fun s =>
    (s.modSpdm sid fun x => { x with updates := x.updates + 1 }).emit (.spdm t 0x69 []))

def execEndSession (t sid : Nat) (s : State) : Outcome :=
  .next (s.spdm t 3 fun s => s.inSession t sid true fun s =>
    State.emit { s with sec.sessions := s.sec.sessions.filter fun x => x.id != sid } (.spdm t 0x6C []))

/-- KEY_INSTALL_WRAP (R505): a WRAP key of PF0's base spoke, installed through a finished session; its response, with
the handle, follows the journal when the key is persistent (log entry 131, DEDUCED). -/
def State.installWrap (s : State) (t cls : Nat) (persist : Bool) (key : Bytes) : State :=
  match s.pf0Base (if t = 1 then 1 else 0) with
  | none => s.spdmError t spdmInvalid
  | some k =>
    if cls ≠ 5 ∨ key.length ≠ 32 then s.spdmError t spdmInvalid
    else
      let r := s.installKey (toLe 1 5 ++ toLe 1 1 ++ toLe 1 (b2n persist) ++ zeros 1 ++ toLe 2 k ++ zeros 2) key
      if r.status != .success then s.spdmError t spdmInvalid
      else if r.journal != [] then r.st.journalAll ⟨8 + t, .success, r.payload, none, none⟩ r.journal
      else r.st.emit (.spdm t 0x7E r.payload)

def execKeyInstallWrap (t sid cls : Nat) (persist : Bool) (key : Bytes) (s : State) : Outcome :=
  .next (s.spdm t 3 fun s => s.inSession t sid true fun s => s.installWrap t cls persist key)

end Sys2Proof.Machine
end

