-- ==== Sys2Proof/Machine/Firmware.lean ====
section
/-! DEFINITION. Chapter 16: the operating bundle, services and their updates and restarts, configuration, logs and the
journal (R517-R547). -/

namespace Sys2Proof.Machine
open Sys2Proof

/-! ## Services and groups (R517, R525) -/

/-- R517: the group of a core service, and its first core. -/
def groupOfSvc (v : Nat) : Nat := if v < 6 then v else v - 1
def svcOfGroup (g : Nat) : Nat := if g < 6 then g else g + 1
def coresOf (g : Nat) : List Nat := (List.range 16).filter fun c => groupOf c == g

/-- Set FWM_CORE_STAT.STATE of a group. -/
def State.setGroup (s : State) (g st : Nat) : State := { s with fwm.groupState := Map.put s.fwm.groupState g st }

/-- R525: whether a command of a service is in progress; a pending update is not a command of the firmware core here. -/
def State.svcBusy (s : State) (v : Nat) : Bool :=
  let is (opc : Nat) : Bool := opc != 0x0903 && (match serviceOf opc with
    | some (w, _) => w == v
    | none => false)
  (s.host.asyncs.any fun a => is a.opcode) ||
  (List.range 8).any fun f => (s.fn f).mb.outstanding && s.accepted f && is (s.fn f).mb.opcode

/-- Whether a backing is a TCP backing. -/
def State.isTcp (s : State) (b : Nat) : Bool := match Map.get s.nvme.backings b with
  | some x => x.kind == 1
  | none => false

/-- R525: whether no job uses a service (log entry 142, DEDUCED). -/
def State.svcFree (s : State) (v : Nat) : Bool :=
  match v with
  | 1 => s.net.staging.isNone
  | 3 => s.str.jobs == []
  | 4 => !(s.nvme.reqs.any fun (_, r) => s.isTcp r.backing && !r.held) && !(s.nvme.spaces.any fun (_, n) => n.resync.isSome) &&
    !s.svcBusy 4
  | 5 => s.ckp.sessions.all fun (_, x) => x.ckpts == [] && x.restore.isNone
  | 7 => true
  | _ => !s.svcBusy v

/-- The holds of a service end (R525): pieces for TCP backings go out. -/
def State.endHold (s : State) (v : Nat) : State :=
  if v = 8 then s.telResume
  else if v ≠ 4 then s
  else
    let l := s.nvme.reqs.filter fun (_, r) => r.held
    l.foldl (fun s (i, r) => State.emitReq { s with nvme.reqs := Map.put s.nvme.reqs i { r with held := false } } i { r with held := false }) s

/-- R443: a restart of the storage service is a path loss of every remote backing (log entry 142, DEDUCED). -/
def State.storageRestart (s : State) (v : Nat) : State :=
  if v ≠ 4 then s else (s.nvme.backings.filter fun (_, b) => b.kind != 0).foldl (fun s p => s.pathLoss p.1) s

/-- R497: a service's image becomes active. -/
def State.runImage (s : State) (v : Nat) (i : Image) : State := (s.measure (16 + v) 3 i.version i.svn i.digest).bump

/-- End the pending update of a service with a status (R526, R527). -/
def State.updateEnds (s : State) (v : Nat) (st : Status) : State := s.asyncDone (fun a => a.opcode == 0x0903 && a.arg == v) st

/-! ## The operating bundle (R496, R521-R523) -/

/-- R522: the entries of a bundle: offset and length. -/
def bundleEntries (h : Bytes) : List (Nat × Nat) := (List.range (u8 h 6)).map fun i => (u64 h (64 + 16 * i), u64 h (72 + 16 * i))

/-- R522: the header, the entries and the TYPE and SERVICE fields of the images; `fields` are their first 16 bytes
(log entry 139, DEDUCED). -/
def bundleBad (len : Nat) (h : Bytes) (fields : List Bytes) : Bool :=
  let l := bundleEntries h
  let n := u8 h 6
  let svcs := (fields.drop 1).map fun b => u32 b 12
  fld h 0 4 != 0x4C444E42 || u16 h 4 != 1 || decide (n < 2) || decide (9 < n) || u8 h 7 != 0 || (slice h 8 56).any (· != 0) ||
  (l.any fun e => e.1 % 4096 != 0 || decide (e.2 < 16) || decide (len < e.1 + e.2)) ||
  ((l.zipIdx).any fun (a, i) => (l.drop (i + 1)).any fun b => meets a.1 a.2 b.1 b.2) ||
  (match fields with
   | b :: _ => imgType b != 2
   | [] => true) ||
  ((fields.drop 1).any fun b => imgType b != 3 || !coreServices.contains (u32 b 12)) || svcs.eraseDups.length != svcs.length

/-- The bytes of several reads, or the first failure (log entry 139, DEDUCED). -/
def State.fnReads (s : State) (f : Nat) : List (Nat × HostAns) → Except Status (List Bytes)
  | [] => .ok []
  | (n, a) :: t => match s.fnRead f n a with
    | .error st => .error st
    | .ok b => match State.fnReads s f t with
      | .error st => .error st
      | .ok l => .ok (b :: l)

/-- R496 step 7: one service image: read, verified, measured, placed and its group released, or failed. -/
def State.startService (s : State) (f len : Nat) (v : Nat) (ans : HostAns) : State × Status :=
  match s.fnRead f len ans with
  | .error st => (s, st)
  | .ok b =>
    let st := s.imageCheck 3 s.anchorOk b
    if st != .success then (s, st)
    else
      let i := imageOf b
      let s := (s.setService v { state := .running, image := some i, activatedAt := s.now }).runImage v i
      let s := s.setGroup (groupOfSvc v) 1
      (if v = 4 then s.startSpaces else s, .success)

/-- The service images in entry order: the state, and each failure by SERVICE (log entry 139, DEDUCED). -/
def State.startServices (s : State) (f : Nat) : List (Nat × Nat × HostAns) → State × List (Nat × Status) × List Nat
  | [] => (s, [], [])
  | (len, v, a) :: t =>
    let (s, st) := s.startService f len v a
    let (s, bad, good) := State.startServices s f t
    if st == .success then (s, bad, v :: good) else (s, (v, st) :: bad, good)

def bitmapOf (l : List Nat) : Nat := l.foldl (fun w v => w ||| 2 ^ v) 0

/-- FW_BUNDLE_LOAD: `hdr` answers the read of the header and entries, `fields` those of the first 16 bytes of each image,
`images` those of the images (log entry 139, DEDUCED). -/
def State.bundleLoad (s : State) (f : Nat) (hdr : HostAns) (fields images : List HostAns) (p : Bytes) : Reply :=
  let len := u32 p 8
  if s.fwm.bundleTaken then Reply.err s .notPermitted
  else match s.fnRead f (min len 208) hdr with
    | .error st => Reply.err s st
    | .ok h =>
      let l := bundleEntries h
      let read := s.fnReads f (((l.zip fields).filter fun e => decide (16 ≤ e.1.2)).map fun e => (16, e.2))
      match read with
      | .error st => Reply.err s st
      | .ok heads =>
        if heads.length ≠ l.length ∨ images.length ≠ l.length then Reply.err s .malformed
        else if bundleBad len h heads then Reply.err s .malformed
        else match l, images with
          | e0 :: rest, a0 :: more =>
            match s.fnRead f e0.2 a0 with
            | .error st => Reply.err s st
            | .ok b =>
              let st := s.imageCheck 2 s.anchorOk b
              if st != .success then Reply.err s st
              else
                let i := imageOf b
                let s : State := { s with fwm.bundleTaken := true, fwm.root := some i }
                let s := (s.rset 0x900000 2 0 2).measure 3 2 i.version i.svn i.digest
                let todo := (rest.zip (((heads.drop 1).map fun b => u32 b 12).zip more)).map fun (e, v, a) => (e.2, v, a)
                let (s, bad, good) := s.startServices f todo
                let s := if good.contains 0 then s.rset 0x900000 2 0 3 else s
                let low := match (bad.map Prod.fst).min? with
                  | some v => (((bad.find? fun x => x.1 == v).map fun x => x.2.code).getD 0)
                  | none => 0
                Reply.ok s (toLe 2 (bitmapOf good) ++ toLe 2 (bitmapOf (bad.map Prod.fst)) ++ toLe 1 low ++ zeros 3)
          | _, _ => Reply.err s .malformed

def execFwBundleLoad (f : Nat) (hdr : HostAns) (fields images : List HostAns) (s : State) : Outcome :=
  .next (s.perform f 0x0901 fun p s => s.bundleLoad f hdr fields images p)

/-- R522: restarts of a service within the last 600 s (log entry 141, DEDUCED). -/
def Service.restarts (x : Service) (now : Nat) : Nat := (x.recent.filter fun t => decide (now < t.1 + 600_000_000_000)).length

/-- FW_STATUS: one service's 16 bytes; root firmware runs while it has been accepted. -/
def State.svcStatus (s : State) (v : Nat) : Bytes :=
  let x := s.service v
  let img := if v = 6 then s.fwm.root else x.image
  let st := if v = 6 then b2n s.fwm.root.isSome else bits (s.svcWord v) 2 0
  toLe 1 st ++ toLe 1 (min 255 (x.restarts s.now)) ++ zeros 2 ++ toLe 4 ((img.map Image.version).getD 0) ++
  toLe 4 ((img.map Image.svn).getD 0) ++ toLe 4 ((x.prev.map Image.version).getD 0)

def execFwStatus (f : Nat) (s : State) : Outcome :=
  .next (s.perform f 0x0902 fun _ s => Reply.ok s (toLe 1 s.boot ++ zeros 7 ++ (List.range 9).flatMap s.svcStatus))

/-! ## Updates (R526-R528) -/

/-- FW_SERVICE_UPDATE: the image is verified and staged, or a rollback staged (log entry 140, DEDUCED). -/
def State.serviceUpdate (s : State) (f : Nat) (ans : HostAns) (p : Bytes) : Reply :=
  let v := u32 p 0
  let back := bit (u8 p 4) 1
  let wait := u32 p 20
  let x := s.service v
  if (v != 6 && !coreServices.contains v) || wait = 0 || decide (600_000 < wait) || (back && (u64 p 8 != 0 || u32 p 16 != 0)) then
    Reply.err s .malformed
  else if v = 6 || x.staged.isSome then Reply.err s .notPermitted
  else
    let stage (s : State) (i : Image) : Reply :=
      let g : Staged := { image := i, fn := f, seq := (s.fn f).mb.seq, hold := bit (u8 p 4) 0,
                          deadline := s.now + 1_000_000 * wait, rollback := back }
      let st := if x.state == .running then SvcState.staged else x.state
      { st := s.setService v { x with staged := some g, state := st }, async := some v }
    if back then
      match x.prev with
      | none => Reply.err s .resource
      | some i => if i.svn < s.svnFloor 3 then Reply.err s .rollback else stage s i
    else match s.fnRead f (u32 p 16) ans with
      | .error st => Reply.err s st
      | .ok b =>
        let st := s.imageCheck 3 s.anchorOk b
        if st == .malformed || imgService b != v then Reply.err s .malformed
        else if st != .success then Reply.err s st
        else stage s (imageOf b)

def execFwServiceUpdate (f : Nat) (ans : HostAns) (s : State) : Outcome :=
  .next (s.perform f 0x0903 fun p s => s.serviceUpdate f ans p)

/-- Discard what is staged for a service; its pending update ends with a status. -/
def State.unstage (s : State) (v : Nat) (st : Status) : State :=
  let x := s.service v
  let s := s.setService v { x with staged := none, state := if x.state == .staged then .running else x.state }
  (s.endHold v).updateEnds v st

/-- FW_SERVICE_CANCEL. -/
def execFwServiceCancel (f : Nat) (s : State) : Outcome :=
  .next (s.perform f 0x0904 fun p s =>
    if (s.service (u32 p 0)).staged.isNone then Reply.err s .malformed else Reply.ok (s.unstage (u32 p 0) .flushed) [])

/-- UPDATE_WAIT_TIMEOUT. -/
def State.updateTimeout (s : State) (v : Nat) : State :=
  match (s.service v).staged with
  | none => s
  | some g => State.unstage { s with now := max s.now g.deadline } v .timeout

def execUpdateWaitTimeout (v : Nat) (s : State) : Outcome := .next (s.updateTimeout v)

/-- R526, R532: the image of a service is replaced; the replaced image becomes PREVIOUS (log entry 142, DEDUCED). -/
def State.activate (s : State) (v : Nat) (i : Image) (back : Bool) : State :=
  let x := s.service v
  let s := s.setService v { x with state := .running, image := some i, prev := x.image, staged := none, activatedAt := s.now }
  let s := ((s.setGroup (groupOfSvc v) 1).runImage v i).storageRestart v
  ((s.endHold v).postBoth 0x0902 (v + 256 * b2n back) i.version .success).powerReturn v

/-- SERVICE_ACTIVATION: at a moment when no job uses the service; at once for one that is not running (R532)
(log entry 140, DEDUCED). -/
def State.activation (s : State) (v : Nat) : State :=
  let x := s.service v
  match x.staged with
  | none => s
  | some g =>
    if s.brd.scan || x.state == .restarting || (x.state == .staged && !s.svcFree v) then s
    else (s.activate v g.image g.rollback).updateEnds v .success

def execServiceActivation (v : Nat) (s : State) : Outcome := .next (s.activation v)

/-! ## Restarts (R529-R533) -/

/-- R530: the requests that a group has accepted and not answered; QUEUE_STOP is undone, what the others have begun is
carried through without their responses (log entry 141, DEDUCED). -/
def State.takeRecords (s : State) (v : Nat) : State :=
  (List.range 8).foldl (fun s f =>
    let m := (s.fn f).mb
    if m.outstanding && m.service == v && s.accepted f then
      let qs := s.host.queues.map fun (i, q) =>
        (i, if q.stopFn == some f && q.state == .stopped then { q with state := .active, stopFn := none } else q)
      let s : State := { s with host.queues := qs, fwm.records := s.fwm.records ++ [CmdRecord.mk v f m.seq] }
      let tr := s.brd.testRun
      let s := s.dropRequests f
      { s with brd.testRun := tr.map fun (t, u, g) => (t, u, if g = f then 8 else g) }
    else s) s

/-- A group restarts: its cores are held in reset (log entry 141, DEDUCED). -/
def State.restartGroup (s : State) (v cause core : Nat) : State :=
  let x := s.service v
  if x.state != .running && x.state != .staged then s
  else
    let g := groupOfSvc v
    let s := s.takeRecords v
    let s := (s.setService v { s.service v with state := .restarting, cause := cause, firstCore := core }).setGroup g 2
    let s := (coresOf g).foldl (fun s c => s.rset (0xA02000 + 8 * c) 63 32 (s.counterOf 81 % 2 ^ 32)) s
    s.storageRestart v

/-- WATCHDOG_EXPIRE of a control core. -/
def execWatchdogExpire (core : Nat) (s : State) : Outcome :=
  .next (if core < 16 then s.restartGroup (svcOfGroup (groupOf core)) 0 core else s)

/-- CORE_FAULT: uncorrectable core memory, or an exception that the trap handler cannot handle. -/
def execCoreFault (core : Nat) (memory : Bool) (s : State) : Outcome :=
  .next (if core < 16 then s.restartGroup (svcOfGroup (groupOf core)) (if memory then 1 else 2) core else s)

/-- FW_SERVICE_RESTART: a service that does not run has nothing to restart (log entry 140, DEDUCED). -/
def State.serviceRestart (s : State) (f : Nat) (p : Bytes) : Reply :=
  let v := u32 p 0
  let st := (s.service v).state
  if !coreServices.contains v then Reply.err s .malformed
  else if f % 4 ≠ 0 || st == .absent || st == .failed then Reply.err s .notPermitted
  else Reply.ok (s.restartGroup v 3 (coresOf (groupOfSvc v)).head!) []

def execFwServiceRestart (f : Nat) (s : State) : Outcome := .next (s.perform f 0x0905 fun p s => s.serviceRestart f p)

/-- R244, R530: a command answered ABORTED_BY_FW; a staging command so answered gives up the rules staged. -/
def State.abortRequest (s : State) (r : CmdRecord) : State :=
  let m := (s.fn r.fn).mb
  if m.outstanding && m.seq == r.seq then
    let s := if r.service = 1 && s.holdsLock r.fn then s.abandonRules else s
    s.respond r.fn .abortedByFw [] false
  else s

/-- R524: the requests that wait at a service that is no longer there. -/
def State.downRequests (s : State) (v : Nat) : State :=
  (List.range 8).foldl (fun s f =>
    let m := (s.fn f).mb
    if m.outstanding && m.service == v && !s.accepted f then s.respond f .serviceDown [] false else s) s

/-- The records of a service are settled (log entry 141, DEDUCED). -/
def State.settleRecords (s : State) (v : Nat) : State :=
  let l := s.fwm.records.filter fun r => r.service == v
  l.foldl State.abortRequest { s with fwm.records := s.fwm.records.filter fun r => r.service != v }

/-- A service becomes FAILED: its cores stay in reset. -/
def State.failService (s : State) (v : Nat) : State :=
  let x := s.service v
  let s := (s.setService v { x with state := .failed }).setGroup (groupOfSvc v) 3
  (s.postBoth 0x0903 v ((x.image.map Image.version).getD 0) .success).downRequests v

/-- GROUP_RESTART_COMPLETE: `digestOk` is the check of the RUNNING slot (log entry 141, DEDUCED). -/
def State.restartDone (s : State) (v : Nat) (digestOk : Bool) : State :=
  let x := s.service v
  if x.state != .restarting then s
  else
    let unplanned := x.cause != 3
    let recent := (x.recent.filter fun t => decide (s.now < t.1 + 600_000_000_000)) ++ [(s.now, unplanned)]
    let four := unplanned && decide (4 ≤ (recent.filter fun t => t.2).length)
    let s := (s.setService v { x with recent := recent }).settleRecords v
    let g := groupOfSvc v
    let s := (coresOf g).foldl (fun s c => s.rsat (0xA02000 + 8 * c) 31 16 1) s
    let up (s : State) : State :=
      let s := (s.setService v { s.service v with state := if x.staged.isSome then .staged else .running }).setGroup g 1
      (s.postBoth 0x0901 (v + 256 * x.cause + 2 ^ 16 * x.firstCore) recent.length .success).telResume.powerReturn v
    let back : Option Image := match x.prev with
      | some i => if decide (s.now < x.activatedAt + 600_000_000_000) && decide (s.svnFloor 3 ≤ i.svn) then some i else none
      | none => none
    if four && back.isSome then
      match back with
      | some i =>
        let keep := x.staged
        let s := s.activate v i true
        s.setService v { s.service v with staged := keep, state := if keep.isSome then .staged else .running }
      | none => s
    else if v = 0 then (if four || !digestOk then (s.retireTray 8) else s) |> up
    else if four || !digestOk then s.failService v
    else up s

def execGroupRestartComplete (v : Nat) (digestOk : Bool) (s : State) : Outcome := .next (s.restartDone v digestOk)

/-! ## Configuration items, defaults, logs and traces (R534-R536, R542, R543, R547) -/

/-- R542: whether an item exists, and whether a value is in its range. -/
def itemOk (item v : Nat) : Option Bool :=
  if item = 1 then some (decide (v ≤ 3))
  else if item = 2 ∨ item = 3 then some (decide (v ≤ 1))
  else if 0x0100 ≤ item ∧ item ≤ 0x0109 then
    some (decide (v < 64) && bits v 3 2 != 3 && (if item < 0x0102 then bits v 1 0 == 0 else bits v 1 0 != 0))
  else if item = 0x0110 then some (decide (30 ≤ v) && decide (v ≤ 38))
  else if item = 0x0111 then some (decide (v < 65536))
  else if item = 0x0112 then some (decide (1 ≤ v) && decide (v ≤ 10000))
  else if 0x0120 ≤ item ∧ item ≤ 0x0123 then some (decide (1 ≤ v) && decide (v ≤ 2048))
  else if item = 0x0200 then some (decide (1 ≤ v) && decide (v ≤ 65535))
  else if item = 0x0500 then some (decide (v ≤ 63))
  else if 0x0A80 ≤ item ∧ item ≤ 0x0A8F then some (decide (v ≤ 255))
  else none

/-- FW_CONFIG_SET. -/
def State.configSet (s : State) (f : Nat) (p : Bytes) : Reply :=
  let item := u16 p 0
  let del := bit (u8 p 2) 0
  let v := u64 p 8
  match itemOk item v with
  | none => Reply.err s .malformed
  | some ok =>
    if !del && !ok then Reply.err s .malformed
    else if f % 4 ≠ 0 then Reply.err s .notPermitted
    else if !s.jRoom 16 then Reply.err s .resource
    else
      let s := if item = 0x0500 then s.rset 0x600000 55 48 (if del then 8 else v) else s
      { st := s, journal := [(2, item, del, if del then [] else p)] }

def execFwConfigSet (f : Nat) (s : State) : Outcome := .next (s.perform f 0x0910 fun p s => s.configSet f p)

/-- FW_CONFIG_GET. -/
def State.configGet (s : State) (f : Nat) (p : Bytes) : Reply :=
  if (itemOk (u16 p 0) 0).isNone then Reply.err s .malformed
  else if f % 4 ≠ 0 then Reply.err s .notPermitted
  else match s.jGet 2 (u16 p 0) with
    | some b => Reply.ok s (toLe 8 1 ++ toLe 8 (u64 b 8))
    | none => Reply.ok s (zeros 16)

def execFwConfigGet (f : Nat) (s : State) : Outcome := .next (s.perform f 0x0911 fun p s => s.configGet f p)

/-- The rest of a command that has responded ASYNC and ends once its journal objects are committed
(log entry 138, DEDUCED). -/
def State.journalAsync (s : State) (f opc seq : Nat) (l : List (Nat × Nat × Bool × Bytes)) : State :=
  if l = [] then s.asyncDone (fun a => a.fn == f && a.opcode == opc && a.seq == seq) .success
  else s.journalAll ⟨f, .success, [], none, some (opc, seq)⟩ l

/-- Perform a command that responds ASYNC before its journal objects are written (log entry 138, DEDUCED). -/
def State.performAsync (s : State) (f opc : Nat) (body : Bytes → State → Except Status (Bytes × List (Nat × Nat × Bool × Bytes))) : State :=
  if !s.performable f opc then s
  else
    let m := (s.fn f).mb
    match body m.payload s with
    | .error st => s.answer f st [] none
    | .ok (p, l) => (s.answer f .success p (some 0)).journalAsync f opc m.seq l

/-- FW_PERSIST (log entry 138, DEDUCED). -/
def State.persist (s : State) (f : Nat) (p : Bytes) : Except Status (Bytes × List (Nat × Nat × Bool × Bytes)) :=
  let m := u32 p 0
  if f % 4 ≠ 0 then .error .notPermitted
  else if bit m 0 && decide (65536 < s.emNow.length) then .error .resource
  else
    let l := (if bit m 0 then [(0x0301, 0, false, s.profilesBody), (0x0302, 0, false, s.defaultsBody), (0x0303, 0, false, s.actionsBody),
        (0x0304, 0, false, s.entriesBody)] else []) ++
      (if bit m 1 then [(0x0390, 0, false, s.cassettesBody)] else []) ++
      (if bit m 2 then [(0x0391, 0, false, s.overheadsBody)] else []) ++
      (if bit m 3 then [(0x0392, 0, false, s.modesBody)] else [])
    let need := l.foldl (fun n x => n + 208 * ceilDiv (max 1 x.2.2.2.length) 208) 0
    if l ≠ [] ∧ !s.jRoom need then .error .resource
    else .ok (toLe 4 (if bit m 0 then s.net.current else 0), l)

def execFwPersist (f : Nat) (s : State) : Outcome := .next (s.performAsync f 0x0920 fun p s => s.persist f p)

/-- R547: the record types of an area (log entry 138, DEDUCED). -/
def State.cleared (s : State) (mask : Nat) : List (Nat × Nat × Bool × Bytes) :=
  ((jEffective s.fwm.slots).filter fun o => decide (o.type / 256 < 12) && bit mask (o.type / 256) && o.type != 1 && o.type != 0x0B01).map
    fun o => (o.type, o.key, true, [])

/-- FW_JOURNAL_CLEAR. -/
def execFwJournalClear (f : Nat) (s : State) : Outcome :=
  .next (s.performAsync f 0x0940 fun p s =>
    if f % 4 ≠ 0 then .error .notPermitted
    else
      let l := s.cleared (u32 p 0)
      if l ≠ [] ∧ !s.jRoom (208 * l.length) then .error .resource else .ok ([], l))

/-- FW_LOG_SET (log entry 143, DEDUCED). -/
def State.logSet (s : State) (f : Nat) (p : Bytes) : Reply :=
  let n := u8 p 8
  let lo := u8 p 9
  let irq := u8 p 10
  let h := f / 4
  if n ≠ 0 ∧ (n < 6 ∨ 20 < n ∨ u64 p 0 % 64 ≠ 0 ∨ 4 < lo ∨ (4 < irq ∧ irq ≠ 7) ∨ 4095 < u16 p 12) then Reply.err s .malformed
  else if f % 4 ≠ 0 then Reply.err s .notPermitted
  else if n = 0 then Reply.ok { s with fwm.logs := Map.erase s.fwm.logs h } []
  else
    let r : RingCfg := { addr := u64 p 0, log2 := n, lowest := lo, irqLevel := irq, vector := u16 p 12 }
    Reply.ok (State.rset { s with fwm.logs := Map.put s.fwm.logs h r } (0xA02208 + 8 * h) 63 32 1) []

def execFwLogSet (f : Nat) (s : State) : Outcome := .next (s.perform f 0x0930 fun p s => s.logSet f p)

def aTrace (p : Nat) : Nat := 0xA10000 + 8 * p

/-- FW_TRACE_SET. -/
def State.traceSet (s : State) (f : Nat) (p : Bytes) : Reply :=
  let a := u16 p 0
  let n := u16 p 2
  if n = 0 ∨ 4096 < a + n then Reply.err s .malformed
  else if f % 4 ≠ 0 then Reply.err s .notPermitted
  else Reply.ok ((List.range n).foldl (fun s i => s.rset (aTrace (a + i)) 32 32 (u8 p 4 % 2)) s) []

def execFwTraceSet (f : Nat) (s : State) : Outcome := .next (s.perform f 0x0931 fun p s => s.traceSet f p)

/-- TRACE_POINT_PASS by a core of the point's group, with the record's arguments (log entry 144, DEDUCED). -/
def State.tracePass (s : State) (p core : Nat) (args : List Nat) : State :=
  if 4096 ≤ p || decide (16 ≤ core) || groupOf core ≠ p / 512 || s.rfield (aTrace p) 32 32 = 0 then s
  else (s.rsat (aTrace p) 31 0 1).log core 0 1 p (args.take 5)

def execTracePointPass (p core : Nat) (args : List Nat) (s : State) : Outcome := .next (s.tracePass p core args)

/-! ## The journal (R537-R540, R544) -/

/-- The response or the end of the command whose last object has been committed or has failed
(log entry 134, DEDUCED). -/
def State.journalReply (s : State) (w : JWrite) (st : Option Status) : State :=
  match w.wait with
  | none => s
  | some x =>
    let code := st.getD x.status
    let body := if st.isSome then [] else x.payload
    match x.ends with
    | some (opc, seq) => s.asyncDone (fun a => a.fn == x.fn && a.opcode == opc && a.seq == seq) code
    | none =>
      if x.fn < 8 then s.answer x.fn code body (if st.isSome then none else x.async)
      else if st.isSome then s.spdmError (x.fn - 8) spdmInvalid
      else s.emit (.spdm (x.fn - 8) 0x7E body)

/-- The objects of the same command that follow a failed one are not written; the command ends
(log entry 134, DEDUCED). -/
def State.journalFail (s : State) (w : JWrite) (rest : List JWrite) (st : Status) : State :=
  let s : State := { s with fwm.jpend := rest }
  s.journalReply w (some st)

/-- JOURNAL_WRITE: MGB programs the next slot; `good` is its read-back.  Three failed attempts end the write (R539)
(log entries 134, DEDUCED; 135, DEDUCED). -/
def State.journalWrite (s : State) (good : Bool) : State :=
  match s.fwm.jpend with
  | [] => s
  | w :: rest =>
    if !s.brd.aon || !s.brd.resetN then s
    else if jBankSlots ≤ s.jUsed then s.journalFail w rest .resource
    else if !good then
      let s : State := { s with fwm.slots := s.fwm.slots ++ [.torn] }
      if w.attempts < 2 then { s with fwm.jpend := { w with attempts := w.attempts + 1 } :: rest }
      else
        let s := (s.rset 0xA02200 2 2 1).postBoth 0x0904 s.fwm.bank (s.jUsed - 1) .success
        s.journalFail w rest .mediumError
    else
      let q := jMaxSeq s.fwm.slots + 1
      let o := if w.next = 0 then q else w.objSeq
      let slot := JSlot.record w.type w.key q o w.next w.parts.length w.delete (w.parts.getD w.next [])
      let s : State := { s with fwm.slots := s.fwm.slots ++ [slot] }
      if w.next + 1 < w.parts.length then
        { s with fwm.jpend := { w with next := w.next + 1, objSeq := o, attempts := 0 } :: rest }
      else State.journalReply { s with fwm.jpend := rest } w none

def execJournalWrite (good : Bool) (s : State) : Outcome := .next (s.journalWrite good)

/-- R544: the copies of the objects in effect, with fresh SEQ values from `q`. -/
def jCopies : Nat → List JObj → List JSlot
  | _, [] => []
  | q, o :: t =>
    let ps := jParts (o.body.length / 208) o.body
    ((ps.zipIdx).map fun (b, i) => JSlot.record o.type o.key (q + i) q i ps.length false b) ++ jCopies (q + ps.length) t

/-- The insertion of an object in the order of SEQ. -/
def jInsert (o : JObj) : List JObj → List JObj
  | [] => [o]
  | a :: t => if o.seq < a.seq then o :: a :: t else a :: jInsert o t

/-- COMPACTION (R544): the other bank takes the objects in effect and a seal, and becomes active
(log entry 136, DEDUCED). -/
def State.compact (s : State) : State :=
  if s.jUsed ≤ 196608 then s
  else
    let l := ((jEffective s.fwm.slots).filter fun o => o.type != 1).foldl (fun l o => jInsert o l) []
    let copies := jCopies (jMaxSeq s.fwm.slots + 1) l
    let q := jMaxSeq copies + 1
    let mark := JSlot.record 1 0 q q 0 1 false (toLe 2 ((s.jGen + 1) % 65536))
    { s with fwm.slots := copies ++ [mark], fwm.bank := 1 - s.fwm.bank }

def execCompaction (s : State) : Outcome := .next s.compact

end Sys2Proof.Machine
end

