-- ==== Sys2Proof/Machine/Telemetry.lean ====
section
/-! DEFINITION. Chapter 19: histograms, flow records and their export, the telemetry ring, MCTP, PLDM monitoring and the
PLDM update of the standby image (R599-R613). -/

namespace Sys2Proof.Machine
open Sys2Proof

/-! ## Telemetry commands (R602-R608) -/

/-- TEL_HIST_READ. -/
def State.histRead (s : State) (f : Nat) (p : Bytes) : Reply :=
  let c := u8 p 0
  if 8 ≤ c then Reply.err s .malformed
  else if f % 4 ≠ 0 then Reply.err s .notPermitted
  else
    let out := toLe 8 (s.counterOf 81) ++ (List.range 32).flatMap fun b => toLe 8 (s.rget (aHist c b))
    let s := if bit (u8 p 1) 0 then (List.range 32).foldl (fun s b => s.rput (aHist c b) 0) s else s
    Reply.ok s out

def execTelHistRead (f : Nat) (s : State) : Outcome := .next (s.perform f 0x0B20 fun p s => s.histRead f p)

/-- R604: every cached flow ends (log entry 166, DEDUCED). -/
def State.endFlows (s : State) : State :=
  let l := s.tel.flows
  l.foldl (fun s x => s.exportFlow x 4) { s with tel.flows := [] }

/-- TEL_FLOW_SET (log entry 166, DEDUCED). -/
def State.flowSet (s : State) (f : Nat) (p : Bytes) : Reply :=
  let n := u16 p 4
  let active := u16 p 6
  let idle := u16 p 8
  let subs := (List.range 32).filter fun i => bit (u32 p 0) i
  if active = 0 ∨ 3600 < active ∨ idle = 0 ∨ 600 < idle then Reply.err s .malformed
  else if f % 4 ≠ 0 then Reply.err s .notPermitted
  else
    let s := if subs.any fun i => (Map.get s.tel.sampleN i).getD 0 != n then s.endFlows else s
    Reply.ok { s with
      tel.sampleN := subs.foldl (fun m i => if n = 0 then Map.erase m i else Map.put m i n) s.tel.sampleN
      tel.activeS := subs.foldl (fun m i => Map.put m i active) s.tel.activeS
      tel.idleS := subs.foldl (fun m i => Map.put m i idle) s.tel.idleS } []

def execTelFlowSet (f : Nat) (s : State) : Outcome := .next (s.perform f 0x0B30 fun p s => s.flowSet f p)

/-- TEL_IPFIX_SET (log entry 167, DEDUCED). -/
def State.ipfixSet (s : State) (f : Nat) (p : Bytes) : Reply :=
  let v6 := bit (u8 p 0) 1
  let c : Ipfix := {
    v6 := v6, vlan := bit (u8 p 0) 2, sub := u8 p 1, dscp := u8 p 2, cls := u8 p 3, vid := u16 p 4, port := u16 p 6,
    domain := u32 p 8, src := slice p 16 16, dst := slice p 32 16, mac := slice p 48 6 }
  if !s.subExists c.sub || decide (4095 < c.vid) ||
      (!v6 && ((slice p 20 12).any (· != 0) || (slice p 36 12).any (· != 0))) then Reply.err s .malformed
  else if f % 4 ≠ 0 then Reply.err s .notPermitted
  else if !bit (u8 p 0) 0 then
    Reply.ok { s with tel.ipfix := none, tel.templateDue := false, sch.queues := Map.erase s.sch.queues telQueue } []
  else
    let fresh := match s.tel.ipfix with
      | none => true
      | some o => o.dst != c.dst || o.port != c.port || o.v6 != c.v6 || o.domain != c.domain
    let s : State := { s with tel.ipfix := some c }
    Reply.ok (if fresh then s.sendTemplates else s) []

def execTelIpfixSet (f : Nat) (s : State) : Outcome := .next (s.perform f 0x0B31 fun p s => s.ipfixSet f p)

/-- TEL_FLOW_FLUSH. -/
def State.flowFlush (s : State) (f : Nat) : Reply :=
  if f % 4 ≠ 0 then Reply.err s .notPermitted else Reply.ok s.endFlows (toLe 4 s.tel.flows.length)

def execTelFlowFlush (f : Nat) (s : State) : Outcome := .next (s.perform f 0x0B32 fun _ s => s.flowFlush f)

/-- TEL_RING_SET: one aligned write per record asks for an address that is a multiple of 128
(log entry 169, DEDUCED). -/
def State.ringSet (s : State) (f : Nat) (p : Bytes) : Reply :=
  let n := u8 p 8
  let v := u16 p 10
  if n ≠ 0 ∧ (n < 6 ∨ 20 < n ∨ u64 p 0 % 128 ≠ 0 ∨ (4095 < v ∧ v ≠ 0xFFFF)) then Reply.err s .malformed
  else if f % 4 ≠ 0 then Reply.err s .notPermitted
  else Reply.ok { s with tel.ring := if n = 0 then none else some { addr := u64 p 0, log2 := n, vector := v, fn := f } } []

def execTelRingSet (f : Nat) (s : State) : Outcome := .next (s.perform f 0x0B40 fun p s => s.ringSet f p)

/-! ## The ends of flows (R604, R606) -/

/-- The nanoseconds of a number of seconds. -/
def secs (n : Nat) : Nat := 1_000_000_000 * n

/-- When a flow ends for want of samples, and when its record is due. -/
def State.idleAt (s : State) (x : Flow) : Nat := x.seenAt + secs ((Map.get s.tel.idleS x.key.sub).getD 0)
def State.activeAt (s : State) (x : Flow) : Nat := x.exportedAt + secs ((Map.get s.tel.activeS x.key.sub).getD 0)

/-- A flow ends for want of samples (log entry 166, DEDUCED). -/
def State.flowIdle (s : State) (x : Flow) : State :=
  State.exportFlow { s with tel.flows := s.tel.flows.filter fun y => y.key != x.key } x 1

/-- FLOW_IDLE_TIMEOUT of the cached flow in place `i`. -/
def execFlowIdleTimeout (i : Nat) (s : State) : Outcome :=
  .next (match s.tel.flows[i]? with
    | some x => State.flowIdle { s with now := max s.now (s.idleAt x) } x
    | none => s)

/-- FLOW_ACTIVE_TIMEOUT: the record goes out and its counts restart; an idle flow ends first (R604)
(log entry 166, DEDUCED). -/
def State.flowActive (s : State) (x : Flow) : State :=
  let s : State := { s with now := max s.now (s.activeAt x) }
  if s.idleAt x ≤ s.now then s.flowIdle x
  else
    let s := s.exportFlow x 2
    { s with tel.flows := s.tel.flows.map fun y =>
        if y.key = x.key then { y with octets := 0, packets := 0, exportedAt := s.now } else y }

def execFlowActiveTimeout (i : Nat) (s : State) : Outcome :=
  .next (match s.tel.flows[i]? with
    | some x => s.flowActive x
    | none => s)

/-- TEMPLATE_REFRESH. -/
def execTemplateRefresh (s : State) : Outcome :=
  .next (if s.tel.ipfix.isSome then State.sendTemplates { s with now := max s.now (s.tel.templateAt + secs 600) } else s)

/-! ## MCTP control (R609) -/

/-- A reply to a control message.  Messages reach the endpoint at its EID, and at the null EID
(log entries 171, PRESUMED; 172, DEDUCED). -/
def State.control (s : State) (dst cmd code : Nat) (data : Bytes) : State :=
  if s.mgmtUp && (dst == 0 || dst == s.tel.eid) then s.emit (.mctp 0 cmd code data) else s

/-- SET_ENDPOINT_ID: operation 0 sets and 1 forces the EID (log entry 172, DEDUCED). -/
def execSetEndpointId (dst op eid : Nat) (s : State) : Outcome :=
  .next (
    if 1 < op ∨ eid = 0 ∨ 255 ≤ eid then s.control dst 1 2 []
    else if s.mgmtUp && (dst == 0 || dst == s.tel.eid) then
      State.emit { s with tel.eid := eid } (.mctp 0 1 0 ([0] ++ toLe 1 eid ++ [0]))
    else s)

def execGetEndpointId (dst : Nat) (s : State) : Outcome := .next (s.control dst 2 0 (toLe 1 s.tel.eid ++ [0, 0]))

def execGetEndpointUuid (dst : Nat) (s : State) : Outcome := .next (s.control dst 3 0 (padTo 16 Config.endpointUuid))

/-- The message types of R609. -/
def mctpTypes : List Nat := [0x00, 0x01, 0x05, 0x06, 0x7E]

/-- GET_MCTP_VERSION_SUPPORT: 0xFF asks for the base specification, 1.3. -/
def execGetMctpVersionSupport (dst type : Nat) (s : State) : Outcome :=
  .next (
    if type = 0xFF then s.control dst 4 0 [1, 0xF1, 0xF3, 0xFF, 0]
    else if mctpTypes.contains type then s.control dst 4 0 (Config.mctpVersions type)
    else s.control dst 4 0x80 [])

/-- GET_MESSAGE_TYPE_SUPPORT: the types besides control (log entry 172, DEDUCED). -/
def execGetMessageTypeSupport (dst : Nat) (s : State) : Outcome := .next (s.control dst 5 0 [4, 0x01, 0x05, 0x06, 0x7E])

/-- GET_VENDOR_DEFINED_MESSAGE_SUPPORT: one set, PCI vendor 0x1F9D. -/
def execGetVendorDefinedMessageSupport (dst selector : Nat) (s : State) : Outcome :=
  .next (if selector = 0 then s.control dst 6 0 ([0xFF, 0, 0x1F, 0x9D] ++ toBe 2 Config.vendorSet) else s.control dst 6 2 [])

/-! ## PLDM base and monitoring (R611, R612) -/

/-- A reply to a PLDM command of a type; the standby ROM answers Type 5 alone (R496) (log entry 171, PRESUMED). -/
def State.pldmReply (s : State) (type cmd code : Nat) (data : Bytes) : State :=
  if s.mgmtUp || (type == 5 && s.brd.aon && s.brd.resetN) then s.emit (.mctp 1 (256 * type + cmd) code data) else s

def execGetTid (s : State) : Outcome := .next (s.pldmReply 0 2 0 (toLe 1 s.tel.tid))

def execSetTid (tid : Nat) (s : State) : Outcome :=
  .next (
    if !s.mgmtUp then s
    else if tid = 0 ∨ 255 ≤ tid then s.pldmReply 0 1 2 []
    else State.pldmReply { s with tel.tid := tid } 0 1 0 [])

/-- The PLDM types, and the commands of each (R611, R613). -/
def pldmTypes : List Nat := [0, 2, 5]
def pldmCommands (t : Nat) : Bytes :=
  if t = 0 then [1, 2, 3, 4, 5]
  else if t = 2 then [0x04, 0x11, 0x21, 0x50, 0x51]
  else [0x01, 0x02, 0x10, 0x13, 0x14, 0x15, 0x16, 0x17, 0x18, 0x1A, 0x1B, 0x1C, 0x1D]

def execGetPldmVersion (type : Nat) (s : State) : Outcome :=
  .next (if pldmTypes.contains type then s.pldmReply 0 3 0 (Config.pldmVersions type) else s.pldmReply 0 3 0x83 [])

def execGetPldmTypes (s : State) : Outcome := .next (s.pldmReply 0 4 0 [0, 2, 5])

def execGetPldmCommands (type : Nat) (s : State) : Outcome :=
  .next (if pldmTypes.contains type then s.pldmReply 0 5 0 (pldmCommands type) else s.pldmReply 0 5 0x83 [])

/-- SET_EVENT_RECEIVER: a receiver is named or, with `enable` false, taken away; events that are held go out
(log entry 173, DEDUCED). -/
def execSetEventReceiver (enable : Bool) (eid : Nat) (s : State) : Outcome :=
  .next (
    if !s.mgmtUp then s
    else
      let s := State.pldmReply { s with tel.receiver := if enable then some eid else none } 2 4 0 []
      if enable then s.tel.events.foldl (fun s x => s.emit (.pldmEvent x.sensor x.state)) s else s)

/-- Whether a sensor is numeric, and whether it is a state sensor. -/
def isNumeric (id : Nat) : Bool := decide (1 ≤ id) && decide (id ≤ 13)
def isStateSensor (id : Nat) : Bool := decide (32 ≤ id) && decide (id ≤ 36)

/-- GET_SENSOR_READING: operational state (0 enabled, 2 unavailable), then the reading. -/
def execGetSensorReading (id : Nat) (s : State) : Outcome :=
  .next (
    if !isNumeric id then s.pldmReply 2 0x11 0x80 []
    else if id ≠ 3 ∧ !s.brd.mainPg then s.pldmReply 2 0x11 0 (2 :: zeros 4)
    else s.pldmReply 2 0x11 0 (0 :: toLe 4 ((Map.get s.tel.readings id).getD 0)))

def execGetStateSensorReadings (id : Nat) (s : State) : Outcome :=
  .next (if isStateSensor id then s.pldmReply 2 0x21 0 ([0] ++ toLe 1 (s.sensorState id)) else s.pldmReply 2 0x21 0x80 [])

/-- The PDR repository: one record per sensor, its handle the sensor's ID (log entry 175, DEDUCED). -/
def pdrIds : List Nat := (List.range 13).map (· + 1) ++ (List.range 5).map (· + 32)

def execGetPdrRepositoryInfo (s : State) : Outcome := .next (s.pldmReply 2 0x50 0 (toLe 4 pdrIds.length))

/-- The facts of a sensor's PDR: its ID, then unit and thresholds, or OEM state set and number of states
(log entries 171, PRESUMED; 175, DEDUCED). -/
def pdrOf (id : Nat) : Bytes :=
  if isNumeric id then
    toLe 2 id ++ toLe 1 (if id < 3 then 0 else if id < 13 then 1 else 2) ++ (if id = 3 then [100, 105, 115] else [])
  else toLe 2 id ++ toLe 2 (0x8000 + (id - 32)) ++ toLe 1 (if id < 34 then 2 else 3)

/-- GET_PDR: handle 0 asks for the first record; the next handle is returned with it, 0 after the last
(log entry 175, DEDUCED). -/
def execGetPdr (handle : Nat) (s : State) : Outcome :=
  .next (
    let h := if handle = 0 then 1 else handle
    if pdrIds.contains h then
      let next := if h = 13 then 32 else if h = 36 then 0 else h + 1
      s.pldmReply 2 0x51 0 (toLe 4 next ++ pdrOf h)
    else s.pldmReply 2 0x51 0x82 [])

/-- The thresholds of sensor 3 that a reading has reached (log entry 173, DEDUCED). -/
def tempClass (t : Nat) : Nat := if 115 ≤ t then 3 else if 105 ≤ t then 2 else if 100 ≤ t then 1 else 0

/-- SENSOR_UPDATE: `temps` are the readings of sensors 3 to 12 in °C, `acks` the oldest events that the receiver has
acknowledged since the last update (R611, R612) (log entry 173, DEDUCED). -/
def State.sensorUpdate (s : State) (temps : List Nat) (acks : Nat) : State :=
  if !s.mgmtUp then s
  else
    let s : State := { s with now := max s.now (s.tel.readAt + 100_000_000) }
    let old := tempClass ((Map.get s.tel.readings 3).getD 0)
    let new := tempClass (temps.getD 0 0)
    let m := (List.range 10).foldl (fun m i => Map.put m (3 + i) (temps.getD i 0)) s.tel.readings
    let m := Map.put (Map.put (Map.put m 1 (s.pwr.meanM / 1000)) 2 s.capW) 13 (s.kEff 0)
    let s := State.setAlert { s with tel.readings := m, tel.readAt := s.now, tel.events := s.tel.events.drop acks }
    if old = new then s else s.pldm 3 new

def execSensorUpdate (temps : List Nat) (acks : Nat) (s : State) : Outcome := .next (s.sensorUpdate temps acks)

/-! ## The update of the standby image (R520, R613) -/

/-- Whether MGB, or the standby ROM, takes Type 5 commands. -/
def State.updateUp (s : State) : Bool := s.brd.aon && s.brd.resetN

/-- The copy that is not running (log entry 174, DEDUCED). -/
def State.setSpare (s : State) (x : Copy) : State :=
  if s.fwm.runB then { s with fwm.copyA := x } else { s with fwm.copyB := x }
/-- Log entry 174, DEDUCED. -/
def State.spare (s : State) : Copy := if s.fwm.runB then s.fwm.copyA else s.fwm.copyB

def execQueryDeviceIdentifiers (s : State) : Outcome := .next (s.pldmReply 5 1 0 (toLe 2 0x1F9D ++ toLe 2 0x9490))

/-- The component, the version that runs, and the version that the next RESET_N starts instead. -/
def execGetFirmwareParameters (s : State) : Outcome :=
  .next (
    let run := if s.brd.standbyImage then s.standbyCopy.version else 0
    let x := s.spare
    let wait := if s.brd.standbyImage && x.tagged && x.valid && decide (s.standbyCopy.seq < x.seq) then x.version else 0
    s.pldmReply 5 2 0 (toLe 2 0x000A ++ toLe 2 0x0001 ++ toLe 4 run ++ toLe 4 wait))

/-- REQUEST_UPDATE: `size` is the agent's transfer size. -/
def execRequestUpdate (size : Nat) (s : State) : Outcome :=
  .next (
    if !s.updateUp then s
    else if s.tel.fwUpdate ≠ .idle then s.pldmReply 5 0x10 0x81 []
    else if size < 32 then s.pldmReply 5 0x10 0x83 []
    else State.pldmReply { s with tel.fwUpdate := .learn, tel.fwChunk := min 256 size, tel.fwData := [] } 5 0x10 0 [])

/-- Whether a component is the one that is supported. -/
def isStandbyComponent (cls id : Nat) : Bool := cls == 0x000A && id == 0x0001

/-- PASS_COMPONENT_TABLE: the response says whether the component may be updated. -/
def execPassComponentTable (cls id : Nat) (s : State) : Outcome :=
  .next (
    if !s.updateUp then s
    else match s.tel.fwUpdate with
      | .learn => State.pldmReply { s with tel.fwUpdate := .ready } 5 0x13 0 [if isStandbyComponent cls id then 0 else 1]
      | .idle => s.pldmReply 5 0x13 0x80 []
      | _ => s.pldmReply 5 0x13 0x84 [])

/-- The next piece of an image is asked for. -/
def State.askData (s : State) : State :=
  match s.tel.fwUpdate with
  | .download size => s.emit (.pldmSend 0x15 s.tel.fwData.length (min s.tel.fwChunk (size - s.tel.fwData.length)))
  | _ => s

/-- UPDATE_COMPONENT: the copy that is not running is erased and its transfer begins; a copy holds 32 MiB less its tag
(log entry 174, DEDUCED). -/
def execUpdateComponent (cls id size : Nat) (s : State) : Outcome :=
  .next (
    if !s.updateUp then s
    else match s.tel.fwUpdate with
      | .ready =>
        if isStandbyComponent cls id && decide (1 ≤ size) && decide (size ≤ 2 ^ 25 - 4096) then
          let s := State.setSpare { s with tel.fwUpdate := .download size, tel.fwData := [] } { tagged := false }
          (s.pldmReply 5 0x14 0 [0]).askData
        else s.pldmReply 5 0x14 0 [1]
      | .idle => s.pldmReply 5 0x14 0x80 []
      | _ => s.pldmReply 5 0x14 0x84 [])

/-- R520, steps 3 and 4: the image is verified as TYPE 1 and its copy tagged (log entry 174, DEDUCED). -/
def State.imageArrived (s : State) (b : Bytes) : State :=
  let s := s.emit (.pldmSend 0x16 0 0)
  if s.imageCheck 1 s.anchorOk b != .success then State.emit { s with tel.fwUpdate := .failed } (.pldmSend 0x17 1 0)
  else
    let i := imageOf b
    let q := if s.standbyCopy.tagged then s.standbyCopy.seq else 0
    let s := s.setSpare { tagged := true, seq := (q + 1) % 2 ^ 32, version := i.version, svn := i.svn, digest := i.digest }
    (State.emit { s with tel.fwUpdate := .verified } (.pldmSend 0x17 0 0)).emit (.pldmSend 0x18 0 0)

/-- REQUEST_FIRMWARE_DATA: the requested piece arrives.  A piece of another length is asked for again
(log entry 174, DEDUCED). -/
def State.fwPiece (s : State) (d : Bytes) : State :=
  match s.tel.fwUpdate with
  | .download size =>
    let b := s.tel.fwData ++ d
    if d.length ≠ min s.tel.fwChunk (size - s.tel.fwData.length) then s.askData
    else if b.length < size then State.askData { s with tel.fwData := b }
    else State.imageArrived { s with tel.fwData := [] } b
  | _ => s

def execRequestFirmwareData (d : Bytes) (s : State) : Outcome := .next (if s.updateUp then s.fwPiece d else s)

/-- ACTIVATE_FIRMWARE: the image takes effect at the next RESET_N; self-contained activation is not supported
(log entry 174, DEDUCED). -/
def execActivateFirmware (selfContained : Bool) (s : State) : Outcome :=
  .next (
    if !s.updateUp then s
    else match s.tel.fwUpdate with
      | .verified =>
        if selfContained then s.pldmReply 5 0x1A 0x8C [] else State.pldmReply { s with tel.fwUpdate := .idle } 5 0x1A 0 []
      | .idle => s.pldmReply 5 0x1A 0x80 []
      | .download _ => s.pldmReply 5 0x1A 0x85 []
      | .failed => s.pldmReply 5 0x1A 0x85 []
      | _ => s.pldmReply 5 0x1A 0x84 [])

/-- The state numbers of PLDM_GET_STATUS. -/
def FwUpdate.number : FwUpdate → Nat
  | .idle => 0
  | .learn => 1
  | .ready => 2
  | .download _ => 3
  | .verified => 2
  | .failed => 4

/-- PLDM_GET_STATUS: the state and the bytes received. -/
def execPldmGetStatus (s : State) : Outcome :=
  .next (s.pldmReply 5 0x1B 0 (toLe 1 s.tel.fwUpdate.number ++ toLe 4 s.tel.fwData.length))

def execCancelUpdateComponent (s : State) : Outcome :=
  .next (
    if !s.updateUp then s
    else match s.tel.fwUpdate with
      | .download _ => State.pldmReply { s with tel.fwUpdate := .ready, tel.fwData := [] } 5 0x1C 0 []
      | .failed => State.pldmReply { s with tel.fwUpdate := .ready } 5 0x1C 0 []
      | .idle => s.pldmReply 5 0x1C 0x80 []
      | _ => s.pldmReply 5 0x1C 0x84 [])

def execCancelUpdate (s : State) : Outcome :=
  .next (
    if !s.updateUp then s
    else if s.tel.fwUpdate = .idle then s.pldmReply 5 0x1D 0x80 []
    else State.pldmReply { s with tel.fwUpdate := .idle, tel.fwData := [] } 5 0x1D 0 [])

end Sys2Proof.Machine
end

