-- ==== Sys2Proof/Machine/Dispatch.lean ====
section
/-! DEFINITION. The dispatch of commands: one arm per constructor of Instr. -/

namespace Sys2Proof.Machine
open Sys2Proof

def exec (i : Instr) (s : State) : Host.Outcome State Fault Refusal :=
  match i with
  | .powerOn => Sys2Proof.Machine.execPowerOn s
  | .resetNAssert => Sys2Proof.Machine.execResetNAssert s
  | .resetNRelease straps => Sys2Proof.Machine.execResetNRelease straps s
  | .mainPgRise results => Sys2Proof.Machine.execMainPgRise results s
  | .mainPgTimeout => Sys2Proof.Machine.execMainPgTimeout s
  | .mainPowerLoss => Sys2Proof.Machine.execMainPowerLoss s
  | .thermalTrip => Sys2Proof.Machine.execThermalTrip s
  | .linkTrainingStart h => Sys2Proof.Machine.execLinkTrainingStart h s
  | .downstreamPerstRelease q => Sys2Proof.Machine.execDownstreamPerstRelease q s
  | .hbmFillComplete failed spares ok => Sys2Proof.Machine.execHbmFillComplete failed spares ok s
  | .upstreamPerstAssert h => Sys2Proof.Machine.execUpstreamPerstAssert h s
  | .upstreamPerstRelease h => Sys2Proof.Machine.execUpstreamPerstRelease h s
  | .configRequest f c wr => Sys2Proof.Machine.execConfigRequest f c wr s
  | .d2dReplay link port failed => Sys2Proof.Machine.execD2dReplay link port failed s
  | .meshLaneError uncorrectable o => Sys2Proof.Machine.execMeshLaneError uncorrectable o s
  | .registerWrite f off width value => Sys2Proof.Machine.execRegisterWrite f off width value s
  | .timeSnapTrigger => Sys2Proof.Machine.execTimeSnapTrigger s
  | .periodicSnapshot => Sys2Proof.Machine.execPeriodicSnapshot s
  | .snapshotComplete => Sys2Proof.Machine.execSnapshotComplete s
  | .completionTimeout q tag => Sys2Proof.Machine.execCompletionTimeout q tag s
  | .pcieCompletionReceived q tag f st data ep wr => Sys2Proof.Machine.execPcieCompletionReceived q tag f st data ep wr s
  | .atsInvalidate f pasid all addr size => Sys2Proof.Machine.execAtsInvalidate f pasid all addr size s
  | .pageResponse f pasid page code => Sys2Proof.Machine.execPageResponse f pasid page code s
  | .priTimeout w => Sys2Proof.Machine.execPriTimeout w s
  | .bar4Request q kind off n data ep tag => Sys2Proof.Machine.execBar4Request q kind off n data ep tag s
  | .switchRoutedRequest q kind a n data ep tag => Sys2Proof.Machine.execSwitchRoutedRequest q kind a n data ep tag s
  | .barMemoryRequest q f bar off kind n data tag => Sys2Proof.Machine.execBarMemoryRequest q f bar off kind n data tag s
  | .windowCommit q => Sys2Proof.Machine.execWindowCommit q s
  | .bar4Resize h log2 => Sys2Proof.Machine.execBar4Resize h log2 s
  | .poisonedTlpReceived q f bar off data => Sys2Proof.Machine.execPoisonedTlpReceived q f bar off data s
  | .dpcTrigger q => Sys2Proof.Machine.execDpcTrigger q s
  | .downstreamLinkDown q => Sys2Proof.Machine.execDownstreamLinkDown q s
  | .downstreamLinkUp q => Sys2Proof.Machine.execDownstreamLinkUp q s
  | .dpcStatusClear q => Sys2Proof.Machine.execDpcStatusClear q s
  | .secondaryBusResetSet q => Sys2Proof.Machine.execSecondaryBusResetSet q s
  | .secondaryBusResetClear q => Sys2Proof.Machine.execSecondaryBusResetClear q s
  | .sbrPerstRelease q => Sys2Proof.Machine.execSbrPerstRelease q s
  | .l1Entry q => Sys2Proof.Machine.execL1Entry q s
  | .l0pNarrow q => Sys2Proof.Machine.execL0pNarrow q s
  | .l0pWiden q => Sys2Proof.Machine.execL0pWiden q s
  | .busMasterDisable f => Sys2Proof.Machine.execBusMasterDisable f s
  | .busMasterEnable f => Sys2Proof.Machine.execBusMasterEnable f s
  | .downstreamBmeChange q on => Sys2Proof.Machine.execDownstreamBmeChange q on s
  | .flrInitiate f => Sys2Proof.Machine.execFlrInitiate f s
  | .flrComplete f => Sys2Proof.Machine.execFlrComplete f s
  | .tagQuarantineRelease q tag => Sys2Proof.Machine.execTagQuarantineRelease q tag s
  | .d3hotEntry f => Sys2Proof.Machine.execD3hotEntry f s
  | .d0Entry f => Sys2Proof.Machine.execD0Entry f s
  | .msixUnmask f v => Sys2Proof.Machine.execMsixUnmask f v s
  | .doorbell f off width value => Sys2Proof.Machine.execDoorbell f off width value s
  | .descriptorFetched q ans => Sys2Proof.Machine.execDescriptorFetched q ans s
  | .operationComplete o ans => Sys2Proof.Machine.execOperationComplete o ans s
  | .mailboxPost f value => Sys2Proof.Machine.execMailboxPost f value s
  | .hello f => Sys2Proof.Machine.execHello f s
  | .goodbye f => Sys2Proof.Machine.execGoodbye f s
  | .stateSummary f ans => Sys2Proof.Machine.execStateSummary f ans s
  | .spokeCreate f => Sys2Proof.Machine.execSpokeCreate f s
  | .spokeDestroy f => Sys2Proof.Machine.execSpokeDestroy f s
  | .spokeModify f => Sys2Proof.Machine.execSpokeModify f s
  | .queueCreate f => Sys2Proof.Machine.execQueueCreate f s
  | .queueDestroy f => Sys2Proof.Machine.execQueueDestroy f s
  | .queueStart f => Sys2Proof.Machine.execQueueStart f s
  | .queueStop f => Sys2Proof.Machine.execQueueStop f s
  | .beat f => Sys2Proof.Machine.execBeat f s
  | .heartbeatTimeout f => Sys2Proof.Machine.execHeartbeatTimeout f s
  | .hbmRegionSet f => Sys2Proof.Machine.execHbmRegionSet f s
  | .regionZeroingComplete ix => Sys2Proof.Machine.execRegionZeroingComplete ix s
  | .memEccTest f => Sys2Proof.Machine.execMemEccTest f s
  | .ptInvalidate f => Sys2Proof.Machine.execPtInvalidate f s
  | .memRepairList f => Sys2Proof.Machine.execMemRepairList f s
  | .readRaw f => Sys2Proof.Machine.execReadRaw f s
  | .writeRaw f => Sys2Proof.Machine.execWriteRaw f s
  | .readDecoded f => Sys2Proof.Machine.execReadDecoded f s
  | .scrubRead upsets fixed pin => Sys2Proof.Machine.execScrubRead upsets fixed pin s
  | .hbmSelfRefreshEntry => Sys2Proof.Machine.execHbmSelfRefreshEntry s
  | .copy o rd wr => Sys2Proof.Machine.execCopy o rd wr s
  | .fill o wr => Sys2Proof.Machine.execFill o wr s
  | .frameReceived sub data ok ans => Sys2Proof.Machine.execFrameReceived sub data ok ans s
  | .slowPathInject sub data ans => Sys2Proof.Machine.execSlowPathInject sub data ans s
  | .classifyCacheFill profile key ans => Sys2Proof.Machine.execClassifyCacheFill profile key ans s
  | .ipsecDecryptComplete ix ans => Sys2Proof.Machine.execIpsecDecryptComplete ix ans s
  | .portCommit ix => Sys2Proof.Machine.execPortCommit ix s
  | .subportLinkDown sub => Sys2Proof.Machine.execSubportLinkDown sub s
  | .subportLinkUp sub => Sys2Proof.Machine.execSubportLinkUp sub s
  | .pauseExpire sub prio => Sys2Proof.Machine.execPauseExpire sub prio s
  | .pfcRefresh sub prio => Sys2Proof.Machine.execPfcRefresh sub prio s
  | .send o ans => Sys2Proof.Machine.execSend o ans s
  | .post o ans => Sys2Proof.Machine.execPost o ans s
  | .schedulerSelect sub ans => Sys2Proof.Machine.execSchedulerSelect sub ans s
  | .ruleBegin f => Sys2Proof.Machine.execRuleBegin f s
  | .ruleShift f => Sys2Proof.Machine.execRuleShift f s
  | .ruleAbandon f => Sys2Proof.Machine.execRuleAbandon f s
  | .emAdd f => Sys2Proof.Machine.execEmAdd f s
  | .emDelete f => Sys2Proof.Machine.execEmDelete f s
  | .aclAdd f => Sys2Proof.Machine.execAclAdd f s
  | .aclDelete f => Sys2Proof.Machine.execAclDelete f s
  | .actionSet f => Sys2Proof.Machine.execActionSet f s
  | .defaultSet f => Sys2Proof.Machine.execDefaultSet f s
  | .classMapSet f => Sys2Proof.Machine.execClassMapSet f s
  | .profileSet f => Sys2Proof.Machine.execProfileSet f s
  | .macsecSaSet f => Sys2Proof.Machine.execMacsecSaSet f s
  | .ipsecSaSet f => Sys2Proof.Machine.execIpsecSaSet f s
  | .versionRetire => Sys2Proof.Machine.execVersionRetire s
  | .schServiceSet f => Sys2Proof.Machine.execSchServiceSet f s
  | .meterSet f => Sys2Proof.Machine.execMeterSet f s
  | .meterRead f => Sys2Proof.Machine.execMeterRead f s
  | .arm ix => Sys2Proof.Machine.execArm ix s
  | .disarm ix => Sys2Proof.Machine.execDisarm ix s
  | .gateDisable ix => Sys2Proof.Machine.execGateDisable ix s
  | .gateTakeover ix => Sys2Proof.Machine.execGateTakeover ix s
  | .clockStep ix value => Sys2Proof.Machine.execClockStep ix value s
  | .connCreate f => Sys2Proof.Machine.execConnCreate f s
  | .connConnect f => Sys2Proof.Machine.execConnConnect f s
  | .connDestroy f => Sys2Proof.Machine.execConnDestroy f s
  | .connQuery f => Sys2Proof.Machine.execConnQuery f s
  | .regionRegister f => Sys2Proof.Machine.execRegionRegister f s
  | .regionRevoke f => Sys2Proof.Machine.execRegionRevoke f s
  | .revokeComplete ix => Sys2Proof.Machine.execRevokeComplete ix s
  | .write o ans => Sys2Proof.Machine.execWrite o ans s
  | .writeTag o ans => Sys2Proof.Machine.execWriteTag o ans s
  | .read o => Sys2Proof.Machine.execRead o s
  | .sendMessage o ans => Sys2Proof.Machine.execSendMessage o ans s
  | .sendImm o ans => Sys2Proof.Machine.execSendImm o ans s
  | .writeImm o ans => Sys2Proof.Machine.execWriteImm o ans s
  | .recv o => Sys2Proof.Machine.execRecv o s
  | .writePacket ix ans => Sys2Proof.Machine.execWritePacket ix ans s
  | .writeTagPacket ix ans => Sys2Proof.Machine.execWriteTagPacket ix ans s
  | .readRequest ix ans => Sys2Proof.Machine.execReadRequest ix ans s
  | .readResponse ix ans => Sys2Proof.Machine.execReadResponse ix ans s
  | .ack ix ans => Sys2Proof.Machine.execAck ix ans s
  | .nak ix ans => Sys2Proof.Machine.execNak ix ans s
  | .nakRetry ix => Sys2Proof.Machine.execNakRetry ix s
  | .ackTimer c => Sys2Proof.Machine.execAckTimer c s
  | .retransmitTimeout c psn => Sys2Proof.Machine.execRetransmitTimeout c psn s
  | .pathSuspectExpire c path => Sys2Proof.Machine.execPathSuspectExpire c path s
  | .retryLaterResend c psn => Sys2Proof.Machine.execRetryLaterResend c psn s
  | .retryLaterExpire c psn => Sys2Proof.Machine.execRetryLaterExpire c psn s
  | .rocePacketReceived ix ans => Sys2Proof.Machine.execRocePacketReceived ix ans s
  | .roceAckTimeout c psn => Sys2Proof.Machine.execRoceAckTimeout c psn s
  | .rnrTimer c => Sys2Proof.Machine.execRnrTimer c s
  | .roceRateRecovery c => Sys2Proof.Machine.execRoceRateRecovery c s
  | .counterAlloc f => Sys2Proof.Machine.execCounterAlloc f s
  | .counterFree f => Sys2Proof.Machine.execCounterFree f s
  | .counterSet f => Sys2Proof.Machine.execCounterSet f s
  | .counterAdd f => Sys2Proof.Machine.execCounterAdd f s
  | .counterRead f => Sys2Proof.Machine.execCounterRead f s
  | .counterUpdate ans => Sys2Proof.Machine.execCounterUpdate ans s
  | .mirrorWriteFailed c st => Sys2Proof.Machine.execMirrorWriteFailed c st s
  | .triggerBind f => Sys2Proof.Machine.execTriggerBind f s
  | .triggerUnbind f => Sys2Proof.Machine.execTriggerUnbind f s
  | .triggerReset f => Sys2Proof.Machine.execTriggerReset f s
  | .run o ans mans => Sys2Proof.Machine.execRun o ans mans s
  | .jobBind j tiles ans => Sys2Proof.Machine.execJobBind j tiles ans s
  | .schedulerDecision => Sys2Proof.Machine.execSchedulerDecision s
  | .contextSaveComplete t => Sys2Proof.Machine.execContextSaveComplete t s
  | .contextRestoreComplete t => Sys2Proof.Machine.execContextRestoreComplete t s
  | .jobComplete j ans => Sys2Proof.Machine.execJobComplete j ans s
  | .runLimitExpire j => Sys2Proof.Machine.execRunLimitExpire j s
  | .deadlockTimeout j => Sys2Proof.Machine.execDeadlockTimeout j s
  | .tileRetire f => Sys2Proof.Machine.execTileRetire f s
  | .tileGate t => Sys2Proof.Machine.execTileGate t s
  | .bundleIssue t upsets srcs ans => Sys2Proof.Machine.execBundleIssue t upsets srcs ans s
  | .controllerEnable h cc => Sys2Proof.Machine.execControllerEnable h cc s
  | .controllerReady h => Sys2Proof.Machine.execControllerReady h s
  | .controllerReset h => Sys2Proof.Machine.execControllerReset h s
  | .shutdown h shn => Sys2Proof.Machine.execShutdown h shn s
  | .nvmeSqDoorbell c q tail ans => Sys2Proof.Machine.execNvmeSqDoorbell c q tail ans s
  | .nvmeCqDoorbell c q head => Sys2Proof.Machine.execNvmeCqDoorbell c q head s
  | .deleteIoSubmissionQueue ix => Sys2Proof.Machine.execDeleteIoSubmissionQueue ix s
  | .createIoSubmissionQueue ix => Sys2Proof.Machine.execCreateIoSubmissionQueue ix s
  | .getLogPage ix lists ans => Sys2Proof.Machine.execGetLogPage ix lists ans s
  | .deleteIoCompletionQueue ix => Sys2Proof.Machine.execDeleteIoCompletionQueue ix s
  | .createIoCompletionQueue ix => Sys2Proof.Machine.execCreateIoCompletionQueue ix s
  | .identify ix lists ans => Sys2Proof.Machine.execIdentify ix lists ans s
  | .abort ix => Sys2Proof.Machine.execAbort ix s
  | .setFeatures ix => Sys2Proof.Machine.execSetFeatures ix s
  | .getFeatures ix => Sys2Proof.Machine.execGetFeatures ix s
  | .asynchronousEventRequest ix => Sys2Proof.Machine.execAsynchronousEventRequest ix s
  | .flush ix => Sys2Proof.Machine.execFlush ix s
  | .nvmeWrite ix lists ans => Sys2Proof.Machine.execNvmeWrite ix lists ans s
  | .nvmeRead ix => Sys2Proof.Machine.execNvmeRead ix s
  | .writeZeroes ix => Sys2Proof.Machine.execWriteZeroes ix s
  | .datasetManagement ix lists ans => Sys2Proof.Machine.execDatasetManagement ix lists ans s
  | .backingCompletion id st data lists ans => Sys2Proof.Machine.execBackingCompletion id st data lists ans s
  | .backingPathLoss b => Sys2Proof.Machine.execBackingPathLoss b s
  | .backingReconnect b => Sys2Proof.Machine.execBackingReconnect b s
  | .lossTmoExpire b => Sys2Proof.Machine.execLossTmoExpire b s
  | .mirrorPathTimeout ns sideB => Sys2Proof.Machine.execMirrorPathTimeout ns sideB s
  | .intentBitClear ns u => Sys2Proof.Machine.execIntentBitClear ns u s
  | .resyncComplete ns => Sys2Proof.Machine.execResyncComplete ns s
  | .stoBackingAdd f st lbaf nawupf nabspf nsze zeroes => Sys2Proof.Machine.execStoBackingAdd f st lbaf nawupf nabspf nsze zeroes s
  | .stoBackingRemove f => Sys2Proof.Machine.execStoBackingRemove f s
  | .stoNsCreate f => Sys2Proof.Machine.execStoNsCreate f s
  | .stoNsDelete f => Sys2Proof.Machine.execStoNsDelete f s
  | .stoNsAttach f => Sys2Proof.Machine.execStoNsAttach f s
  | .stoCtrlCreate f => Sys2Proof.Machine.execStoCtrlCreate f s
  | .stoCtrlDestroy f => Sys2Proof.Machine.execStoCtrlDestroy f s
  | .stoMirrorReattach f => Sys2Proof.Machine.execStoMirrorReattach f s
  | .ckpSessionOpen f table slots => Sys2Proof.Machine.execCkpSessionOpen f table slots s
  | .ckpSessionClose f => Sys2Proof.Machine.execCkpSessionClose f s
  | .ckpDrainSet f => Sys2Proof.Machine.execCkpDrainSet f s
  | .ckpQuery f => Sys2Proof.Machine.execCkpQuery f s
  | .capture o ans => Sys2Proof.Machine.execCapture o ans s
  | .capturePageRead k lane ans => Sys2Proof.Machine.execCapturePageRead k lane ans s
  | .protectedWrite k page ans => Sys2Proof.Machine.execProtectedWrite k page ans s
  | .captureTimeout k => Sys2Proof.Machine.execCaptureTimeout k s
  | .drainExtentWritten k st => Sys2Proof.Machine.execDrainExtentWritten k st s
  | .manifestWriteComplete k st => Sys2Proof.Machine.execManifestWriteComplete k st s
  | .restore o slots maps => Sys2Proof.Machine.execRestore o slots maps s
  | .restorePageRead k ans wr => Sys2Proof.Machine.execRestorePageRead k ans wr s
  | .keyGenerate f => Sys2Proof.Machine.execKeyGenerate f s
  | .keyImport f => Sys2Proof.Machine.execKeyImport f s
  | .keyDestroy f => Sys2Proof.Machine.execKeyDestroy f s
  | .keyQuery f => Sys2Proof.Machine.execKeyQuery f s
  | .keyWrap f => Sys2Proof.Machine.execKeyWrap f s
  | .mcodeKeyEnroll f => Sys2Proof.Machine.execMcodeKeyEnroll f s
  | .svnCommit f => Sys2Proof.Machine.execSvnCommit f s
  | .fuseProgram f => Sys2Proof.Machine.execFuseProgram f s
  | .cipherInit f => Sys2Proof.Machine.execCipherInit f s
  | .cipherUpdate f rd wr => Sys2Proof.Machine.execCipherUpdate f rd wr s
  | .cipherFinal f => Sys2Proof.Machine.execCipherFinal f s
  | .ctxExport f wr => Sys2Proof.Machine.execCtxExport f wr s
  | .ctxImport f rd => Sys2Proof.Machine.execCtxImport f rd s
  | .debugChallenge f => Sys2Proof.Machine.execDebugChallenge f s
  | .debugUnlock f ans clean => Sys2Proof.Machine.execDebugUnlock f ans clean s
  | .debugLock f => Sys2Proof.Machine.execDebugLock f s
  | .dbgAuthRead => Sys2Proof.Machine.execDbgAuthRead s
  | .dbgAuthWrite b clean => Sys2Proof.Machine.execDbgAuthWrite b clean s
  | .cipherCheckFault engine h user arg => Sys2Proof.Machine.execCipherCheckFault engine h user arg s
  | .keyReinstallComplete h engineOk slotOk => Sys2Proof.Machine.execKeyReinstallComplete h engineOk slotOk s
  | .keyRamUncorrectable h => Sys2Proof.Machine.execKeyRamUncorrectable h s
  | .getVersion t req => Sys2Proof.Machine.execGetVersion t req s
  | .getCapabilities t req => Sys2Proof.Machine.execGetCapabilities t req s
  | .negotiateAlgorithms t req => Sys2Proof.Machine.execNegotiateAlgorithms t req s
  | .getDigests t req => Sys2Proof.Machine.execGetDigests t req s
  | .getCertificate t req slot off n => Sys2Proof.Machine.execGetCertificate t req slot off n s
  | .challenge t req slot => Sys2Proof.Machine.execChallenge t req slot s
  | .getMeasurements t req op sign => Sys2Proof.Machine.execGetMeasurements t req op sign s
  | .keyExchange t req => Sys2Proof.Machine.execKeyExchange t req s
  | .finish t sid req ok => Sys2Proof.Machine.execFinish t sid req ok s
  | .heartbeat t sid => Sys2Proof.Machine.execHeartbeat t sid s
  | .keyUpdate t sid => Sys2Proof.Machine.execKeyUpdate t sid s
  | .endSession t sid => Sys2Proof.Machine.execEndSession t sid s
  | .keyInstallWrap t sid cls persist key => Sys2Proof.Machine.execKeyInstallWrap t sid cls persist key s
  | .fwBundleLoad f hdr fields images => Sys2Proof.Machine.execFwBundleLoad f hdr fields images s
  | .fwStatus f => Sys2Proof.Machine.execFwStatus f s
  | .fwServiceUpdate f ans => Sys2Proof.Machine.execFwServiceUpdate f ans s
  | .fwServiceCancel f => Sys2Proof.Machine.execFwServiceCancel f s
  | .fwServiceRestart f => Sys2Proof.Machine.execFwServiceRestart f s
  | .fwConfigSet f => Sys2Proof.Machine.execFwConfigSet f s
  | .fwConfigGet f => Sys2Proof.Machine.execFwConfigGet f s
  | .fwPersist f => Sys2Proof.Machine.execFwPersist f s
  | .fwLogSet f => Sys2Proof.Machine.execFwLogSet f s
  | .fwTraceSet f => Sys2Proof.Machine.execFwTraceSet f s
  | .fwJournalClear f => Sys2Proof.Machine.execFwJournalClear f s
  | .serviceActivation v => Sys2Proof.Machine.execServiceActivation v s
  | .updateWaitTimeout v => Sys2Proof.Machine.execUpdateWaitTimeout v s
  | .watchdogExpire core => Sys2Proof.Machine.execWatchdogExpire core s
  | .coreFault core memory => Sys2Proof.Machine.execCoreFault core memory s
  | .groupRestartComplete v digestOk => Sys2Proof.Machine.execGroupRestartComplete v digestOk s
  | .journalWrite good => Sys2Proof.Machine.execJournalWrite good s
  | .compaction => Sys2Proof.Machine.execCompaction s
  | .tracePointPass p core args => Sys2Proof.Machine.execTracePointPass p core args s
  | .limiterTick raw tile stor => Sys2Proof.Machine.execLimiterTick raw tile stor s
  | .kRampDown => Sys2Proof.Machine.execKRampDown s
  | .offsetUpdate m e => Sys2Proof.Machine.execOffsetUpdate m e s
  | .divergenceWindow m e missing => Sys2Proof.Machine.execDivergenceWindow m e missing s
  | .droopTrip => Sys2Proof.Machine.execDroopTrip s
  | .droopHoldExpire => Sys2Proof.Machine.execDroopHoldExpire s
  | .thermalSample t => Sys2Proof.Machine.execThermalSample t s
  | .pwrLimitSet f => Sys2Proof.Machine.execPwrLimitSet f s
  | .pelotonJoin f => Sys2Proof.Machine.execPelotonJoin f s
  | .pelotonLeave f => Sys2Proof.Machine.execPelotonLeave f s
  | .crSet f => Sys2Proof.Machine.execCrSet f s
  | .cadence ix => Sys2Proof.Machine.execCadence ix s
  | .roundFinish => Sys2Proof.Machine.execRoundFinish s
  | .countFrame ttl src seq epoch body ok => Sys2Proof.Machine.execCountFrame ttl src seq epoch body ok s
  | .budgetFrame ttl src seq epoch body ok => Sys2Proof.Machine.execBudgetFrame ttl src seq epoch body ok s
  | .ackFrame ttl src seq epoch body ok => Sys2Proof.Machine.execAckFrame ttl src seq epoch body ok s
  | .faultFrame ttl src seq epoch body ok => Sys2Proof.Machine.execFaultFrame ttl src seq epoch body ok s
  | .faultRetransmit seq => Sys2Proof.Machine.execFaultRetransmit seq s
  | .budgetTimeout => Sys2Proof.Machine.execBudgetTimeout s
  | .joinBypassSettled => Sys2Proof.Machine.execJoinBypassSettled s
  | .joinedRepeat => Sys2Proof.Machine.execJoinedRepeat s
  | .leaveBypassClose => Sys2Proof.Machine.execLeaveBypassClose s
  | .deviceSoftReset f => Sys2Proof.Machine.execDeviceSoftReset f s
  | .softResetComplete results failed spares ok => Sys2Proof.Machine.execSoftResetComplete results failed spares ok s
  | .standbyEnter f => Sys2Proof.Machine.execStandbyEnter f s
  | .mctpStandbyEnter => Sys2Proof.Machine.execMctpStandbyEnter s
  | .standbyExit => Sys2Proof.Machine.execStandbyExit s
  | .getStatus => Sys2Proof.Machine.execGetStatus s
  | .tstRun f => Sys2Proof.Machine.execTstRun f s
  | .tstResults f => Sys2Proof.Machine.execTstResults f s
  | .trayRetireClear f => Sys2Proof.Machine.execTrayRetireClear f s
  | .telHistRead f => Sys2Proof.Machine.execTelHistRead f s
  | .telFlowSet f => Sys2Proof.Machine.execTelFlowSet f s
  | .telIpfixSet f => Sys2Proof.Machine.execTelIpfixSet f s
  | .telFlowFlush f => Sys2Proof.Machine.execTelFlowFlush f s
  | .telRingSet f => Sys2Proof.Machine.execTelRingSet f s
  | .flowIdleTimeout ix => Sys2Proof.Machine.execFlowIdleTimeout ix s
  | .flowActiveTimeout ix => Sys2Proof.Machine.execFlowActiveTimeout ix s
  | .templateRefresh => Sys2Proof.Machine.execTemplateRefresh s
  | .setEndpointId dst op eid => Sys2Proof.Machine.execSetEndpointId dst op eid s
  | .getEndpointId dst => Sys2Proof.Machine.execGetEndpointId dst s
  | .getEndpointUuid dst => Sys2Proof.Machine.execGetEndpointUuid dst s
  | .getMctpVersionSupport dst type => Sys2Proof.Machine.execGetMctpVersionSupport dst type s
  | .getMessageTypeSupport dst => Sys2Proof.Machine.execGetMessageTypeSupport dst s
  | .getVendorDefinedMessageSupport dst selector => Sys2Proof.Machine.execGetVendorDefinedMessageSupport dst selector s
  | .getTid => Sys2Proof.Machine.execGetTid s
  | .setTid tid => Sys2Proof.Machine.execSetTid tid s
  | .getPldmVersion type => Sys2Proof.Machine.execGetPldmVersion type s
  | .getPldmTypes => Sys2Proof.Machine.execGetPldmTypes s
  | .getPldmCommands type => Sys2Proof.Machine.execGetPldmCommands type s
  | .setEventReceiver enable eid => Sys2Proof.Machine.execSetEventReceiver enable eid s
  | .getSensorReading id => Sys2Proof.Machine.execGetSensorReading id s
  | .getStateSensorReadings id => Sys2Proof.Machine.execGetStateSensorReadings id s
  | .getPdrRepositoryInfo => Sys2Proof.Machine.execGetPdrRepositoryInfo s
  | .getPdr handle => Sys2Proof.Machine.execGetPdr handle s
  | .sensorUpdate temps acks => Sys2Proof.Machine.execSensorUpdate temps acks s
  | .queryDeviceIdentifiers => Sys2Proof.Machine.execQueryDeviceIdentifiers s
  | .getFirmwareParameters => Sys2Proof.Machine.execGetFirmwareParameters s
  | .requestUpdate size => Sys2Proof.Machine.execRequestUpdate size s
  | .passComponentTable cls id => Sys2Proof.Machine.execPassComponentTable cls id s
  | .updateComponent cls id size => Sys2Proof.Machine.execUpdateComponent cls id size s
  | .requestFirmwareData d => Sys2Proof.Machine.execRequestFirmwareData d s
  | .activateFirmware selfContained => Sys2Proof.Machine.execActivateFirmware selfContained s
  | .pldmGetStatus => Sys2Proof.Machine.execPldmGetStatus s
  | .cancelUpdateComponent => Sys2Proof.Machine.execCancelUpdateComponent s
  | .cancelUpdate => Sys2Proof.Machine.execCancelUpdate s
  | .vddAonRemoved => Sys2Proof.Machine.execVddAonRemoved s
  | .standbyEntered => Sys2Proof.Machine.execStandbyEntered s
  | .windowRequestPerformed ix => Sys2Proof.Machine.execWindowRequestPerformed ix s
  | .connDestroyComplete c => Sys2Proof.Machine.execConnDestroyComplete c s
  | .cwndRise c => Sys2Proof.Machine.execCwndRise c s
  | .bucketRefill sub => Sys2Proof.Machine.execBucketRefill sub s
  | .gateEntryChange ix => Sys2Proof.Machine.execGateEntryChange ix s
  | .cadenceChanged => Sys2Proof.Machine.execCadenceChanged s
  | .testComplete passed durationUs fails locator => Sys2Proof.Machine.execTestComplete passed durationUs fails locator s

end Sys2Proof.Machine
end

