-- ==== Sys2Proof/Machine/Step.lean ====
section
/-! DEFINITION. One step: the command at the front of the queue acts, or the block idles for a nanosecond. -/

namespace Sys2Proof.Machine
open Sys2Proof

/-- Take the command at the front and perform it on the state with the rest of the queue; with nothing to do, time passes
(log entries 1, DESIGN CHOICE; 177, DEDUCED). -/
def step (s : State) : Host.Outcome State Fault Refusal :=
  match s.pending with
  | [] => .next { s with now := s.now + 1 }
  | c :: rest => exec c { s with pending := rest }

/-- The state with the command that a word spells at the front of its queue (log entry 4, DESIGN CHOICE). -/
def State.withFetchWord (s : State) (nbits w : Nat) : State :=
  match decodeTableWord nbits w with
  | some c => { s with pending := c :: s.pending }
  | none => s

end Sys2Proof.Machine
end

