-- ==== Sys2Proof/WellFormed.lean ====
section
/-! DEFINITION. Well-formed commands: their operands name functions, hierarchies, ports, sub-ports, tiles, queues,
connections and other numbered things that the H9 has.  A command that is not well formed finds nothing that it names and
changes nothing, or no more than time. -/

namespace Sys2Proof

/-- Whether every numbered operand of a command is in its range (log entry 5, DEDUCED). -/
def Instr.wf : Instr → Bool
  | .powerOn => true
  | .resetNAssert => true
  | .resetNRelease straps => decide (straps < 1024)
  | .mainPgRise _ => true
  | .mainPgTimeout => true
  | .mainPowerLoss => true
  | .thermalTrip => true
  | .linkTrainingStart h => decide (h < 2)
  | .downstreamPerstRelease q => decide (q < 40)
  | .hbmFillComplete _ _ _ => true
  | .upstreamPerstAssert h => decide (h < 2)
  | .upstreamPerstRelease h => decide (h < 2)
  | .configRequest f _ _ => decide (f < 8)
  | .d2dReplay link port _ => decide (link < 2) && decide (port < 8)
  | .meshLaneError _ _ => true
  | .registerWrite f _ _ _ => decide (f < 8)
  | .timeSnapTrigger => true
  | .periodicSnapshot => true
  | .snapshotComplete => true
  | .completionTimeout q tag => decide (q < 40) && decide (tag < 16384)
  | .pcieCompletionReceived q tag f _ _ _ _ => decide (q < 40) && decide (tag < 16384) && decide (f < 8)
  | .atsInvalidate f _ _ _ _ => decide (f < 8)
  | .pageResponse f _ _ _ => decide (f < 8)
  | .priTimeout _ => true
  | .bar4Request q _ _ _ _ _ tag => decide (q < 40) && decide (tag < 16384)
  | .switchRoutedRequest q _ _ _ _ _ tag => decide (q < 40) && decide (tag < 16384)
  | .barMemoryRequest q f bar _ _ _ _ tag => decide (q < 40) && decide (f < 8) && decide (bar < 6) && decide (tag < 16384)
  | .windowCommit q => decide (q < 40)
  | .bar4Resize h log2 => decide (h < 2) && decide (log2 < 64)
  | .poisonedTlpReceived q f bar _ _ => decide (q < 40) && decide (f < 8) && decide (bar < 6)
  | .dpcTrigger q => decide (q < 40)
  | .downstreamLinkDown q => decide (q < 40)
  | .downstreamLinkUp q => decide (q < 40)
  | .dpcStatusClear q => decide (q < 40)
  | .secondaryBusResetSet q => decide (q < 40)
  | .secondaryBusResetClear q => decide (q < 40)
  | .sbrPerstRelease q => decide (q < 40)
  | .l1Entry q => decide (q < 40)
  | .l0pNarrow q => decide (q < 40)
  | .l0pWiden q => decide (q < 40)
  | .busMasterDisable f => decide (f < 8)
  | .busMasterEnable f => decide (f < 8)
  | .downstreamBmeChange q _ => decide (q < 40)
  | .flrInitiate f => decide (f < 8)
  | .flrComplete f => decide (f < 8)
  | .tagQuarantineRelease q tag => decide (q < 40) && decide (tag < 16384)
  | .d3hotEntry f => decide (f < 8)
  | .d0Entry f => decide (f < 8)
  | .msixUnmask f v => decide (f < 8) && decide (v < 4096)
  | .doorbell f _ _ _ => decide (f < 8)
  | .descriptorFetched q _ => decide (q < 131072)
  | .operationComplete _ _ => true
  | .mailboxPost f _ => decide (f < 8)
  | .hello f => decide (f < 8)
  | .goodbye f => decide (f < 8)
  | .stateSummary f _ => decide (f < 8)
  | .spokeCreate f => decide (f < 8)
  | .spokeDestroy f => decide (f < 8)
  | .spokeModify f => decide (f < 8)
  | .queueCreate f => decide (f < 8)
  | .queueDestroy f => decide (f < 8)
  | .queueStart f => decide (f < 8)
  | .queueStop f => decide (f < 8)
  | .beat f => decide (f < 8)
  | .heartbeatTimeout f => decide (f < 8)
  | .hbmRegionSet f => decide (f < 8)
  | .regionZeroingComplete i => decide (i < 64)
  | .memEccTest f => decide (f < 8)
  | .ptInvalidate f => decide (f < 8)
  | .memRepairList f => decide (f < 8)
  | .readRaw f => decide (f < 8)
  | .writeRaw f => decide (f < 8)
  | .readDecoded f => decide (f < 8)
  | .scrubRead _ _ _ => true
  | .hbmSelfRefreshEntry => true
  | .copy _ _ _ => true
  | .fill _ _ => true
  | .frameReceived sub data _ _ => decide (sub < 32) && decide (data.length ≤ 65535)
  | .slowPathInject sub _ _ => decide (sub < 32)
  | .classifyCacheFill _ _ _ => true
  | .ipsecDecryptComplete _ _ => true
  | .portCommit i => decide (i < 8)
  | .subportLinkDown sub => decide (sub < 32)
  | .subportLinkUp sub => decide (sub < 32)
  | .pauseExpire sub prio => decide (sub < 32) && decide (prio < 8)
  | .pfcRefresh sub prio => decide (sub < 32) && decide (prio < 8)
  | .send _ _ => true
  | .post _ _ => true
  | .schedulerSelect sub _ => decide (sub < 32)
  | .ruleBegin f => decide (f < 8)
  | .ruleShift f => decide (f < 8)
  | .ruleAbandon f => decide (f < 8)
  | .emAdd f => decide (f < 8)
  | .emDelete f => decide (f < 8)
  | .aclAdd f => decide (f < 8)
  | .aclDelete f => decide (f < 8)
  | .actionSet f => decide (f < 8)
  | .defaultSet f => decide (f < 8)
  | .classMapSet f => decide (f < 8)
  | .profileSet f => decide (f < 8)
  | .macsecSaSet f => decide (f < 8)
  | .ipsecSaSet f => decide (f < 8)
  | .versionRetire => true
  | .schServiceSet f => decide (f < 8)
  | .meterSet f => decide (f < 8)
  | .meterRead f => decide (f < 8)
  | .arm i => decide (i < 8)
  | .disarm i => decide (i < 8)
  | .gateDisable i => decide (i < 8)
  | .gateTakeover i => decide (i < 8)
  | .clockStep i _ => decide (i < 8)
  | .connCreate f => decide (f < 8)
  | .connConnect f => decide (f < 8)
  | .connDestroy f => decide (f < 8)
  | .connQuery f => decide (f < 8)
  | .regionRegister f => decide (f < 8)
  | .regionRevoke f => decide (f < 8)
  | .revokeComplete _ => true
  | .write _ _ => true
  | .writeTag _ _ => true
  | .read _ => true
  | .sendMessage _ _ => true
  | .sendImm _ _ => true
  | .writeImm _ _ => true
  | .recv _ => true
  | .writePacket _ _ => true
  | .writeTagPacket _ _ => true
  | .readRequest _ _ => true
  | .readResponse _ _ => true
  | .ack _ _ => true
  | .nak _ _ => true
  | .nakRetry _ => true
  | .ackTimer c => decide (c < 16777216)
  | .retransmitTimeout c psn => decide (c < 16777216) && decide (psn < 4294967296)
  | .pathSuspectExpire c _ => decide (c < 16777216)
  | .retryLaterResend c psn => decide (c < 16777216) && decide (psn < 4294967296)
  | .retryLaterExpire c psn => decide (c < 16777216) && decide (psn < 4294967296)
  | .rocePacketReceived _ _ => true
  | .roceAckTimeout c psn => decide (c < 16777216) && decide (psn < 4294967296)
  | .rnrTimer c => decide (c < 16777216)
  | .roceRateRecovery c => decide (c < 16777216)
  | .counterAlloc f => decide (f < 8)
  | .counterFree f => decide (f < 8)
  | .counterSet f => decide (f < 8)
  | .counterAdd f => decide (f < 8)
  | .counterRead f => decide (f < 8)
  | .counterUpdate _ => true
  | .mirrorWriteFailed c _ => decide (c < 16384)
  | .triggerBind f => decide (f < 8)
  | .triggerUnbind f => decide (f < 8)
  | .triggerReset f => decide (f < 8)
  | .run _ _ _ => true
  | .jobBind _ _ _ => true
  | .schedulerDecision => true
  | .contextSaveComplete t => decide (t < 64)
  | .contextRestoreComplete t => decide (t < 64)
  | .jobComplete _ _ => true
  | .runLimitExpire _ => true
  | .deadlockTimeout _ => true
  | .tileRetire f => decide (f < 8)
  | .tileGate t => decide (t < 64)
  | .bundleIssue t _ _ _ => decide (t < 64)
  | .controllerEnable h _ => decide (h < 2)
  | .controllerReady h => decide (h < 2)
  | .controllerReset h => decide (h < 2)
  | .shutdown h _ => decide (h < 2)
  | .nvmeSqDoorbell c q _ _ => decide (c < 2048) && decide (q < 65536)
  | .nvmeCqDoorbell c q _ => decide (c < 2048) && decide (q < 65536)
  | .deleteIoSubmissionQueue _ => true
  | .createIoSubmissionQueue _ => true
  | .getLogPage _ _ _ => true
  | .deleteIoCompletionQueue _ => true
  | .createIoCompletionQueue _ => true
  | .identify _ _ _ => true
  | .abort _ => true
  | .setFeatures _ => true
  | .getFeatures _ => true
  | .asynchronousEventRequest _ => true
  | .flush _ => true
  | .nvmeWrite _ _ _ => true
  | .nvmeRead _ => true
  | .writeZeroes _ => true
  | .datasetManagement _ _ _ => true
  | .backingCompletion _ _ _ _ _ => true
  | .backingPathLoss b => decide (b < 256)
  | .backingReconnect b => decide (b < 256)
  | .lossTmoExpire b => decide (b < 256)
  | .mirrorPathTimeout ns _ => decide (ns < 1025)
  | .intentBitClear ns _ => decide (ns < 1025)
  | .resyncComplete ns => decide (ns < 1025)
  | .stoBackingAdd f _ _ _ _ _ _ => decide (f < 8)
  | .stoBackingRemove f => decide (f < 8)
  | .stoNsCreate f => decide (f < 8)
  | .stoNsDelete f => decide (f < 8)
  | .stoNsAttach f => decide (f < 8)
  | .stoCtrlCreate f => decide (f < 8)
  | .stoCtrlDestroy f => decide (f < 8)
  | .stoMirrorReattach f => decide (f < 8)
  | .ckpSessionOpen f _ _ => decide (f < 8)
  | .ckpSessionClose f => decide (f < 8)
  | .ckpDrainSet f => decide (f < 8)
  | .ckpQuery f => decide (f < 8)
  | .capture _ _ => true
  | .capturePageRead _ _ _ => true
  | .protectedWrite _ _ _ => true
  | .captureTimeout _ => true
  | .drainExtentWritten _ _ => true
  | .manifestWriteComplete _ _ => true
  | .restore _ _ _ => true
  | .restorePageRead _ _ _ => true
  | .keyGenerate f => decide (f < 8)
  | .keyImport f => decide (f < 8)
  | .keyDestroy f => decide (f < 8)
  | .keyQuery f => decide (f < 8)
  | .keyWrap f => decide (f < 8)
  | .mcodeKeyEnroll f => decide (f < 8)
  | .svnCommit f => decide (f < 8)
  | .fuseProgram f => decide (f < 8)
  | .cipherInit f => decide (f < 8)
  | .cipherUpdate f _ _ => decide (f < 8)
  | .cipherFinal f => decide (f < 8)
  | .ctxExport f _ => decide (f < 8)
  | .ctxImport f _ => decide (f < 8)
  | .debugChallenge f => decide (f < 8)
  | .debugUnlock f _ _ => decide (f < 8)
  | .debugLock f => decide (f < 8)
  | .dbgAuthRead => true
  | .dbgAuthWrite _ _ => true
  | .cipherCheckFault engine h _ _ => decide (engine < 32) && decide (h < 4294967296)
  | .keyReinstallComplete h _ _ => decide (h < 4294967296)
  | .keyRamUncorrectable h => decide (h < 4294967296)
  | .getVersion t _ => decide (t < 3)
  | .getCapabilities t _ => decide (t < 3)
  | .negotiateAlgorithms t _ => decide (t < 3)
  | .getDigests t _ => decide (t < 3)
  | .getCertificate t _ slot _ _ => decide (t < 3) && decide (slot < 8)
  | .challenge t _ slot => decide (t < 3) && decide (slot < 8)
  | .getMeasurements t _ _ _ => decide (t < 3)
  | .keyExchange t _ => decide (t < 3)
  | .finish t _ _ _ => decide (t < 3)
  | .heartbeat t _ => decide (t < 3)
  | .keyUpdate t _ => decide (t < 3)
  | .endSession t _ => decide (t < 3)
  | .keyInstallWrap t _ _ _ _ => decide (t < 3)
  | .fwBundleLoad f _ _ _ => decide (f < 8)
  | .fwStatus f => decide (f < 8)
  | .fwServiceUpdate f _ => decide (f < 8)
  | .fwServiceCancel f => decide (f < 8)
  | .fwServiceRestart f => decide (f < 8)
  | .fwConfigSet f => decide (f < 8)
  | .fwConfigGet f => decide (f < 8)
  | .fwPersist f => decide (f < 8)
  | .fwLogSet f => decide (f < 8)
  | .fwTraceSet f => decide (f < 8)
  | .fwJournalClear f => decide (f < 8)
  | .serviceActivation v => decide (v < 9)
  | .updateWaitTimeout v => decide (v < 9)
  | .watchdogExpire core => decide (core < 16)
  | .coreFault core _ => decide (core < 16)
  | .groupRestartComplete v _ => decide (v < 9)
  | .journalWrite _ => true
  | .compaction => true
  | .tracePointPass p core _ => decide (p < 4096) && decide (core < 16)
  | .limiterTick _ _ _ => true
  | .kRampDown => true
  | .offsetUpdate _ _ => true
  | .divergenceWindow _ _ _ => true
  | .droopTrip => true
  | .droopHoldExpire => true
  | .thermalSample _ => true
  | .pwrLimitSet f => decide (f < 8)
  | .pelotonJoin f => decide (f < 8)
  | .pelotonLeave f => decide (f < 8)
  | .crSet f => decide (f < 8)
  | .cadence _ => true
  | .roundFinish => true
  | .countFrame ttl src seq epoch body _ => decide (ttl < 256) && decide (src < 65536) && decide (seq < 65536) && decide (epoch < 65536) && decide (body.length ≤ 1024)
  | .budgetFrame ttl src seq epoch body _ => decide (ttl < 256) && decide (src < 65536) && decide (seq < 65536) && decide (epoch < 65536) && decide (body.length ≤ 1024)
  | .ackFrame ttl src seq epoch body _ => decide (ttl < 256) && decide (src < 65536) && decide (seq < 65536) && decide (epoch < 65536) && decide (body.length ≤ 1024)
  | .faultFrame ttl src seq epoch body _ => decide (ttl < 256) && decide (src < 65536) && decide (seq < 65536) && decide (epoch < 65536) && decide (body.length ≤ 1024)
  | .faultRetransmit seq => decide (seq < 65536)
  | .budgetTimeout => true
  | .joinBypassSettled => true
  | .joinedRepeat => true
  | .leaveBypassClose => true
  | .deviceSoftReset f => decide (f < 8)
  | .softResetComplete _ _ _ _ => true
  | .standbyEnter f => decide (f < 8)
  | .mctpStandbyEnter => true
  | .standbyExit => true
  | .getStatus => true
  | .tstRun f => decide (f < 8)
  | .tstResults f => decide (f < 8)
  | .trayRetireClear f => decide (f < 8)
  | .telHistRead f => decide (f < 8)
  | .telFlowSet f => decide (f < 8)
  | .telIpfixSet f => decide (f < 8)
  | .telFlowFlush f => decide (f < 8)
  | .telRingSet f => decide (f < 8)
  | .flowIdleTimeout _ => true
  | .flowActiveTimeout _ => true
  | .templateRefresh => true
  | .setEndpointId dst op eid => decide (dst < 256) && decide (op < 256) && decide (eid < 256)
  | .getEndpointId dst => decide (dst < 256)
  | .getEndpointUuid dst => decide (dst < 256)
  | .getMctpVersionSupport dst type => decide (dst < 256) && decide (type < 256)
  | .getMessageTypeSupport dst => decide (dst < 256)
  | .getVendorDefinedMessageSupport dst _ => decide (dst < 256)
  | .getTid => true
  | .setTid tid => decide (tid < 256)
  | .getPldmVersion type => decide (type < 256)
  | .getPldmTypes => true
  | .getPldmCommands type => decide (type < 256)
  | .setEventReceiver _ eid => decide (eid < 256)
  | .getSensorReading _ => true
  | .getStateSensorReadings _ => true
  | .getPdrRepositoryInfo => true
  | .getPdr _ => true
  | .sensorUpdate _ _ => true
  | .queryDeviceIdentifiers => true
  | .getFirmwareParameters => true
  | .requestUpdate _ => true
  | .passComponentTable _ _ => true
  | .updateComponent _ _ _ => true
  | .requestFirmwareData _ => true
  | .activateFirmware _ => true
  | .pldmGetStatus => true
  | .cancelUpdateComponent => true
  | .cancelUpdate => true
  | .vddAonRemoved => true
  | .standbyEntered => true
  | .windowRequestPerformed _ => true
  | .connDestroyComplete c => decide (c < 16777216)
  | .cwndRise c => decide (c < 16777216)
  | .bucketRefill sub => decide (sub < 32)
  | .gateEntryChange i => decide (i < 8)
  | .cadenceChanged => true
  | .testComplete _ _ _ _ => true

end Sys2Proof
end

