-- ==== Sys2Proof/Safety.lean ====
section
/-! DEFINITION. What claims call a good state and a good step, and what they call an answered request. -/

namespace Sys2Proof.Machine
open Sys2Proof

/-- The canonical forms of the state: HBM's bytes, the registers, and the tables of the host side and of TRG. -/
def State.canonical (s : State) : Bool :=
  Memory.wf s.mem.hbm && Map.wf s.regs && Map.wf s.host.fns && Map.wf s.host.ports && Map.wf s.host.spokes &&
  Map.wf s.host.queues && Map.wf s.host.ops && Map.wf s.host.reqs && Map.wf s.trg.counters && Map.wf s.trg.entries

/-- R491, R492: what no command may undo on the fuses: the words burned at the factory stay, the security version numbers
only rise, a bit that is blown stays blown, and an anchor or password hash that is not zero keeps its value. -/
def Fuses.kept (a b : Fuses) : Prop :=
  b.serial = a.serial ∧ b.fwAnchor = a.fwAnchor ∧ b.fwRevoke = a.fwRevoke ∧
  a.svnStandby ≤ b.svnStandby ∧ a.svnRoot ≤ b.svnRoot ∧ a.svnService ≤ b.svnService ∧
  (∀ i, bit a.dbgRevoke i = true → bit b.dbgRevoke i = true) ∧
  (a.pwdDisable = true → b.pwdDisable = true) ∧ (a.customerLock = true → b.customerLock = true) ∧
  (a.pwdHash.any (· != 0) = true → b.pwdHash = a.pwdHash) ∧
  (∀ i x, Map.get a.dbgAnchor i = some x → x.any (· != 0) = true → Map.get b.dbgAnchor i = some x)

/-- A step that stops: with a fault or a refusal. -/
def stops (s : State) : Prop := ∀ t, step s ≠ .next t

/-- Every command that waits is well formed. -/
def State.commandsWf (s : State) : Bool := s.pending.all Instr.wf

/-- R14, R153, R154, R156, R157: the response page of function `f` holds a response: its status, its payload and
whether the command goes on after it; DONE is set and no request is outstanding. -/
def State.responded (t : State) (f : Nat) (st : Status) (p : Bytes) (async : Bool) : Prop :=
  (t.fn f).mb.outstanding = false ∧ (t.fn f).mb.resp = p ∧ bits (t.fn f).mb.hdr1 15 0 = st.code ∧
  bit (t.fn f).mb.hdr1 16 = true ∧ bit (t.fn f).mb.hdr1 17 = async

/-- The state `t` is the state `u` with a response written to the mailbox of function `f`.  Besides that mailbox, what
may differ is one latency histogram of the mailbox class (R601), the messages held for `f`, and what has been sent. -/
def State.answered (u t : State) (f : Nat) (st : Status) (p : Bytes) (async : Bool := false) : Prop :=
  t.responded f st p async ∧ (∀ g, g ≠ f → t.fn g = u.fn g) ∧
  t.fn f = { u.fn f with mb := (t.fn f).mb, pba := (t.fn f).pba, msiPend := (t.fn f).msiPend } ∧
  (∀ off, (∀ b, b < 32 → off ≠ aHist 7 b) → t.rget off = u.rget off) ∧
  t = { u with regs := t.regs, out := t.out, host.fns := t.host.fns }

/-- The state `t` is the state `s` with one object handed to the journal, and the response that awaits its commit. -/
def State.journalled (s t : State) (type key : Nat) (del : Bool) (body : Bytes) (w : Option JWait) : Prop :=
  t = { s with fwm.jpend := s.fwm.jpend ++
    [{ type := type, key := key, delete := del, parts := jParts (body.length / 208) body, wait := w }] }

/-- R284, R296, R297: a work request of operation `o` has joined connection `c`, which was `k`: its record is the last,
its packets have taken their PSNs modulo `m`, and the operation is marked. -/
def State.workJoined (t : State) (c o : Nat) (k : Conn) (w : Work) (m : Nat) : Prop :=
  ∃ k', t.conn c = some k' ∧ k'.works = k.works ++ [w] ∧ k'.psn = (k.psn + w.count) % m ∧
    (t.op o).map Op.posted = some true

end Sys2Proof.Machine
end

