-- ==== Sys2Proof/Certificates/Slice0/Obligations.lean ====
section
/-! DEFINITION. The statements for the provers.  A statement groups commands of one shape: one clause for each. -/

open Sys2Proof Sys2Proof.Machine

/-- The queue law.  That an empty queue lets one nanosecond pass is the model's choice (log entry 1). -/
def Obligations.FrontOfTheQueueIsPerformed : Prop :=
  (∀ (s : State) (c : Instr) (l : List Instr),
    step { s with pending := c :: l } = exec c { s with pending := l }) ∧
  (∀ (s : State),
    step { s with pending := [] } = .next { s with pending := [], now := s.now + 1 })

/-- A corrected mesh error changes nothing but its counter. An uncorrectable one is counted and marks the data of the operation it names. A replay on a port in service is counted; a success ends the row of failures; an eighth failure in a row takes the port out of service; a replay on a port out of service changes nothing. -/
def Obligations.LaneAndReplayErrorsAreCounted : Prop :=
  (∀ (s : State) (o : Nat),
    exec (.meshLaneError false o) s = .next { s with brd.meshCorrected := min (s.brd.meshCorrected + 1) (2 ^ 64 - 1) }) ∧
  (∀ (s : State) (o : Nat) (x : Op),
    s.op o = some x →
    x.phase ≠ .done →
    ∃ t, exec (.meshLaneError true o) s = .next t ∧ t.brd.meshUncorrectable = min (s.brd.meshUncorrectable + 1) (2 ^ 64 - 1) ∧
      t.op o = some { x with poisoned := true, buf := x.buf.map fun b => (b.1, true) } ∧ (∀ r, r ≠ o → t.op r = s.op r) ∧ t.mem = s.mem) ∧
  (∀ (s : State) (link port : Nat) (failed : Bool),
    link < 2 →
    port < 8 →
    s.d2dDown link port = false →
    ∃ t, exec (.d2dReplay link port failed) s = .next t ∧ t.rfield aD2d 47 16 = min (s.rfield aD2d 47 16 + 1) (2 ^ 32 - 1) ∧
      (failed = false → t.brd.d2dFails = Map.erase s.brd.d2dFails (8 * link + port)) ∧
      (failed = true → Map.get t.brd.d2dFails (8 * link + port) = some ((Map.get s.brd.d2dFails (8 * link + port)).getD 0 + 1)) ∧
      t.d2dDown link port = (failed && decide (7 ≤ (Map.get s.brd.d2dFails (8 * link + port)).getD 0))) ∧
  (∀ (s : State) (link port : Nat) (failed : Bool),
    s.d2dDown link port = true →
    exec (.d2dReplay link port failed) s = .next s)

/-- With BUSY at 0 a trigger sets BUSY and raises SEQ by one, and every unit that is dark, among units 0 to 115, is recorded as all ones. With BUSY at 1 it is dropped and only sets OVERRUN. A periodic trigger does the same when PERIODIC is set with a PERIOD_MS, and nothing otherwise. The completion raises SEQ again and clears BUSY. -/
def Obligations.SnapshotsRecordEveryUnit : Prop :=
  (∀ (s : State),
    s.rfield aTimeSnap 1 1 = 0 →
    ∃ t, exec .timeSnapTrigger s = .next t ∧ t.rfield aTimeSnap 1 1 = 1 ∧
      t.rfield aTimeSnap 63 32 = (s.rfield aTimeSnap 63 32 + 1) % 2 ^ 32 ∧
      (∀ i, i < 116 → s.unitDark i = true → t.rget (aTimeRec + 8 * i) = 2 ^ 64 - 1) ∧
      (∀ i, i < 116 → t.rget (aTimeRec + 8 * i) < 2 ^ 64) ∧ t.host = s.host ∧ t.mem = s.mem) ∧
  (∀ (s : State),
    s.rfield aTimeSnap 1 1 = 1 →
    exec .timeSnapTrigger s = .next (s.rset aTimeSnap 2 2 1)) ∧
  (∀ (s : State),
    s.rfield aTimeSnap 4 4 = 1 →
    s.rfield aTimeSnap 31 16 ≠ 0 →
    exec .periodicSnapshot s = exec .timeSnapTrigger s) ∧
  (∀ (s : State),
    s.rfield aTimeSnap 4 4 = 1 →
    s.rfield aTimeSnap 31 16 ≠ 0 →
    ∃ t, exec .periodicSnapshot s = .next t ∧
      (if s.rfield aTimeSnap 1 1 = 1 then t = s.rset aTimeSnap 2 2 1 else t.rfield aTimeSnap 1 1 = 1)) ∧
  (∀ (s : State),
    (s.rfield aTimeSnap 4 4 = 0 ∨ s.rfield aTimeSnap 31 16 = 0) →
    exec .periodicSnapshot s = .next s) ∧
  (∀ (s : State),
    s.rfield aTimeSnap 1 1 = 1 →
    ∃ t, exec .snapshotComplete s = .next t ∧ t.rfield aTimeSnap 1 1 = 0 ∧
      t.rfield aTimeSnap 63 32 = (s.rfield aTimeSnap 63 32 + 1) % 2 ^ 32 ∧ (∀ off, off ≠ aTimeSnap → t.rget off = s.rget off) ∧
      t = { s with regs := t.regs })

/-- Power-on, the loss of VDD_AON and the assertion of RESET_N clear HBM, its poison marks, the functions, spokes, queues and counters, drop main power, keep the fuses and keep every journal slot already written; RESET_N_ASSERT records KIND 1. RESET_N_RELEASE samples the straps into GLB_STRAP, runs the standby copy that is picked and raises main power unless a trip or a rail fault holds it; with no valid copy it only samples. -/
def Obligations.PowerOnAndResetClearThePackage : Prop :=
  (∀ (s : State),
    ∃ t, exec .powerOn s = .next t ∧ t.brd = { aon := true } ∧ t.host = {} ∧ t.trg = {} ∧ t.mem.hbm = [] ∧ t.mem.poison = [] ∧
      t.sec.fuses = s.sec.fuses ∧ t.fwm.bank = s.fwm.bank ∧ s.fwm.slots <+: t.fwm.slots ∧ t.pending = s.pending) ∧
  (∀ (s : State),
    s.brd.aon = true →
    ∃ t, exec .vddAonRemoved s = .next t ∧ t.brd = {} ∧ t.host = {} ∧ t.trg = {} ∧ t.mem.hbm = [] ∧ t.mem.poison = [] ∧
      t.sec.fuses = s.sec.fuses ∧ t.fwm.bank = s.fwm.bank ∧ s.fwm.slots <+: t.fwm.slots) ∧
  (∀ (s : State),
    s.brd.aon = true →
    s.brd.resetN = true →
    ∃ t, exec .resetNAssert s = .next t ∧ t.brd.aon = true ∧ t.brd.resetN = false ∧ t.brd.pwrEn = false ∧ t.brd.scReleased = false ∧
      t.host = {} ∧ t.trg = {} ∧ t.mem.hbm = [] ∧ t.mem.poison = [] ∧ t.rfield aResetCause 2 0 = 1 ∧
      t.sec.fuses = s.sec.fuses ∧ t.fwm.bank = s.fwm.bank ∧ s.fwm.slots <+: t.fwm.slots) ∧
  (∀ (s : State) (straps : Nat) (b : Bool),
    s.brd.aon = true →
    s.brd.resetN = false →
    s.pickCopy = some b →
    ∃ t, exec (.resetNRelease straps) s = .next t ∧ t.brd.resetN = true ∧ t.brd.standbyImage = true ∧ t.fwm.runB = b ∧
      t.rfield aStrap 9 0 = straps % 1024 ∧ t.brd.testEn = bit straps 9 ∧
      (s.brd.thermTrip = false → s.brd.noPower = false → t.brd.pwrEn = true) ∧ t.sec.fuses = s.sec.fuses ∧
      t.fwm.slots = s.fwm.slots ∧ t.mem = s.mem) ∧
  (∀ (s : State) (straps : Nat),
    s.brd.aon = true →
    s.brd.resetN = false →
    s.pickCopy = none →
    exec (.resetNRelease straps) s = .next (State.rput { s with brd.resetN := true } aStrap (straps % 1024)))

/-- The rise of MAIN_PG ends package standby and, with the core PLL good, puts every stack's state at 1. Its timeout, 100 ms after PWR_EN_MAIN rose, drops PWR_EN_MAIN, keeps it low until RESET_N and records the rail fault. The loss of main power enters package standby with HBM lost and records it. A thermal trip drives THERMTRIP_N low and enters package standby. None of them changes a fuse. -/
def Obligations.MainPowerFollowsItsPins : Prop :=
  (∀ (s : State) (l : List TestResult),
    s.brd.pwrEn = true →
    s.brd.mainPg = false →
    ∃ t, exec (.mainPgRise l) s = .next t ∧ t.brd.mainPg = true ∧ t.brd.mainPgAt = s.now ∧ t.brd.standby = false ∧
      (t.brd.corePllBad = false → ∀ x, x < 6 → t.rfield (aHbmStat x) 1 0 = 1) ∧ t.sec.fuses = s.sec.fuses) ∧
  (∀ (s : State),
    s.brd.pwrEn = true →
    s.brd.mainPg = false →
    ∃ t, exec .mainPgTimeout s = .next t ∧ t.brd.pwrEn = false ∧ t.brd.noPower = true ∧ t.brd.railFault = true ∧
      t.rfield aResetCause 9 9 = 1 ∧ s.brd.pwrEnAt + 100_000_000 ≤ t.now ∧ .pin 0 false ∈ t.out ∧ t.mem = s.mem ∧ t.sec = s.sec) ∧
  (∀ (s : State),
    s.brd.pwrEn = true →
    s.brd.mainPg = true →
    ∃ t, exec .mainPowerLoss s = .next t ∧ t.brd.standby = true ∧ t.brd.standbyFn = none ∧ t.brd.pwrEn = false ∧ t.brd.mainPg = false ∧
      t.rfield aResetCause 8 8 = 1 ∧ t.mem.hbm = [] ∧ t.trg = {} ∧ .pin 0 false ∈ t.out ∧ t.sec.fuses = s.sec.fuses) ∧
  (∀ (s : State),
    s.brd.aon = true →
    s.brd.thermTrip = false →
    ∃ t, exec .thermalTrip s = .next t ∧ t.brd.thermTrip = true ∧ t.brd.standby = true ∧ t.brd.pwrEn = false ∧ t.brd.mainPg = false ∧
      t.mem.hbm = [] ∧ t.trg = {} ∧ .pin 1 false ∈ t.out ∧ t.sec.fuses = s.sec.fuses)

/-- A link whose PERST# rose before trains to L0 at its widest good width no sooner than 50 ms after MAIN_PG; a PERST# that rises while RESET_N or MAIN_PG is low leaves it in Detect; one that falls takes it down, detaches the four functions and clears their Bus Master Enable; a downstream PERST# rises no sooner than 100 ms after MAIN_PG and its link trains. A PERST# that moves during a soft reset waits for its end. -/
def Obligations.UpstreamAndDownstreamPerstActOnLinks : Prop :=
  (∀ (s : State) (h : Nat),
    h < 2 →
    s.brd.mainPg = true →
    s.brd.perst.contains h = true →
    s.portRole (4 * h) = 0 →
    s.trainWidth (4 * h) ≠ 0 →
    s.brd.pll.contains 1 = false →
    (s.port (4 * h)).link = .down →
    exec (.linkTrainingStart h) s = .next (State.setPort { s with now := max s.now (s.brd.mainPgAt + 50_000_000) } (4 * h)
      { s.port (4 * h) with link := .l0, width := s.trainWidth (4 * h), fullWidth := s.trainWidth (4 * h) })) ∧
  (∀ (s : State) (h : Nat),
    h < 2 →
    s.brd.soft = none →
    (s.brd.resetN = false ∨ s.brd.mainPg = false) →
    exec (.upstreamPerstRelease h) s = .next { s with brd.perst := setIns s.brd.perst h, brd.perstAt := Map.put s.brd.perstAt h s.now }) ∧
  (∀ (s : State) (h : Nat),
    h < 2 →
    s.brd.soft = none →
    s.brd.resetN = true →
    s.brd.mainPg = true →
    s.brd.mainPgAt + 50_000_000 ≤ s.now →
    s.portRole (4 * h) = 0 →
    s.trainWidth (4 * h) ≠ 0 →
    s.brd.pll.contains 1 = false →
    (s.port (4 * h)).link = .down →
    exec (.upstreamPerstRelease h) s = .next (State.setPort
      { s with brd.perst := setIns s.brd.perst h, brd.perstAt := Map.put s.brd.perstAt h s.now } (4 * h)
      { s.port (4 * h) with link := .l0, width := s.trainWidth (4 * h), fullWidth := s.trainWidth (4 * h) })) ∧
  (∀ (s : State) (h : Nat) (x : Bool),
    h < 2 →
    s.brd.soft = some x →
    exec (.upstreamPerstRelease h) s = .next { s with brd.deferred := s.brd.deferred ++ [(4, h)] } ∧
      exec (.upstreamPerstAssert h) s = .next { s with brd.deferred := s.brd.deferred ++ [(3, h)] }) ∧
  (∀ (s : State) (h : Nat),
    h < 2 →
    s.brd.soft = none →
    s.brd.resetN = true →
    s.brd.mainPg = true →
    s.portRole (4 * h) = 0 →
    ∃ t, exec (.upstreamPerstAssert h) s = .next t ∧ (t.port (4 * h)).link = .down ∧ t.brd.perst = setDel s.brd.perst h ∧
      (∀ k, k < 4 → t.fn (4 * h + k) = { bar4Log2 := s.brd.bar4Log2 }) ∧ t.sec.fuses = s.sec.fuses) ∧
  (∀ (s : State) (q : Nat),
    s.isDown q = true →
    s.brd.mainPg = true →
    (s.port q).perst = false →
    (s.port q).sbrActive = false →
    ∃ t, exec (.downstreamPerstRelease q) s = .next t ∧ t.now = max s.now (s.brd.mainPgAt + 100_000_000) ∧
      t.port q = { s.port q with perst := true, perstTime := t.now, link := .training, width := s.trainWidth q, fullWidth := s.trainWidth q, blocked := (s.port q).blocked || s.trainWidth q == 0 } ∧
      (∀ r, r ≠ q → t.port r = s.port r) ∧ t.out = s.out ++ [.perst q true])

/-- When HBM is filled, SC is released: BOOT becomes 1 when its tests and image are good and 4 when they are not, HBM is absent exactly when a stack failed, and with TEST_EN the secrets are zeroised. DEVICE_SOFT_RESET of a PF0 answers SUCCESS and then clears queues, spokes, counters and, with HBM_TEST, HBM. Its end releases SC, records KIND 3 or 4 and counts the reset. -/
def Obligations.SecurityCoreAndSoftResetStart : Prop :=
  (∀ (s : State) (failed spares : List Nat) (ok : Bool),
    s.brd.mainPg = true →
    s.brd.scReleased = false →
    s.brd.corePllBad = false →
    s.brd.soft = none →
    s.brd.scan = false →
    ∃ t, exec (.hbmFillComplete failed spares ok) s = .next t ∧ t.brd.scReleased = true ∧
      t.mem.absent = failed.any (fun x => decide (x < 6)) ∧
      (∀ x, x < 6 → t.rfield (aHbmStat x) 1 0 = if failed.contains x then 0 else 3) ∧
      (s.brd.testEn = false → t.rfield 0x900000 2 0 = if ok then 1 else 4) ∧ t.brd.scan = s.brd.testEn ∧ t.sec.fuses = s.sec.fuses) ∧
  (∀ (s : State) (f : Nat) (p : Bytes),
    s.performable f 0x0005 = true →
    (s.fn f).mb.payload = p →
    f % 4 = 0 →
    s.resetBusy = false →
    ∃ t, exec (.deviceSoftReset f) s = .next t ∧ t.responded f .success [] false ∧ t.brd.soft = some (bit (u8 p 0) 0) ∧
      t.brd.scReleased = false ∧ t.host.queues = [] ∧ t.host.spokes = [] ∧ t.host.ops = [] ∧ t.trg = {} ∧ t.net.up = [] ∧
      (bit (u8 p 0) 0 = true → t.mem.hbm = []) ∧ t.sec.fuses = s.sec.fuses ∧ (∀ g, (t.fn g).attach = .detached)) ∧
  (∀ (s : State) (f : Nat) (p : Bytes),
    s.performable f 0x0005 = true →
    (s.fn f).mb.payload = p →
    (f % 4 ≠ 0 ∨ s.resetBusy = true) →
    s.brd.soft = none →
    ∃ t, exec (.deviceSoftReset f) s = .next t ∧ s.answered t f .notPermitted []) ∧
  (∀ (s : State) (results : List TestResult) (failed spares : List Nat) (ok test : Bool),
    s.brd.soft = some test →
    s.brd.deferred = [] →
    ∃ t, exec (.softResetComplete results failed spares ok) s = .next t ∧ t.brd.soft = none ∧ t.brd.scReleased = true ∧
      t.rfield aResetCause 2 0 = (if test then 4 else 3) ∧
      t.rfield aResetCause 31 16 = min (s.rfield aResetCause 31 16 + 1) 65535 ∧ t.rfield 0x900000 2 0 = (if ok then 1 else 4))

/-- An entry asked for by a PF0 or over MCTP is noted and shown in PWR_STAT; when the quiesced device has entered, main power is off and HBM lost; an exit asked for over MCTP in standby, with no trip and no rail fault, raises main power with KIND 2, no sooner than 20 ms after it fell; GET_STATUS answers the five registers. -/
def Obligations.StandbyIsEnteredAndLeftOnRequest : Prop :=
  (∀ (s : State) (f : Nat) (p : Bytes),
    s.performable f 0x0006 = true →
    (s.fn f).mb.payload = p →
    f % 4 = 0 →
    s.resetBusy = false →
    ∃ t, exec (.standbyEnter f) s = .next t ∧
      State.answered (State.rset { s with brd.standbyFn := some f } 0xB00000 29 29 1) t f .success []) ∧
  (∀ (s : State) (f : Nat) (p : Bytes),
    s.performable f 0x0006 = true →
    (s.fn f).mb.payload = p →
    (f % 4 ≠ 0 ∨ s.resetBusy = true) →
    ∃ t, exec (.standbyEnter f) s = .next t ∧ s.answered t f .notPermitted []) ∧
  (∀ (s : State),
    s.mgmtUp = true →
    s.resetBusy = false →
    s.brd.standby = false →
    s.brd.mainPg = true →
    exec .mctpStandbyEnter s = .next (State.emit (State.rset { s with brd.standbyFn := some 8 } 0xB00000 29 29 1) (.mctp 0x7E 1 0 []))) ∧
  (∀ (s : State),
    s.mgmtUp = true →
    (s.resetBusy = true ∨ s.brd.standby = true ∨ s.brd.mainPg = false) →
    exec .mctpStandbyEnter s = .next (s.emit (.mctp 0x7E 1 1 []))) ∧
  (∀ (s : State),
    s.brd.standbyFn.isSome = true →
    ∃ t, exec .standbyEntered s = .next t ∧ t.brd.standby = true ∧ t.brd.standbyFn = none ∧ t.brd.mainPg = false ∧
      t.brd.pwrEn = false ∧ t.mem.hbm = [] ∧ t.trg = {} ∧ t.sec.fuses = s.sec.fuses) ∧
  (∀ (s : State),
    s.mgmtUp = true →
    s.brd.thermTrip = false →
    s.brd.noPower = false →
    s.brd.standby = true →
    s.brd.pwrEn = false →
    ∃ t, exec .standbyExit s = .next t ∧ t.brd.pwrEn = true ∧ t.rfield aResetCause 2 0 = 2 ∧ t.out.getLast? = some (.mctp 0x7E 2 0 []) ∧
      (s.brd.pwrEnAt ≠ 0 → s.brd.pwrEnAt + 20_000_000 ≤ t.now) ∧ t.mem = s.mem ∧ t.sec = s.sec) ∧
  (∀ (s : State),
    s.mgmtUp = true →
    exec .getStatus s = .next (s.emit (.mctp 0x7E 3 0 (toLe 8 (s.rget 0x410) ++ toLe 8 (s.rget 0xB00000) ++
      toLe 8 (s.rget 0xB00300) ++ toLe 8 (s.rget 0x408) ++ toLe 8 (s.rget 0x400)))))

/-- TST_RUN starts a permitted test and its response waits, a refused one is answered at once and changes nothing; TEST_COMPLETE ends the test, keeps its record and answers the request that awaits it with that record; TST_RESULTS returns up to 127 records; TRAY_RETIRE_CLEAR clears the cause bits given and hands the causes to the journal before its response. -/
def Obligations.SelfTestsRunAndReport : Prop :=
  (∀ (s : State) (f : Nat) (p : Bytes),
    s.performable f 0x0B10 = true →
    (s.fn f).mb.payload = p →
    s.testRefused f (u8 p 0) (u16 p 2) = none →
    ∃ t, exec (.tstRun f) s = .next t ∧ t.brd.testRun = some (u8 p 0, u16 p 2, f) ∧ t.fn f = s.fn f ∧ t.regs = s.regs ∧ t.mem = s.mem) ∧
  (∀ (s : State) (f : Nat) (p : Bytes) (st : Status),
    s.performable f 0x0B10 = true →
    (s.fn f).mb.payload = p →
    s.testRefused f (u8 p 0) (u16 p 2) = some st →
    ∃ t, exec (.tstRun f) s = .next t ∧ s.answered t f st []) ∧
  (∀ (s : State) (test unit f d n loc : Nat) (passed : Bool),
    s.brd.testRun = some (test, unit, f) →
    2 < test →
    (s.fn f).mb.outstanding = true →
    (s.fn f).mb.opcode = 0x0B10 →
    ∃ t r, exec (.testComplete passed d n loc) s = .next t ∧ t.brd.tests.getLast? = some r ∧ t.brd.testRun = none ∧
      r.res = { test := test, unit := unit, result := b2n !passed, durationUs := d, fails := n, locator := loc } ∧
      t.responded f .success r.bytes false) ∧
  (∀ (s : State) (f : Nat) (p : Bytes),
    s.performable f 0x0B11 = true →
    (s.fn f).mb.payload = p →
    f % 4 = 0 →
    ∃ t, exec (.tstResults f) s = .next t ∧
      s.answered t f .success (toLe 4 (min 127 (s.brd.tests.length - u32 p 0)) ++
      toLe 4 (if u32 p 0 + 127 < s.brd.tests.length then u32 p 0 + 127 else 0) ++
      ((s.brd.tests.drop (u32 p 0)).take 127).flatMap TestRec.bytes)) ∧
  (∀ (s : State) (f : Nat) (p : Bytes),
    s.performable f 0x0B12 = true →
    (s.fn f).mb.payload = p →
    f % 4 = 0 →
    ∃ t, exec (.trayRetireClear f) s = .next t ∧
      (∀ i, i < 12 → bit (t.rget aRetire) i = (bit (s.rget aRetire) i && !bit (u32 p 0) i)) ∧
      t.fwm.jpend = s.fwm.jpend ++ [{ type := 0x0B01, key := 0, parts := [toLe 2 (t.rget aRetire)], wait := some ⟨f, .success, [], none, none⟩ }] ∧
      t.mem = s.mem ∧ t.host = s.host)

/-- Clearing Bus Master Enable, and entering D3hot, leaves no work queue of the function ACTIVE; during an FLR clearing it has no further effect. Setting it, or leaving D3hot, sends the MSI-X messages held on unmasked vectors once the function may master. Leaving D3hot restarts the heartbeat timer. Unmasking a vector clears its mask bit and sends its pending message. The Bus Master Enable of a downstream port changes only that bit. -/
def Obligations.BusMasterAndPowerStatesHoldTheirFunction : Prop :=
  (∀ (s : State) (f : Nat),
    f < 8 →
    (s.fn f).bme = true →
    (s.fn f).flr = false →
    ∃ t, exec (.busMasterDisable f) s = .next t ∧ (t.fn f).bme = false ∧ (t.fn f).bmeTime = s.now ∧
      (∀ i q, t.queue i = some q → t.spokeFn q.spoke = f → q.kind.isRing = false → q.state ≠ .active) ∧
      (∀ g, g ≠ f → (t.fn g).bme = (s.fn g).bme)) ∧
  (∀ (s : State) (f : Nat),
    f < 8 →
    (s.fn f).bme = true →
    (s.fn f).flr = true →
    exec (.busMasterDisable f) s = .next (s.setFn f { s.fn f with bme := false, bmeTime := s.now })) ∧
  (∀ (s : State) (f : Nat),
    f < 8 →
    (s.fn f).bme = false →
    ∃ t, exec (.busMasterEnable f) s = .next t ∧ (t.fn f).bme = true ∧
      ((s.fn f).d3hot = false → (s.fn f).flr = false → (s.fn f).msixEn = true → ∀ v, v ∈ (t.fn f).pba → (t.fn f).masked v = true) ∧
      (∀ g, g ≠ f → (t.fn g).bme = (s.fn g).bme)) ∧
  (∀ (s : State) (f : Nat),
    f < 8 →
    (s.fn f).d3hot = false →
    ∃ t, exec (.d3hotEntry f) s = .next t ∧ (t.fn f).d3hot = true ∧
      (∀ i q, t.queue i = some q → t.spokeFn q.spoke = f → q.kind.isRing = false → q.state ≠ .active)) ∧
  (∀ (s : State) (f : Nat),
    f < 8 →
    (s.fn f).d3hot = true →
    ∃ t, exec (.d0Entry f) s = .next t ∧ (t.fn f).d3hot = false ∧ (t.fn f).hbDue = s.now + (s.fn f).hbTimeout) ∧
  (∀ (s : State) (f v : Nat),
    f < 8 →
    v < 4096 →
    ∃ t, exec (.msixUnmask f v) s = .next t ∧ bit ((t.fn f).msixWord (2 * v + 1)) 32 = false ∧
      (s.canMaster f = true → (s.fn f).msixEn = true → (s.fn f).msixFnMask = false → v ∉ (t.fn f).pba) ∧
      (s.canMaster f = true → (s.fn f).msixEn = true → (s.fn f).msixFnMask = false → v ∈ (s.fn f).pba → .msi f v true ∈ t.out) ∧
      (∀ g, g ≠ f → t.fn g = s.fn g) ∧ t.regs = s.regs ∧ t.mem = s.mem) ∧
  (∀ (s : State) (q : Nat) (on : Bool),
    s.isDown q = true →
    exec (.downstreamBmeChange q on) s = .next (s.setPort q { s.port q with bme := on }))

/-- DPC_TRIGGER and a link lost without a reset contain the port and take its link down, Secondary Bus Reset asserts PERST# with the reset active, and each leaves no request through the port outstanding: every tag of it is quarantined. At a root port a DPC trigger is only counted. A link that comes up ends the reset unless its bit is still set, and the containment unless DPC status is set. Clearing the DPC status, or the reset bit, changes only that. PERST# rises again no sooner than 100 µs after it fell. -/
def Obligations.ContainmentAndResetTerminateRequests : Prop :=
  (∀ (s : State) (q : Nat),
    s.isDown q = true →
    s.portRole q = 2 →
    exec (.dpcTrigger q) s = .next (s.rsat (aPortCnt q 6) 63 0 1)) ∧
  (∀ (s : State) (q : Nat),
    s.isDown q = true →
    s.portRole q ≠ 2 →
    (s.port q).dpcEn = true →
    (s.port q).dpcTriggered = false →
    ∃ t, exec (.dpcTrigger q) s = .next t ∧ t.port q = { s.port q with dpcTriggered := true, contained := true, link := .down } ∧
      (∀ r, r ≠ q → t.port r = s.port r) ∧ (∀ k r, Map.get t.host.reqs k = some r → r.port = q → r.quarantined = true) ∧
      t.rfield (aPortCnt q 3) 63 0 = min (s.rfield (aPortCnt q 3) 63 0 + 1) (2 ^ 64 - 1)) ∧
  (∀ (s : State) (q : Nat),
    s.isDown q = true →
    (s.port q).link ≠ .down →
    (s.port q).sbrActive = false →
    ∃ t, exec (.downstreamLinkDown q) s = .next t ∧ t.port q = { s.port q with contained := true, link := .down } ∧
      (∀ r, r ≠ q → t.port r = s.port r) ∧ (∀ k r, Map.get t.host.reqs k = some r → r.port = q → r.quarantined = true)) ∧
  (∀ (s : State) (q : Nat),
    s.isDown q = true →
    (s.port q).sbrActive = true →
    (s.port q).link ≠ .down →
    exec (.downstreamLinkDown q) s = .next (s.setPort q { s.port q with link := .down })) ∧
  (∀ (s : State) (q : Nat),
    s.isDown q = true →
    (s.port q).perst = true →
    (s.port q).blocked = false →
    (s.port q).link ≠ .l0 →
    s.brd.pll.contains 1 = false →
    ∃ t, exec (.downstreamLinkUp q) s = .next t ∧
      t.port q = { s.port q with link := .l0, width := (s.port q).fullWidth, contained := (s.port q).contained && (s.port q).dpcTriggered, sbrActive := (s.port q).sbr } ∧
      (∀ r, r ≠ q → t.port r = s.port r) ∧ t.mem = s.mem ∧ t.out = s.out) ∧
  (∀ (s : State) (q : Nat),
    s.isDown q = true →
    exec (.dpcStatusClear q) s =
      .next (s.setPort q { s.port q with dpcTriggered := false, contained := (s.port q).contained && (s.port q).link != .l0 })) ∧
  (∀ (s : State) (q : Nat),
    s.isDown q = true →
    s.brd.soft = none →
    (s.port q).sbr = false →
    ∃ t, exec (.secondaryBusResetSet q) s = .next t ∧
      t.port q = { s.port q with sbr := true, sbrActive := true, perst := false, perstTime := s.now, link := .down } ∧
      (∀ k r, Map.get t.host.reqs k = some r → r.port = q → r.quarantined = true) ∧ .perst q false ∈ t.out) ∧
  (∀ (s : State) (q : Nat),
    s.isDown q = true →
    s.brd.soft = none →
    exec (.secondaryBusResetClear q) s = .next (s.setPort q { s.port q with sbr := false })) ∧
  (∀ (s : State) (q : Nat) (x : Bool),
    s.isDown q = true →
    s.brd.soft = some x →
    exec (.secondaryBusResetSet q) s = .next { s with brd.deferred := s.brd.deferred ++ [(1, q)] } ∧
      exec (.secondaryBusResetClear q) s = .next { s with brd.deferred := s.brd.deferred ++ [(2, q)] }) ∧
  (∀ (s : State) (q : Nat),
    s.isDown q = true →
    (s.port q).sbrActive = true →
    (s.port q).sbr = false →
    (s.port q).perst = false →
    ∃ t, exec (.sbrPerstRelease q) s = .next t ∧ t.now = max s.now ((s.port q).perstTime + 100_000) ∧
      t.port q = { s.port q with perst := true, perstTime := t.now, link := .training } ∧ (∀ r, r ≠ q → t.port r = s.port r) ∧
      t.out = s.out ++ [.perst q true] ∧ t.mem = s.mem)

/-- With ASPM L1 enabled by the host and the controller, a link in L0 goes to L1. With L0p enabled, a link of at least eight lanes in L0 halves its width, and widening returns it to its full width, each counted as a change of width; other ports stay as they are. -/
def Obligations.LinkPowerChangesOneLink : Prop :=
  (∀ (s : State) (q : Nat),
    s.portExists q = true →
    (s.port q).link = .l0 →
    (s.port q).l1En = true →
    s.rfield (aCtlCfg (q / 4)) 15 8 ≠ 0 →
    exec (.l1Entry q) s = .next ((s.setPort q { s.port q with link := .l1 }).emit (.linkPm q (s.port q).width true))) ∧
  (∀ (s : State) (q : Nat),
    s.portExists q = true →
    (s.port q).link = .l0 →
    (s.port q).l0pEn = true →
    s.rfield (aCtlCfg (q / 4)) 16 16 = 1 →
    8 ≤ (s.port q).width →
    exec (.l0pNarrow q) s = .next (((s.setPort q { s.port q with width := (s.port q).width / 2 }).emit
      (.linkPm q ((s.port q).width / 2) false)).rsat (aPortCnt q 5) 63 0 1)) ∧
  (∀ (s : State) (q : Nat),
    s.portExists q = true →
    (s.port q).link = .l0 →
    (s.port q).width ≠ (s.port q).fullWidth →
    exec (.l0pWiden q) s = .next (((s.setPort q { s.port q with width := (s.port q).fullWidth }).emit
      (.linkPm q (s.port q).fullWidth false)).rsat (aPortCnt q 5) 63 0 1))

/-- A completion for a tag that is not outstanding is reported as unexpected; one for a quarantined tag is discarded and counted. Otherwise the tag is free again: a forwarded request's completion is relayed to its requester, and an error ends the COPY it read for with ACCESS_VIOLATION, or with TRANSLATION_FAULT for an untranslated request with a PASID, at the address read. A timeout comes 50 ms after the request at the earliest, is reported, completes a forwarded request with Completer Abort and ends a COPY with TIMEOUT. A quarantined tag is released no sooner than 50 ms after its request. -/
def Obligations.CompletionsEndTheirRequest : Prop :=
  (∀ (s : State) (q tag f : Nat) (st : CplStatus) (data : Bytes) (ep : Bool) (wr : HostAns),
    q < 40 →
    tag < 16384 →
    Map.get s.host.reqs (16384 * q + tag) = none →
    exec (.pcieCompletionReceived q tag f st data ep wr) s = .next (s.emit (.aer f .unexpectedCompletion))) ∧
  (∀ (s : State) (q tag f : Nat) (st : CplStatus) (data : Bytes) (ep : Bool) (wr : HostAns) (r : Req),
    q < 40 →
    tag < 16384 →
    Map.get s.host.reqs (16384 * q + tag) = some r →
    r.quarantined = true →
    exec (.pcieCompletionReceived q tag f st data ep wr) s = .next (s.rsat (aPortCnt q 1) 63 0 1) ∧
      exec (.completionTimeout q tag) s = .next s ∧
      exec (.tagQuarantineRelease q tag) s = .next { s with now := max s.now (r.issued + 50_000_000), host.reqs := Map.erase s.host.reqs (16384 * q + tag) }) ∧
  (∀ (s : State) (q tag f g u w : Nat) (st : CplStatus) (data : Bytes) (ep : Bool) (wr : HostAns) (r : Req),
    q < 40 →
    tag < 16384 →
    Map.get s.host.reqs (16384 * q + tag) = some r →
    r.quarantined = false →
    r.purpose = .forwarded g u w →
    exec (.pcieCompletionReceived q tag f st data ep wr) s =
      .next (State.emit { s with host.reqs := Map.erase s.host.reqs (16384 * q + tag) } (.cpl g u st (if st == .success then data else []) ep)) ∧
      exec (.completionTimeout q tag) s =
      .next { s with now := max s.now (r.issued + 50_000_000), host.reqs := Map.erase s.host.reqs (16384 * q + tag), out := s.out ++ [.aer r.fn .completionTimeout, .cpl g u .abort [] false] }) ∧
  (∀ (s : State) (q tag f o va n : Nat) (st : CplStatus) (data : Bytes) (ep : Bool) (wr : HostAns) (r : Req) (x : Op),
    q < 40 →
    tag < 16384 →
    Map.get s.host.reqs (16384 * q + tag) = some r →
    r.quarantined = false →
    r.purpose = .copyRead o va n →
    s.op o = some x →
    x.phase ≠ .done →
    x.poisoned = false →
    x.medium = false →
    st ≠ .success →
    ∃ t, exec (.pcieCompletionReceived q tag f st data ep wr) s = .next t ∧
      t.op o = some { x with phase := .done, status := if r.pasid then .translationFault else .accessViolation, bytes := min x.bytes (2 ^ 32 - 1), detail := va } ∧
      t.host.reqs = Map.erase s.host.reqs (16384 * q + tag) ∧ t.mem = s.mem) ∧
  (∀ (s : State) (q tag f o va n : Nat) (data : Bytes) (ep : Bool) (wr : HostAns) (r : Req),
    q < 40 →
    tag < 16384 →
    Map.get s.host.reqs (16384 * q + tag) = some r →
    r.quarantined = false →
    r.purpose = .copyRead o va n →
    ∃ t, exec (.pcieCompletionReceived q tag f .success data ep wr) s = .next t ∧
      t.host.reqs = Map.erase s.host.reqs (16384 * q + tag) ∧ (ep = true → .aer r.fn .poisonedTlp ∈ t.out)) ∧
  (∀ (s : State) (q tag o va n : Nat) (r : Req) (x : Op),
    q < 40 →
    tag < 16384 →
    Map.get s.host.reqs (16384 * q + tag) = some r →
    r.quarantined = false →
    r.purpose = .copyRead o va n →
    s.op o = some x →
    x.phase ≠ .done →
    x.poisoned = false →
    x.medium = false →
    ∃ t, exec (.completionTimeout q tag) s = .next t ∧ t.now = max s.now (r.issued + 50_000_000) ∧
      t.op o = some { x with phase := .done, status := .timeout, bytes := min x.bytes (2 ^ 32 - 1), detail := va } ∧
      t.host.reqs = Map.erase s.host.reqs (16384 * q + tag) ∧ t.out = s.out ++ [.aer r.fn .completionTimeout] ∧ t.mem = s.mem)

/-- An invalidation takes every cached host translation of its range away, keeps the others, and is completed. A successful page response lets a parked operation go on; another ends a parked COPY with TRANSLATION_FAULT at the address it parked on; the PRI timeout ends it with TIMEOUT. Bytes already moved stand. -/
def Obligations.TranslationEventsActOnTheirPages : Prop :=
  (∀ (s : State) (f addr size : Nat) (pasid : Option Nat) (all : Bool),
    f < 8 →
    ∃ t, exec (.atsInvalidate f pasid all addr size) s = .next t ∧ t.out = s.out ++ [.invalidateCpl f] ∧
      t.host.atc = s.host.atc.filter (fun e => !s.invalidates f pasid all addr size e) ∧ t.mem = s.mem ∧ t.regs = s.regs) ∧
  (∀ (s : State) (f o page : Nat) (pasid : Option Nat) (p : PageReq) (x : Op),
    s.host.pageReqs.find? (fun p => p.fn == f && p.pasid == pasid && p.page == page && p.sent) = some p →
    p.waiters = [.op o] →
    s.op o = some x →
    x.phase = .parked →
    ∃ t, exec (.pageResponse f pasid page .success) s = .next t ∧ t.op o = some { x with phase := .started } ∧
      (∀ r, r ∈ t.host.pageReqs → ¬(r.fn = f ∧ r.pasid = pasid ∧ r.page = page)) ∧ t.mem = s.mem) ∧
  (∀ (s : State) (f o page : Nat) (pasid : Option Nat) (code : PageCode) (p : PageReq) (x : Op) (q : Queue),
    s.host.pageReqs.find? (fun p => p.fn == f && p.pasid == pasid && p.page == page && p.sent) = some p →
    p.waiters = [.op o] →
    s.op o = some x →
    x.phase = .parked →
    code ≠ .success →
    s.queue x.queue = some q →
    q.kind = .copy →
    x.poisoned = false →
    x.medium = false →
    ∃ t, exec (.pageResponse f pasid page code) s = .next t ∧
      t.op o = some { x with phase := .done, status := .translationFault, bytes := min x.bytes (2 ^ 32 - 1), detail := x.parkAddr } ∧
      (∀ r, r ∈ t.host.pageReqs → ¬(r.fn = f ∧ r.pasid = pasid ∧ r.page = page)) ∧ t.mem = s.mem) ∧
  (∀ (s : State) (o : Nat) (p : PageReq) (x : Op) (q : Queue),
    s.host.pageReqs.find? (fun p => p.waiters.contains (.op o)) = some p →
    s.op o = some x →
    x.phase = .parked →
    s.queue x.queue = some q →
    q.kind = .copy →
    x.poisoned = false →
    x.medium = false →
    ∃ t, exec (.priTimeout (.op o)) s = .next t ∧ t.now = max s.now (p.since + s.priTimeout) ∧
      t.op o = some { x with phase := .done, status := .timeout, bytes := min x.bytes (2 ^ 32 - 1), detail := x.parkAddr } ∧ t.mem = s.mem)

/-- A 64-bit write by a PF0 to an aligned register whose fields start no action gives an RW or RWC field the bits written, clears in a W1C field the bits written as one, leaves every other field and every other register as it was. A width other than 4 or 8 or a misaligned offset, an empty place, and the response page are discarded and counted with kinds 1, 2 and 4. During a soft reset a write is discarded. -/
def Obligations.RegisterWritesFollowTheAccessCodes : Prop :=
  (∀ (s : State) (f off v : Nat) (d : RegDef) (ix : List Nat) (x : RegField),
    f < 8 →
    f % 4 = 0 →
    off < 0x4000000 →
    off % 8 = 0 →
    s.brd.soft = none →
    s.place0 f off = .reg off →
    findReg off = some (d, ix) →
    d.name ∉ ([.glbTimeSnap, .pciWinCtl, .memRawCmd, .pktPortCfg, .schGateCtl, .schGateEntry] : List RegName) →
    x ∈ d.fields →
    ∃ t, exec (.registerWrite f off 8 v) s = .next t ∧
      bits (t.rget off) x.hi x.lo = (if x.acc = .rw ∨ x.acc = .rwc then bits v x.hi x.lo
      else if x.acc = .w1c then bits (s.rget off) x.hi x.lo &&& (2 ^ (x.hi + 1 - x.lo) - 1 - bits v x.hi x.lo)
      else bits (s.rget off) x.hi x.lo) ∧
      (∀ o, o ≠ off → t.rget o = s.rget o) ∧ t = { s with regs := t.regs }) ∧
  (∀ (s : State) (f off width v : Nat),
    f < 8 →
    off < 0x4000000 →
    s.brd.soft = none →
    ((width ≠ 4 ∧ width ≠ 8) ∨ off % width ≠ 0) →
    exec (.registerWrite f off width v) s = .next (s.badAccess 1 f)) ∧
  (∀ (s : State) (f off width v : Nat),
    f < 8 →
    off < 0x4000000 →
    s.brd.soft = none →
    (width = 4 ∨ width = 8) →
    off % width = 0 →
    s.place0 f (off / 8 * 8) = .none →
    exec (.registerWrite f off width v) s = .next (s.badAccess 2 f)) ∧
  (∀ (s : State) (f off width v o : Nat),
    f < 8 →
    off < 0x4000000 →
    s.brd.soft = none →
    (width = 4 ∨ width = 8) →
    off % width = 0 →
    s.place0 f (off / 8 * 8) = .response o →
    exec (.registerWrite f off width v) s = .next (s.badAccess 4 f)) ∧
  (∀ (s : State) (f off width v : Nat) (x : Bool),
    s.brd.soft = some x →
    exec (.registerWrite f off width v) s = .next s)

/-- A read of a register of an open BAR0 is answered with the register's value; a write has the effect of the register write; an access to a closed BAR gets Unsupported Request and is reported. A poisoned write to an open BAR0 or BAR2 is reported and counted with kind 7 and writes nothing. A request that a window leads to HBM writes exactly its bytes, or returns them; one that no window serves is a miss. A request that another port claims is forwarded out of it. A downstream port with Bus Master Enable clear discards a posted request and counts it. -/
def Obligations.LinkRequestsReachBars : Prop :=
  (∀ (s : State) (q f off tag v : Nat),
    s.canArrive q = true →
    s.ingressShut q = false →
    f < 8 →
    f % 4 = 0 →
    s.barsOpen f = true →
    off + 8 ≤ 0x4000000 →
    off % 8 = 0 →
    s.brd.soft = none →
    s.place0 f off = .reg off →
    s.regRead off = some v →
    ∃ t, exec (.barMemoryRequest q f 0 off .read 8 [] tag) s = .next t ∧ t.out = s.out ++ [.cpl q tag .success (toLe 8 v) false] ∧
      t.regs = s.regs ∧ t.mem = s.mem ∧ (t.port q).link = .l0) ∧
  (∀ (s : State) (q f off tag n : Nat) (data : Bytes),
    s.canArrive q = true →
    s.ingressShut q = false →
    f < 8 →
    s.barsOpen f = true →
    off + data.length ≤ 0x4000000 →
    0 < data.length →
    exec (.barMemoryRequest q f 0 off .write n data tag) s = exec (.registerWrite f off data.length (le data)) (s.wakeLink q)) ∧
  (∀ (s : State) (q f bar off tag n : Nat) (kind : ReqKind) (data : Bytes),
    s.canArrive q = true →
    s.ingressShut q = false →
    f < 8 →
    (bar = 0 ∨ bar = 2) →
    s.barsOpen f = false →
    ∃ t, exec (.barMemoryRequest q f bar off kind n data tag) s = .next t ∧ t.regs = s.regs ∧ t.mem = s.mem ∧
      t.out = s.out ++ (if kind = .write then [] else [.cpl q tag .unsupported [] false]) ++ [.aer f .unsupportedRequest]) ∧
  (∀ (s : State) (q f bar off : Nat) (data : Bytes),
    s.canArrive q = true →
    s.ingressShut q = false →
    f < 8 →
    (bar = 0 ∨ bar = 2) →
    s.barsOpen f = true →
    off + data.length ≤ 0x1000000 →
    ∃ t, exec (.poisonedTlpReceived q f bar off data) s = .next t ∧ t.out = s.out ++ [.aer f .poisonedTlp] ∧
      t.regs = (s.badAccess 7 f).regs ∧ t.mem = s.mem ∧ t.host.fns = s.host.fns ∧ t.host.queues = s.host.queues) ∧
  (∀ (s : State) (q off n tag : Nat) (data : Bytes) (ep : Bool) (x : Win),
    s.canArrive q = true →
    s.ingressShut q = false →
    s.barsOpen (4 * s.portHier q + 3) = true →
    off + data.length ≤ 2 ^ (s.fn (4 * s.portHier q + 3)).bar4Log2 →
    ((List.range 64).map (s.winCurrent q)).find? (fun x => x.valid && decide (x.base * 65536 ≤ off) && decide (off + data.length ≤ (x.limit + 1) * 65536)) = some x →
    x.wr = true →
    x.port = false →
    s.inUse [useJobs] (x.target + (off - x.base * 65536)) data.length = true →
    ∃ t, exec (.bar4Request q .write off n data ep tag) s = .next t ∧
      t.mem.hbm = Memory.writeBytes s.mem.hbm (x.target + (off - x.base * 65536)) data ∧
      (∀ b, b < x.target + (off - x.base * 65536) ∨ x.target + (off - x.base * 65536) + data.length ≤ b →
      Memory.read t.mem.hbm b = Memory.read s.mem.hbm b)) ∧
  (∀ (s : State) (q off n tag : Nat) (x : Win),
    s.canArrive q = true →
    s.ingressShut q = false →
    s.barsOpen (4 * s.portHier q + 3) = true →
    off + n ≤ 2 ^ (s.fn (4 * s.portHier q + 3)).bar4Log2 →
    ((List.range 64).map (s.winCurrent q)).find? (fun x => x.valid && decide (x.base * 65536 ≤ off) && decide (off + n ≤ (x.limit + 1) * 65536)) = some x →
    x.rd = true →
    x.port = false →
    s.inUse [useJobs] (x.target + (off - x.base * 65536)) n = true →
    ∃ t ep, exec (.bar4Request q .read off n [] false tag) s = .next t ∧
      t.out = s.out ++ [.cpl q tag .success (Memory.readBytes s.mem.hbm (x.target + (off - x.base * 65536)) n) ep] ∧
      (ep = true ↔ ∃ b, b ∈ blocksOf (x.target + (off - x.base * 65536)) n ∧ (b ∈ s.mem.poison ∨ b ∈ s.mem.uncorr)) ∧ t.mem.hbm = s.mem.hbm) ∧
  (∀ (s : State) (q off n tag : Nat),
    s.canArrive q = true →
    s.ingressShut q = false →
    s.barsOpen (4 * s.portHier q + 3) = true →
    off + n ≤ 2 ^ (s.fn (4 * s.portHier q + 3)).bar4Log2 →
    ((List.range 64).map (s.winCurrent q)).find? (fun x => x.valid && decide (x.base * 65536 ≤ off) && decide (off + n ≤ (x.limit + 1) * 65536)) = none →
    ∃ t, exec (.bar4Request q .read off n [] false tag) s = .next t ∧ t.regs = (s.rsat (aPortCnt q 0) 63 0 1).regs ∧
      t.out = s.out ++ [.cpl q tag .unsupported [] false, .aer (4 * s.portHier q + 3) .unsupportedRequest] ∧ t.mem = s.mem) ∧
  (∀ (s : State) (q u a n tag : Nat) (kind : ReqKind) (data : Bytes) (ep : Bool),
    s.canArrive q = true →
    s.ingressShut q = false →
    s.portRole q < 2 →
    s.barHit (s.portHier q) a = none →
    s.claims (s.portHier q) a = some u →
    u ≠ q →
    (s.portRole q = 0 ∨ (s.port q).acsRedirect = false) →
    (s.port u).contained = false →
    (s.port u).sbrActive = false →
    (s.port u).link = .l0 →
    ∃ t, exec (.switchRoutedRequest q kind a n data ep tag) s = .next t ∧
      t.out = s.out ++ [.forward u kind a (if kind = .read then toLe 4 n else data) ep tag 9] ∧ t.mem = s.mem ∧ t.regs = s.regs) ∧
  (∀ (s : State) (q a n tag : Nat) (data : Bytes) (ep : Bool),
    s.canArrive q = true →
    s.ingressShut q = true →
    s.portRole q < 2 →
    ∃ t, exec (.switchRoutedRequest q .write a n data ep tag) s = .next t ∧ t.regs = (s.rsat (aPortCnt q 2) 63 0 1).regs ∧
      t.out = s.out ∧ t.mem = s.mem)

/-- A commit while BUSY is set is dropped and noted; a set that fails its checks is refused with the lowest failing window; otherwise each current window becomes its shadow and GENERATION rises by one. A request performed leaves the count of its generation. With Memory Space Enable clear, BAR4 takes a size of 2^30 to 2^38 bytes. Until the H9 is ready a configuration request gets Request Retry Status; afterwards a read returns its field and a write to Memory Space Enable or Bus Master Enable sets it. -/
def Obligations.WindowsAndConfigurationSpaceFollowTheirRequests : Prop :=
  (∀ (s : State) (q : Nat),
    q < 40 →
    s.rfield (aWinCtl q) 1 1 = 1 →
    exec (.windowCommit q) s = .next (s.rset (aWinCtl q) 2 2 1)) ∧
  (∀ (s : State) (q w : Nat),
    q < 40 →
    s.rfield (aWinCtl q) 1 1 = 0 →
    s.winFailing q = some w →
    exec (.windowCommit q) s = .next ((s.rset (aWinCtl q) 3 3 1).rset (aWinCtl q) 9 4 w)) ∧
  (∀ (s : State) (q : Nat),
    q < 40 →
    s.rfield (aWinCtl q) 1 1 = 0 →
    s.winFailing q = none →
    ∃ t, exec (.windowCommit q) s = .next t ∧ (∀ w, w < 64 → t.winCurrent q w = s.winShadow q w ∧ t.winShadow q w = s.winShadow q w) ∧
      t.rfield (aWinGen q) 31 0 = (s.rfield (aWinGen q) 31 0 + 1) % 2 ^ 32 ∧ t = { s with regs := t.regs }) ∧
  (∀ (s : State) (i : Nat) (r : WinReq),
    Map.get s.host.winReqs i = some r →
    s.host.reqs = [] →
    ∃ t, exec (.windowRequestPerformed i) s = .next t ∧ t.host.winReqs = Map.erase s.host.winReqs i ∧ t.mem = s.mem ∧
      t.rfield (aWinCtl r.q) 1 1 = b2n (t.host.winReqs.any fun x => x.2.q == r.q && x.2.gen == (s.rfield (aWinGen r.q) 31 0 + 2 ^ 32 - 1) % 2 ^ 32)) ∧
  (∀ (s : State) (h n : Nat),
    h < 2 →
    (s.fn (4 * h + 3)).mse = false →
    30 ≤ n →
    n ≤ 38 →
    exec (.bar4Resize h n) s = .next (s.setFn (4 * h + 3)
      { s.fn (4 * h + 3) with bar4Log2 := n, bar4 := (s.fn (4 * h + 3)).bar4 / 2 ^ n * 2 ^ n })) ∧
  (∀ (s : State) (f : Nat) (c : CfgField) (wr : Option Nat),
    f < 8 →
    (s.port (upPort f)).link = .l0 →
    s.brd.scReleased = false →
    s.brd.soft = none →
    ∃ t, exec (.configRequest f c wr) s = .next t ∧ t.out = s.out ++ [.cfgCpl f .retry 0] ∧ t.regs = s.regs ∧ t.host.fns = s.host.fns) ∧
  (∀ (s : State) (f : Nat) (c : CfgField),
    f < 8 →
    (s.port (upPort f)).link = .l0 →
    s.brd.scReleased = true →
    portOf c = none →
    (s.fn f).flr = false →
    ∃ t, exec (.configRequest f c none) s = .next t ∧ t.out = s.out ++ [.cfgCpl f .success (s.cfgRead f c)] ∧ t.regs = s.regs ∧
      t.host.fns = s.host.fns) ∧
  (∀ (s : State) (f v : Nat),
    f < 8 →
    (s.port (upPort f)).link = .l0 →
    s.brd.scReleased = true →
    (s.fn f).flr = false →
    (∃ t, exec (.configRequest f .memorySpace (some v)) s = .next t ∧ t.fn f = { s.fn f with mse := bit v 0 } ∧
      t.out = s.out ++ [.cfgCpl f .success 0]) ∧
      (∃ t, exec (.configRequest f .busMaster (some v)) s = .next t ∧ (t.fn f).bme = bit v 0 ∧ .cfgCpl f .success 0 ∈ t.out))

/-- In a state of canonical form an FLR detaches the function, destroys every spoke of it, drops its page requests, its pending interrupts and its mailbox. During a soft reset it waits for its end. When it completes, the function's configuration space and registers are at their reset values, BAR4 at its size since reset, and no other function has changed. -/
def Obligations.FunctionLevelResetClearsTheFunction : Prop :=
  (∀ (s : State) (f : Nat),
    f < 8 →
    s.canonical = true →
    s.brd.soft = none →
    (s.fn f).flr = false →
    ∃ t, exec (.flrInitiate f) s = .next t ∧ (t.fn f).flr = true ∧ (t.fn f).attach = .detached ∧ (t.fn f).baseSpoke = none ∧
      (t.fn f).pba = [] ∧ (t.fn f).mb = {} ∧ (∀ k x, t.spoke k = some x → x.fn ≠ f) ∧
      (∀ p, p ∈ t.host.pageReqs → p.fn ≠ f)) ∧
  (∀ (s : State) (f : Nat) (x : Bool),
    f < 8 →
    s.brd.soft = some x →
    exec (.flrInitiate f) s = .next { s with brd.deferred := s.brd.deferred ++ [(0, f)] }) ∧
  (∀ (s : State) (f : Nat),
    f < 8 →
    (s.fn f).flr = true →
    ∃ t, exec (.flrComplete f) s = .next t ∧ t.fn f = { bar4Log2 := s.brd.bar4Log2 } ∧ (∀ g, g ≠ f → t.fn g = s.fn g) ∧ t.mem = s.mem)

/-- With the firmware core released, no soft reset, and the service that the request names not down: a post while a request is outstanding is discarded and counted with kind 4. Otherwise the first of these that fails gives the response: the version (VERSION_MISMATCH with the accepted versions), the form (MALFORMED), the right of the function and of its attach state (NOT_PERMITTED). When none fails the request is outstanding, DONE is clear, and no other function has changed. -/
def Obligations.MailboxPostAnswersTheFirstFailure : Prop :=
  (∀ (s : State) (f v : Nat),
    (s.fn f).mb.outstanding = true →
    exec (.mailboxPost f v) s = .next (s.badAccess 4 f)) ∧
  (∀ (s : State) (f v : Nat) (m : Mailbox),
    (s.fn f).mb.outstanding = false →
    (s.fn f).mb.write 0 (toLe 8 v) = m →
    s.brd.scan = false →
    s.brd.soft = none →
    s.brd.scReleased = true →
    s.boot = 3 →
    s.serviceDown m.service = false →
    ∃ t, exec (.mailboxPost f v) s = .next t ∧
      (if m.versionBad then t.responded f .versionMismatch [3, 0, 3, 1] false
      else if m.formBad then t.responded f .malformed [] false
      else if m.fnOk f = false ∨ ((s.fn f).attach ≠ .attached ∧ m.opcode ≠ 1) then t.responded f .notPermitted [] false
      else (t.fn f).mb.outstanding = true ∧ (t.fn f).mb.req = m.req ∧ bit (t.fn f).mb.hdr1 16 = false ∧ t.out = s.out ∧ t.regs = s.regs) ∧
      (∀ g, g ≠ f → t.fn g = s.fn g) ∧ t.mem = s.mem ∧ t.host.queues = s.host.queues)

/-- Answering a request writes its status in byte 8 of the response header with byte 9 zero, payload and ASYNC bit, with MAJOR 3 and MINOR 1, the payload's length, and the OPCODE, SEQUENCE and SERVICE of the request; DONE is set and the request is no longer outstanding. No other function, no register but one class-7 histogram bucket, and no other part of the state changes, but for the messages held and sent. -/
def Obligations.ResponsesEchoTheirRequest : Prop :=
  (∀ (s : State) (f : Nat) (st : Status) (p : Bytes) (async : Bool),
    s.answered (s.respond f st p async) f st p async) ∧
  (∀ (m : Mailbox) (st : Status) (p : Bytes) (async : Bool),
    p.length < 2 ^ 16 →
    bits (m.answerWith st p async).hdr1 7 0 = st.code ∧ bits (m.answerWith st p async).hdr1 15 8 = 0 ∧
      bits (m.answerWith st p async).hdr0 7 0 = 3 ∧ bits (m.answerWith st p async).hdr0 15 8 = 1 ∧
      bits (m.answerWith st p async).hdr0 31 16 = m.opcode ∧ bits (m.answerWith st p async).hdr0 47 32 = p.length ∧
      bits (m.answerWith st p async).hdr0 63 48 = m.seq ∧ bits (m.answerWith st p async).hdr1 63 32 = m.service)

/-- An accepted HELLO attaches the function with its driver instance and restarts its timer: from DETACHED it makes the base spoke if there is none; its response carries the base spoke, the function, the previous driver instance and the epoch. A zero driver instance is MALFORMED. GOODBYE and an expired timer enter freewheel, where every work queue of the function is FROZEN or in ERROR. BEAT restarts the timer in ATTACHED and is counted as ignored otherwise. -/
def Obligations.PresenceCommandsMoveTheAttachState : Prop :=
  (∀ (s : State) (f k : Nat) (p : Bytes),
    s.performable f 0x0001 = true →
    (s.fn f).mb.payload = p →
    u64 p 0 ≠ 0 →
    (s.fn f).attach = .detached →
    (s.fn f).baseSpoke = none →
    Map.lowestFree s.host.spokes 2048 = some k →
    (s.host.spokes.filter fun x => x.2.fn == f).length < s.spokeLimit f →
    ∃ t, exec (.hello f) s = .next t ∧ (t.fn f).attach = .attached ∧ (t.fn f).driver = u64 p 0 ∧ (t.fn f).baseSpoke = some k ∧
      t.spoke k = some { fn := f, base := true } ∧ (t.fn f).hbDue = s.now + (s.fn f).hbTimeout ∧
      t.responded f .success (toLe 2 k ++ toLe 1 (f % 4) ++ toLe 1 (f / 4) ++ zeros 4 ++ toLe 8 0 ++ toLe 8 ((s.host.epoch + 1) % 2 ^ 64)) false) ∧
  (∀ (s : State) (f k : Nat) (p : Bytes),
    s.performable f 0x0001 = true →
    (s.fn f).mb.payload = p →
    u64 p 0 ≠ 0 →
    (s.fn f).attach = .detached →
    (s.fn f).baseSpoke = some k →
    ∃ t, exec (.hello f) s = .next t ∧ (t.fn f).attach = .attached ∧ (t.fn f).driver = u64 p 0 ∧ (t.fn f).baseSpoke = some k ∧
      t.responded f .success (toLe 2 k ++ toLe 1 (f % 4) ++ toLe 1 (f / 4) ++ zeros 4 ++ toLe 8 0 ++ toLe 8 s.host.epoch) false) ∧
  (∀ (s : State) (f : Nat) (p : Bytes),
    s.performable f 0x0001 = true →
    (s.fn f).mb.payload = p →
    u64 p 0 ≠ 0 →
    (s.fn f).attach = .attached →
    ∃ t, exec (.hello f) s = .next t ∧ (t.fn f).attach = .attached ∧ (t.fn f).driver = u64 p 0 ∧
      (∀ i q, t.queue i = some q → t.spokeFn q.spoke = f → q.kind.isRing = false → q.state = .frozen ∨ q.state = .error) ∧
      t.responded f .success (toLe 2 ((s.fn f).baseSpoke.getD 0) ++ toLe 1 (f % 4) ++ toLe 1 (f / 4) ++ zeros 4 ++
      toLe 8 (s.fn f).driver ++ toLe 8 ((s.host.epoch + 1) % 2 ^ 64)) false) ∧
  (∀ (s : State) (f : Nat) (p : Bytes),
    s.performable f 0x0001 = true →
    (s.fn f).mb.payload = p →
    u64 p 0 ≠ 0 →
    (s.fn f).attach = .freewheel →
    ∃ t, exec (.hello f) s = .next t ∧ (t.fn f).attach = .attached ∧ (t.fn f).driver = u64 p 0 ∧
      (t.fn f).hbDue = s.now + (s.fn f).hbTimeout ∧
      t.responded f .success (toLe 2 ((s.fn f).baseSpoke.getD 0) ++ toLe 1 (f % 4) ++ toLe 1 (f / 4) ++ zeros 4 ++
      toLe 8 (s.fn f).driver ++ toLe 8 s.host.epoch) false) ∧
  (∀ (s : State) (f : Nat) (p : Bytes),
    s.performable f 0x0001 = true →
    (s.fn f).mb.payload = p →
    u64 p 0 = 0 →
    ∃ t, exec (.hello f) s = .next t ∧ s.answered t f .malformed []) ∧
  (∀ (s : State) (f : Nat) (p : Bytes),
    s.performable f 0x0002 = true →
    (s.fn f).mb.payload = p →
    ∃ t, exec (.goodbye f) s = .next t ∧ (t.fn f).attach = .freewheel ∧ t.responded f .success [] false ∧
      (∀ i q, t.queue i = some q → t.spokeFn q.spoke = f → q.kind.isRing = false → q.state = .frozen ∨ q.state = .error)) ∧
  (∀ (s : State) (f : Nat),
    exec (.beat f) s = .next (if (s.fn f).attach = .attached then s.setFn f { s.fn f with hbDue := s.now + (s.fn f).hbTimeout }
      else s.setFn f { s.fn f with ignored := min ((s.fn f).ignored + 1) (2 ^ 32 - 1) })) ∧
  (∀ (s : State) (f : Nat),
    (s.fn f).attach = .attached →
    (s.fn f).d3hot = false →
    ∃ t, exec (.heartbeatTimeout f) s = .next t ∧ (t.fn f).attach = .freewheel ∧ t.now = max s.now (s.fn f).hbDue ∧
      (∀ i q, t.queue i = some q → t.spokeFn q.spoke = f → q.kind.isRing = false → q.state = .frozen ∨ q.state = .error)) ∧
  (∀ (s : State) (f : Nat),
    ((s.fn f).attach ≠ .attached ∨ (s.fn f).d3hot = true) →
    exec (.heartbeatTimeout f) s = .next s)

/-- With a payload in range, a PASID of its own, a root in a PTAB region, PASID enabled and room, CREATE makes the lowest free number a spoke of the function named, raises the epoch and returns the number and its doorbell page. MODIFY, with quotas that cover what the spoke holds, changes only quotas, weights and rates. DESTROY of a spoke other than a base spoke, with no connection, removes it, its queues and its counters, and answers; with connections the request stays outstanding. A base spoke is NOT_PERMITTED. -/
def Obligations.SpokesAreMadeChangedAndDestroyed : Prop :=
  (∀ (s : State) (f k : Nat) (p : Bytes),
    s.performable f 0x0101 = true →
    (s.fn f).mb.payload = p →
    (spokeArgs p).bad = false →
    s.pasidTaken (f / 4 * 4 + (spokeArgs p).pf) (spokeArgs p).pasid = false →
    s.rootBad (spokeArgs p).ptRoot = false →
    (f % 4 = 0 ∨ f / 4 * 4 + (spokeArgs p).pf = f) →
    (s.fn (f / 4 * 4 + (spokeArgs p).pf)).pasidEn = true →
    (s.host.spokes.filter fun x => x.2.fn == f / 4 * 4 + (spokeArgs p).pf).length < s.spokeLimit (f / 4 * 4 + (spokeArgs p).pf) →
    Map.lowestFree s.host.spokes 2048 = some k →
    ∃ t, exec (.spokeCreate f) s = .next t ∧ t.responded f .success (toLe 2 k ++ zeros 6 ++ toLe 8 (4096 * k)) false ∧
      t.spoke k = some { fn := f / 4 * 4 + (spokeArgs p).pf, pasid := (spokeArgs p).pasid, queueQuota := (spokeArgs p).queueQuota, counterQuota := (spokeArgs p).counterQuota, ptRoot := (spokeArgs p).ptRoot, schWeight := (spokeArgs p).schWeight, tileWeight := (spokeArgs p).tileWeight, tileLimit := (spokeArgs p).tileLimit, cir := (spokeArgs p).cir, pir := (spokeArgs p).pir } ∧
      (∀ j, j ≠ k → t.spoke j = s.spoke j) ∧ t.host.epoch = (s.host.epoch + 1) % 2 ^ 64 ∧ t.host.queues = s.host.queues ∧ t.mem = s.mem) ∧
  (∀ (s : State) (f : Nat) (p : Bytes) (x : Spoke),
    s.performable f 0x0103 = true →
    (s.fn f).mb.payload = p →
    s.spoke (u16 p 0) = some x →
    (spokeArgs (p.drop 8)).bad = false →
    (spokeArgs (p.drop 8)).pf = x.fn % 4 →
    (spokeArgs (p.drop 8)).pasid = x.pasid →
    (spokeArgs (p.drop 8)).ptRoot = x.ptRoot →
    (x.base = true ∨ s.rootBad x.ptRoot = false) →
    s.mayNameSpoke f (u16 p 0) = true →
    s.queuesHeld (u16 p 0) ≤ (spokeArgs (p.drop 8)).queueQuota →
    s.countersHeld (u16 p 0) ≤ (spokeArgs (p.drop 8)).counterQuota →
    ∃ t, exec (.spokeModify f) s = .next t ∧ t.responded f .success [] false ∧
      t.spoke (u16 p 0) = some { x with queueQuota := (spokeArgs (p.drop 8)).queueQuota, counterQuota := (spokeArgs (p.drop 8)).counterQuota, schWeight := (spokeArgs (p.drop 8)).schWeight, tileWeight := (spokeArgs (p.drop 8)).tileWeight, tileLimit := (spokeArgs (p.drop 8)).tileLimit, cir := (spokeArgs (p.drop 8)).cir, pir := (spokeArgs (p.drop 8)).pir } ∧
      (∀ j, j ≠ u16 p 0 → t.spoke j = s.spoke j) ∧ t.host.epoch = (s.host.epoch + 1) % 2 ^ 64 ∧ t.host.queues = s.host.queues ∧ t.mem = s.mem) ∧
  (∀ (s : State) (f : Nat) (p : Bytes) (x : Spoke),
    s.performable f 0x0102 = true →
    (s.fn f).mb.payload = p →
    s.canonical = true →
    s.spoke (u16 p 0) = some x →
    x.base = false →
    s.mayNameSpoke f (u16 p 0) = true →
    s.xpt.conns = [] →
    ∃ t, exec (.spokeDestroy f) s = .next t ∧ t.responded f .success [] false ∧ t.spoke (u16 p 0) = none ∧
      (∀ i q, t.queue i = some q → q.spoke ≠ u16 p 0) ∧ (∀ i c, Map.get t.trg.counters i = some c → c.spoke ≠ u16 p 0)) ∧
  (∀ (s : State) (f : Nat) (p : Bytes) (x : Spoke),
    s.performable f 0x0102 = true →
    (s.fn f).mb.payload = p →
    s.spoke (u16 p 0) = some x →
    (x.base = true ∨ s.mayNameSpoke f (u16 p 0) = false) →
    ∃ t, exec (.spokeDestroy f) s = .next t ∧ s.answered t f .notPermitted [])

/-- CREATE with a permitted payload and room makes the lowest free number a queue, ACTIVE when it is a ring or START is set and Bus Master Enable holds, STOPPED otherwise. DESTROY removes the queue and its operations and returns their number. START makes a STOPPED or FROZEN queue of an attached function ACTIVE; STOP makes an ACTIVE one STOPPED, answering at once when nothing is in progress. A doorbell of a work ring within R148's bounds sets PI, one beyond them is counted, and one to a page or queue that is not there is discarded and counted with kind 3. -/
def Obligations.QueueCommandsMoveTheQueue : Prop :=
  (∀ (s : State) (f n : Nat) (p : Bytes) (k : QKind),
    s.performable f 0x0110 = true →
    (s.fn f).mb.payload = p →
    QKind.ofCode (u8 p 0) = some k →
    s.queueCreateBad p k = false →
    s.mayNameSpoke f (u16 p 2) = true →
    (kindFns k).contains (f % 4) = true →
    (bit (u16 p 24) 15 = true → (Map.get s.trg.counters (bits (u16 p 24) 13 0)).map Counter.spoke = some (u16 p 2)) →
    s.queuesHeld (u16 p 2) < ((s.spoke (u16 p 2)).map Spoke.queueQuota).getD 0 →
    Map.lowestFree s.host.queues 131072 = some n →
    ∃ t q, exec (.queueCreate f) s = .next t ∧ t.responded f .success (toLe 4 n) false ∧ t.queue n = some q ∧ q.kind = k ∧
      q.spoke = u16 p 2 ∧ q.base = u64 p 8 ∧ q.log2 = u8 p 4 ∧ q.pi = 0 ∧ q.consumer = 0 ∧ q.due = [] ∧
      q.state = (if k.isRing || (bit (u8 p 1) 0 && (s.fn (s.spokeFn (u16 p 2))).bme) then .active else .stopped) ∧
      q.cq = (if k.isRing then none else some (u32 p 16)) ∧ (∀ j, j ≠ n → t.queue j = s.queue j) ∧
      t.host.epoch = (s.host.epoch + 1) % 2 ^ 64 ∧ t.mem = s.mem) ∧
  (∀ (s : State) (f : Nat) (p : Bytes) (q : Queue),
    s.performable f 0x0111 = true →
    (s.fn f).mb.payload = p →
    s.canonical = true →
    s.queue (u32 p 0) = some q →
    q.kind ≠ .nvme →
    s.mayNameSpoke f q.spoke = true →
    (q.kind = .completion → s.ringNamed (u32 p 0) = false) →
    ∃ t, exec (.queueDestroy f) s = .next t ∧ t.responded f .success (toLe 4 (s.opsOf (u32 p 0)).length) false ∧
      t.queue (u32 p 0) = none ∧ (∀ o x, t.op o = some x → x.queue ≠ u32 p 0)) ∧
  (∀ (s : State) (f : Nat) (p : Bytes) (q : Queue),
    s.performable f 0x0112 = true →
    (s.fn f).mb.payload = p →
    s.queue (u32 p 0) = some q →
    q.kind ≠ .nvme →
    s.mayNameSpoke f q.spoke = true →
    (q.state = .stopped ∨ q.state = .frozen) →
    (s.fn (s.spokeFn q.spoke)).attach = .attached →
    (s.fn (s.spokeFn q.spoke)).bme = true →
    q.cq = none →
    q.kind.isRing = false →
    ∃ t x, exec (.queueStart f) s = .next t ∧ t.responded f .success [] false ∧ t.queue (u32 p 0) = some x ∧ x.state = .active ∧
      x.pi = q.pi ∧ x.consumer = q.consumer) ∧
  (∀ (s : State) (f : Nat) (p : Bytes) (q : Queue),
    s.performable f 0x0113 = true →
    (s.fn f).mb.payload = p →
    s.queue (u32 p 0) = some q →
    q.kind ≠ .nvme →
    q.kind.isRing = false →
    s.mayNameSpoke f q.spoke = true →
    q.state = .active →
    ∃ t, exec (.queueStop f) s = .next t ∧
      t.queue (u32 p 0) = some { q with state := .stopped, stopFn := if s.inProgress (u32 p 0) = 0 then none else some f } ∧
      (s.inProgress (u32 p 0) = 0 → t.responded f .success [] false) ∧ (s.inProgress (u32 p 0) ≠ 0 → t.fn f = s.fn f) ∧
      (∀ j, j ≠ u32 p 0 → t.queue j = s.queue j) ∧ t.mem = s.mem) ∧
  (∀ (s : State) (f off v : Nat) (sp : Spoke) (q : Queue),
    off < 0x800000 →
    f < 8 →
    off % 8 = 0 →
    s.spoke (off / 4096) = some sp →
    sp.fn = f →
    s.queue (bits v 16 0) = some q →
    q.spoke = off / 4096 →
    bits v 31 17 = 0 →
    q.state ≠ .error →
    q.kind.isRing = false →
    q.kind ≠ .nvme →
    ∃ t x, exec (.doorbell f off 8 v) s = .next t ∧ t.queue (bits v 16 0) = some x ∧
      (if (bits v 63 32 + 2 ^ 32 - q.consumer) % 2 ^ 32 ≤ q.size ∧ (bits v 63 32 + 2 ^ 32 - q.pi) % 2 ^ 32 ≤ q.size
      then x.pi = bits v 63 32 ∧ x.bad = q.bad else x.pi = q.pi ∧ x.bad = min (q.bad + 1) 65535)) ∧
  (∀ (s : State) (f off width v : Nat),
    off < 0x800000 →
    f < 8 →
    (s.spoke (off / 4096) = none ∨ s.queue (bits v 16 0) = none) →
    exec (.doorbell f off width v) s = .next (s.badAccess 3 f))

/-- A clean descriptor read of a queue that may fetch and need not wait makes the next operation, with that descriptor and its ring index, and moves CONSUMER by one; a failing one puts the queue in ERROR. A finished operation that must signal leaves, and its 32-byte entry is written to the completion ring at the write index when the ring may take it. A summary that fits its buffer is written there with the first cursor, and its response gives its bytes, its records and the epoch. -/
def Obligations.DescriptorsBecomeOperationsAndLeave : Prop :=
  (∀ (s u : State) (qi : Nat) (q : Queue) (r : AccRes) (ans : HostAns),
    s.queue qi = some q →
    s.mayFetch qi q = true →
    s.waitState q = .go →
    s.spokeRead q.spoke (q.base + 64 * (q.consumer % q.size)) 64 ans = (u, r) →
    r.status = .success →
    r.poisoned = false →
    r.medium = false →
    Map.has u.trg.entries (trigKey q.spoke (dTrigger r.data)) = false →
    ∃ t x y, exec (.descriptorFetched qi ans) s = .next t ∧ t.op u.host.nextOp = some x ∧ x.queue = qi ∧ x.index = q.consumer ∧
      x.desc = r.data ∧ x.consumer = (q.consumer + 1) % 2 ^ 32 ∧ t.queue qi = some y ∧
      y.consumer = (q.consumer + 1) % 2 ^ 32 ∧ y.fetched = q.fetched + 1 ∧ t.host.nextOp = u.host.nextOp + 1 ∧
      (descMalformed q.kind r.data = true → x.phase = .done ∧ x.status = .malformed)) ∧
  (∀ (s u : State) (qi : Nat) (q : Queue) (r : AccRes) (ans : HostAns),
    s.queue qi = some q →
    s.mayFetch qi q = true →
    s.waitState q = .go →
    s.spokeRead q.spoke (q.base + 64 * (q.consumer % q.size)) 64 ans = (u, r) →
    (r.status ≠ .success ∨ r.poisoned = true ∨ r.medium = true) →
    u.pages q.spoke r = false →
    ∃ t y, exec (.descriptorFetched qi ans) s = .next t ∧ t.queue qi = some y ∧ y.state = .error ∧ y.consumer = q.consumer ∧
      t.host.nextOp = u.host.nextOp) ∧
  (∀ (s : State) (o ri : Nat) (x : Op) (q r : Queue) (sp : Spoke) (d : Bytes) (ep : Bool),
    s.canonical = true →
    s.op o = some x →
    x.phase = .done →
    s.queue x.queue = some q →
    q.cq = some ri →
    (dSignal x.desc = true ∨ x.status ≠ .success) →
    s.queue ri = some r →
    r.kind = .completion →
    r.state = .active →
    r.due = [] →
    r.used < r.size →
    q.state ≠ .frozen →
    s.spoke r.spoke = some sp →
    sp.base = true →
    s.canMaster sp.fn = true →
    s.rimDown = false →
    (r.base + 32 * (r.pi % r.size)) % 32 = 0 →
    ∃ t, exec (.operationComplete o (.ok d ep)) s = .next t ∧ t.op o = none ∧
      .ringEntry ri (r.pi % r.size) (r.base + 32 * (r.pi % r.size)) (Due.bytes { cookie := dCookie x.desc, count := x.bytes, status := x.status, kind := q.kind.code, flags := x.flags, queue := x.queue, consumer := x.consumer, detail := x.detail } r.phase) ∈ t.out) ∧
  (∀ (s : State) (f : Nat) (p d : Bytes) (ep : Bool),
    s.performable f 0x0010 = true →
    (s.fn f).mb.payload = p →
    u64 p 16 = 0 →
    u32 p 8 % 8 = 0 →
    64 ≤ u32 p 8 →
    (bit (u8 p 12) 0 = true → f % 4 = 0) →
    s.canMaster f = true →
    s.rimDown = false →
    ((s.summary fun g => if bit (u8 p 12) 0 then g / 4 == f / 4 else g == f).map List.length).sum ≤ u32 p 8 →
    ∃ t, exec (.stateSummary f (.ok d ep)) s = .next t ∧
      t.responded f .success (toLe 4 (s.summary fun g => if bit (u8 p 12) 0 then g / 4 == f / 4 else g == f).flatten.length ++
      toLe 4 (s.summary fun g => if bit (u8 p 12) 0 then g / 4 == f / 4 else g == f).length ++ toLe 8 0 ++ toLe 8 s.host.epoch) false ∧
      .memWrite f none (s.fn f).atsEn (u64 p 0) (s.summary fun g => if bit (u8 p 12) 0 then g / 4 == f / 4 else g == f).flatten false ∈ t.out ∧
      t.host.cursors = s.host.cursors ∧ t.host.queues = s.host.queues)

/-- For a request that is served now: a change that HBM_REGION_SET accepts takes effect at once, its journal record carries the response, and a region set starts to be zeroed; a request that changes nothing succeeds; a bad one is MALFORMED and changes nothing. The end of zeroing makes every byte of the region read zero without a poison mark, and no byte outside it changes when no ASYNC command waits for it. MEM_ECC_TEST puts an idle region in test mode, and its exit starts the zeroing and answers ASYNC. -/
def Obligations.RegionsAreSetZeroedAndTested : Prop :=
  (∀ (s : State) (f : Nat) (p : Bytes),
    s.performable f 0x0201 = true →
    (s.fn f).mb.payload = p →
    f % 4 = 0 →
    u8 p 0 < 64 →
    s.regionBad (u8 p 0) (regionArg p) = false →
    s.hbmRegion (u8 p 0) = none →
    (regionArg p).valid = true →
    (regionArg p).use ≠ useFirmware →
    s.rangeBusy (regionArg p) = false →
    s.mem.absent = false →
    s.jRoom p.length = true →
    ∃ t, exec (.hbmRegionSet f) s = .next t ∧
      State.journalled { s with mem.regions := Map.put s.mem.regions (u8 p 0) { regionArg p with zeroing := true } } t
      0x0201 (u8 p 0) false p (some ⟨f, .success, [], some (u8 p 0), none⟩)) ∧
  (∀ (s : State) (f : Nat) (p : Bytes) (x : Region),
    s.performable f 0x0201 = true →
    (s.fn f).mb.payload = p →
    f % 4 = 0 →
    u8 p 0 < 64 →
    s.regionBad (u8 p 0) (regionArg p) = false →
    s.hbmRegion (u8 p 0) = some x →
    x.use ≠ useFirmware →
    s.regionBusy x = false →
    (regionArg p).valid = false →
    x ≠ regionArg p →
    s.mem.absent = false →
    s.jRoom p.length = true →
    ∃ t, exec (.hbmRegionSet f) s = .next t ∧
      State.journalled { s with mem.regions := Map.erase s.mem.regions (u8 p 0) } t
      0x0201 (u8 p 0) false p (some ⟨f, .success, [], none, none⟩)) ∧
  (∀ (s : State) (f : Nat) (p : Bytes),
    s.performable f 0x0201 = true →
    (s.fn f).mb.payload = p →
    s.regionBad (u8 p 0) (regionArg p) = true →
    ∃ t, exec (.hbmRegionSet f) s = .next t ∧ s.answered t f .malformed []) ∧
  (∀ (s : State) (i : Nat) (r : Region),
    Map.get s.mem.regions i = some r →
    r.zeroing = true →
    (s.fwm.jpend.any fun w => w.type == 0x0201 && w.key == i) = false →
    ∃ t, exec (.regionZeroingComplete i) s = .next t ∧
      Map.get t.mem.regions i = some { r with zeroing := false, test := false } ∧
      (∀ a ∈ t.host.asyncs, (a.opcode = 0x0201 ∨ a.opcode = 0x0210) → a.arg ≠ i) ∧
      (∀ j, j ≠ i → Map.get t.mem.regions j = Map.get s.mem.regions j)) ∧
  (∀ (s : State) (i : Nat) (r : Region),
    Map.get s.mem.regions i = some r →
    r.zeroing = true →
    s.fwm.jpend.any (fun w => w.type == 0x0201 && w.key == i) = false →
    s.host.asyncs.any (fun a => (a.opcode == 0x0201 || a.opcode == 0x0210) && a.arg == i) = false →
    s.canonical = true →
    ∃ t, exec (.regionZeroingComplete i) s = .next t ∧
      (∀ a, r.baseByte ≤ a → a < r.baseByte + r.bytes → Memory.read t.mem.hbm a = 0 ∧ a / 64 ∉ t.mem.poison) ∧
      (∀ a, ¬ (r.baseByte ≤ a ∧ a < r.baseByte + r.bytes) → Memory.read t.mem.hbm a = Memory.read s.mem.hbm a) ∧
      t.host = s.host ∧ t.regs = s.regs ∧ t.out = s.out) ∧
  (∀ (s : State) (f : Nat) (p : Bytes) (r : Region),
    s.performable f 0x0210 = true →
    (s.fn f).mb.payload = p →
    u8 p 0 < 64 →
    f % 4 = 0 →
    s.hbmRegion (u8 p 0) = some r →
    bit (u8 p 1) 0 = true →
    r.use ≠ useFirmware →
    s.regionBusy r = false →
    s.mem.regions.any (fun x => x.2.test) = false →
    ∃ t, exec (.memEccTest f) s = .next t ∧
      State.answered { s with mem.regions := Map.put s.mem.regions (u8 p 0) { r with test := true } } t f .success []) ∧
  (∀ (s : State) (f : Nat) (p : Bytes) (r : Region),
    s.performable f 0x0210 = true →
    (s.fn f).mb.payload = p →
    u8 p 0 < 64 →
    f % 4 = 0 →
    s.hbmRegion (u8 p 0) = some r →
    bit (u8 p 1) 0 = false →
    r.test = true →
    r.zeroing = false →
    ∃ t, exec (.memEccTest f) s = .next t ∧
      State.answered { s with mem.regions := Map.put s.mem.regions (u8 p 0) { r with zeroing := true }, host.asyncs := s.host.asyncs ++ [AsyncCmd.mk f (s.fn f).mb.opcode (s.fn f).mb.seq (u8 p 0)] } t f .success [] true)

/-- PT_INVALIDATE drops the cached entries of the range and answers, or waits, once dropped, for a read that used one. MEM_REPAIR_LIST answers the entries from an index on and the next index. Scrub goes to the next block and counts a correction at its stack. READ_RAW gives the stored data and check bits; WRITE_RAW stores the window's; READ_DECODED of an unmarked block with its own check bits gives the data with result 0. Outside a region in test mode a raw command only counts a bad access. Self-refresh is entered only under its conditions. -/
def Obligations.MemoryServiceCommandsComplete : Prop :=
  (∀ (s : State) (f : Nat) (p : Bytes),
    s.performable f 0x0220 = true →
    (s.fn f).mb.payload = p →
    (s.spoke (u16 p 0)).isSome = true →
    s.mayNameSpoke f (u16 p 0) = true →
    s.host.reqs = [] →
    ∃ t, exec (.ptInvalidate f) s = .next t ∧
      State.answered { s with host.atc := s.host.atc.filter fun e => !(e.spoke == u16 p 0 && meets e.page e.size (u64 p 8) (u64 p 16)) }
      t f .success []) ∧
  (∀ (s : State) (f : Nat) (p : Bytes),
    s.performable f 0x0230 = true →
    (s.fn f).mb.payload = p →
    ∃ t, exec (.memRepairList f) s = .next t ∧
      s.answered t f .success (toLe 4 (min 509 (s.mem.repairs.length - u32 p 0)) ++
      toLe 4 (if u32 p 0 + min 509 (s.mem.repairs.length - u32 p 0) < s.mem.repairs.length then u32 p 0 + min 509 (s.mem.repairs.length - u32 p 0) else 0) ++
      ((s.mem.repairs.drop (u32 p 0)).take 509).flatMap fun r => toLe 8 r.word)) ∧
  (∀ (s : State) (l : List Nat) (fixed : Bool) (pin b c : Nat),
    s.rfield aScrub 0 0 = 1 →
    s.mem.refresh = false →
    s.mem.absent = false →
    s.scrubFrom s.mem.scrubPos = some b →
    s.scrubFrom (b + 1) = some c →
    s.mem.poison.contains b = false →
    s.mem.uncorr = [] →
    fixed = false →
    exec (.scrubRead [] fixed pin) s = .next { s with mem.scrubPos := b + 1 }) ∧
  (∀ (s : State) (pin b c : Nat),
    s.rfield aScrub 0 0 = 1 →
    s.mem.refresh = false →
    s.mem.absent = false →
    s.scrubFrom s.mem.scrubPos = some b →
    s.scrubFrom (b + 1) = some c →
    s.mem.poison.contains b = false →
    s.mem.uncorr = [] →
    s.rfield aRetire 15 0 = 65535 →
    ∃ t, exec (.scrubRead [] true pin) s = .next t ∧ t.mem.scrubPos = b + 1 ∧ t.mem.hbm = s.mem.hbm ∧ t.mem.poison = s.mem.poison ∧
      t.rfield (aHbmStat (stackOf (64 * b))) 47 16 = min (s.rfield (aHbmStat (stackOf (64 * b))) 47 16 + 1) (2 ^ 32 - 1)) ∧
  (∀ (s : State) (f : Nat) (r : Region),
    s.rawRegion = some r →
    ∃ t, exec (.readRaw f) s = .next t ∧
      (∀ k, k < 8 → t.rget (aRawData k) = u64 (Memory.readBytes s.mem.hbm (64 * s.rfield aRawAddr 47 6) 64) (8 * k)) ∧
      t.rget aRawCheck = s.storedCheck r.strong (s.rfield aRawAddr 47 6) (Memory.readBytes s.mem.hbm (64 * s.rfield aRawAddr 47 6) 64) ∧
      t = { s with regs := t.regs }) ∧
  (∀ (s : State) (f : Nat) (r : Region),
    s.rawRegion = some r →
    ∃ t, exec (.writeRaw f) s = .next t ∧
      (∀ i, i < 64 → Memory.read t.mem.hbm (64 * s.rfield aRawAddr 47 6 + i) = s.rawBytes.getD i 0) ∧
      (∀ a, a / 64 ≠ s.rfield aRawAddr 47 6 → Memory.read t.mem.hbm a = Memory.read s.mem.hbm a) ∧
      Map.get t.mem.rawCheck (s.rfield aRawAddr 47 6) = some (s.rget aRawCheck % (if r.strong then 2 ^ 32 else 2 ^ 64)) ∧
      s.rfield aRawAddr 47 6 ∉ t.mem.poison ∧ t.regs = s.regs ∧ t.host = s.host ∧ t.out = s.out) ∧
  (∀ (s : State) (f : Nat) (r : Region),
    s.rawRegion = some r →
    s.mem.uncorr.contains (s.rfield aRawAddr 47 6) = false →
    Map.get s.mem.rawCheck (s.rfield aRawAddr 47 6) = none →
    s.mem.poison.contains (s.rfield aRawAddr 47 6) = false →
    ∃ t, exec (.readDecoded f) s = .next t ∧
      (∀ k, k < 8 → t.rget (aRawData k) = u64 (Memory.readBytes s.mem.hbm (64 * s.rfield aRawAddr 47 6) 64) (8 * k)) ∧
      t.rfield aRawCmd 5 4 = 0 ∧ t.rfield aRawCmd 15 8 = 0 ∧ t = { s with regs := t.regs }) ∧
  (∀ (s : State) (f : Nat),
    s.rawRegion = none →
    exec (.readRaw f) s = .next (s.badAccess 5 f) ∧ exec (.writeRaw f) s = .next (s.badAccess 5 f) ∧
      exec (.readDecoded f) s = .next (s.badAccess 5 f)) ∧
  (∀ (s : State),
    exec .hbmSelfRefreshEntry s = .next { s with mem.refresh := s.mem.refresh || s.mayRefresh })

/-- A COPY of clean HBM to HBM within one page on each side, and a FILL of HBM within one page, complete SUCCESS with the length: each destination byte is the source byte, or byte (address modulo 8) of the pattern, every other byte of HBM is unchanged, and nothing is sent. LEN 0 completes SUCCESS with no byte moved; a device operand on a spoke that is not PF0's base spoke completes NOT_PERMITTED. -/
def Obligations.CopyAndFillMoveTheirBytes : Prop :=
  (∀ (s : State) (o : Nat) (x : Op) (q : Queue) (rd wr : HostAns),
    s.running o .copy = some (x, q) →
    dOpcode x.desc = 1 →
    x.reading = false →
    x.bytes = 0 →
    x.buf = none →
    x.poisoned = false →
    x.medium = false →
    s.devRefused x.desc q.spoke = false →
    0 < cLen x.desc →
    cSrcDev x.desc = true →
    cDstDev x.desc = true →
    cSrc x.desc % 4096 + cLen x.desc ≤ 4096 →
    cDst x.desc % 4096 + cLen x.desc ≤ 4096 →
    (cSrc x.desc + cLen x.desc ≤ cDst x.desc ∨ cDst x.desc + cLen x.desc ≤ cSrc x.desc) →
    s.inUse devUses (cSrc x.desc) (cLen x.desc) = true →
    s.inUse devUses (cDst x.desc) (cLen x.desc) = true →
    s.mem.poison = [] →
    s.mem.uncorr = [] →
    s.mem.fresh = [] →
    s.mem.prot = [] →
    ∃ t y, exec (.copy o rd wr) s = .next t ∧ t.op o = some y ∧ y.phase = .done ∧ y.status = .success ∧ y.bytes = cLen x.desc ∧
      (∀ i, i < cLen x.desc → Memory.read t.mem.hbm (cDst x.desc + i) = Memory.read s.mem.hbm (cSrc x.desc + i)) ∧
      (∀ a, ¬ (cDst x.desc ≤ a ∧ a < cDst x.desc + cLen x.desc) → Memory.read t.mem.hbm a = Memory.read s.mem.hbm a) ∧
      (∀ o', o' ≠ o → t.op o' = s.op o') ∧ t.out = s.out ∧ t.regs = s.regs) ∧
  (∀ (s : State) (o : Nat) (x : Op) (q : Queue) (wr : HostAns),
    s.running o .copy = some (x, q) →
    dOpcode x.desc = 2 →
    x.bytes = 0 →
    x.poisoned = false →
    x.medium = false →
    s.devRefused x.desc q.spoke = false →
    0 < cLen x.desc →
    cDstDev x.desc = true →
    cDst x.desc % 4096 + cLen x.desc ≤ 4096 →
    s.inUse devUses (cDst x.desc) (cLen x.desc) = true →
    s.mem.prot = [] →
    ∃ t y, exec (.fill o wr) s = .next t ∧ t.op o = some y ∧ y.phase = .done ∧ y.status = .success ∧ y.bytes = cLen x.desc ∧
      (∀ i, i < cLen x.desc →
      Memory.read t.mem.hbm (cDst x.desc + i) = BitVec.ofNat 8 (cSrc x.desc / 256 ^ ((cDst x.desc + i) % 8))) ∧
      (∀ a, ¬ (cDst x.desc ≤ a ∧ a < cDst x.desc + cLen x.desc) → Memory.read t.mem.hbm a = Memory.read s.mem.hbm a) ∧
      (∀ o', o' ≠ o → t.op o' = s.op o') ∧ t.out = s.out) ∧
  (∀ (s : State) (o : Nat) (x : Op) (q : Queue) (rd wr : HostAns),
    s.running o .copy = some (x, q) →
    x.reading = false →
    s.devRefused x.desc q.spoke = true →
    s.mem.fresh = [] →
    (dOpcode x.desc = 1 → exec (.copy o rd wr) s = .next (s.finish o .notPermitted 0 0)) ∧
      (dOpcode x.desc = 2 → exec (.fill o wr) s = .next (s.finish o .notPermitted 0 0))) ∧
  (∀ (s : State) (o : Nat) (x : Op) (q : Queue) (rd wr : HostAns),
    s.running o .copy = some (x, q) →
    x.reading = false →
    x.bytes = 0 →
    s.devRefused x.desc q.spoke = false →
    cLen x.desc = 0 →
    s.mem.fresh = [] →
    (dOpcode x.desc = 1 → exec (.copy o rd wr) s = .next (s.finish o .success 0 0)) ∧
      (dOpcode x.desc = 2 → exec (.fill o wr) s = .next (s.finish o .success 0 0)))

/-- On a link that is up, a damaged frame and one of a length outside the bounds are dropped and counted, a PAUSE frame in PAUSE mode pauses every priority for its quanta, and an ordinary frame whose bucket is not cached takes the current version as its tag, raises its in-flight count by one and waits for the bucket; an injected packet does the same. A bucket that arrives lets the packet that waited for it act: with a DROP action it is dropped and counted. A decrypted packet waits for its second lookup, or is dropped. The end of a pause lets the priority send again; the refresh repeats PAUSE while occupancy stays. -/
def Obligations.FramesAreTakenHeldOrDropped : Prop :=
  (∀ (s : State) (sub : Nat) (b : Bytes) (ok : Bool) (ans : HostAns),
    s.linkUp sub = false →
    exec (.frameReceived sub b ok ans) s = .next s) ∧
  (∀ (s : State) (sub : Nat) (b : Bytes) (ok : Bool) (ans : HostAns),
    s.linkUp sub = true →
    s.loopback (sub / 4) ≠ 2 →
    ok = false →
    exec (.frameReceived sub b ok ans) s = .next (s.rsat (aDrop sub 0) 63 0 1)) ∧
  (∀ (s : State) (sub : Nat) (b : Bytes) (ans : HostAns),
    s.linkUp sub = true →
    s.loopback (sub / 4) ≠ 2 →
    (b.length < 60 ∨ s.maxFrame (sub / 4) < b.length + 4) →
    exec (.frameReceived sub b true ans) s = .next (s.rsat (aDrop sub 1) 63 0 1)) ∧
  (∀ (s : State) (sub : Nat) (b : Bytes) (ans : HostAns),
    s.linkUp sub = true →
    s.loopback (sub / 4) ≠ 2 →
    60 ≤ b.length →
    b.length + 4 ≤ s.maxFrame (sub / 4) →
    fldBe b 12 2 = 0x8808 →
    fldBe b 14 2 = 1 →
    s.fcMode sub = 1 →
    fldBe b 16 2 ≠ 0 →
    ∃ t, exec (.frameReceived sub b true ans) s = .next t ∧
      (∀ i, i < 8 → Map.get t.net.paused (sub * 8 + i) = some (s.now + ceilDiv (fldBe b 16 2 * 512) (s.subRate sub))) ∧
      t = { s with net.paused := t.net.paused }) ∧
  (∀ (s : State) (sub : Nat) (b : Bytes) (ans : HostAns),
    s.linkUp sub = true →
    s.loopback (sub / 4) ≠ 2 →
    60 ≤ b.length →
    b.length + 4 ≤ s.maxFrame (sub / 4) →
    fldBe b 12 2 ≠ 0x8808 →
    s.secyOn sub = false →
    (parse b sub 0).drop = false →
    (parse b sub 0).slow = false →
    s.net.cache = [] →
    ∃ t x, exec (.frameReceived sub b true ans) s = .next t ∧ t.net.lookups = s.net.lookups ++ [x] ∧ x.pkt.sub = sub ∧
      x.pkt.data = b ∧ x.pkt.tag = s.net.current ∧ x.profile = (s.profilesOf s.net.current (parse b sub 0).cls).1 ∧
      x.key = (parse b sub 0).key (s.bitmap x.profile) ∧
      t.net.vers = s.net.vers.map (fun v => (v.1, if v.2.number = s.net.current then { v.2 with inFlight := v.2.inFlight + 1 } else v.2)) ∧
      t.host = s.host ∧ t.mem = s.mem ∧ t.regs = s.regs) ∧
  (∀ (s : State) (sub : Nat) (b : Bytes) (ans : HostAns),
    (parse b sub 0).drop = false →
    (parse b sub 0).slow = false →
    s.net.cache = [] →
    ∃ t x, exec (.slowPathInject sub b ans) s = .next t ∧ t.net.lookups = s.net.lookups ++ [x] ∧ x.pkt.sub = sub ∧
      x.pkt.data = b ∧ x.pkt.tag = s.net.current ∧
      t.net.vers = s.net.vers.map (fun v => (v.1, if v.2.number = s.net.current then { v.2 with inFlight := v.2.inFlight + 1 } else v.2)) ∧
      t.host = s.host ∧ t.mem = s.mem ∧ t.regs = s.regs) ∧
  (∀ (s : State) (x : Lookup) (i : Nat) (ans : HostAns),
    s.net.lookups = [x] →
    s.ingressAction x.pkt.tag x.pkt.sub x.pkt.parsed = some i →
    aVerdict (s.action i) = 0 →
    aMeterEn (s.action i) = false →
    aMirror (s.action i) = false →
    Map.get s.tel.sampleN x.pkt.sub = none →
    ∃ t, exec (.classifyCacheFill x.profile x.key ans) s = .next t ∧ t.net.lookups = [] ∧ (x.profile, x.key) ∈ t.net.cache ∧
      t.rfield (aDrop x.pkt.sub 5) 63 0 = min (s.rfield (aDrop x.pkt.sub 5) 63 0 + 1) (2 ^ 64 - 1) ∧
      t.net.vers = s.net.vers.map (fun v => (v.1, if v.2.number = x.pkt.tag then { v.2 with inFlight := v.2.inFlight - 1 } else v.2)) ∧
      t.host = s.host ∧ t.mem = s.mem) ∧
  (∀ (s : State) (i : Nat) (d : Decrypt) (ans : HostAns),
    Map.get s.net.decrypts i = some d →
    s.net.cache = [] →
    s.canonical = true →
    Map.get s.tel.sampleN d.pkt.sub = none →
    ∃ t, exec (.ipsecDecryptComplete i ans) s = .next t ∧ t.net.decrypts = Map.erase s.net.decrypts i ∧
      (t.net.lookups = s.net.lookups ∨ ∃ x, t.net.lookups = s.net.lookups ++ [x] ∧ x.pkt.second = true ∧ x.pkt.prot = true ∧
      x.pkt.sub = d.pkt.sub ∧ x.pkt.tag = d.pkt.tag ∧ (s.espOpen d).2 = some (x.pkt.data, x.pkt.origin)) ∧
      (s.espOpen d = (s, none) → t.rfield (aDrop d.pkt.sub 6) 63 0 = min (s.rfield (aDrop d.pkt.sub 6) 63 0 + 1) (2 ^ 64 - 1))) ∧
  (∀ (s : State) (sub prio u : Nat),
    Map.get s.net.paused (sub * 8 + prio) = some u →
    exec (.pauseExpire sub prio) s = .next { s with net.paused := Map.erase s.net.paused (sub * 8 + prio), now := max s.now u }) ∧
  (∀ (s : State) (sub prio : Nat),
    (sub * 8 + prio) ∈ s.net.xoff →
    s.xonAt sub ≤ s.occupancy sub prio →
    exec (.pfcRefresh sub prio) s = .next (s.emit (.pause sub prio true)))

/-- A refused PORT_COMMIT only sets its failure bit. An accepted one puts the RWC fields written in effect, takes every sub-port of the port down and trains those of the new mode. A link that goes down leaves no sent frame of a PACKET_SEND queue of it in progress: each completes RETRY_LATER. A link that may rise is up; one without its die-to-die pair, its reference or a lane stays down. -/
def Obligations.LinksAndPortCommitMoveTheirSubports : Prop :=
  (∀ (s : State) (i : Nat),
    i < 8 →
    (bits (s.rget (aPortCfg i)) 21 8 < 1518 ∨ 9216 < bits (s.rget (aPortCfg i)) 21 8) →
    exec (.portCommit i) s = .next (s.rset (aPortCfg i) 7 7 1)) ∧
  (∀ (s : State) (i : Nat),
    i < 8 →
    1518 ≤ bits (s.rget (aPortCfg i)) 21 8 →
    bits (s.rget (aPortCfg i)) 21 8 ≤ 9216 →
    s.host.queues = [] →
    s.xpt.conns = [] →
    ∃ t, exec (.portCommit i) s = .next t ∧
      Map.get t.net.mode i = some (setBits (setBits (s.rget (aPortCfg i)) 6 6 0) 63 22 0) ∧
      (∀ j, j < 4 → 4 * i + j ∉ t.net.up) ∧ (∀ u, u ∈ s.net.up → u / 4 ≠ i → u ∈ t.net.up) ∧
      (∀ j, j < modeSubports (bits (s.rget (aPortCfg i)) 1 0) → .trained (4 * i + j) ∈ t.out) ∧ t.rget (aPortCfg i) = s.rget (aPortCfg i)) ∧
  (∀ (s : State) (sub : Nat),
    sub ∈ s.net.up →
    s.xpt.conns = [] →
    ∃ t, exec (.subportLinkDown sub) s = .next t ∧ t.net = { s.net with up := setDel s.net.up sub } ∧
      (∀ o x q, s.op o = some x → x.posted = true → x.phase = .started → s.queue x.queue = some q → q.kind = .packetSend → q.sub = sub →
      ∃ y, t.op o = some y ∧ y.phase = .done ∧ y.status = .retryLater ∧ y.bytes = 0) ∧
      t.mem = s.mem ∧ t.regs = s.regs ∧ t.out = s.out) ∧
  (∀ (s : State) (sub : Nat),
    s.mayRise sub = true →
    s.xpt.conns = [] →
    exec (.subportLinkUp sub) s = .next { s with net.up := setIns s.net.up sub }) ∧
  (∀ (s : State) (sub : Nat),
    s.mayRise sub = false →
    exec (.subportLinkUp sub) s = .next s)

/-- SEND reads its buffer, and the frame joins the frames of its queue padded to 60 bytes; a frame too long is MALFORMED, and on a link that is down it completes RETRY_LATER. POST posts its buffer; a buffer of a bad size is MALFORMED. A frame that the scheduler selects and no egress rule stops leaves on its sub-port, and its operation completes SUCCESS with its length. -/
def Obligations.SentAndPostedDescriptorsComplete : Prop :=
  (∀ (s u : State) (o : Nat) (x : Op) (q : Queue) (ans : HostAns) (r : AccRes),
    s.running o .packetSend = some (x, q) →
    x.posted = false →
    14 ≤ bits (u32 x.desc 24) 13 0 →
    bits (u32 x.desc 24) 13 0 + 4 ≤ s.maxFrame (q.sub / 4) →
    s.linkUp q.sub = true →
    s.spokeRead q.spoke (u64 x.desc 16) (bits (u32 x.desc 24) 13 0) ans = (u, r) →
    r.status = .success →
    r.poisoned = false →
    r.medium = false →
    bit (dKindWord x.desc) 1 = false →
    exec (.send o ans) s = .next (State.enqueue (u.modOp o fun y => { y with posted := true }) x.queue
      { op := some o, data := padTo (max 60 r.data.length) r.data, cls := q.cls, ts := bit (dKindWord x.desc) 0 })) ∧
  (∀ (s : State) (o : Nat) (x : Op) (q : Queue) (ans : HostAns),
    s.running o .packetSend = some (x, q) →
    x.posted = false →
    ((0 < bits (u32 x.desc 24) 13 0 ∧ bits (u32 x.desc 24) 13 0 < 14) ∨ s.maxFrame (q.sub / 4) < bits (u32 x.desc 24) 13 0 + 4) →
    exec (.send o ans) s = .next (s.finish o .malformed 0 0)) ∧
  (∀ (s : State) (o : Nat) (x : Op) (q : Queue) (ans : HostAns),
    s.running o .packetSend = some (x, q) →
    x.posted = false →
    14 ≤ bits (u32 x.desc 24) 13 0 →
    bits (u32 x.desc 24) 13 0 + 4 ≤ s.maxFrame (q.sub / 4) →
    s.linkUp q.sub = false →
    exec (.send o ans) s = .next (s.finish o .retryLater 0 0)) ∧
  (∀ (s : State) (o : Nat) (x : Op) (q : Queue) (ans : HostAns),
    s.running o .packetReceive = some (x, q) →
    x.posted = false →
    64 ≤ bufSize x →
    bufSize x ≤ 16384 →
    bufSize x % 64 = 0 →
    s.net.held = [] →
    exec (.post o ans) s = .next (s.modOp o fun x => { x with posted := true })) ∧
  (∀ (s : State) (o : Nat) (x : Op) (q : Queue) (ans : HostAns),
    s.running o .packetReceive = some (x, q) →
    x.posted = false →
    (bufSize x < 64 ∨ 16384 < bufSize x ∨ bufSize x % 64 ≠ 0) →
    exec (.post o ans) s = .next (s.finish o .malformed 0 0)) ∧
  (∀ (s u : State) (sub o : Nat) (c : Cand) (x : Op) (ans : HostAns),
    s.linkUp sub = true →
    s.select sub = (u, some c) →
    c.head.op = some o →
    c.head.tel = false →
    c.head.conn = none →
    u.op o = some x →
    x.phase = .started →
    ((u.dequeue sub c).egress sub c.head.data).out = true →
    ((u.dequeue sub c).egress sub c.head.data).copy = none →
    ∃ t y, exec (.schedulerSelect sub ans) s = .next t ∧
      .frame sub ((u.dequeue sub c).egress sub c.head.data).data (s.loopback (sub / 4) != 1) ∈ t.out ∧
      t.op o = some y ∧ y.phase = .done ∧ y.status = .success ∧ y.bytes = bits (u32 x.desc 24) 13 0 ∧
      (∀ o', o' ≠ o → t.op o' = u.op o') ∧ t.mem = s.mem)

/-- For a request that is served now: RULE_BEGIN takes the lock with the current rules and answers P; RULE_SHIFT makes P current in the lowest free slot and releases the lock; RULE_ABANDON takes P's entries out, opens again what P ended, and releases the lock. Under the lock, additions hold from P, deletions end an entry at P or undo P's own, and actions, defaults and class maps change as given. A version that is not current and has no packet in flight retires. PROFILE_SET gives a profile that no entry uses its field bitmap; MACSEC_SA_SET puts an association in the place of the one of the same sub-port, direction, number and channel; IPSEC_SA_SET sets the association of its index; SCH_SERVICE_SET sets weight and rates of a spoke's class. -/
def Obligations.RuleCommandsStageAndShiftVersions : Prop :=
  (∀ (s : State) (f : Nat) (p : Bytes),
    s.performable f 0x0301 = true →
    (s.fn f).mb.payload = p →
    s.heldNew 1 = false →
    s.net.staging = none →
    ∃ t, exec (.ruleBegin f) s = .next t ∧
      State.answered { s with net.staging := some { fn := f, rules := s.rules s.net.current } } t f .success (toLe 4 ((s.net.current + 1) % 2 ^ 32))) ∧
  (∀ (s : State) (f : Nat) (p : Bytes) (g : Staging) (k : Nat),
    s.performable f 0x0302 = true →
    (s.fn f).mb.payload = p →
    s.net.staging = some g →
    g.fn = f →
    Map.lowestFree s.net.vers 4 = some k →
    ∃ t, exec (.ruleShift f) s = .next t ∧
      State.answered { s with net := { s.net with vers := Map.put s.net.vers k { number := (s.net.current + 1) % 2 ^ 32, rules := g.rules }, current := (s.net.current + 1) % 2 ^ 32, staging := none, shifts := s.net.shifts + 1 }, host := { s.host with epoch := (s.host.epoch + 1) % 2 ^ 64 } }
      t f .success (toLe 4 ((s.net.current + 1) % 2 ^ 32))) ∧
  (∀ (s : State) (f : Nat) (p : Bytes),
    s.performable f 0x0303 = true →
    (s.fn f).mb.payload = p →
    s.holdsLock f = true →
    ∃ t, exec (.ruleAbandon f) s = .next t ∧ t.responded f .success [] false ∧ t.net.staging = none ∧
      (∀ e ∈ t.net.em, e.lo ≠ s.pend ∧ (e.opn = false → e.hi ≠ s.pend)) ∧ (∀ x ∈ t.net.acl, x.2.lo ≠ s.pend ∧ (x.2.opn = false → x.2.hi ≠ s.pend)) ∧
      t.net.vers = s.net.vers ∧ t.net.current = s.net.current ∧ t.mem = s.mem) ∧
  (∀ (s : State) (f : Nat) (p : Bytes),
    s.performable f 0x0310 = true →
    (s.fn f).mb.payload = p →
    u8 p 0 ≤ 31 →
    u32 p 4 ≤ 524287 →
    s.holdsLock f = true →
    f % 4 = 0 →
    s.net.em = [] →
    ∃ t, exec (.emAdd f) s = .next t ∧
      State.answered { s with net.em := [{ profile := u8 p 0, key := slice p 8 48, lo := s.pend, action := u32 p 4, bucket := (emBuckets (u8 p 0) (slice p 8 48)).1 }] } t f .success []) ∧
  (∀ (s : State) (f : Nat) (p : Bytes) (e : EmEntry),
    s.performable f 0x0311 = true →
    (s.fn f).mb.payload = p →
    u8 p 0 ≤ 31 →
    u32 p 4 = 0 →
    s.holdsLock f = true →
    f % 4 = 0 →
    s.net.em = [e] →
    e.profile = u8 p 0 →
    e.key = slice p 8 48 →
    e.opn = true →
    ∃ t, exec (.emDelete f) s = .next t ∧
      State.answered { s with net.em := if e.lo = s.pend then [] else [{ e with hi := s.pend, opn := false }] } t f .success []) ∧
  (∀ (s : State) (f : Nat) (p : Bytes),
    s.performable f 0x0320 = true →
    (s.fn f).mb.payload = p →
    u32 p 0 ≤ 65535 →
    u32 p 4 ≤ 524287 →
    u8 p 11 ≤ 31 →
    s.holdsLock f = true →
    f % 4 = 0 →
    Map.has s.net.acl (u32 p 0) = false →
    ∃ t, exec (.aclAdd f) s = .next t ∧
      State.answered { s with net.acl := Map.put s.net.acl (u32 p 0) { profile := u8 p 11, key := slice p 16 48, mask := slice p 64 48, prio := u16 p 8, overrides := bit (u8 p 10) 0, egress := bit (u8 p 10) 1, lo := s.pend, action := u32 p 4 } }
      t f .success []) ∧
  (∀ (s : State) (f : Nat) (p : Bytes) (e : AclEntry),
    s.performable f 0x0321 = true →
    (s.fn f).mb.payload = p →
    Map.get s.net.acl (u32 p 0) = some e →
    e.opn = true →
    s.holdsLock f = true →
    f % 4 = 0 →
    ∃ t, exec (.aclDelete f) s = .next t ∧
      State.answered { s with net.acl := if e.lo = s.pend then Map.erase s.net.acl (u32 p 0) else Map.put s.net.acl (u32 p 0) { e with hi := s.pend, opn := false } }
      t f .success []) ∧
  (∀ (s : State) (f : Nat) (p : Bytes),
    s.performable f 0x0330 = true →
    (s.fn f).mb.payload = p →
    u32 p 0 ≤ 524287 →
    actionBad (slice p 8 64) = false →
    s.holdsLock f = true →
    s.actionUsed (u32 p 0) = false →
    f % 4 = 0 →
    ∃ t, exec (.actionSet f) s = .next t ∧
      State.answered { s with net.actions := if (slice p 8 64).all (· == 0) then Map.erase s.net.actions (u32 p 0) else Map.put s.net.actions (u32 p 0) (slice p 8 64) }
      t f .success []) ∧
  (∀ (s : State) (f : Nat) (p : Bytes) (g : Staging),
    s.performable f 0x0331 = true →
    (s.fn f).mb.payload = p →
    u8 p 0 ≤ 31 →
    u32 p 4 ≤ 524287 →
    f % 4 = 0 →
    s.net.staging = some g →
    g.fn = f →
    ∃ t, exec (.defaultSet f) s = .next t ∧
      State.answered { s with net.staging := some { g with rules := { g.rules with defaults := Map.put g.rules.defaults (u8 p 0) (u32 p 4) } } } t f .success []) ∧
  (∀ (s : State) (f : Nat) (p : Bytes) (g : Staging),
    s.performable f 0x0332 = true →
    (s.fn f).mb.payload = p →
    u8 p 0 ≤ 13 →
    u8 p 1 ≤ 31 →
    u8 p 2 ≤ 31 →
    u8 p 3 ≤ 31 →
    f % 4 = 0 →
    s.net.staging = some g →
    g.fn = f →
    ∃ t, exec (.classMapSet f) s = .next t ∧
      State.answered { s with net.staging := some { g with rules := { g.rules with classMap := Map.put g.rules.classMap (u8 p 0) (u8 p 1, u8 p 2, u8 p 3) } } } t f .success []) ∧
  (∀ (s : State) (k : Nat) (x : Version),
    s.version s.oldestVersion = some (k, x) →
    s.oldestVersion ≠ s.net.current →
    x.inFlight = 0 →
    ∃ t, exec .versionRetire s = .next t ∧ t.net.vers = Map.erase s.net.vers k ∧ t.net.current = s.net.current ∧
      t.host = s.host ∧ t.mem = s.mem ∧ t.regs = s.regs ∧ t.out = s.out) ∧
  (∀ (s : State) (f : Nat) (p : Bytes),
    s.performable f 0x0340 = true →
    (s.fn f).mb.payload = p →
    u8 p 0 ≤ 31 →
    u64 p 8 < 2 ^ 22 →
    profileBytes (u64 p 8) ≤ 48 →
    f % 4 = 0 →
    s.net.em.any (fun e => e.profile == u8 p 0) = false →
    s.net.acl.any (fun x => x.2.profile == u8 p 0) = false →
    ∃ t, exec (.profileSet f) s = .next t ∧
      State.answered { s with net.profiles := if u64 p 8 = 0 then Map.erase s.net.profiles (u8 p 0) else Map.put s.net.profiles (u8 p 0) (u64 p 8) } t f .success []) ∧
  (∀ (s : State) (f : Nat) (p : Bytes),
    s.performable f 0x0350 = true →
    (s.fn f).mb.payload = p →
    u8 p 0 ≤ 31 →
    u16 p 2 ≤ 31 →
    (bit (u8 p 1) 3 = true ∨ u64 p 24 = 0) →
    f % 4 = 0 →
    s.keyCheck (u32 p 4) [3] (s.baseOf f) = .success →
    ∃ t, exec (.macsecSaSet f) s = .next t ∧
      State.answered { s with net.macsec := (s.net.macsec.filter fun x => !(x.sub == u8 p 0 && x.tx == bit (u8 p 1) 0 && x.an == bits (u8 p 1) 2 1 && (bit (u8 p 1) 0 || x.channel == u16 p 2))) ++ [{ sub := u8 p 0, tx := bit (u8 p 1) 0, an := bits (u8 p 1) 2 1, channel := u16 p 2, xpn := bit (u8 p 1) 3, handle := u32 p 4, sci := u64 p 8, pn := u64 p 16, salt := u32 p 24, ssci := u32 p 28 }] } t f .success []) ∧
  (∀ (s : State) (f : Nat) (p : Bytes),
    s.performable f 0x0360 = true →
    (s.fn f).mb.payload = p →
    u16 p 0 ≤ 16383 →
    f % 4 = 0 →
    s.keyCheck (u32 p 8) [4] (s.baseOf f) = .success →
    ∃ t, exec (.ipsecSaSet f) s = .next t ∧
      State.answered { s with net.ipsec := Map.put s.net.ipsec (u16 p 0) { outbound := bit (u8 p 2) 0, tunnel := bit (u8 p 2) 1, spi := u32 p 4, handle := u32 p 8, salt := u32 p 12, next := u64 p 16 } } t f .success []) ∧
  (∀ (s : State) (f : Nat) (p : Bytes),
    s.performable f 0x0370 = true →
    (s.fn f).mb.payload = p →
    (s.spoke (u16 p 0)).isSome = true →
    u16 p 4 ≠ 0 →
    (u64 p 16 = 0 ∨ u64 p 8 ≤ u64 p 16) →
    f % 4 = 0 →
    s.mayNameSpoke f (u16 p 0) = true →
    ∃ t, exec (.schServiceSet f) s = .next t ∧
      State.answered { s with sch.services := Map.put s.sch.services (u16 p 0 * 8 + bits (u8 p 2) 2 0) (u16 p 4, u64 p 8, u64 p 16) } t f .success [])

/-- For a request that is served now: METER_SET without persistence makes the meter configured with full buckets and touches no other meter; with it, the journal carries the response; a bad request is MALFORMED. METER_READ answers the counters and the levels after a refill and changes nothing. A refill never raises the root's, a subscriber's or a service's levels above their bursts, and changes only the nodes of its sub-port. -/
def Obligations.MetersAndBucketsHoldTheirBytes : Prop :=
  (∀ (s : State) (f : Nat) (p : Bytes),
    s.performable f 0x0380 = true →
    (s.fn f).mb.payload = p →
    meterBad p = false →
    f % 4 = 0 →
    bit (u8 p 4) 3 = false →
    ∃ t, exec (.meterSet f) s = .next t ∧
      State.answered { s with sch.meters := Map.put s.sch.meters (u32 p 0) (meterOf p (s.meter (u32 p 0)) s.now) } t f .success [] ∧
      (t.meter (u32 p 0)).conf = true ∧ (t.meter (u32 p 0)).levA = u32 p 24 * 8000000 ∧ (t.meter (u32 p 0)).levB = u32 p 28 * 8000000 ∧
      (t.meter (u32 p 0)).rateA = u64 p 8 ∧ (t.meter (u32 p 0)).rateB = u64 p 16) ∧
  (∀ (s : State) (f : Nat) (p : Bytes),
    s.performable f 0x0380 = true →
    (s.fn f).mb.payload = p →
    meterBad p = false →
    f % 4 = 0 →
    bit (u8 p 4) 3 = true →
    s.jRoom 40 = true →
    ∃ t, exec (.meterSet f) s = .next t ∧
      State.journalled { s with sch.meters := Map.put s.sch.meters (u32 p 0) (meterOf p (s.meter (u32 p 0)) s.now) } t
      0x0380 (u32 p 0) false p (some ⟨f, .success, [], none, none⟩)) ∧
  (∀ (s : State) (f : Nat) (p : Bytes),
    s.performable f 0x0380 = true →
    (s.fn f).mb.payload = p →
    meterBad p = true →
    ∃ t, exec (.meterSet f) s = .next t ∧ s.answered t f .malformed []) ∧
  (∀ (s : State) (f : Nat) (p : Bytes) (x : Meter),
    s.performable f 0x0381 = true →
    (s.fn f).mb.payload = p →
    u32 p 0 ≤ 131071 →
    (s.meter (u32 p 0)).refill s.now = x →
    ∃ t, exec (.meterRead f) s = .next t ∧
      s.answered t f .success (x.pkts.flatMap (toLe 8) ++ x.octets.flatMap (toLe 8) ++ toLe 4 (x.levA / 8000000) ++ toLe 4 (x.levB / 8000000))) ∧
  (∀ (s : State) (sub : Nat),
    sub < 32 →
    ∃ t, exec (.bucketRefill sub) s = .next t ∧ Map.get t.sch.refilled sub = some s.now ∧
      (t.rootNode sub).peak ≤ s.burst sub (s.rootRate sub) ∧
      (∀ x ∈ t.sch.subs, x.1 / 4096 = sub → x.2.peak ≤ s.burst sub x.2.pir ∧ x.2.commit ≤ s.burst sub x.2.cir) ∧
      (∀ x ∈ t.sch.svcs, x.1 / 8 / 4096 = sub → x.2.peak ≤ s.burst sub x.2.pir ∧ x.2.commit ≤ s.burst sub x.2.cir) ∧
      (∀ x ∈ t.sch.subs, x.1 / 4096 ≠ sub → x ∈ s.sch.subs) ∧ (∀ x ∈ t.sch.svcs, x.1 / 8 / 4096 ≠ sub → x ∈ s.sch.svcs) ∧
      t.host = s.host ∧ t.regs = s.regs ∧ t.mem = s.mem ∧ t.out = s.out)

/-- An ARM that the checks accept sets ARMED and nothing else; a refused one sets the failure bit with the first reason, and does not arm. DISARM before TIME clears ARMED. Disabling clears ENABLE and ARMED, so that every gate is open. At TIME the pending bank becomes active with its base, cycle and count, and ARMED clears. A clock step sets the port's clock, and one past TIME takes over at once. The entry change lets time pass to the end of the interval in force. -/
def Obligations.GateCommandsDriveTheCassette : Prop :=
  (∀ (s : State) (i : Nat),
    i < 8 →
    s.armReason i = 0 →
    ∃ t, exec (.arm i) s = .next t ∧ t.gateArmed i = true ∧ (∀ off, off ≠ aGateCtl i → t.rget off = s.rget off) ∧
      t = { s with regs := t.regs }) ∧
  (∀ (s : State) (i : Nat),
    i < 8 →
    s.armReason i ≠ 0 →
    ∃ t, exec (.arm i) s = .next t ∧ t.gateArmed i = s.gateArmed i ∧ t.rfield (aGateCtl i) 5 5 = 1 ∧ t.rfield (aGateCtl i) 10 8 = s.armReason i ∧
      (∀ off, off ≠ aGateCtl i → t.rget off = s.rget off) ∧ t = { s with regs := t.regs }) ∧
  (∀ (s : State) (i : Nat),
    i < 8 →
    s.gateArmed i = true →
    s.ptp i < s.rget (aGateTime i) →
    exec (.disarm i) s = .next (s.rset (aGateCtl i) 2 2 0)) ∧
  (∀ (s : State) (i : Nat),
    i < 8 →
    ∃ t, exec (.gateDisable i) s = .next t ∧ t.gateOn i = false ∧ t.gateArmed i = false ∧ (∀ c n, t.gateOpen i c n = true) ∧
      (∀ off, off ≠ aGateCtl i → t.rget off = s.rget off) ∧ t = { s with regs := t.regs }) ∧
  (∀ (s : State) (i : Nat),
    i < 8 →
    s.gateArmed i = true →
    ∃ t, exec (.gateTakeover i) s = .next t ∧ t.gateArmed i = false ∧ t.gateBank i = 1 - s.gateBank i ∧ t.actCount i = s.pendCount i ∧
      t.rget (aGateBase i) = s.rget (aGateTime i) ∧ t.rget (aGateCycle i) = cycleOf (s.gateList i (1 - s.gateBank i) (s.pendCount i)) ∧
      t.now = s.now + (s.rget (aGateTime i) - s.ptp i) ∧ t = { s with regs := t.regs, now := t.now }) ∧
  (∀ (s : State) (i v : Nat),
    i < 8 →
    s.gateArmed i = false →
    ∃ t, exec (.clockStep i v) s = .next t ∧ t.ptp i = v % 2 ^ 64 ∧ (∀ j, j ≠ i → t.ptp j = s.ptp j) ∧
      t = { s with brd.clockOffset := t.brd.clockOffset }) ∧
  (∀ (s : State) (i v : Nat),
    i < 8 →
    s.gateArmed i = true →
    s.rget (aGateTime i) ≤ v →
    v < 2 ^ 64 →
    ∃ t, exec (.clockStep i v) s = .next t ∧ t.ptp i = v ∧ t.gateArmed i = false ∧ t.gateBank i = 1 - s.gateBank i) ∧
  (∀ (s : State) (i : Nat),
    i < 8 →
    s.gateOn i = true →
    s.actCount i ≠ 0 →
    cycleOf (s.gateList i (s.gateBank i) (s.actCount i)) ≠ 0 →
    exec (.gateEntryChange i) s = .next { s with now := s.now + (inForce (s.gateList i (s.gateBank i) (s.actCount i)) (s.gatePhase i (cycleOf (s.gateList i (s.gateBank i) (s.actCount i))))).2 })

/-- For a request that is served now: CREATE makes a connection in INIT under the number free the longest with the next epoch; CONNECT gives it its parameters and makes it ACTIVE; QUERY answers its state and changes nothing; DESTROY stops it at once, ends its work requests FLUSHED, and its response waits; CONN_DESTROY_COMPLETE removes the connection, frees its number and responds. REGISTER gives a free key index an ACTIVE key of the next generation and answers both; REVOKE makes an ACTIVE key REVOKING at once, so that no check passes, and its response waits; REVOKE_COMPLETE makes it REVOKED and responds to the function that asked. -/
def Obligations.ConnectionsAreMadeOpenedAndEnded : Prop :=
  (∀ (s : State) (f c : Nat) (p : Bytes),
    s.performable f 0x0401 = true →
    (s.fn f).mb.payload = p →
    (s.spoke (u16 p 0)).isSome = true →
    s.mayNameSpoke f (u16 p 0) = true →
    s.xpt.conns.length < 65536 →
    s.freeConn = some c →
    ∃ t, exec (.connCreate f) s = .next t ∧
      State.answered { s with xpt := { s.xpt with conns := Map.put s.xpt.conns c { spoke := u16 p 0, roce := bit (u8 p 2) 0, epoch := (s.lastEpoch c + 1) % 256 }, epochs := Map.put s.xpt.epochs c ((s.lastEpoch c + 1) % 256), freed := s.xpt.freed.filter fun x => x.1 != c } }
      t f .success (toLe 3 c ++ toLe 1 ((s.lastEpoch c + 1) % 256))) ∧
  (∀ (s : State) (f : Nat) (p : Bytes) (k : Conn),
    s.performable f 0x0402 = true →
    (s.fn f).mb.payload = p →
    s.conn (u32 p 0 % 2 ^ 24) = some k →
    s.connectBad k p = false →
    s.mayNameSpoke f k.spoke = true →
    k.phase = .init →
    k.dying = none →
    ∃ t k', exec (.connConnect f) s = .next t ∧ t.conn (u32 p 0 % 2 ^ 24) = some k' ∧ k'.phase = .active ∧ k'.par = connParams p ∧
      k'.psn = u32 p 60 % (if k.roce then 2 ^ 24 else 2 ^ 32) ∧ (k.roce = false → k'.e = u32 p 64) ∧ (k.roce = true → k'.rc.expected = u32 p 64 % 2 ^ 24) ∧
      k'.epoch = k.epoch ∧ k'.spoke = k.spoke ∧ t.responded f .success [] false ∧
      (∀ d, d ≠ u32 p 0 % 2 ^ 24 → t.conn d = s.conn d) ∧ t.mem = s.mem) ∧
  (∀ (s : State) (f : Nat) (p : Bytes) (k : Conn),
    s.performable f 0x0403 = true →
    (s.fn f).mb.payload = p →
    s.conn (u32 p 0 % 2 ^ 24) = some k →
    s.mayNameSpoke f k.spoke = true →
    k.dying = none →
    ∃ t k', exec (.connDestroy f) s = .next t ∧ t.conn (u32 p 0 % 2 ^ 24) = some k' ∧ k'.dying = some (some (f, (s.fn f).mb.seq)) ∧
      k'.works = [] ∧ k'.out = [] ∧ k'.txq = [] ∧ (t.fn f).mb = (s.fn f).mb ∧
      (∀ w x, w ∈ k.works → s.op w.op = some x → x.phase ≠ .done → ∃ y, t.op w.op = some y ∧ y.phase = .done ∧ y.status = .flushed)) ∧
  (∀ (s : State) (f : Nat) (p : Bytes) (k : Conn),
    s.performable f 0x0404 = true →
    (s.fn f).mb.payload = p →
    s.conn (u32 p 0 % 2 ^ 24) = some k →
    k.dying = none →
    s.mayNameSpoke f k.spoke = true →
    k.phase = .active →
    ∃ t, exec (.connQuery f) s = .next t ∧ s.answered t f .success (toLe 1 2 ++ toLe 1 k.epoch ++ toLe 2 k.out.length ++
      toLe 4 ((k.nextOut.map OutPkt.psn).getD k.psn) ++ toLe 4 (if k.roce then k.rc.expected else k.e) ++
      toLe 4 k.nextMsg ++ toLe 4 k.done ++ toLe 2 k.cwnd ++ toLe 2 k.stored.length ++ toLe 4 k.srtt ++ zeros 4)) ∧
  (∀ (s : State) (f : Nat) (p : Bytes),
    s.performable f 0x0404 = true →
    (s.fn f).mb.payload = p →
    s.conn (u32 p 0 % 2 ^ 24) = none →
    ∃ t, exec (.connQuery f) s = .next t ∧ s.answered t f .success (zeros 32)) ∧
  (∀ (s : State) (c f q : Nat) (k : Conn),
    s.conn c = some k →
    k.dying = some (some (f, q)) →
    (s.fn f).mb.outstanding = true →
    (s.fn f).mb.seq = q →
    Map.wf s.xpt.conns = true →
    (∀ x ∈ s.xpt.conns, x.1 ≠ c → x.2.dying ≠ some (some (f, q))) →
    ∃ t, exec (.connDestroyComplete c) s = .next t ∧ t.conn c = none ∧ t.xpt.freed = s.xpt.freed ++ [(c, s.now)] ∧
      t.responded f .success [] false ∧ (∀ d, d ≠ c → t.conn d = s.conn d) ∧ t.mem = s.mem) ∧
  (∀ (s : State) (f : Nat) (p : Bytes),
    s.performable f 0x0410 = true →
    (s.fn f).mb.payload = p →
    (s.spoke (u16 p 0)).isSome = true →
    u64 p 16 ≠ 0 →
    u64 p 8 + u64 p 16 ≤ 2 ^ 48 →
    0 < u32 p 4 →
    u32 p 4 ≤ 1048575 →
    s.mayNameSpoke f (u16 p 0) = true →
    Map.get s.xpt.keys (u32 p 4) = none →
    ∃ t, exec (.regionRegister f) s = .next t ∧
      State.answered { s with xpt := { s.xpt with keys := Map.put s.xpt.keys (u32 p 4) { gen := (s.lastGen (u32 p 4) + 1) % 2 ^ 16, spoke := u16 p 0, read := bit (u8 p 2) 0, write := bit (u8 p 2) 1, addr := u64 p 8, length := u64 p 16 }, keyGens := Map.put s.xpt.keyGens (u32 p 4) ((s.lastGen (u32 p 4) + 1) % 2 ^ 16) }, host := { s.host with epoch := (s.host.epoch + 1) % 2 ^ 64 } }
      t f .success (toLe 4 (u32 p 4) ++ toLe 2 ((s.lastGen (u32 p 4) + 1) % 2 ^ 16) ++ zeros 2)) ∧
  (∀ (s : State) (f : Nat) (p : Bytes) (x : RegionKey),
    s.performable f 0x0411 = true →
    (s.fn f).mb.payload = p →
    Map.get s.xpt.keys (u32 p 0) = some x →
    (s.spoke (u16 p 4)).isSome = true →
    s.mayNameSpoke f (u16 p 4) = true →
    x.spoke = u16 p 4 →
    x.phase = .active →
    exec (.regionRevoke f) s = .next (State.bump { s with xpt.keys := Map.put s.xpt.keys (u32 p 0) { x with phase := .revoking [f] } }) ∧
      (∀ t gen off n w short, exec (.regionRevoke f) s = .next t →
      t.keyCheckY x.spoke (u32 p 0) gen off n w short ≠ .success)) ∧
  (∀ (s : State) (i f : Nat) (x : RegionKey),
    Map.get s.xpt.keys i = some x →
    x.phase = .revoking [f] →
    ∃ t, exec (.revokeComplete i) s = .next t ∧
      State.answered (State.bump { s with xpt.keys := Map.put s.xpt.keys i { x with phase := .revoked } }) t f .success [])

/-- A work request whose checks pass and whose buffer is read takes the next message number, joins the connection's work requests, and its packets take the next PSNs, one for each packet of the path MTU; a Yekel READ is one packet. RECV is posted. A work request whose check fails ends with the status of the check and moves nothing: FLUSHED on a connection in ERROR. -/
def Obligations.WorkRequestsJoinTheirConnection : Prop :=
  (∀ (s u : State) (o : Nat) (x : Op) (q : Queue) (k : Conn) (l : List (Bytes × Bool)) (st : Status) (ans : HostAns),
    s.running o .transport = some (x, q) →
    x.posted = false →
    s.workCheck x q = .success →
    s.conn (tConn x.desc) = some k →
    k.roce = false →
    k.phase = .active →
    s.readLocal o x q (2 ^ k.par.log2) ans = (u, some (l, st)) →
    l ≠ [] →
    (dOpcode x.desc = 1 → ∃ t, exec (.write o ans) s = .next t ∧ t.workJoined (tConn x.desc) o k
      { op := o, msg := (k.takeMsg (tUnordered x.desc)).1, ordered := !tUnordered x.desc, read := false, length := tLength x.desc, local_ := tLocal x.desc, status := st, first := k.psn, count := l.length } (2 ^ 32)) ∧
      (dOpcode x.desc = 2 → ∃ t, exec (.writeTag o ans) s = .next t ∧ t.workJoined (tConn x.desc) o k
      { op := o, msg := (k.takeMsg (tUnordered x.desc)).1, ordered := !tUnordered x.desc, read := false, length := tLength x.desc, local_ := tLocal x.desc, status := st, first := k.psn, count := l.length } (2 ^ 32))) ∧
  (∀ (s : State) (o : Nat) (x : Op) (q : Queue) (k : Conn),
    s.running o .transport = some (x, q) →
    x.posted = false →
    s.workCheck x q = .success →
    s.conn (tConn x.desc) = some k →
    k.roce = false →
    k.phase = .active →
    dOpcode x.desc = 3 →
    ∃ t, exec (.read o) s = .next t ∧ t.workJoined (tConn x.desc) o k
      { op := o, msg := (k.takeMsg (tUnordered x.desc)).1, ordered := !tUnordered x.desc, read := true, length := tLength x.desc, local_ := tLocal x.desc, first := k.psn, count := 1 } (2 ^ 32)) ∧
  (∀ (s u : State) (o : Nat) (x : Op) (q : Queue) (k : Conn) (l : List (Bytes × Bool)) (st : Status) (ans : HostAns),
    s.running o .transport = some (x, q) →
    x.posted = false →
    s.workCheck x q = .success →
    s.conn (tConn x.desc) = some k →
    k.roce = true →
    k.phase = .active →
    s.readLocal o x q (2 ^ k.par.log2) ans = (u, some (l, st)) →
    l ≠ [] →
    l.any Prod.snd = false →
    (dOpcode x.desc = 4 → ∃ t, exec (.sendMessage o ans) s = .next t ∧ t.workJoined (tConn x.desc) o k
      { op := o, msg := k.msgO, ordered := false, read := false, length := tLength x.desc, local_ := tLocal x.desc, first := k.psn, count := l.length } (2 ^ 24)) ∧
      (dOpcode x.desc = 5 → ∃ t, exec (.sendImm o ans) s = .next t ∧ t.workJoined (tConn x.desc) o k
      { op := o, msg := k.msgO, ordered := false, read := false, length := tLength x.desc, local_ := tLocal x.desc, first := k.psn, count := l.length } (2 ^ 24)) ∧
      (dOpcode x.desc = 6 → ∃ t, exec (.writeImm o ans) s = .next t ∧ t.workJoined (tConn x.desc) o k
      { op := o, msg := k.msgO, ordered := false, read := false, length := tLength x.desc, local_ := tLocal x.desc, first := k.psn, count := l.length } (2 ^ 24))) ∧
  (∀ (s : State) (o : Nat) (x : Op) (q : Queue),
    s.running o .transport = some (x, q) →
    x.posted = false →
    s.workCheck x q = .success →
    dOpcode x.desc = 0x20 →
    exec (.recv o) s = .next (s.modOp o fun x => { x with posted := true })) ∧
  (∀ (s : State) (o : Nat) (x : Op) (q : Queue) (ans : HostAns),
    s.running o .transport = some (x, q) →
    x.posted = false →
    s.workCheck x q ≠ .success →
    (dOpcode x.desc = 1 → exec (.write o ans) s = .next (s.finish o (s.workCheck x q) 0 0)) ∧
      (dOpcode x.desc = 3 → exec (.read o) s = .next (s.finish o (s.workCheck x q) 0 0)) ∧
      (dOpcode x.desc = 4 → exec (.sendMessage o ans) s = .next (s.finish o (s.workCheck x q) 0 0)) ∧
      (dOpcode x.desc = 0x20 → exec (.recv o) s = .next (s.finish o (s.workCheck x q) 0 0)))

/-- An unordered WRITE or WRITE_TAG packet in order whose key check passes is written to the region's memory and marked received. A READ_REQUEST in order puts its response in the stream; a READ_RESPONSE is written to the work request's buffer. A NAK gives its status to the work request, which stays in progress. An ACK releases exactly the packets it names and moves ORDERED_DONE. A NAK_RETRY sets the packet to be sent again after its backoff. -/
def Obligations.ArrivingPacketsArePlacedAndAcknowledged : Prop :=
  (∀ (s : State) (i : Nat) (x : RxPkt) (p : YPkt) (k : Conn) (r : RegionKey) (sp : Spoke) (d : Bytes),
    Map.get s.xpt.rx i = some x →
    x.yekel = some p →
    s.conn p.conn = some k →
    k.roce = false →
    k.phase = .active →
    k.dying = none →
    p.epoch = k.epoch →
    p.payload.length ≤ 2 ^ k.par.log2 →
    p.psn = k.e →
    p.psn ∉ k.got →
    k.nak = [] →
    p.ordered = false →
    p.payload ≠ [] →
    s.keyCheckY k.spoke p.key p.keyGen p.offset p.payload.length true false = .success →
    Map.get s.xpt.keys p.key = some r →
    s.spoke k.spoke = some sp →
    sp.base = true →
    s.destLater k.spoke = false →
    s.rimDown = false →
    (r.addr + p.offset) % 4096 + p.payload.length ≤ 4096 →
    (p.opcode = 1 → ∃ t k', exec (.writePacket i (.ok d false)) s = .next t ∧ t.conn p.conn = some k' ∧ k'.received p.psn = true ∧
      .memWrite sp.fn none (s.fn sp.fn).atsEn (r.addr + p.offset) p.payload p.poison ∈ t.out) ∧
      (p.opcode = 2 → ∃ t k', exec (.writeTagPacket i (.ok d false)) s = .next t ∧ t.conn p.conn = some k' ∧ k'.received p.psn = true ∧
      .memWrite sp.fn none (s.fn sp.fn).atsEn (r.addr + p.offset) p.payload p.poison ∈ t.out)) ∧
  (∀ (s : State) (i : Nat) (x : RxPkt) (p : YPkt) (k : Conn) (sp : Spoke) (d : Bytes),
    Map.get s.xpt.rx i = some x →
    x.yekel = some p →
    p.opcode = 3 →
    s.conn p.conn = some k →
    k.roce = false →
    k.phase = .active →
    k.dying = none →
    p.epoch = k.epoch →
    p.payload.length ≤ 2 ^ k.par.log2 →
    p.psn = k.e →
    p.psn ∉ k.got →
    k.nak = [] →
    k.msgs = [] →
    k.stored = [] →
    p.ordered = false →
    0 < u32 p.payload 0 →
    u32 p.payload 0 ≤ 2 ^ k.par.log2 →
    s.keyCheckY k.spoke p.key p.keyGen p.offset (u32 p.payload 0) false false = .success →
    s.spoke k.spoke = some sp →
    sp.base = true →
    s.destLater k.spoke = false →
    s.rimDown = false →
    ((s.region p.key).addr + p.offset) % 4096 + u32 p.payload 0 ≤ 4096 →
    ∃ t k', exec (.readRequest i (.ok d false)) s = .next t ∧ t.conn p.conn = some k' ∧ k'.received p.psn = true ∧
      k'.psn = (k.psn + 1) % 2 ^ 32 ∧ t.mem = s.mem) ∧
  (∀ (s : State) (i : Nat) (x : RxPkt) (p : YPkt) (k : Conn) (w : Work) (sp : Spoke) (d : Bytes),
    Map.get s.xpt.rx i = some x →
    x.yekel = some p →
    p.opcode = 4 →
    s.conn p.conn = some k →
    k.roce = false →
    k.phase = .active →
    k.dying = none →
    p.epoch = k.epoch →
    p.payload.length ≤ 2 ^ k.par.log2 →
    p.psn = k.e →
    p.psn ∉ k.got →
    k.nak = [] →
    p.payload ≠ [] →
    k.works.find? (fun w => w.read && w.ordered == p.ordered && w.msg == p.msg) = some w →
    s.spoke k.spoke = some sp →
    sp.base = true →
    s.destLater k.spoke = false →
    s.rimDown = false →
    (w.local_ + p.offset) % 4096 + p.payload.length ≤ 4096 →
    ∃ t k', exec (.readResponse i (.ok d false)) s = .next t ∧ t.conn p.conn = some k' ∧ k'.received p.psn = true ∧
      .memWrite sp.fn none (s.fn sp.fn).atsEn (w.local_ + p.offset) p.payload p.poison ∈ t.out) ∧
  (∀ (s : State) (i : Nat) (x : RxPkt) (p : YPkt) (k : Conn) (q : OutPkt) (ans : HostAns),
    Map.get s.xpt.rx i = some x →
    x.yekel = some p →
    p.opcode = 0x11 →
    s.conn p.conn = some k →
    k.roce = false →
    k.phase = .active →
    k.dying = none →
    p.epoch = k.epoch →
    p.payload.length ≤ 2 ^ k.par.log2 →
    p.psn = k.e →
    p.psn ∉ k.got →
    k.nak = [] →
    k.msgs = [] →
    k.stored = [] →
    k.out.find? (fun q => q.psn == u32 p.payload 0) = some q →
    ∃ t k', exec (.nak i ans) s = .next t ∧ t.conn p.conn = some k' ∧ k'.received p.psn = true ∧
      (∀ w ∈ k.works, some w.op = q.wr → { w with status := w.status.worse ((Status.ofCode (u8 p.payload 4)).getD .accessViolation) } ∈ k'.works) ∧
      t.mem = s.mem) ∧
  (∀ (s : State) (i : Nat) (x : RxPkt) (p : YPkt) (k : Conn) (ans : HostAns),
    Map.get s.xpt.rx i = some x →
    x.yekel = some p →
    p.opcode = 0x10 →
    s.conn p.conn = some k →
    k.roce = false →
    k.phase = .active →
    k.dying = none →
    p.epoch = k.epoch →
    p.payload.length ≤ 2 ^ k.par.log2 →
    k.txq = [] →
    (∀ q ∈ k.out, q.nakFor = none) →
    ∃ t k', exec (.ack i ans) s = .next t ∧ t.conn p.conn = some k' ∧ k'.done = p.msg ∧
      k'.out.map OutPkt.psn = (k.out.filter fun q => !p.releases q.psn).map OutPkt.psn ∧ t.mem = s.mem) ∧
  (∀ (s : State) (i : Nat) (x : RxPkt) (p : YPkt) (k : Conn),
    Map.get s.xpt.rx i = some x →
    x.yekel = some p →
    p.opcode = 0x12 →
    s.conn p.conn = some k →
    k.roce = false →
    k.phase = .active →
    k.dying = none →
    p.epoch = k.epoch →
    p.payload.length ≤ 2 ^ k.par.log2 →
    ∃ t k', exec (.nakRetry i) s = .next t ∧ t.conn p.conn = some k' ∧
      k'.out = k.out.map (fun q => if q.psn = p.psn ∧ q.retryAt = none then { q with retryFrom := some (q.retryFrom.getD s.now), retryAt := some (s.now + q.backoff), backoff := min 1000000 (2 * q.backoff) } else q) ∧
      t.mem = s.mem ∧ t.host = s.host)

/-- ACK_TIMER clears what waits for acknowledgement 2 µs after the oldest packet. RETRANSMIT_TIMEOUT below the limit counts a try and halves the window; at the limit the connection enters ERROR, as it does when RETRY_LATER expires. A resend after RETRY_LATER clears the packet's wait. The end of a path's suspicion clears it. CWND_RISE adds one packet, at most 256. -/
def Obligations.YekelTimersActOnTheirPacket : Prop :=
  (∀ (s : State) (c u : Nat) (k : Conn),
    s.conn c = some k →
    k.oldestAt = some u →
    ∃ t k', exec (.ackTimer c) s = .next t ∧ t.now = max s.now (u + 2000) ∧ t.conn c = some k' ∧ k'.oldestAt = none ∧ k'.sinceAck = 0 ∧
      k'.e = k.e ∧ k'.out = k.out ∧ t.mem = s.mem ∧ t.host = s.host) ∧
  (∀ (s : State) (c n : Nat) (k : Conn) (p : OutPkt),
    s.outPkt c n = some (k, p) →
    p.retryAt = none →
    p.tries < k.par.retryLimit →
    k.halvedAt = none →
    ∃ t k', exec (.retransmitTimeout c n) s = .next t ∧ t.conn c = some k' ∧ k'.phase = .active ∧ k'.cwnd = max 1 (k.cwnd / 2) ∧
      (∀ q ∈ k'.out, q.psn = n → q.tries = p.tries + 1) ∧ t.now = max s.now (p.sent + min (k.rto * 2 ^ p.tries) 4000000) ∧
      t.mem = s.mem ∧ t.host = s.host) ∧
  (∀ (s : State) (c n : Nat) (k : Conn) (p : OutPkt),
    s.outPkt c n = some (k, p) →
    p.retryAt = none →
    p.tries = k.par.retryLimit →
    ∃ t k', exec (.retransmitTimeout c n) s = .next t ∧ t.conn c = some k' ∧ k'.phase = .error ∧ k'.works = [] ∧ k'.out = [] ∧
      (∀ d, d ≠ c → t.conn d = s.conn d)) ∧
  (∀ (s : State) (c x : Nat) (k : Conn) (y : PathState),
    s.conn c = some k →
    Map.get k.pathSt x = some y →
    y.suspectUntil ≠ 0 →
    ∃ t k', exec (.pathSuspectExpire c x) s = .next t ∧ t.now = max s.now y.suspectUntil ∧ t.conn c = some k' ∧
      Map.get k'.pathSt x = some { y with suspectUntil := 0 } ∧ t.mem = s.mem ∧ t.host = s.host) ∧
  (∀ (s : State) (c n u : Nat) (k : Conn) (p : OutPkt),
    s.outPkt c n = some (k, p) →
    p.retryAt = some u →
    ∃ t k', exec (.retryLaterResend c n) s = .next t ∧ t.now = max s.now u ∧ t.conn c = some k' ∧
      (∀ q ∈ k'.out, q.psn = n → q.retryAt = none) ∧ t.mem = s.mem ∧ t.host = s.host) ∧
  (∀ (s : State) (c n u : Nat) (k : Conn) (p : OutPkt),
    s.outPkt c n = some (k, p) →
    p.retryFrom = some u →
    ∃ t k', exec (.retryLaterExpire c n) s = .next t ∧ t.now = max s.now (u + k.par.retryMs * 1000000) ∧ t.conn c = some k' ∧
      k'.phase = .error ∧ k'.works = [] ∧ k'.out = []) ∧
  (∀ (s : State) (c : Nat) (k : Conn),
    s.conn c = some k →
    k.roce = false →
    k.phase = .active →
    k.dying = none →
    k.fellAt = none →
    k.halvedAt = none →
    ∃ t k', exec (.cwndRise c) s = .next t ∧ t.now = max s.now (k.rose + k.srtt) ∧ t.conn c = some k' ∧ k'.cwnd = min 256 (k.cwnd + 1) ∧
      t.mem = s.mem ∧ t.host = s.host)

/-- An RDMA WRITE of one packet in order whose key check passes is written to the region's memory, and the expected PSN moves on by one. A CNP halves the rate. A packet that is not one of RoCEv2 for a live connection is only counted. An acknowledgement timeout below the limit counts a try, and at the limit the connection enters ERROR. The RNR timer ends the wait. Recovery raises the rate by a sixteenth of the link's. -/
def Obligations.RocePacketsAndTimersActOnTheirConnection : Prop :=
  (∀ (s : State) (i : Nat) (x : RxPkt) (p : RPkt) (k : Conn) (sp : Spoke) (d : Bytes),
    Map.get s.xpt.rx i = some x →
    x.dport = 4791 →
    x.roce = some p →
    s.conn p.qp = some k →
    k.roce = true →
    k.phase = .active →
    k.dying = none →
    p.pkey = k.par.pkey →
    p.ce = false →
    p.opcode = 0xA →
    p.psn = k.rc.expected →
    k.rc.writeLeft = 0 →
    k.rc.recv = none →
    p.payload ≠ [] →
    p.payload.length = p.dmaLen →
    p.payload.length ≤ 2 ^ k.par.log2 →
    s.roceKey k.spoke p.rkey p.va p.dmaLen true = (.success, p.va - (s.region (p.rkey % 2 ^ 20)).addr) →
    s.spoke k.spoke = some sp →
    sp.base = true →
    s.destLater k.spoke = false →
    s.rimDown = false →
    p.va % 4096 + p.payload.length ≤ 4096 →
    ∃ t k', exec (.rocePacketReceived i (.ok d false)) s = .next t ∧ t.conn p.qp = some k' ∧ k'.rc.expected = (p.psn + 1) % 2 ^ 24 ∧
      .memWrite sp.fn none (s.fn sp.fn).atsEn p.va p.payload false ∈ t.out) ∧
  (∀ (s : State) (i : Nat) (x : RxPkt) (p : RPkt) (k : Conn) (ans : HostAns),
    Map.get s.xpt.rx i = some x →
    x.dport = 4791 →
    x.roce = some p →
    s.conn p.qp = some k →
    k.roce = true →
    k.phase = .active →
    k.dying = none →
    p.pkey = k.par.pkey →
    p.opcode = 0x81 →
    k.rc.cnpGot = none →
    ∃ t k', exec (.rocePacketReceived i ans) s = .next t ∧ t.conn p.qp = some k' ∧ k'.rc.rate = max 1 (s.roceRate k / 2) ∧
      k'.rc.cnpGot = some s.now ∧ t.mem = s.mem ∧ t.host = s.host) ∧
  (∀ (s : State) (i : Nat) (x : RxPkt) (ans : HostAns),
    Map.get s.xpt.rx i = some x →
    x.dport = 4791 →
    x.roce = none →
    exec (.rocePacketReceived i ans) s = .next (State.xcount { s with xpt.rx := Map.erase s.xpt.rx i } 10)) ∧
  (∀ (s : State) (c n : Nat) (k : Conn) (p : OutPkt),
    s.conn c = some k →
    k.out.find? (fun p => p.psn == n) = some p →
    k.roce = true →
    k.rc.rnrAt = none →
    p.tries < k.par.retryLimit →
    ∃ t k', exec (.roceAckTimeout c n) s = .next t ∧ t.now = max s.now (p.sent + 4096 * 2 ^ k.par.timeout) ∧ t.conn c = some k' ∧
      k'.phase = k.phase ∧ (∀ q ∈ k'.out, q.psn = n → ∃ q' ∈ k.out, q'.psn = n ∧ q.tries = q'.tries + 1) ∧ t.mem = s.mem ∧ t.host = s.host) ∧
  (∀ (s : State) (c n : Nat) (k : Conn) (p : OutPkt),
    s.conn c = some k →
    k.out.find? (fun p => p.psn == n) = some p →
    k.roce = true →
    k.rc.rnrAt = none →
    k.par.retryLimit ≤ p.tries →
    k.phase = .active →
    k.dying = none →
    ∃ t k', exec (.roceAckTimeout c n) s = .next t ∧ t.conn c = some k' ∧ k'.phase = .error ∧ k'.works = [] ∧ k'.out = []) ∧
  (∀ (s : State) (c n u : Nat) (k : Conn),
    s.conn c = some k →
    k.rc.rnrAt = some (n, u) →
    ∃ t k', exec (.rnrTimer c) s = .next t ∧ t.now = max s.now u ∧ t.conn c = some k' ∧ k'.rc.rnrAt = none ∧ t.mem = s.mem ∧ t.host = s.host) ∧
  (∀ (s : State) (c : Nat) (k : Conn),
    s.conn c = some k →
    k.roce = true →
    k.rc.rate ≠ 0 →
    ∃ t k', exec (.roceRateRecovery c) s = .next t ∧ t.conn c = some k' ∧
      k'.rc.rate = (if s.roceFull k ≤ k.rc.rate + s.roceFull k / 16 then 0 else k.rc.rate + s.roceFull k / 16) ∧
      (∀ d, d ≠ c → t.conn d = s.conn d) ∧ t.mem = s.mem ∧ t.out = s.out)

/-- For a request that is served now: ALLOC makes the lowest free number a counter of the spoke at zero; FREE removes a counter that nothing names; SET sets VALUE with SET_VALUE, clears the failure with CLEAR_FAILED, and enables the mirror only as MIRROR_EN says; ADD adds a non-zero amount, holding at 2^64 - 1, and returns the sum; READ returns VALUE, the failure status and the flags. ALLOC, FREE and READ change nothing else but the response. -/
def Obligations.CounterCommandsActOnTheirCounter : Prop :=
  (∀ (s : State) (f c : Nat) (p : Bytes) (sp : Spoke),
    s.performable f 0x0120 = true →
    (s.fn f).mb.payload = p →
    s.spoke (u16 p 0) = some sp →
    s.mayNameSpoke f (u16 p 0) = true →
    (s.trg.counters.filter fun x => x.2.spoke == u16 p 0).length < sp.counterQuota →
    Map.lowestFree s.trg.counters 16384 = some c →
    ∃ t, exec (.counterAlloc f) s = .next t ∧
      State.answered { s with trg.counters := Map.put s.trg.counters c { spoke := u16 p 0 } } t f .success (toLe 2 c ++ zeros 2)) ∧
  (∀ (s : State) (f : Nat) (p : Bytes) (x : Counter),
    s.performable f 0x0121 = true →
    (s.fn f).mb.payload = p →
    Map.get s.trg.counters (u16 p 0) = some x →
    s.mayNameSpoke f x.spoke = true →
    s.counterNamed (u16 p 0) = false →
    ∃ t, exec (.counterFree f) s = .next t ∧
      State.answered { s with trg.counters := Map.erase s.trg.counters (u16 p 0) } t f .success []) ∧
  (∀ (s : State) (f : Nat) (p : Bytes) (x : Counter),
    s.performable f 0x0122 = true →
    (s.fn f).mb.payload = p →
    Map.get s.trg.counters (u16 p 0) = some x →
    s.mayNameSpoke f x.spoke = true →
    (bit (u8 p 2) 3 = true → u64 p 24 % 8 = 0) →
    ∃ t y, exec (.counterSet f) s = .next t ∧ t.responded f .success [] false ∧
      Map.get t.trg.counters (u16 p 0) = some y ∧ y.spoke = x.spoke ∧
      y.value = (if bit (u8 p 2) 0 then u64 p 8 else x.value) ∧ y.failed = (x.failed && !bit (u8 p 2) 1) ∧
      (y.irqArmed = true → bit (u8 p 2) 2 = true ∧ y.value < y.irqThreshold) ∧
      (y.mirrorEn = true → bit (u8 p 2) 3 = true ∧ y.mirror = u64 p 24) ∧
      (∀ d, d ≠ u16 p 0 → Map.get t.trg.counters d = Map.get s.trg.counters d)) ∧
  (∀ (s : State) (f : Nat) (p : Bytes) (x : Counter),
    s.performable f 0x0123 = true →
    (s.fn f).mb.payload = p →
    Map.get s.trg.counters (u16 p 0) = some x →
    s.mayNameSpoke f x.spoke = true →
    0 < u64 p 8 →
    ∃ t y, exec (.counterAdd f) s = .next t ∧ t.responded f .success (toLe 8 (min (x.value + u64 p 8) (2 ^ 64 - 1))) false ∧
      Map.get t.trg.counters (u16 p 0) = some y ∧ y.value = min (x.value + u64 p 8) (2 ^ 64 - 1) ∧ y.failed = x.failed ∧
      (y.irqArmed = true → y.value < y.irqThreshold) ∧
      (∀ d, d ≠ u16 p 0 → Map.get t.trg.counters d = Map.get s.trg.counters d)) ∧
  (∀ (s : State) (f : Nat) (p : Bytes) (x : Counter),
    s.performable f 0x0124 = true →
    (s.fn f).mb.payload = p →
    Map.get s.trg.counters (u16 p 0) = some x →
    s.mayNameSpoke f x.spoke = true →
    ∃ t, exec (.counterRead f) s = .next t ∧
      s.answered t f .success (toLe 8 x.value ++ toLe 1 (if x.failed then x.failStatus.code else 0) ++
      toLe 1 (b2n x.failed + 2 * b2n x.irqArmed + 4 * b2n x.mirrorEn) ++ zeros 6))

/-- For a request that is served now: BIND makes an entry for the spoke and T with no credits, fed by or counting on the counter when FEED or COUNT says so; UNBIND returns the held heads and the credits, takes the entry away and completes each head FLUSHED; RESET clears the failure, returns the credits discarded and leaves the heads held. -/
def Obligations.TriggerCommandsActOnTheirEntry : Prop :=
  (∀ (s : State) (f : Nat) (p : Bytes),
    s.performable f 0x0130 = true →
    (s.fn f).mb.payload = p →
    (s.spoke (u16 p 0)).isSome = true →
    s.mayNameSpoke f (u16 p 0) = true →
    u32 p 4 ≠ 0 →
    (bit (u8 p 2) 0 && bit (u8 p 2) 1) = false →
    ((bit (u8 p 2) 0 || bit (u8 p 2) 1) = false → u16 p 8 = 0) →
    (bit (u8 p 2) 0 || bit (u8 p 2) 1) = true → (Map.get s.trg.counters (u16 p 8)).map Counter.spoke = some (u16 p 0) →
    Map.has s.trg.entries (trigKey (u16 p 0) (u32 p 4)) = false →
    s.trg.entries.length < 32768 →
    ∃ t, exec (.triggerBind f) s = .next t ∧
      State.answered { s with trg.entries := Map.put s.trg.entries (trigKey (u16 p 0) (u32 p 4)) { spoke := u16 p 0, value := u32 p 4, count := bit (u8 p 2) 0, feedEn := bit (u8 p 2) 1, counter := u16 p 8 } }
      t f .success []) ∧
  (∀ (s : State) (f : Nat) (p : Bytes) (e : TrigEntry),
    s.performable f 0x0131 = true →
    (s.fn f).mb.payload = p →
    Map.get s.trg.entries (trigKey (u16 p 0) (u32 p 4)) = some e →
    s.mayNameSpoke f (u16 p 0) = true →
    ∃ t, exec (.triggerUnbind f) s = .next t ∧ t.responded f .success (toLe 4 e.heads.length ++ toLe 4 e.credits) false ∧
      t.trg = { s.trg with entries := Map.erase s.trg.entries (trigKey (u16 p 0) (u32 p 4)) } ∧
      (∀ o x, o ∈ e.heads → s.op o = some x → x.phase ≠ .done →
      t.op o = some { x with phase := .done, status := .flushed, bytes := 0, detail := 0 }) ∧
      (∀ o, o ∉ e.heads → t.op o = s.op o) ∧ t.mem = s.mem) ∧
  (∀ (s : State) (f : Nat) (p : Bytes) (e : TrigEntry),
    s.performable f 0x0132 = true →
    (s.fn f).mb.payload = p →
    Map.get s.trg.entries (trigKey (u16 p 0) (u32 p 4)) = some e →
    s.mayNameSpoke f (u16 p 0) = true →
    ∃ t, exec (.triggerReset f) s = .next t ∧
      State.answered { s with trg.entries := Map.put s.trg.entries (trigKey (u16 p 0) (u32 p 4)) { e with failed := false, failStatus := .success, credits := 0 } }
      t f .success (toLe 4 e.credits))

/-- COUNTER_UPDATE takes the update that reached TRG first. When its spoke does not own the counter, the refusal is counted and no counter changes. Otherwise a failure marks the counter failed with its status and keeps VALUE, and an amount is added to VALUE, holding at 2^64 - 1. MIRROR_WRITE_FAILED on a counter with a mirror disables the mirror and keeps VALUE. No command of these touches another counter. -/
def Obligations.CounterUpdatesAreAppliedInOrder : Prop :=
  (∀ (s : State) (u : CntUpdate) (l : List CntUpdate) (ans : HostAns),
    s.trg.updates = u :: l →
    (Map.get s.trg.counters u.counter).map Counter.spoke ≠ some u.spoke →
    exec (.counterUpdate ans) s = .next { s with trg.updates := l, trg.refused := min (s.trg.refused + 1) 65535 }) ∧
  (∀ (s : State) (u : CntUpdate) (l : List CntUpdate) (x : Counter) (st : Status) (ans : HostAns),
    s.trg.updates = u :: l →
    Map.get s.trg.counters u.counter = some x →
    x.spoke = u.spoke →
    u.fail = some st →
    ∃ t y, exec (.counterUpdate ans) s = .next t ∧ l <+: t.trg.updates ∧ Map.get t.trg.counters u.counter = some y ∧
      y.failed = true ∧ y.value = x.value ∧ y.failStatus = (if x.failed then x.failStatus else st) ∧
      (∀ d, d ≠ u.counter → Map.get t.trg.counters d = Map.get s.trg.counters d)) ∧
  (∀ (s : State) (u : CntUpdate) (l : List CntUpdate) (x : Counter) (ans : HostAns),
    s.trg.updates = u :: l →
    Map.get s.trg.counters u.counter = some x →
    x.spoke = u.spoke →
    u.fail = none →
    ∃ t y, exec (.counterUpdate ans) s = .next t ∧ l <+: t.trg.updates ∧ Map.get t.trg.counters u.counter = some y ∧
      y.failed = x.failed ∧ y.value = min (x.value + u.amount) (2 ^ 64 - 1) ∧
      (∀ d, d ≠ u.counter → Map.get t.trg.counters d = Map.get s.trg.counters d)) ∧
  (∀ (s : State) (c : Nat) (st : Status) (x : Counter),
    Map.get s.trg.counters c = some x →
    x.mirrorEn = true →
    ∃ t, exec (.mirrorWriteFailed c st) s = .next t ∧
      Map.get t.trg.counters c = some { x with mirrorEn := false, mirrorDue := false, msgDue := false } ∧
      (∀ d, d ≠ c → Map.get t.trg.counters d = Map.get s.trg.counters d) ∧ t.trg.entries = s.trg.entries)

/-- A RUN that passes its checks becomes a waiting job under the next number, and its operation is marked. A waiting job that may bind takes every tile of the choice: a fresh one loads and all of its tiles run, a saved one restores. With one running job whose spoke has spent its bucket, the scheduler's decision pre-empts it: the job and its tiles save and the pre-emption counts. A RUN of a spoke with no tile limit ends NOT_PERMITTED. A tile free for the idle time is gated. -/
def Obligations.JobsAreTakenInBoundAndPreempted : Prop :=
  (∀ (s u v : State) (o : Nat) (x : Op) (q : Queue) (sp : Spoke) (gs : List Stage) (cs : List Chan) (ans mans : HostAns),
    s.running o .streamJob = some (x, q) →
    x.posted = false →
    s.serves 3 = true →
    s.str.jobs.length < 4096 →
    s.spoke q.spoke = some sp →
    sp.tileLimit ≠ 0 →
    rMcode x.desc = false →
    s.readPipe q.spoke x.desc ans = (u, .ok gs cs) →
    gs.length ≤ u.usable →
    u.ctxCheck q.spoke (rCtxUnits x.desc * 65536 / 4096 + 1) (rCtx x.desc) (rCtxUnits x.desc * 65536) = (v, .success) →
    ∃ t j, exec (.run o ans mans) s = .next t ∧ t.job s.str.nextJob = some j ∧ (∀ i, i ≠ s.str.nextJob → t.job i = s.job i) ∧ t.str.nextJob = s.str.nextJob + 1 ∧
      j.op = o ∧ j.spoke = q.spoke ∧ j.phase = .waiting ∧ j.stages = gs ∧ j.chans = cs ∧ j.ctx = rCtx x.desc ∧
      j.runLimit = rRunLimit x.desc ∧ (t.op o).map Op.posted = some true ∧ t.str.tiles = s.str.tiles) ∧
  (∀ (s : State) (o : Nat) (x : Op) (q : Queue) (sp : Spoke) (ans mans : HostAns),
    s.running o .streamJob = some (x, q) →
    x.posted = false →
    s.serves 3 = true →
    s.str.jobs.length < 4096 →
    s.spoke q.spoke = some sp →
    sp.tileLimit = 0 →
    exec (.run o ans mans) s = .next (s.finish o .notPermitted 0 0)) ∧
  (∀ (s : State) (j : Nat) (x : Job) (tiles : List Nat) (ans : List HostAns),
    s.serves 3 = true →
    s.job j = some x →
    s.account.bindable j x = true →
    s.account.tilesOk x tiles = true →
    x.stages.all (fun g => g.saved.isNone) = true →
    (s.account.loadStages j x ans (x.live.zip tiles)).2.2 = (none, false) →
    ∃ t y, exec (.jobBind j tiles ans) s = .next t ∧ t.job j = some y ∧ y.phase = .bound ∧ y.boundAt = s.now ∧
      (∀ i ∈ tiles, (t.tile i).phase = .running ∧ (t.tile i).job = j ∧ (t.tile i).pc = 0 ∧ (t.tile i).rx 1 = x.arg ∧
      (t.tile i).rx 3 = x.stages.length ∧ (t.tile i).rp 0 = all256)) ∧
  (∀ (s : State) (j : Nat) (x : Job) (tiles : List Nat) (ans : List HostAns),
    s.serves 3 = true →
    s.job j = some x →
    s.account.bindable j x = true →
    s.account.tilesOk x tiles = true →
    x.stages.all (fun g => g.saved.isNone) = false →
    ∃ t y, exec (.jobBind j tiles ans) s = .next t ∧ t.job j = some y ∧ y.phase = .bound ∧ y.boundAt = s.now ∧
      (∀ i ∈ tiles, (t.tile i).phase = .restoring ∧ (t.tile i).job = j) ∧ t.mem = s.mem) ∧
  (∀ (s : State) (j : Nat) (x : Job),
    s.serves 3 = true →
    s.str.jobs = [(j, x)] →
    x.phase = .bound →
    x.stages ≠ [] →
    x.stages.all (fun g => !g.ended) = true →
    (Map.get s.account.str.bucket x.spoke).getD 0 ≤ 0 →
    ∃ t y, exec .schedulerDecision s = .next t ∧ t.job j = some y ∧ y.phase = .saving ∧ y.preempts = x.preempts + 1 ∧
      (∀ i ∈ x.tiles, (t.tile i).phase = .saving) ∧ t.rget 0x600010 = min (s.rget 0x600010 + 1) (2 ^ 64 - 1) ∧
      t.mem = s.mem ∧ t.host = s.host) ∧
  (∀ (s : State) (i : Nat),
    s.tileFree i = true →
    (s.tile i).gated = false →
    s.rfield aLowPwr 31 16 ≠ 0 →
    exec (.tileGate i) s = .next (State.setTile { s with now := max s.now ((s.tile i).freeAt + 1000 * s.rfield aLowPwr 31 16) } i { s.tile i with gated := true }))

/-- A save frees the tile and keeps its registers with the stage; a restore brings them back and the tile runs. A bundle that issues leaves its tile with every register, the SRAM and the program counter that its slots write; one that takes an exception ends its job TILE_EXCEPTION. A job whose stages have all ended, and which has no sink, ends SUCCESS and frees its tiles; one past its run limit or in deadlock ends TIMEOUT. TILE_RETIRE of a free tile takes it out of use and responds when its record is committed; of one retired already it answers SUCCESS; with CLEAR it deletes the record. -/
def Obligations.JobsAreSavedRestoredAndEnd : Prop :=
  (∀ (s u : State) (i : Nat) (x : Job) (g : Stage),
    (s.tile i).phase = .saving →
    s.job (s.tile i).job = some x →
    x.stages[(s.tile i).stage]? = some g →
    s.ctxCheck x.spoke ((131072 + g.units * 65536) / 4096 + 1) (slotAddr x.ctx x.stages (s.tile i).stage) (131072 + g.units * 65536) = (u, .success) →
    s.str.retiring = [] →
    (∀ y ∈ s.str.jobs, y.2.stages.length ≤ s.usable) →
    ∃ t y, exec (.contextSaveComplete i) s = .next t ∧ (t.tile i).phase = .free ∧ t.job (s.tile i).job = some y ∧
      y.stages[(s.tile i).stage]? = some { g with saved := some { s.tile i with sram := [], bad := [], icache := [] }, tile := none }) ∧
  (∀ (s : State) (i : Nat) (x : Job) (g : Stage) (keep : Tile),
    (s.tile i).phase = .restoring →
    s.job (s.tile i).job = some x →
    x.stages[(s.tile i).stage]? = some g →
    g.saved = some keep →
    (s.spokeRead x.spoke (slotAddr x.ctx x.stages (s.tile i).stage) 131072 (.ok [] false)).2.status = .success →
    (s.spokeRead x.spoke (slotAddr x.ctx x.stages (s.tile i).stage) 131072 (.ok [] false)).2.medium = false →
    ((s.spokeRead x.spoke (slotAddr x.ctx x.stages (s.tile i).stage) 131072 (.ok [] false)).1.readContext x.spoke
      (slotAddr x.ctx x.stages (s.tile i).stage + 131072) (g.units * 1024)).2.2 = .success →
    ∃ t, exec (.contextRestoreComplete i) s = .next t ∧ (t.tile i).phase = .running ∧ (t.tile i).x = keep.x ∧
      (t.tile i).p = keep.p ∧ (t.tile i).v = keep.v ∧ (t.tile i).a = keep.a ∧ (t.tile i).g = keep.g ∧ (t.tile i).pf = keep.pf ∧
      (t.tile i).pc = keep.pc ∧ (t.tile i).rng = keep.rng ∧ (t.tile i).mcode = keep.mcode) ∧
  (∀ (s : State) (i : Nat) (x : Job) (g : Stage) (l : List SlotOut) (ans : HostAns),
    (s.tile i).phase = .running →
    (s.tile i).cnts = [] →
    s.job (s.tile i).job = some x →
    x.chans = [] →
    x.stages[(s.tile i).stage]? = some g →
    g.ended = false →
    (s.tile i).pc + 64 ≤ g.units * 65536 →
    Map.get (s.tile i).icache (s.tile i).pc = some (Memory.readBytes (s.tile i).sram (s.tile i).pc 64) →
    runBundle (s.tile i) (s.env x i (g.units * 65536)) (Memory.readBytes (s.tile i).sram (s.tile i).pc 64) = .issued l →
    ∃ t, exec (.bundleIssue i [] [] ans) s = .next t ∧ (t.tile i).x = ((s.tile i).commit l).x ∧ (t.tile i).p = ((s.tile i).commit l).p ∧
      (t.tile i).v = ((s.tile i).commit l).v ∧ (t.tile i).a = ((s.tile i).commit l).a ∧ (t.tile i).g = ((s.tile i).commit l).g ∧
      (t.tile i).sram = ((s.tile i).commit l).sram ∧ (t.tile i).pc = ((s.tile i).commit l).pc ∧
      (t.tile i).pf = ((s.tile i).commit l).pf ∧ (t.tile i).rng = ((s.tile i).commit l).rng ∧
      (∀ k, k ≠ i → t.tile k = s.tile k) ∧ t.mem = s.mem) ∧
  (∀ (s : State) (i c : Nat) (x : Job) (g : Stage) (o : Op) (ans : HostAns),
    (s.tile i).phase = .running →
    (s.tile i).cnts = [] →
    s.job (s.tile i).job = some x →
    x.chans = [] →
    x.stages[(s.tile i).stage]? = some g →
    g.ended = false →
    (s.tile i).pc + 64 ≤ g.units * 65536 →
    Map.get (s.tile i).icache (s.tile i).pc = some (Memory.readBytes (s.tile i).sram (s.tile i).pc 64) →
    runBundle (s.tile i) (s.env x i (g.units * 65536)) (Memory.readBytes (s.tile i).sram (s.tile i).pc 64) = .except c →
    s.op x.op = some o →
    o.phase ≠ .done →
    Map.wf s.str.jobs = true →
    s.str.retiring = [] →
    ∃ t y, exec (.bundleIssue i [] [] ans) s = .next t ∧ t.job (s.tile i).job = none ∧ t.op x.op = some y ∧ y.phase = .done ∧
      y.status = .tileException ∧ y.detail = failDetail (s.tile i).pc (s.tile i).stage c ∧
      (∀ k ∈ x.tiles, (t.tile k).phase = .free) ∧ t.mem = s.mem) ∧
  (∀ (s : State) (j : Nat) (x : Job) (o : Op) (ans : HostAns),
    s.job j = some x →
    x.phase = .bound →
    x.stages.all Stage.ended = true →
    x.chans = [] →
    x.marked = none →
    s.op x.op = some o →
    o.phase ≠ .done →
    Map.wf s.str.jobs = true →
    s.str.retiring = [] →
    ∃ t y, exec (.jobComplete j ans) s = .next t ∧ t.job j = none ∧ t.op x.op = some y ∧ y.phase = .done ∧ y.status = .success ∧
      y.bytes = min x.sinkBytes (2 ^ 32 - 1) ∧ y.flags = b2n x.residue ∧
      y.detail = (x.tileNs + (s.now - x.boundAt) * x.tiles.length) / 1000 % 2 ^ 32 + min x.preempts 65535 * 2 ^ 32 ∧
      (∀ k ∈ x.tiles, (t.tile k).phase = .free) ∧ t.mem = s.mem) ∧
  (∀ (s : State) (j : Nat) (x : Job) (o : Op),
    s.job j = some x →
    x.phase = .bound →
    s.op x.op = some o →
    o.phase ≠ .done →
    Map.wf s.str.jobs = true →
    s.str.retiring = [] →
    (x.runLimit ≠ 0xFFFFFFFF → ∃ t y, exec (.runLimitExpire j) s = .next t ∧ t.job j = none ∧ t.op x.op = some y ∧ y.phase = .done ∧
      y.status = .timeout ∧ t.now = max s.now (x.boundAt + (x.runLimit * 1000 - x.boundNs) + 1) ∧ (∀ k ∈ x.tiles, (t.tile k).phase = .free)) ∧
      (x.stalledAt = none → x.chans.any Chan.parked = false → x.live ≠ [] → ∃ t y, exec (.deadlockTimeout j) s = .next t ∧ t.job j = none ∧
      t.op x.op = some y ∧ y.phase = .done ∧ y.status = .timeout ∧
      t.now = max s.now (x.movedAt + 1000 * max 100 (s.rfield 0x600000 47 32)) ∧ (∀ k ∈ x.tiles, (t.tile k).phase = .free))) ∧
  (∀ (s : State) (f : Nat) (p : Bytes),
    s.performable f 0x0501 = true →
    (s.fn f).mb.payload = p →
    f % 4 = 0 →
    bit (u8 p 1) 0 = false →
    bits (u8 p 0) 5 0 ∈ s.str.retired →
    ∃ t, exec (.tileRetire f) s = .next t ∧ s.answered t f .success []) ∧
  (∀ (s : State) (f : Nat) (p : Bytes),
    s.performable f 0x0501 = true →
    (s.fn f).mb.payload = p →
    f % 4 = 0 →
    bit (u8 p 1) 0 = false →
    bits (u8 p 0) 5 0 ∉ s.str.retired →
    s.str.retiring.all (fun r => r.tile != bits (u8 p 0) 5 0) = true →
    (s.tile (bits (u8 p 0) 5 0)).phase = .free →
    (∀ y ∈ s.str.jobs, y.2.stages.length < s.usable) →
    ∃ t, exec (.tileRetire f) s = .next t ∧ bits (u8 p 0) 5 0 ∈ t.str.retired ∧ (t.tile (bits (u8 p 0) 5 0)).gated = true ∧
      ({ type := 0x0501, key := bits (u8 p 0) 5 0, delete := false, parts := [toLe 4 (bits (u8 p 0) 5 0)], wait := some ⟨f, .success, [], none, none⟩ } : JWrite) ∈ t.fwm.jpend) ∧
  (∀ (s : State) (f : Nat) (p : Bytes),
    s.performable f 0x0501 = true →
    (s.fn f).mb.payload = p →
    f % 4 = 0 →
    bit (u8 p 1) 0 = true →
    (s.jGet 0x0501 (bits (u8 p 0) 5 0)).isSome = true →
    ∃ t, exec (.tileRetire f) s = .next t ∧ s.journalled t 0x0501 (bits (u8 p 0) 5 0) true [] (some ⟨f, .success, [], none, none⟩))

/-- An enable with values that are accepted clears the error bit; readiness makes the admin queues from AQA, ASQ and ACQ; a reset abandons every command of the controller and its queues and keeps those registers; a shutdown with nothing left is complete at once. A doorbell moves its queue: a tail with an answer fetches one command, a head frees entries, an index out of range is reported. An admin command that passes its checks changes what it names and completes without error: queues come and go, Number of Queues is granted and read back, a log page and an Identify list are written, Abort ends a command that has sent nothing, and an event request is held until an event comes. -/
def Obligations.ControllersFollowTheirRegistersAndQueues : Prop :=
  (∀ (s : State) (h cc : Nat) (x : Ctrl),
    h < 2 →
    s.theCtrl h = some x →
    bit x.cc 0 = false →
    exec (.controllerEnable h cc) s = .next (s.setCtrl h { x with cc := setBits cc 0 0 1 % 2 ^ 24, rdy := false, cfs := !ccOk (setBits cc 0 0 1 % 2 ^ 24), shst := 0 })) ∧
  (∀ (s : State) (h : Nat) (x : Ctrl),
    h < 2 →
    s.theCtrl h = some x →
    bit x.cc 0 = true →
    x.rdy = false →
    x.cfs = false →
    ∃ t, exec (.controllerReady h) s = .next t ∧ t.theCtrl h = some { x with rdy := true } ∧
      Map.get t.nvme.sqs (nvKey h 0) = some { base := x.asq / 4096 * 4096, size := bits x.aqa 11 0 + 1, cqid := 0 } ∧
      Map.get t.nvme.cqs (nvKey h 0) = some { base := x.acq / 4096 * 4096, size := bits x.aqa 27 16 + 1, ien := true, vector := 0 } ∧
      t.nvme.cmds = s.nvme.cmds ∧ t.nvme.spaces = s.nvme.spaces) ∧
  (∀ (s : State) (h : Nat) (x : Ctrl),
    h < 2 →
    s.theCtrl h = some x →
    bit x.cc 0 = true →
    ∃ t y, exec (.controllerReset h) s = .next t ∧ t.theCtrl h = some y ∧ bit y.cc 0 = false ∧ y.rdy = false ∧ y.aqa = x.aqa ∧
      y.asq = x.asq ∧ y.acq = x.acq ∧ (∀ p ∈ t.nvme.cmds, p.2.ctrl ≠ h) ∧ (∀ p ∈ t.nvme.sqs, p.1 / 65536 ≠ h) ∧
      (∀ p ∈ t.nvme.cqs, p.1 / 65536 ≠ h) ∧ (∀ c, c ≠ h → t.ctrl c = s.ctrl c)) ∧
  (∀ (s : State) (h shn : Nat) (x : Ctrl),
    h < 2 →
    (shn = 1 ∨ shn = 2) →
    s.theCtrl h = some x →
    s.nvme.cmds = [] →
    s.nvme.spaces = [] →
    ∃ t, exec (.shutdown h shn) s = .next t ∧ t.theCtrl h = some { x with cc := setBits x.cc 15 14 shn, shst := 2 } ∧
      (∀ c, c ≠ h → t.ctrl c = s.ctrl c)) ∧
  (∀ (s : State) (h shn : Nat) (x : Ctrl),
    h < 2 →
    (shn = 1 ∨ shn = 2) →
    s.theCtrl h = some x →
    s.nvme.cmds.any (fun p => p.2.ctrl == h) = true →
    s.nvme.spaces = [] →
    ∃ t, exec (.shutdown h shn) s = .next t ∧ t.theCtrl h = some { x with cc := setBits x.cc 15 14 shn, shst := 1 } ∧ t.nvme.cmds = s.nvme.cmds) ∧
  (∀ (s : State) (c q tail : Nat) (x : Ctrl) (sq : NvQueue) (b : Bytes),
    s.theCtrl c = some x →
    x.rdy = true →
    Map.get s.nvme.sqs (nvKey c q) = some sq →
    tail < sq.size →
    exec (.nvmeSqDoorbell c q tail []) s = .next { s with nvme.sqs := Map.put s.nvme.sqs (nvKey c q) { sq with tail := tail } } ∧
      (s.nvUp x = true → x.spoke = none → s.rimDown = false → x.shst = 0 → sq.head ≠ tail → b.length = 64 →
      ((if q = 0 then nvAdmin else nvIo).contains (u8 b 0)) = true → bits (u8 b 1) 1 0 = 0 → bits (u8 b 1) 7 6 ≤ 1 →
      ∃ t, exec (.nvmeSqDoorbell c q tail [.ok b false]) s = .next t ∧
      t.nvCmd s.nvme.nextCmd = some { ctrl := c, sq := q, cid := u16 b 2, sqe := b } ∧ t.nvme.nextCmd = s.nvme.nextCmd + 1 ∧
      Map.get t.nvme.sqs (nvKey c q) = some { sq with tail := tail, head := (sq.head + 1) % sq.size } ∧ t.nvme.cqs = s.nvme.cqs)) ∧
  (∀ (s : State) (c q head : Nat) (x : Ctrl) (k : NvQueue),
    s.theCtrl c = some x →
    x.rdy = true →
    Map.get s.nvme.cqs (nvKey c q) = some k →
    head < k.size →
    (head + k.size - k.head) % k.size ≤ (k.tail + k.size - k.head) % k.size →
    k.due = [] →
    exec (.nvmeCqDoorbell c q head) s = .next { s with nvme.cqs := Map.put s.nvme.cqs (nvKey c q) { k with head := head } }) ∧
  (∀ (s : State) (c q head : Nat) (x : Ctrl) (k : NvQueue),
    s.theCtrl c = some x →
    x.rdy = true →
    x.aers = [] →
    x.events = [] →
    Map.get s.nvme.cqs (nvKey c q) = some k →
    k.size ≤ head →
    exec (.nvmeCqDoorbell c q head) s = .next (s.setCtrl c { x with events := [0x10100] }) ∨ s.ctrl c = none) ∧
  (∀ (s : State) (i : Nat) (k : NvCmd) (x : Ctrl),
    s.nvReady i 0x05 true = some (k, x) →
    x.spoke = none →
    x.qidBad (u16 k.sqe 40) = false →
    Map.get s.nvme.cqs (nvKey k.ctrl (u16 k.sqe 40)) = none →
    ioQueues s.nvme.cqs < 8192 →
    1 ≤ u16 k.sqe 42 →
    bit (u32 k.sqe 44) 0 = true →
    bits (u32 k.sqe 44) 31 16 < 2048 →
    u64 k.sqe 24 % x.pageBytes = 0 →
    exec (.createIoCompletionQueue i) s = .next (State.nvDone { s with nvme.cqs := Map.put s.nvme.cqs (nvKey k.ctrl (u16 k.sqe 40)) { base := u64 k.sqe 24, size := u16 k.sqe 42 + 1, ien := bit (u32 k.sqe 44) 1, vector := bits (u32 k.sqe 44) 31 16 } } i 0 0 0 (.ok [] false))) ∧
  (∀ (s : State) (i : Nat) (k : NvCmd) (x : Ctrl),
    s.nvReady i 0x01 true = some (k, x) →
    x.spoke = none →
    x.qidBad (u16 k.sqe 40) = false →
    Map.get s.nvme.sqs (nvKey k.ctrl (u16 k.sqe 40)) = none →
    ioQueues s.nvme.sqs < 8192 →
    1 ≤ u16 k.sqe 42 →
    bits (u32 k.sqe 44) 31 16 ≠ 0 →
    (Map.get s.nvme.cqs (nvKey k.ctrl (bits (u32 k.sqe 44) 31 16))).isSome = true →
    bit (u32 k.sqe 44) 0 = true →
    u64 k.sqe 24 % x.pageBytes = 0 →
    exec (.createIoSubmissionQueue i) s = .next (State.nvDone { s with nvme.sqs := Map.put s.nvme.sqs (nvKey k.ctrl (u16 k.sqe 40)) { base := u64 k.sqe 24, size := u16 k.sqe 42 + 1, cqid := bits (u32 k.sqe 44) 31 16 } } i 0 0 0 (.ok [] false))) ∧
  (∀ (s : State) (i : Nat) (k : NvCmd) (x : Ctrl) (sq : NvQueue),
    s.nvReady i 0x00 true = some (k, x) →
    Map.get s.nvme.sqs (nvKey k.ctrl (u16 k.sqe 40)) = some sq →
    u16 k.sqe 40 ≠ 0 →
    sq.number = none →
    s.nvme.cmds.all (fun p => !(p.2.ctrl == k.ctrl && p.2.sq == u16 k.sqe 40)) = true →
    exec (.deleteIoSubmissionQueue i) s = .next (State.nvDone { s with nvme.sqs := Map.erase s.nvme.sqs (nvKey k.ctrl (u16 k.sqe 40)) } i 0 0 0 (.ok [] false))) ∧
  (∀ (s : State) (i : Nat) (k : NvCmd) (x : Ctrl) (cq : NvQueue),
    s.nvReady i 0x04 true = some (k, x) →
    Map.get s.nvme.cqs (nvKey k.ctrl (u16 k.sqe 40)) = some cq →
    u16 k.sqe 40 ≠ 0 →
    cq.number = none →
    (s.nvme.sqs.all (fun p => !(p.1 / 65536 == k.ctrl && p.1 % 65536 != 0 && p.2.cqid == u16 k.sqe 40)) = true → exec (.deleteIoCompletionQueue i) s =
      .next (State.nvDone { s with nvme.cqs := Map.erase s.nvme.cqs (nvKey k.ctrl (u16 k.sqe 40)) } i 0 0 0 (.ok [] false))) ∧
      (s.nvme.sqs.any (fun p => p.1 / 65536 == k.ctrl && p.1 % 65536 != 0 && p.2.cqid == u16 k.sqe 40) = true → exec (.deleteIoCompletionQueue i) s =
      .next (s.nvDone i 0 (nvSt 1 0x0C true) 0 (.ok [] false)))) ∧
  (∀ (s u : State) (i : Nat) (k : NvCmd) (x : Ctrl) (d : Bytes) (l : List (Nat × Nat)) (lists ans : HostAns),
    s.nvReady i 0x02 true = some (k, x) →
    s.nvLog k.ctrl x (bits (u32 k.sqe 40) 7 0) = some d →
    bits (u32 k.sqe 40) 7 0 ≠ 2 →
    u64 k.sqe 48 % 4 = 0 →
    u64 k.sqe 48 ≤ d.length →
    bits (u32 k.sqe 44) 15 0 = 0 →
    s.dataPtr x k ((bits (u32 k.sqe 40) 31 16 + 1) * 4) lists = (u, .ok l) →
    (u.scatter x ans (padTo ((bits (u32 k.sqe 40) 31 16 + 1) * 4) (d.drop (u64 k.sqe 48))) l).2.status = .success →
    exec (.getLogPage i lists ans) s = .next ((u.scatter x ans (padTo ((bits (u32 k.sqe 40) 31 16 + 1) * 4) (d.drop (u64 k.sqe 48))) l).1.nvDone i 0 0 0 (.ok [] false))) ∧
  (∀ (s u : State) (i : Nat) (k : NvCmd) (x : Ctrl) (l : List (Nat × Nat)) (lists ans : HostAns),
    s.nvReady i 0x06 true = some (k, x) →
    u8 k.sqe 40 = 2 →
    u32 k.sqe 4 < 0xFFFFFFFE →
    s.dataPtr x k 4096 lists = (u, .ok l) →
    (u.scatter x ans (padTo 4096 ((s.nvme.spaces.filter fun p => p.2.ctrls.contains k.ctrl && decide (u32 k.sqe 4 < p.1)).flatMap fun p => toLe 4 p.1)) l).2.status = .success →
    s.nvme.spaces.length ≤ 1024 →
    exec (.identify i lists ans) s = .next ((u.scatter x ans (padTo 4096 ((s.nvme.spaces.filter fun p => p.2.ctrls.contains k.ctrl && decide (u32 k.sqe 4 < p.1)).flatMap fun p => toLe 4 p.1)) l).1.nvDone i 0 0 0 (.ok [] false))) ∧
  (∀ (s : State) (i j : Nat) (k y : NvCmd) (x : Ctrl),
    s.nvReady i 0x08 true = some (k, x) →
    (s.nvme.cmds.find? fun p => p.1 != i && p.2.ctrl == k.ctrl && p.2.sq == u16 k.sqe 40 && p.2.cid == u16 k.sqe 42 && !p.2.issued) = some (j, y) →
    exec (.abort i) s = .next ((s.nvDone j 0 (nvSt 0 0x07 true) 0 (.ok [] false)).nvDone i 0 0 0 (.ok [] false))) ∧
  (∀ (s : State) (i : Nat) (k : NvCmd) (x : Ctrl),
    s.nvReady i 0x09 true = some (k, x) →
    bit (u32 k.sqe 40) 31 = false →
    u8 k.sqe 40 = 0x07 →
    bits (u32 k.sqe 44) 15 0 < 65535 →
    bits (u32 k.sqe 44) 31 16 < 65535 →
    ioQueuesOf s.nvme.sqs k.ctrl + ioQueuesOf s.nvme.cqs k.ctrl = 0 →
    max (ioQueues s.nvme.sqs) (ioQueues s.nvme.cqs) ≤ 7680 →
    exec (.setFeatures i) s = .next ((s.modCtrl k.ctrl fun x => { x with grant := some (min (min (bits (u32 k.sqe 44) 15 0) (bits (u32 k.sqe 44) 31 16) + 1) 512) }).nvDone i ((min (min (bits (u32 k.sqe 44) 15 0) (bits (u32 k.sqe 44) 31 16) + 1) 512 - 1) * 65537) 0 0 (.ok [] false))) ∧
  (∀ (s : State) (i : Nat) (k : NvCmd) (x : Ctrl),
    s.nvReady i 0x09 true = some (k, x) →
    bit (u32 k.sqe 40) 31 = false →
    u8 k.sqe 40 = 0x02 →
    exec (.setFeatures i) s = .next (if 3 < bits (u32 k.sqe 44) 4 0 then s.nvDone i 0 (nvSt 0 0x02 true) 0 (.ok [] false)
      else (s.modCtrl k.ctrl fun x => { x with ps := bits (u32 k.sqe 44) 4 0 }).nvDone i 0 0 0 (.ok [] false))) ∧
  (∀ (s : State) (i : Nat) (k : NvCmd) (x : Ctrl),
    s.nvReady i 0x0A true = some (k, x) →
    (u8 k.sqe 40 = 0x07 → exec (.getFeatures i) s = .next (s.nvDone i ((x.grant.getD 512 - 1) * 65537) 0 0 (.ok [] false))) ∧
      (u8 k.sqe 40 = 0x02 → exec (.getFeatures i) s = .next (s.nvDone i x.ps 0 0 (.ok [] false)))) ∧
  (∀ (s : State) (i : Nat) (k : NvCmd) (x : Ctrl),
    s.nvReady i 0x0C true = some (k, x) →
    (4 ≤ x.aers.length → exec (.asynchronousEventRequest i) s = .next (s.nvDone i 0 (nvSt 1 0x05 true) 0 (.ok [] false))) ∧
      (x.aers.length < 4 → x.events = [] → exec (.asynchronousEventRequest i) s =
      .next (State.modCtrl { s with nvme.cmds := Map.erase s.nvme.cmds i } k.ctrl fun x => { x with aers := x.aers ++ [k.cid] })) ∧
      (∀ e l, x.aers.length < 4 → x.events = e :: l → exec (.asynchronousEventRequest i) s =
      .next ((s.modCtrl k.ctrl fun x => { x with events := l }).nvDone i e 0 0 (.ok [] false)))) ∧
  (∀ (s : State) (i dw : Nat) (k : NvCmd) (x : Ctrl) (sq cq : NvQueue),
    s.nvme.cmds = [(i, k)] →
    s.theCtrl k.ctrl = some x →
    x.spoke = none →
    x.shst = 0 →
    s.nvUp x = true →
    s.rimDown = false →
    Map.get s.nvme.sqs (nvKey k.ctrl k.sq) = some sq →
    Map.get s.nvme.cqs (nvKey k.ctrl sq.cqid) = some cq →
    cq.due = [] →
    ((cq.tail + 1) % cq.size ≠ cq.head → (s.nvDone i dw 0 0 (.ok [] false)).nvme.cmds = [] ∧
      Emit.memWrite x.fn none (s.fn x.fn).atsEn (cq.base + 16 * cq.tail) (toLe 4 dw ++ zeros 4 ++ toLe 2 sq.head ++ toLe 2 k.sq ++ toLe 2 k.cid ++ toLe 2 cq.pass) false ∈ (s.nvDone i dw 0 0 (.ok [] false)).out ∧
      (Map.get (s.nvDone i dw 0 0 (.ok [] false)).nvme.cqs (nvKey k.ctrl sq.cqid)).map NvQueue.tail = some ((cq.tail + 1) % cq.size)) ∧
      ((cq.tail + 1) % cq.size = cq.head → s.nvDone i dw 0 0 (.ok [] false) =
      { s with nvme.cmds := [], nvme.cqs := Map.put s.nvme.cqs (nvKey k.ctrl sq.cqid) { cq with due := [⟨k.sq, k.cid, dw, 0⟩] } }))

/-- A read goes to the side in service; a write, Write Zeroes and Dataset Management that pass their checks send each piece to every side, and on an unmirrored namespace one piece is one request. A Flush with no write before it completes at once, otherwise it waits for them. A request that completes leaves, and with its last piece the command completes. A path that is lost keeps its requests until it reconnects, when they are sent again, or until the loss time expires, when none is left. A mirror's side whose path stays lost is failed; a resynchronisation that ends puts its side back in service with the bits of the other; a unit's intent bit is cleared on both sides. -/
def Obligations.StorageCommandsReachTheirBackings : Prop :=
  (∀ (s : State) (i : Nat) (k : NvCmd) (x : Ctrl) (n : Namespace) (b : Bool) (d : NsSide),
    s.nvReady i 0x02 false = some (k, x) →
    s.ioSpace k = some n →
    ioCheck n k.sqe true = 0 →
    n.reader = some (b, d) →
    ∃ t r k', exec (.nvmeRead i) s = .next t ∧ Map.get t.nvme.reqs s.nvme.nextReq = some r ∧ r.backing = d.backing ∧ r.sideB = b ∧ r.ns = u32 k.sqe 4 ∧
      r.kind = .read ∧ r.slba = ioLba k.sqe ∧ r.nlb = ioNlb k.sqe ∧ r.cmd = some i ∧ t.nvme.nextReq = s.nvme.nextReq + 1 ∧
      t.nvCmd i = some k' ∧ k'.started = true ∧ k'.issued = true ∧ t.nvme.cqs = s.nvme.cqs) ∧
  (∀ (s : State) (i : Nat) (k : NvCmd) (x : Ctrl),
    (s.nvReady i 0x02 false = some (k, x) ∨ s.nvReady i 0x08 false = some (k, x)) →
    s.ioSpace k = none →
    (s.nvReady i 0x02 false = some (k, x) → exec (.nvmeRead i) s = .next (s.nvDone i 0 (nvSt 0 0x0B true) 0 (.ok [] false))) ∧
      (s.nvReady i 0x08 false = some (k, x) → exec (.writeZeroes i) s = .next (s.nvDone i 0 (nvSt 0 0x0B true) 0 (.ok [] false)))) ∧
  (∀ (s u v : State) (i a m : Nat) (k : NvCmd) (x : Ctrl) (n : Namespace) (l : List (Nat × Nat)) (ra : AccRes) (bl : List (Bytes × Bytes)) (lists ans : HostAns),
    s.nvReady i 0x01 false = some (k, x) →
    s.ioSpace k = some n →
    n.b = none →
    n.a.failed = false →
    n.encrypt = false →
    ioCheck n k.sqe true = 0 →
    s.dataPtr x k (ioNlb k.sqe * lbaBytes n.lbaf) lists = (u, .ok l) →
    u.gather x ans 0 l = (v, ra) →
    ra.status = .success →
    ra.poisoned = false →
    ra.medium = false →
    lbaMeta n.lbaf = 0 →
    ioBlocks n k.sqe ra.data [] = .ok bl →
    cutRange (s.atomLbas n) (ioNlb k.sqe) (ioLba k.sqe) (ioNlb k.sqe) = [(a, m)] →
    s.nvme.cmds.all (fun p => p.1 == i || !(p.2.started && p.2.kind != .read && p.2.pieces.any fun y => !y.sent)) = true →
    Map.wf s.nvme.cmds = true →
    ∃ t y, exec (.nvmeWrite i lists ans) s = .next t ∧ Map.get t.nvme.reqs s.nvme.nextReq = some y ∧ y.backing = n.a.backing ∧ y.sideB = false ∧
      y.ns = u32 k.sqe 4 ∧ y.kind = .write ∧ y.slba = a ∧ y.nlb = m ∧ y.data = ((bl.map fun b => b.1 ++ b.2).drop (a - ioLba k.sqe)).take m ∧
      y.cmd = some i ∧ t.nvme.nextReq = s.nvme.nextReq + 1 ∧ t.nvme.cqs = s.nvme.cqs) ∧
  (∀ (s : State) (i a m : Nat) (k : NvCmd) (x : Ctrl) (n : Namespace),
    s.nvReady i 0x08 false = some (k, x) →
    s.ioSpace k = some n →
    n.b = none →
    n.a.failed = false →
    ioCheck n k.sqe false = 0 →
    cutRange (s.atomLbas n) (ioNlb k.sqe) (ioLba k.sqe) (ioNlb k.sqe) = [(a, m)] →
    s.nvme.cmds.all (fun p => p.1 == i || !(p.2.started && p.2.kind != .read && p.2.pieces.any fun y => !y.sent)) = true →
    Map.wf s.nvme.cmds = true →
    ∃ t y, exec (.writeZeroes i) s = .next t ∧ Map.get t.nvme.reqs s.nvme.nextReq = some y ∧ y.backing = n.a.backing ∧ y.sideB = false ∧
      y.ns = u32 k.sqe 4 ∧ y.kind = .zero ∧ y.slba = a ∧ y.nlb = m ∧ y.cmd = some i ∧ t.nvme.nextReq = s.nvme.nextReq + 1 ∧ t.nvme.cqs = s.nvme.cqs) ∧
  (∀ (s u v : State) (i : Nat) (k : NvCmd) (x : Ctrl) (n : Namespace) (l : List (Nat × Nat)) (ra : AccRes) (lists ans : HostAns),
    s.nvReady i 0x09 false = some (k, x) →
    s.ioSpace k = some n →
    s.dataPtr x k (16 * (u8 k.sqe 40 + 1)) lists = (u, .ok l) →
    u.gather x ans 0 l = (v, ra) →
    ra.status = .success →
    ra.poisoned = false →
    u8 k.sqe 40 = 0 →
    fld ra.data 8 8 + fld ra.data 4 4 ≤ n.nsze →
    (bit (u32 k.sqe 44) 2 = false → exec (.datasetManagement i lists ans) s = .next (v.nvDone i 0 0 0 (.ok [] false))) ∧
      (bit (u32 k.sqe 44) 2 = true → fld ra.data 4 4 ≠ 0 → exec (.datasetManagement i lists ans) s =
      .next (v.startWrite i (u32 k.sqe 4) .dealloc [{ slba := fld ra.data 8 8, nlb := fld ra.data 4 4 }]))) ∧
  (∀ (s : State) (i : Nat) (k : NvCmd) (x : Ctrl) (n : Namespace),
    s.nvReady i 0x00 false = some (k, x) →
    s.ioSpace k = some n →
    u32 k.sqe 4 ≠ 0xFFFFFFFF →
    (s.nvme.cmds.all (fun p => !(decide (p.1 < i) && p.2.sq != 0 && (u8 p.2.sqe 0 == 1 || u8 p.2.sqe 0 == 8) && u32 p.2.sqe 4 == u32 k.sqe 4)) = true →
      exec (.flush i) s = .next (s.nvDone i 0 0 0 (.ok [] false))) ∧
      (s.nvme.cmds.any (fun p => decide (p.1 < i) && p.2.sq != 0 && (u8 p.2.sqe 0 == 1 || u8 p.2.sqe 0 == 8) && u32 p.2.sqe 4 == u32 k.sqe 4) = true →
      ∃ t k', exec (.flush i) s = .next t ∧ t.nvCmd i = some k' ∧ k'.started = true ∧ k'.wait ≠ [] ∧ t.nvme.reqs = s.nvme.reqs ∧ t.nvme.cqs = s.nvme.cqs)) ∧
  (∀ (s : State) (id i : Nat) (r : NvReq) (k : NvCmd) (p : NvPiece) (b : Backing) (data : List Bytes) (lists ans : HostAns),
    Map.get s.nvme.reqs id = some r →
    r.kind = .write →
    r.cmd = some i →
    r.piece = 0 →
    Map.get s.nvme.backings r.backing = some b →
    b.lostAt = none →
    s.nvCmd i = some k →
    k.started = true →
    k.kind = .write →
    u8 k.sqe 0 = 1 →
    k.pieces = [p] →
    p.sent = true →
    p.left = 1 →
    Map.wf s.nvme.cmds = true →
    Map.wf s.nvme.reqs = true →
    id < s.nvme.nextReq →
    ∃ t, exec (.backingCompletion id .success data lists ans) s = .next t ∧ t.nvCmd i = none ∧ Map.get t.nvme.reqs id = none ∧
      t.nvme.backings = s.nvme.backings) ∧
  (∀ (s : State) (b : Nat) (x : Backing),
    Map.get s.nvme.backings b = some x →
    exec (.backingPathLoss b) s = .next { s with nvme.backings := Map.put s.nvme.backings b { x with lostAt := some (x.lostAt.getD s.now) } } ∧
      (x.lostAt.isSome = true → (∀ r ∈ s.nvme.reqs, r.2.backing ≠ b) → exec (.backingReconnect b) s = .next { s with nvme.backings := Map.put s.nvme.backings b { x with lostAt := none } }) ∧
      (x.lostAt.isSome = true → ∃ t, exec (.backingReconnect b) s = .next t ∧ t.nvme.reqs = s.nvme.reqs ∧ Map.get t.nvme.backings b = some { x with lostAt := none })) ∧
  (∀ (s : State) (b tl : Nat) (x : Backing),
    Map.get s.nvme.backings b = some x →
    x.lostAt = some tl →
    ∃ t, exec (.lossTmoExpire b) s = .next t ∧ t.now = max s.now (tl + bits (u16 x.hdr 2) 9 0 * 1000000000) ∧ (∀ r ∈ t.nvme.reqs, r.2.backing ≠ b) ∧
      t.nvme.backings = s.nvme.backings) ∧
  (∀ (s : State) (ns tl : Nat) (sideB : Bool) (n : Namespace) (d : NsSide) (b : Backing),
    s.space ns = some n →
    n.side sideB = some d →
    d.failed = false →
    n.b.isSome = true →
    Map.get s.nvme.backings d.backing = some b →
    b.lostAt = some tl →
    ∃ t n' d', exec (.mirrorPathTimeout ns sideB) s = .next t ∧ t.space ns = some n' ∧ n'.side sideB = some d' ∧ d'.failed = true ∧ d'.backing = d.backing ∧
      n'.lastFail = .timeout ∧ n'.side (!sideB) = n.side (!sideB) ∧ t.now = max s.now (tl + 2000000000)) ∧
  (∀ (s : State) (ns u : Nat) (n : Namespace) (b : NsSide),
    s.space ns = some n →
    n.b = some b →
    n.a.failed = false →
    b.failed = false →
    (u ∈ n.a.bits ∨ u ∈ b.bits) →
    u ∉ n.waiting →
    u ∉ n.clearing →
    s.nvme.reqs = [] →
    ∃ t n' x y, exec (.intentBitClear ns u) s = .next t ∧ t.space ns = some n' ∧ n'.clearing = n.clearing ++ [u] ∧
      t.now = max s.now ((Map.get n.lastWrite u).getD 0 + 5000000000) ∧ t.nvme.reqs.length = 2 ∧ Map.get t.nvme.reqs s.nvme.nextReq = some x ∧ Map.get t.nvme.reqs (s.nvme.nextReq + 1) = some y ∧
      x.kind = .clearBit ∧ x.slba = u ∧ x.backing = n.a.backing ∧ y.kind = .clearBit ∧ y.slba = u ∧ y.backing = b.backing) ∧
  (∀ (s : State) (ns : Nat) (n : Namespace) (sideB : Bool) (l : List Nat) (d o : NsSide),
    s.space ns = some n →
    n.resync = some (sideB, l) →
    n.side sideB = some d →
    n.side (!sideB) = some o →
    o.failed = false →
    ∃ t, exec (.resyncComplete ns) s = .next t ∧ t.space ns = some { n.setSide sideB { d with failed := false, bits := o.bits } with resync := none } ∧
      t.nvme.reqs = s.nvme.reqs ∧ t.nvme.cmds = s.nvme.cmds)

/-- For a request that is served now and passes its checks: a backing takes the lowest free number and is removed again when no namespace uses it; a namespace that is not encrypted is made under its number or the lowest free one, is deleted when attached nowhere, and is attached to and detached from a controller; a spoke controller takes the lowest free identifier and two neighbouring queue numbers, and goes with them; a mirror's failed side starts its resynchronisation, and the command goes on. Each responds when the record that it writes is committed. -/
def Obligations.StorageMailboxCommandsWriteTheirRecords : Prop :=
  (∀ (s : State) (f b lbaf nawupf nabspf nsze : Nat) (zeroes : Bool) (p : Bytes),
    s.performable f 0x0601 = true →
    (s.fn f).mb.payload = p →
    s.backingBad p = false →
    f % 4 = 0 →
    Map.lowestFree s.nvme.backings 256 = some b →
    ∃ t, exec (.stoBackingAdd f .success lbaf nawupf nabspf nsze zeroes) s = .next t ∧
      State.journalled { s with nvme.backings := Map.put s.nvme.backings b { hdr := p, lbaf := lbaf % 5, nawupf := nawupf % 65536, nabspf := nabspf % 65536, nsze := nsze % 2 ^ 64, zeroes := zeroes } } t 0x0601 b false p (some ⟨f, .success, toLe 1 b ++ toLe 1 (lbaf % 5) ++ toLe 2 (nawupf % 65536) ++ toLe 2 (nabspf % 65536) ++ zeros 2 ++ toLe 8 (nsze % 2 ^ 64), none, none⟩)) ∧
  (∀ (s : State) (f : Nat) (st : Status) (p : Bytes),
    s.performable f 0x0601 = true →
    (s.fn f).mb.payload = p →
    s.backingBad p = false →
    f % 4 = 0 →
    (Map.lowestFree s.nvme.backings 256).isSome = true →
    st ≠ .success →
    ∃ t, exec (.stoBackingAdd f st 0 0 0 0 false) s = .next t ∧ s.answered t f st []) ∧
  (∀ (s : State) (f : Nat) (p : Bytes),
    s.performable f 0x0602 = true →
    (s.fn f).mb.payload = p →
    (Map.get s.nvme.backings (u8 p 0)).isSome = true →
    f % 4 = 0 →
    s.nvme.spaces.all (fun n => n.2.sides.all fun d => d.2.backing != u8 p 0) = true →
    ∃ t, exec (.stoBackingRemove f) s = .next t ∧ State.journalled { s with nvme.backings := Map.erase s.nvme.backings (u8 p 0) } t 0x0601 (u8 p 0) true [] (some ⟨f, .success, [], none, none⟩)) ∧
  (∀ (s : State) (f nsid : Nat) (p : Bytes),
    s.performable f 0x0610 = true →
    (s.fn f).mb.payload = p →
    bit (u8 p 3) 2 = false →
    s.nsBad p (nsOf p 0) = false →
    f % 4 = 0 →
    s.nsOverlap (nsOf p 0) = false →
    (u16 p 0 = nsid ∨ u16 p 0 = 0xFFFF ∧ lowestWhere (fun i => i != 0 && !Map.has s.nvme.spaces i) 1025 = some nsid) →
    nsid ≠ 0xFFFF →
    s.space nsid = none →
    s.nvme.spaces.length < 1024 →
    ∃ t, exec (.stoNsCreate f) s = .next t ∧
      State.journalled ((s.draw 32).2.setSpace nsid (nsOf p (s.draw 32).1)) t 0x0602 nsid false (nsBody nsid (nsOf p (s.draw 32).1)) (some ⟨f, .success, toLe 4 nsid, none, none⟩)) ∧
  (∀ (s : State) (f : Nat) (p : Bytes) (n : Namespace),
    s.performable f 0x0611 = true →
    (s.fn f).mb.payload = p →
    s.space (u16 p 0) = some n →
    f % 4 = 0 →
    n.ctrls = [] →
    n.encrypt = false →
    ∃ t, exec (.stoNsDelete f) s = .next t ∧
      State.journalled { s with nvme.spaces := Map.erase s.nvme.spaces (u16 p 0), nvme.reqs := s.nvme.reqs.filter fun (_, r) => r.ns != u16 p 0 } t 0x0602 (u16 p 0) true [] (some ⟨f, .success, [], none, none⟩)) ∧
  (∀ (s : State) (f : Nat) (p : Bytes) (n : Namespace) (x : Ctrl),
    s.performable f 0x0612 = true →
    (s.fn f).mb.payload = p →
    s.space (u16 p 0) = some n →
    s.theCtrl (u16 p 2) = some x →
    f % 4 = 0 →
    (u16 p 2 ∉ n.ctrls → bit (u8 p 4) 0 = false → ∃ t, exec (.stoNsAttach f) s = .next t ∧
      State.journalled ((s.setSpace (u16 p 0) { n with ctrls := setIns n.ctrls (u16 p 2) }).nvEvent (u16 p 2) 2 0 4 8) t 0x0603 (u16 p 0 + 65536 * u16 p 2) false p (some ⟨f, .success, [], none, none⟩)) ∧
      (u16 p 2 ∈ n.ctrls → bit (u8 p 4) 0 = true → ∃ t, exec (.stoNsAttach f) s = .next t ∧
      State.journalled ((s.setSpace (u16 p 0) { n with ctrls := n.ctrls.filter (· != u16 p 2) }).nvEvent (u16 p 2) 2 0 4 8) t 0x0603 (u16 p 0 + 65536 * u16 p 2) true [] (some ⟨f, .success, [], none, none⟩)) ∧
      (u16 p 2 ∈ n.ctrls → bit (u8 p 4) 0 = false → ∃ t, exec (.stoNsAttach f) s = .next t ∧ s.answered t f .success [])) ∧
  (∀ (s : State) (f c q : Nat) (p : Bytes) (sp : Spoke),
    s.performable f 0x0620 = true →
    (s.fn f).mb.payload = p →
    s.spoke (u16 p 0) = some sp →
    u16 p 4 ≠ 0 →
    u16 p 4 ≤ 4095 →
    u16 p 6 ≠ 0 →
    u16 p 6 ≤ 4095 →
    u64 p 8 % 4096 = 0 →
    u64 p 16 % 4096 = 0 →
    sp.base = false →
    sp.fn % 4 = 2 →
    f % 4 = 0 →
    s.nvme.ctrls.all (fun x => x.2.spoke != some (u16 p 0)) = true →
    s.host.queues.foldl (fun a x => a + b2n (x.2.spoke == u16 p 0)) 0 + 2 ≤ sp.queueQuota →
    lowestWhere (fun c => decide (2 ≤ c) && !Map.has s.nvme.ctrls c) 256 = some c →
    s.freePair = some q →
    ∃ t, exec (.stoCtrlCreate f) s = .next t ∧ t.ctrl c = some { fn := sp.fn, spoke := some (u16 p 0), cc := 0x460001, rdy := true } ∧
      Map.get t.nvme.sqs (nvKey c 0) = some { base := u64 p 8, size := u16 p 4 + 1, number := some q } ∧
      Map.get t.nvme.cqs (nvKey c 0) = some { base := u64 p 16, size := u16 p 6 + 1, number := some (q + 1) } ∧
      (t.queue q).map Queue.kind = some .nvme ∧ (t.queue (q + 1)).map Queue.kind = some .nvme ∧
      (∃ w, t.fwm.jpend = s.fwm.jpend ++ [w] ∧ w.type = 0x0604 ∧ w.key = c ∧ w.delete = false ∧ w.wait = some ⟨f, .success, toLe 2 c ++ zeros 2 ++ toLe 4 q, none, none⟩)) ∧
  (∀ (s : State) (f : Nat) (p : Bytes) (x : Ctrl),
    s.performable f 0x0621 = true →
    (s.fn f).mb.payload = p →
    s.ctrl (u16 p 0) = some x →
    x.spoke.isSome = true →
    f % 4 = 0 →
    ∃ t, exec (.stoCtrlDestroy f) s = .next t ∧ State.journalled (s.dropCtrl (u16 p 0)) t 0x0604 (u16 p 0) true [] (some ⟨f, .success, [], none, none⟩) ∧
      (∀ y ∈ t.nvme.cmds, y.2.ctrl ≠ u16 p 0)) ∧
  (∀ (s : State) (f : Nat) (p : Bytes) (n : Namespace) (d o e : NsSide) (b : Backing),
    s.performable f 0x0630 = true →
    (s.fn f).mb.payload = p →
    s.space (u16 p 0) = some n →
    u8 p 2 ≤ 1 →
    n.side (u8 p 2 == 1) = some d →
    n.side (!(u8 p 2 == 1)) = some o →
    n.b = some e →
    u8 p 4 = 0xFF →
    u64 p 8 = 0 →
    Map.get s.nvme.backings d.backing = some b →
    b.lbaf = n.lbaf →
    (n.range d).2 ≤ b.nsze →
    s.heldNew 4 = false →
    f % 4 = 0 →
    d.failed = true →
    o.failed = false →
    n.resync = none →
    ∃ t, exec (.stoMirrorReattach f) s = .next t ∧ (∃ w, t.fwm.jpend = s.fwm.jpend ++ [w] ∧ w.type = 0x0602 ∧ w.key = u16 p 0 ∧ w.delete = false ∧
      w.wait = some ⟨f, .success, [], some (u16 p 0), none⟩) ∧
      (∃ y, t.space (u16 p 0) = some y ∧ y.resync = some (u8 p 2 == 1, d.bits.foldl setIns o.bits)))

/-- A session that passes its checks opens under the lowest free number with the newest verified checkpoint of the store; a session with nothing in progress closes; a drain setting and a query act on their session. A CAPTURE that passes its checks takes the next number and starts a checkpoint; a page that is read is kept with its bytes; a capture past its limit fails TIMEOUT and the next is full. A kept page that is written has its extent and hash; a manifest that is written commits the checkpoint and completes the CAPTURE with its number. A RESTORE of a named checkpoint starts from its chain of manifests when they verify, and ends with the status of the first check that fails otherwise; a page whose hash differs fails the candidate, any other is widened and written. -/
def Obligations.CheckpointSessionsCaptureDrainAndRestore : Prop :=
  (∀ (s u : State) (f i : Nat) (p : Bytes) (r : AccRes) (shards : List Shard) (table : HostAns) (slots : List HostAns),
    s.performable f 0x0701 = true →
    (s.fn f).mb.payload = p →
    s.openBad p = false →
    s.spokeRead (u16 p 0) (u64 p 24) (64 * u16 p 2) table = (u, r) →
    r.status = .success →
    r.poisoned = false →
    r.medium = false →
    (List.range (u16 p 2)).map (shardEntry r.data) = shards.map some →
    s.keyCheck (u32 p 64) [6] (u16 p 0) = .success →
    s.mayNameSpoke f (u16 p 0) = true →
    (shards.all (fun x => !x.device) = true ∨ ((s.spoke (u16 p 0)).any fun sp => sp.base && sp.fn % 4 == 0) = true) →
    (List.range 8).all (fun m => !bit (u16 p (48 + 2 * m)) 15) = true →
    s.ckp.sessions.all (fun x => x.2.nsid != u32 p 4) = true →
    s.ckp.sessions.length < 64 →
    s.ckp.sessions.foldl (fun a x => a + x.2.quota) 0 + u8 p 40 * 2 ^ 30 ≤ s.pannierBytes →
    64 * pagesOf shards ≤ u8 p 40 * 2 ^ 30 →
    (List.range 64).all (fun i => match slots.getD i (.fail .mediumError) with
      | .ok _ false => true
      | _ => false) = true →
    Map.lowestFree s.ckp.sessions 64 = some i →
    ∃ t y, exec (.ckpSessionOpen f table slots) s = .next t ∧ t.session i = some y ∧ y.spoke = u16 p 0 ∧ y.shards = shards ∧ y.nsid = u32 p 4 ∧
      y.start = u64 p 8 ∧ y.blocks = u64 p 16 ∧ y.job = u64 p 32 ∧ y.quota = u8 p 40 * 2 ^ 30 ∧ y.maxChain = u8 p 68 ∧ y.ckpts = [] ∧ y.restore = none ∧ y.base = none ∧
      y.chain = newestManifest ((s.keyBytes (u32 p 64)).getD []) ((List.range 64).filterMap fun i => (slotRead (slots.getD i (.fail .mediumError))).toOption) ∧
      y.newest = (y.chain.map Manifest.ckpt).getD 0 ∧ t.responded f .success (toLe 1 i ++ zeros 7 ++ toLe 8 y.newest) false) ∧
  (∀ (s : State) (f : Nat) (p : Bytes) (x : Session),
    s.performable f 0x0702 = true →
    (s.fn f).mb.payload = p →
    s.session (u8 p 0) = some x →
    s.mayNameSpoke f x.spoke = true →
    x.ckpts = [] →
    x.restore = none →
    ∃ t, exec (.ckpSessionClose f) s = .next t ∧ State.answered { s with ckp.sessions := Map.erase s.ckp.sessions (u8 p 0) } t f .success []) ∧
  (∀ (s : State) (f : Nat) (p : Bytes) (x : Session),
    s.performable f 0x0703 = true →
    (s.fn f).mb.payload = p →
    s.session (u8 p 0) = some x →
    u16 p 2 ≠ 0 →
    u16 p 4 ≠ 0 →
    u16 p 4 ≤ 400 →
    s.mayNameSpoke f x.spoke = true →
    ∃ t, exec (.ckpDrainSet f) s = .next t ∧ State.answered (s.setSession (u8 p 0) { x with weight := u16 p 2, rate := u16 p 4 }) t f .success []) ∧
  (∀ (s : State) (f : Nat) (p : Bytes) (x : Session),
    s.performable f 0x0704 = true →
    (s.fn f).mb.payload = p →
    s.session (u8 p 0) = some x →
    s.mayNameSpoke f x.spoke = true →
    ∃ t, exec (.ckpQuery f) s = .next t ∧ s.answered t f .success (toLe 1 x.stateByte ++ toLe 1 ((x.base.map Manifest.depth).getD 0) ++ zeros 6 ++
      toLe 8 x.committed ++ toLe 8 (x.step.getD 0) ++ toLe 8 x.pannier ++ toLe 8 x.freeBlocks)) ∧
  (∀ (s : State) (o : Nat) (op : Op) (q : Queue) (x : Session) (ans : HostAns),
    s.running o .checkpoint = some (op, q) →
    dOpcode op.desc = 1 →
    op.posted = false →
    s.heldNew 5 = false →
    s.session (bits (u8 op.desc 16) 5 0) = some x →
    1 ≤ u32 op.desc 20 →
    u32 op.desc 20 ≤ 600000 →
    bit (u8 op.desc 17) 2 = false →
    x.spoke = q.spoke →
    (x.step = none ∨ x.step.getD 0 < u64 op.desc 24) →
    x.ckpts = [] →
    x.restore = none →
    x.shards.all (fun h => !h.overlap) = true →
    ∃ t y c, exec (.capture o ans) s = .next t ∧ t.session (bits (u8 op.desc 16) 5 0) = some y ∧ y.newest = x.newest + 1 ∧ y.step = some (u64 op.desc 24) ∧
      y.ckpts[0]? = some c ∧ y.ckpts.length = 1 ∧ c.op = some o ∧ c.ckpt = x.newest + 1 ∧ c.step = u64 op.desc 24 ∧ c.cutAt = s.now ∧ c.limitMs = u32 op.desc 20 ∧
      c.full = (bit (u8 op.desc 17) 1 || x.fullNext || (match x.base with
      | none => true
      | some b => b.depth == x.maxChain)) ∧ c.seen = [] ∧ c.skip = [] ∧ (t.op o).map Op.posted = some true) ∧
  (∀ (s : State) (k lane pg i : Nat) (x : Session) (c : Ckpt) (h : Shard) (ans : HostAns),
    s.session k = some x →
    x.inCapture = some c →
    c.op = none →
    c.full = true →
    lane < 8 →
    nextPage x.shards c.seen c.skip lane = some pg →
    shardOf x.shards pg = some (h, i) →
    h.cls = 0 →
    s.frozenFn (s.spokeFn x.spoke) = false →
    (s.pageRead x.spoke k h pg i ans).2.status = .success →
    (s.pageRead x.spoke k h pg i ans).2.poisoned = false →
    (s.pageRead x.spoke k h pg i ans).2.medium = false →
    (s.pageRead x.spoke k h pg i ans).2.noAccess = false →
    x.pannier + 65536 ≤ x.quota →
    ∃ t y, exec (.capturePageRead k lane ans) s = .next t ∧ t.session k = some y ∧ (∃ d ∈ y.ckpts, d.ckpt = c.ckpt ∧ pg ∈ d.seen ∧
      ({ page := pg, data := (s.pageRead x.spoke k h pg i ans).2.data } : KeptPage) ∈ d.kept) ∧
      t.rget (aCkpCnt 0) = min (s.rget (aCkpCnt 0) + 1) (2 ^ 64 - 1)) ∧
  (∀ (s : State) (k pg : Nat) (x : Session) (c : Ckpt) (ans : HostAns),
    s.session k = some x →
    x.inCapture = some c →
    (s.mem.prot.any fun p => p.session == k && p.page == pg && p.hit) = true →
    pg ∉ c.seen →
    pg ∉ c.skip →
    exec (.protectedWrite k pg ans) s = .next (s.capturePage k x c pg ans)) ∧
  (∀ (s : State) (k o : Nat) (x : Session) (c : Ckpt) (z : Op),
    s.session k = some x →
    x.inCapture = some c →
    c.op = some o →
    s.op o = some z →
    z.phase ≠ .done →
    ∃ t y w, exec (.captureTimeout k) s = .next t ∧ t.session k = some y ∧ (∀ d ∈ y.ckpts, d.ckpt ≠ c.ckpt) ∧ y.fullNext = true ∧
      t.op o = some w ∧ w.phase = .done ∧ w.status = .timeout ∧ w.detail = c.ckpt ∧ t.now = max s.now (c.cutAt + 1000000 * c.limitMs)) ∧
  (∀ (s : State) (k a : Nat) (x : Session) (c : Ckpt) (l : List Ckpt) (kp : KeptPage),
    s.session k = some x →
    x.ckpts = c :: l →
    x.nextObj c = .page kp →
    x.place (ceilDiv kp.data.length 4096) = some a →
    c.maps.length < x.shards.length →
    ∃ t y, exec (.drainExtentWritten k .success) s = .next t ∧ t.session k = some y ∧ (∃ d ∈ y.ckpts, d.ckpt = c.ckpt ∧ d.pos = a + ceilDiv kp.data.length 4096 ∧
      { kp with extent := some a, hash := padTo 48 (Config.sha384 kp.data) } ∈ d.kept) ∧
      Emit.storeWrite x.nsid (x.start + 1024 + a) (padTo (4096 * ceilDiv kp.data.length 4096) kp.data) ∈ t.out ∧
      t.rget (aCkpCnt 4) = min (s.rget (aCkpCnt 4) + 4096 * ceilDiv kp.data.length 4096) (2 ^ 64 - 1)) ∧
  (∀ (s : State) (k o : Nat) (x : Session) (c : Ckpt) (l : List Ckpt) (m : Bytes) (z : Op),
    s.session k = some x →
    x.ckpts = c :: l →
    c.manifest = some m →
    c.op = some o →
    s.op o = some z →
    z.phase ≠ .done →
    ∃ t y w, exec (.manifestWriteComplete k .success) s = .next t ∧ t.session k = some y ∧ y.ckpts = l ∧ y.committed = c.ckpt ∧ y.chain = some (manOf m) ∧
      t.op o = some w ∧ w.phase = .done ∧ w.status = .success ∧ w.detail = c.ckpt ∧ w.flags = b2n c.full ∧
      t.rget (aCkpCnt 5) = min (s.rget (aCkpCnt 5) + 1) (2 ^ 64 - 1)) ∧
  (∀ (s : State) (o : Nat) (op : Op) (q : Queue) (x : Session) (slots : List HostAns) (maps : List (Nat × HostAns)),
    s.running o .checkpoint = some (op, q) →
    dOpcode op.desc = 2 →
    op.posted = false →
    s.heldNew 5 = false →
    s.session (bits (u8 op.desc 16) 5 0) = some x →
    x.spoke = q.spoke →
    x.ckpts = [] →
    x.restore = none →
    bit (u8 op.desc 17) 0 = false →
    ∃ t, exec (.restore o slots maps) s = .next t ∧
      (∀ l, x.chainCheck ((s.keyBytes x.signKey).getD []) { Restore.read o false (u64 op.desc 24) slots maps with cands := [u64 op.desc 24] } 34 (u64 op.desc 24) = .ok l →
      (∀ b ∈ l, (Restore.read o false (u64 op.desc 24) slots maps).mapsOk x.shards.length b = .success) →
      t.session (bits (u8 op.desc 16) 5 0) = some { x with restore := some { Restore.read o false (u64 op.desc 24) slots maps with cands := [], cur := u64 op.desc 24, plan := x.plan { Restore.read o false (u64 op.desc 24) slots maps with cands := [] } l, done := [] } } ∧
      (t.op o).map Op.posted = some true ∧ (t.op o).map Op.phase = some op.phase) ∧
      (∀ st, x.chainCheck ((s.keyBytes x.signKey).getD []) { Restore.read o false (u64 op.desc 24) slots maps with cands := [u64 op.desc 24] } 34 (u64 op.desc 24) = .error st → st ≠ .success →
      ∃ w, t.op o = some w ∧ w.phase = .done ∧ w.status = st ∧ w.detail = u64 op.desc 24 ∧ (t.session (bits (u8 op.desc 16) 5 0)).map Session.restore = some none)) ∧
  (∀ (s : State) (k pg a n i : Nat) (hash d : Bytes) (x : Session) (r : Restore) (z : Op) (l : List (Nat × Nat × Nat × Bytes)) (h : Shard) (wr : HostAns),
    s.session k = some x →
    x.restore = some r →
    s.op r.op = some z →
    z.phase ≠ .parked →
    r.plan = (pg, a, n, hash) :: l →
    shardOf x.shards pg = some (h, i) →
    (padTo 48 (Config.sha384 (padTo n d)) ≠ hash → exec (.restorePageRead k (.ok d false) wr) s = .next (s.candidateFails k x r .integrity)) ∧
      (padTo 48 (Config.sha384 (padTo n d)) = hash → (s.shardWrite x.spoke h (65536 * i) (widen h (padTo n d)) wr).2.status = .success → (s.shardWrite x.spoke h (65536 * i) (widen h (padTo n d)) wr).2.noAccess = false → l ≠ [] →
      exec (.restorePageRead k (.ok d false) wr) s = .next ((s.shardWrite x.spoke h (65536 * i) (widen h (padTo n d)) wr).1.setSession k { x with restore := some { r with plan := l, done := Map.put r.done pg (Config.ghash x.hashKey (widen h (padTo n d)), hash) } })))

/-- For a request that is served now and passes its checks: a key that is not persistent is generated under the lowest free index with the index's generation, an imported one holds the unwrapped bytes or the answer is INTEGRITY, a destroyed one frees its index and moves its generation on, a query and a wrap answer and change nothing. An enrolment is noted, measured and recorded; SVN_COMMIT raises one floor to what runs; FUSE_PROGRAM blows the fuses that it names. CIPHER_INIT makes a context with the payload's IV, or with the key's salt and next counter when the H9 encrypts; UPDATE runs bytes through it; FINAL ends it; an exported context leaves, and an imported one is checked. A fault or an uncorrectable word quarantines the key's slot, and the key is busy until it has been put back. -/
def Obligations.KeysFusesAndContextsFollowTheirCommands : Prop :=
  (∀ (s : State) (f i : Nat) (p : Bytes),
    s.performable f 0x0801 = true →
    (s.fn f).mb.payload = p →
    s.keyFields f p = .success →
    u8 p 0 ≠ 6 →
    u8 p 0 ≠ 2 →
    bit (u8 p 2) 0 = false →
    s.freeKey (u8 p 0) = some i →
    ∃ t k, exec (.keyGenerate f) s = .next t ∧ Map.get t.sec.keys i = some k ∧ k.cls = u8 p 0 ∧ k.alg = u8 p 1 ∧ k.owner = u16 p 4 ∧
      k.value.length = algBytes (u8 p 1) ∧ k.failed = false ∧ k.persist = false ∧ k.gen = (Map.get s.sec.gens i).getD 1 ∧ k.counter = 1 ∧
      t.responded f .success (toLe 4 (k.handle i)) false ∧ (∀ j, j ≠ i → Map.get t.sec.keys j = Map.get s.sec.keys j)) ∧
  (∀ (s : State) (f i : Nat) (p : Bytes),
    s.performable f 0x0801 = true →
    (s.fn f).mb.payload = p →
    s.keyFields f p = .success →
    u8 p 0 ≠ 6 →
    bit (u8 p 2) 0 = true →
    s.freeKey (u8 p 0) = some i →
    ∃ t k, exec (.keyGenerate f) s = .next t ∧ Map.get t.sec.keys i = some k ∧ k.persist = true ∧ (t.fn f).mb = (s.fn f).mb ∧
      (t.fwm.jpend.drop s.fwm.jpend.length).map (fun w => (w.type, w.key, w.delete)) = [(0x0802, i, false), (0x0801, i, false)] ∧
      (t.fwm.jpend.drop s.fwm.jpend.length).map (fun w => w.wait) = [none, some ⟨f, .success, toLe 4 (k.handle i), none, none⟩]) ∧
  (∀ (s : State) (f i : Nat) (p kek : Bytes),
    s.performable f 0x0802 = true →
    (s.fn f).mb.payload = p →
    s.keyFields f p = .success →
    u8 p 0 ≠ 6 →
    u8 p 0 ≠ 5 →
    u8 p 0 ≠ 2 →
    bit (u8 p 2) 0 = false →
    s.keyCheck (u32 p 8) [5] ((s.pf0Base (f / 4)).getD 4096) = .success →
    s.keyBytes (u32 p 8) = some kek →
    (p.drop (16 + (algBytes (u8 p 1) + 8))).all (· == 0) = true →
    s.freeKey (u8 p 0) = some i →
    (∀ v, Config.aesKwUnwrap kek (slice p 16 (algBytes (u8 p 1) + 8)) = some v → ∃ t k, exec (.keyImport f) s = .next t ∧
      Map.get t.sec.keys i = some k ∧ k.cls = u8 p 0 ∧ k.value = padTo (algBytes (u8 p 1)) v ∧ t.responded f .success (toLe 4 (k.handle i)) false) ∧
      (Config.aesKwUnwrap kek (slice p 16 (algBytes (u8 p 1) + 8)) = none → ∃ t, exec (.keyImport f) s = .next t ∧ s.answered t f .integrity [])) ∧
  (∀ (s : State) (f : Nat) (p : Bytes) (k : KeySlot),
    s.performable f 0x0803 = true →
    (s.fn f).mb.payload = p →
    s.keyAny f (u32 p 0) [1, 2, 3, 4, 5, 6] = .success →
    s.keyUsed (u32 p 0) = false →
    s.keyOf (u32 p 0) = some k →
    k.persist = false →
    ∃ t, exec (.keyDestroy f) s = .next t ∧
      State.answered { s with sec.keys := Map.erase s.sec.keys (keyPlace (u32 p 0)), sec.gens := Map.put s.sec.gens (keyPlace (u32 p 0)) (if bits (u32 p 0) 31 20 = 4095 then 1 else bits (u32 p 0) 31 20 + 1) } t f .success []) ∧
  (∀ (s : State) (f : Nat) (p : Bytes) (k : KeySlot),
    s.performable f 0x0804 = true →
    (s.fn f).mb.payload = p →
    s.keyOf (u32 p 0) = some k →
    (s.keyAny f (u32 p 0) [1, 2, 3, 4, 5, 6] = .success ∨ s.keyAny f (u32 p 0) [1, 2, 3, 4, 5, 6] = .keyFailed) →
    ∃ t, exec (.keyQuery f) s = .next t ∧ s.answered t f .success (toLe 1 k.cls ++ toLe 1 k.alg ++ toLe 1 (b2n k.persist + 2 * b2n k.failed) ++ zeros 1 ++ toLe 2 k.owner ++ zeros 2)) ∧
  (∀ (s : State) (f : Nat) (p k kek : Bytes),
    s.performable f 0x0805 = true →
    (s.fn f).mb.payload = p →
    s.keyAny f (u32 p 0) [1, 2, 3, 4, 5] = .success →
    s.keyCheck (u32 p 4) [5] ((s.pf0Base (f / 4)).getD 4096) = .success →
    s.keyBytes (u32 p 0) = some k →
    s.keyBytes (u32 p 4) = some kek →
    ∃ t, exec (.keyWrap f) s = .next t ∧ s.answered t f .success (padTo 40 (Config.aesKwWrap kek k))) ∧
  (∀ (s : State) (f g : Nat) (p : Bytes),
    s.performable f 0x0810 = true →
    (s.fn f).mb.payload = p →
    g = f / 4 * 4 + u8 p 0 →
    u8 p 0 ≤ 3 →
    f % 4 = 0 →
    bit (u8 p 1) 0 = false →
    slice p 4 48 ∉ s.enrolled g →
    (s.enrolled g).length < 16 →
    ∃ t, exec (.mcodeKeyEnroll f) s = .next t ∧ t.enrolled g = s.enrolled g ++ [slice p 4 48] ∧ (∀ h, h ≠ g → t.enrolled h = s.enrolled h) ∧
      t.sec.regs = (s.measure 7 4 0 0 (Config.sha384 p)).sec.regs ∧ t.sec.log = (s.measure 7 4 0 0 (Config.sha384 p)).sec.log ∧
      (t.fwm.jpend.drop s.fwm.jpend.length).map (fun w => (w.type, w.key, w.delete)) = [(0x0810, g, false)]) ∧
  (∀ (s : State) (f v : Nat) (p : Bytes),
    s.performable f 0x0850 = true →
    (s.fn f).mb.payload = p →
    1 ≤ u8 p 0 →
    u8 p 0 ≤ 3 →
    f % 4 = 0 →
    s.svnFloor (u8 p 0) < 64 →
    s.runningSvn (u8 p 0) = some v →
    ∃ t, exec (.svnCommit f) s = .next t ∧ t.svnFloor (u8 p 0) = max (s.svnFloor (u8 p 0)) v ∧ t.responded f .success (toLe 4 (max (s.svnFloor (u8 p 0)) v)) false ∧
      (∀ j, 1 ≤ j → j ≤ 3 → j ≠ u8 p 0 → t.svnFloor j = s.svnFloor j)) ∧
  (∀ (s : State) (f : Nat) (p : Bytes),
    s.performable f 0x0851 = true →
    (s.fn f).mb.payload = p →
    f % 4 = 0 →
    s.debugLevel = 0 →
    (u8 p 0 = 0 → s.sec.fuses.customerLock = false → ((Map.get s.sec.fuses.dbgAnchor 2).getD []).all (· == 0) = true → ∃ t, exec (.fuseProgram f) s = .next t ∧
      State.answered { s with sec.fuses := { s.sec.fuses with dbgAnchor := Map.put s.sec.fuses.dbgAnchor 2 (slice p 4 48) } } t f .success []) ∧
      (u8 p 0 = 4 → s.sec.fuses.customerLock = false → s.sec.fuses.pwdHash.all (· == 0) = true → ∃ t, exec (.fuseProgram f) s = .next t ∧
      State.answered { s with sec.fuses := { s.sec.fuses with pwdHash := slice p 4 48 } } t f .success []) ∧
      (u8 p 0 = 5 → (slice p 4 48).all (· == 0) = true → ∃ t, exec (.fuseProgram f) s = .next t ∧ State.answered { s with sec.fuses := { s.sec.fuses with pwdDisable := true } } t f .success []) ∧
      (u8 p 0 = 6 → (slice p 4 48).all (· == 0) = true → ∃ t, exec (.fuseProgram f) s = .next t ∧ State.answered { s with sec.fuses := { s.sec.fuses with customerLock := true } } t f .success []) ∧
      (u8 p 0 = 0 ∨ u8 p 0 = 1 ∨ u8 p 0 = 4 → s.sec.fuses.customerLock = true → ∃ t, exec (.fuseProgram f) s = .next t ∧ s.answered t f .notPermitted [])) ∧
  (∀ (s : State) (f c : Nat) (p : Bytes) (k : KeySlot),
    s.performable f 0x0820 = true →
    (s.fn f).mb.payload = p →
    s.keyOf (u32 p 0) = some k →
    s.keyCheck (u32 p 0) [1] (s.cipherOwner f) = .success →
    f % 4 = 0 →
    1 ≤ u8 p 4 →
    u8 p 4 ≤ 6 →
    (if u8 p 4 ≤ 4 then decide (k.alg ≤ 1) else k.alg == 2) = true →
    k.busy = false →
    Map.lowestFree s.sec.ctxs 1024 = some c →
    (modeOut (u8 p 4) = false → ∃ t, exec (.cipherInit f) s = .next t ∧
      State.answered { s with sec.ctxs := Map.put s.sec.ctxs c (s.newCtx (u32 p 0) (u8 p 4) (slice p 8 12)) } t f .success (toLe 2 c ++ zeros 2 ++ slice p 8 12)) ∧
      (modeOut (u8 p 4) = true → (slice p 8 12).all (· == 0) = true → k.persist = false → ∃ t, exec (.cipherInit f) s = .next t ∧
      State.answered { s.modKey (keyPlace (u32 p 0)) (fun k => { k with counter := k.counter + 1 }) with sec.ctxs := Map.put s.sec.ctxs c (s.newCtx (u32 p 0) (u8 p 4) (toLe 4 k.salt ++ toLe 8 k.counter)) }
      t f .success (toLe 2 c ++ zeros 2 ++ (toLe 4 k.salt ++ toLe 8 k.counter)))) ∧
  (∀ (s u : State) (f : Nat) (p c key : Bytes) (r : AccRes) (rd wr : HostAns),
    s.performable f 0x0821 = true →
    (s.fn f).mb.payload = p →
    Map.get s.sec.ctxs (u16 p 0) = some c →
    bit (u8 p 2) 0 = false →
    ctxPhase c = 0 →
    u32 p 24 ≠ 0 →
    u32 p 24 ≤ 2 ^ 24 →
    ctxTooLong c false (u32 p 24) = false →
    f % 4 = 0 →
    s.keyBusy (ctxHandle c) = false →
    s.keyBytes (ctxHandle c) = some key →
    s.busRead f (u64 p 8) (u32 p 24) rd = (u, r) →
    r.status = .success →
    r.poisoned = false →
    r.medium = false →
    ∃ t, exec (.cipherUpdate f rd wr) s = .next t ∧ State.answered { u with sec.ctxs := Map.put u.sec.ctxs (u16 p 0) (ctxRun key c false r.data).1 } t f .success []) ∧
  (∀ (s u : State) (f : Nat) (p c key : Bytes) (r : AccRes) (rd wr : HostAns),
    s.performable f 0x0821 = true →
    (s.fn f).mb.payload = p →
    Map.get s.sec.ctxs (u16 p 0) = some c →
    bit (u8 p 2) 0 = true →
    ctxMode c ≠ 3 →
    ctxMode c ≠ 4 →
    u32 p 24 ≠ 0 →
    u32 p 24 ≤ 2 ^ 24 →
    ctxTooLong c true (u32 p 24) = false →
    f % 4 = 0 →
    s.keyBusy (ctxHandle c) = false →
    s.keyBytes (ctxHandle c) = some key →
    s.busRead f (u64 p 8) (u32 p 24) rd = (u, r) →
    r.status = .success →
    r.poisoned = false →
    r.medium = false →
    (u.busWrite f (u64 p 16) (ctxRun key c true r.data).2 wr).2.status = .success →
    ∃ t, exec (.cipherUpdate f rd wr) s = .next t ∧
      (let v := (u.busWrite f (u64 p 16) (ctxRun key c true r.data).2 wr).1
      State.answered { v with sec.ctxs := Map.put v.sec.ctxs (u16 p 0) (ctxRun key c true r.data).1 } t f .success [])) ∧
  (∀ (s : State) (f : Nat) (p c key : Bytes),
    s.performable f 0x0822 = true →
    (s.fn f).mb.payload = p →
    Map.get s.sec.ctxs (u16 p 0) = some c →
    f % 4 = 0 →
    s.keyBusy (ctxHandle c) = false →
    s.keyBytes (ctxHandle c) = some key →
    (modeOut (ctxMode c) = true → (slice p 4 16).all (· == 0) = true → ∃ t, exec (.cipherFinal f) s = .next t ∧
      State.answered { s with sec.ctxs := Map.erase s.sec.ctxs (u16 p 0) } t f .success (padTo 16 (Config.aeadTag (ctxMode c) key c))) ∧
      (modeOut (ctxMode c) = false → padTo 16 (Config.aeadTag (ctxMode c) key c) = slice p 4 16 → ∃ t, exec (.cipherFinal f) s = .next t ∧
      State.answered { s with sec.ctxs := Map.erase s.sec.ctxs (u16 p 0) } t f .success (zeros 16)) ∧
      (modeOut (ctxMode c) = false → padTo 16 (Config.aeadTag (ctxMode c) key c) ≠ slice p 4 16 → ∃ t, exec (.cipherFinal f) s = .next t ∧
      State.answered { s with sec.ctxs := Map.erase s.sec.ctxs (u16 p 0) } t f .integrity [])) ∧
  (∀ (s : State) (f : Nat) (p c : Bytes) (wr : HostAns),
    s.performable f 0x0823 = true →
    (s.fn f).mb.payload = p →
    Map.get s.sec.ctxs (u16 p 0) = some c →
    u32 p 4 = 0 →
    f % 4 = 0 →
    (modeOut (ctxMode c) = false ∨ s.sec.serials.length < 4096) →
    (s.busWrite f (u64 p 8) (toLe 4 0x58544344 ++ toLe 4 s.ctxEpoch ++ toLe 8 s.sec.serial ++ padTo 104 (Config.aesKwWrap s.ctxKek (c.take 80 ++ toLe 8 s.sec.serial ++ toLe 4 s.ctxEpoch ++ zeros 4))) wr).2.status = .success →
    ∃ t, exec (.ctxExport f wr) s = .next t ∧ Map.get t.sec.ctxs (u16 p 0) = Map.get (Map.erase s.sec.ctxs (u16 p 0)) (u16 p 0) ∧ t.sec.serial = (s.sec.serial + 1) % 2 ^ 64 ∧
      t.sec.serials = (if modeOut (ctxMode c) then s.sec.serials ++ [s.sec.serial] else s.sec.serials) ∧ t.responded f .success [] false) ∧
  (∀ (s u : State) (f i : Nat) (p : Bytes) (r : AccRes) (rd : HostAns),
    s.performable f 0x0824 = true →
    (s.fn f).mb.payload = p →
    u32 p 0 = 0 →
    f % 4 = 0 →
    s.busRead f (u64 p 8) 120 rd = (u, r) →
    r.status = .success →
    r.poisoned = false →
    r.medium = false →
    Map.lowestFree u.sec.ctxs 1024 = some i →
    (Config.aesKwUnwrap s.ctxKek (r.data.drop 16) = none → ∃ t, exec (.ctxImport f rd) s = .next t ∧ u.answered t f .integrity []) ∧
      (∀ c, Config.aesKwUnwrap s.ctxKek (r.data.drop 16) = some c → c.length = 96 → u32 r.data 0 = 0x58544344 → u64 c 80 = u64 r.data 8 → u32 c 88 = u32 r.data 4 →
      modeOut (ctxMode c) = false → u.keyCheck (ctxHandle c) [1] (u.cipherOwner f) = .success → ∃ t, exec (.ctxImport f rd) s = .next t ∧
      State.answered { u with sec.ctxs := Map.put u.sec.ctxs i (c.take 80 ++ zeros 8 ++ c.drop 88) } t f .success (toLe 2 i ++ zeros 2))) ∧
  (∀ (s : State) (engine h user arg : Nat) (k : KeySlot),
    s.keyOf h = some k →
    engine ≤ 31 →
    s.sec.faults = [] →
    s.sec.quarantined.length < 256 →
    k.failed = false →
    ∃ t k', exec (.cipherCheckFault engine h user arg) s = .next t ∧ t.sec.faults = [{ engine := engine, handle := h, user := user, arg := arg, retried := false }] ∧
      t.keyOf h = some k' ∧ k'.busy = true ∧ k'.value = k.value ∧ k'.physical = s.sec.nextPhysical ∧ k.physical ∈ t.sec.quarantined ∧
      t.rfield 0x900008 63 32 = min (s.rfield 0x900008 63 32 + 1) (2 ^ 32 - 1)) ∧
  (∀ (s : State) (h : Nat) (k : KeySlot),
    s.keyOf h = some k →
    s.sec.quarantined.length < 256 →
    (k.busy = false → ∃ t k', exec (.keyRamUncorrectable h) s = .next t ∧ t.keyOf h = some k' ∧ k'.busy = true ∧ k'.value = k.value ∧ k.physical ∈ t.sec.quarantined ∧ t.sec.faults = s.sec.faults) ∧
      (k.busy = true → exec (.keyReinstallComplete h true true) s = .next { s.modKey (keyPlace h) (fun k => { k with busy := false }) with
      sec.faults := s.sec.faults.map fun e => if e.handle = h then { e with retried := true } else e }))

/-- A challenge answers 32 fresh bytes and keeps them as the nonce. An unlock that verifies sets its level, and one that does not is counted; locking sets a lower level. An SPDM request that the connection state allows is answered with its code, and both messages enter the transcript: GET_VERSION starts over, capabilities and algorithms move the connection on, digests, certificates, CHALLENGE and measurements are answered, KEY_EXCHANGE opens a session under the lowest free number, FINISH finishes it, and a finished session may be kept alive, given new keys, asked to install a WRAP key, and ended. -/
def Obligations.DebugLockAndAttestationAnswer : Prop :=
  (∀ (s : State) (f : Nat) (p : Bytes),
    s.performable f 0x0830 = true →
    (s.fn f).mb.payload = p →
    f % 4 = 0 →
    ∃ t n, exec (.debugChallenge f) s = .next t ∧ t.sec.nonce = some (n, s.now) ∧ n.length = 32 ∧ t.responded f .success n false) ∧
  (∀ (s : State),
    s.scRuns = true →
    ∃ t n, exec .dbgAuthRead s = .next t ∧ t.sec.nonce = some (n, s.now) ∧ n.length = 32 ∧ t.out = s.out ++ [.jtag n] ∧ t.sec.fuses = s.sec.fuses) ∧
  (∀ (s : State) (f : Nat) (p : Bytes) (ans : HostAns) (clean : Bool),
    s.performable f 0x0831 = true →
    (s.fn f).mb.payload = p →
    f % 4 = 0 →
    p.length = 36 →
    (slice p 1 3).all (· == 0) = true →
    s.lockedOut = false →
    (s.passwordOk p = true → ∃ t, exec (.debugUnlock f ans clean) s = .next t ∧ t.debugLevel = u8 p 0 ∧ t.responded f .success [] false ∧ t.now = max s.now s.sec.unlockDelay) ∧
      (s.passwordOk p = false → ∃ t, exec (.debugUnlock f ans clean) s = .next t ∧ t.debugLevel = s.debugLevel ∧ t.responded f .notPermitted [] false ∧
      t.rfield 0x900000 9 8 = min 3 (s.rfield 0x900000 9 8 + 1))) ∧
  (∀ (s : State) (f : Nat) (p b : Bytes) (clean : Bool),
    s.performable f 0x0831 = true →
    (s.fn f).mb.payload = p →
    f % 4 = 0 →
    p.length = 16 →
    (slice p 1 7).all (· == 0) = true →
    s.lockedOut = false →
    s.canMaster f = true →
    s.rimDown = false →
    u8 (padTo 5364 b) 0 = u8 p 0 →
    u8 p 0 < 3 →
    (State.signedOk { s with now := max s.now s.sec.unlockDelay } (State.nonceNow { s with now := max s.now s.sec.unlockDelay }) (padTo 5364 b) = true →
      ∃ t, exec (.debugUnlock f (.ok b false) clean) s = .next t ∧ t.debugLevel = u8 p 0 ∧ t.sec.nonce = none ∧ t.responded f .success [] false) ∧
      (State.signedOk { s with now := max s.now s.sec.unlockDelay } (State.nonceNow { s with now := max s.now s.sec.unlockDelay }) (padTo 5364 b) = false →
      ∃ t, exec (.debugUnlock f (.ok b false) clean) s = .next t ∧ t.debugLevel = s.debugLevel ∧ t.sec.nonce = none ∧ t.responded f .notPermitted [] false)) ∧
  (∀ (s : State) (f : Nat) (p : Bytes),
    s.performable f 0x0832 = true →
    (s.fn f).mb.payload = p →
    f % 4 = 0 →
    u8 p 0 ≤ s.debugLevel →
    ∃ t, exec (.debugLock f) s = .next t ∧ State.answered (s.setLevel (u8 p 0) 2 []) t f .success [] ∧ (s.setLevel (u8 p 0) 2 []).debugLevel = u8 p 0) ∧
  (∀ (s : State) (b : Bytes) (clean : Bool),
    s.scRuns = true →
    b.length = 36 →
    s.lockedOut = false →
    (s.passwordOk b = true → ∃ t, exec (.dbgAuthWrite b clean) s = .next t ∧ t.debugLevel = u8 b 0 ∧ t.out = s.out ++ [.jtag [0]]) ∧
      (s.passwordOk b = false → ∃ t, exec (.dbgAuthWrite b clean) s = .next t ∧ t.debugLevel = s.debugLevel ∧ t.out = s.out ++ [.jtag (toLe 1 Status.notPermitted.code)] ∧
      t.rfield 0x900000 9 8 = min 3 (s.rfield 0x900000 9 8 + 1))) ∧
  (∀ (s : State) (tr : Nat) (req : Bytes),
    s.spdmUp tr = true →
    2 ≤ s.boot →
    (∃ t b, exec (.getVersion tr req) s = .next t ∧ t.out = s.out ++ [.spdm tr 0x04 b] ∧ t.sec.transcript = req ++ b ∧ t.sec.spdmState = 1 ∧ t.sec.sessions = []) ∧
      (1 ≤ s.sec.spdmState → ∃ t b, exec (.getCapabilities tr req) s = .next t ∧ t.out = s.out ++ [.spdm tr 0x61 b] ∧ t.sec.transcript = s.sec.transcript ++ req ++ b ∧ t.sec.spdmState = 2) ∧
      (2 ≤ s.sec.spdmState → ∃ t b, exec (.negotiateAlgorithms tr req) s = .next t ∧ t.out = s.out ++ [.spdm tr 0x63 b] ∧ t.sec.transcript = s.sec.transcript ++ req ++ b ∧ t.sec.spdmState = 3) ∧
      (s.sec.spdmState = 0 → exec (.getCapabilities tr req) s = .next (s.emit (.spdm tr 0x7F [4])))) ∧
  (∀ (s : State) (tr slot off n opn : Nat) (req : Bytes) (sign : Bool),
    s.spdmUp tr = true →
    2 ≤ s.boot →
    3 ≤ s.sec.spdmState →
    slot ≤ 1 →
    (∃ t b, exec (.getDigests tr req) s = .next t ∧ b = toLe 1 3 ++ padTo 48 (Config.sha384 (s.chain 0)) ++ padTo 48 (Config.sha384 (s.chain 1)) ∧ t.out = s.out ++ [.spdm tr 0x01 b] ∧ t.sec.transcript = s.sec.transcript ++ req ++ b) ∧
      (off < (s.chain slot).length → ∃ t b, exec (.getCertificate tr req slot off n) s = .next t ∧ b = toLe 1 slot ++ toLe 2 (slice (s.chain slot) off n).length ++ toLe 2 ((s.chain slot).length - off - (slice (s.chain slot) off n).length) ++ slice (s.chain slot) off n ∧
      t.out = s.out ++ [.spdm tr 0x02 b] ∧ t.sec.transcript = s.sec.transcript ++ req ++ b) ∧
      (∃ t b, exec (.challenge tr req slot) s = .next t ∧ t.out = s.out ++ [.spdm tr 0x03 b] ∧ t.sec.transcript = s.sec.transcript ++ req ++ b ∧ t.sec.keys = s.sec.keys) ∧
      (opn = 0 ∨ opn = 0xFF ∨ (s.measBlocks.any fun x => x.1 == opn) = true → ∃ t b, exec (.getMeasurements tr req opn sign) s = .next t ∧ t.out = s.out ++ [.spdm tr 0x60 b] ∧ t.sec.transcript = s.sec.transcript ++ req ++ b ∧ t.sec.regs = s.sec.regs)) ∧
  (∀ (s : State) (tr i : Nat) (req : Bytes),
    s.spdmUp tr = true →
    2 ≤ s.boot →
    3 ≤ s.sec.spdmState →
    ((List.range 4).find? (fun i => !s.sec.sessions.any fun x => x.id == i) = some i → ∃ t b, exec (.keyExchange tr req) s = .next t ∧ t.sec.sessions = s.sec.sessions ++ [{ id := i }] ∧ t.out = s.out ++ [.spdm tr 0x64 b]) ∧
      ((List.range 4).find? (fun i => !s.sec.sessions.any fun x => x.id == i) = none → exec (.keyExchange tr req) s = .next (s.emit (.spdm tr 0x7F [0x0E])))) ∧
  (∀ (s : State) (tr sid : Nat) (req : Bytes) (x : SpdmSession),
    s.spdmUp tr = true →
    2 ≤ s.boot →
    3 ≤ s.sec.spdmState →
    (s.sec.sessions.find? fun x => x.id == sid) = some x →
    (x.finished = false → ∃ t b, exec (.finish tr sid req true) s = .next t ∧ t.sec.sessions = s.sec.sessions.map (fun x => if x.id = sid then { x with finished := true } else x) ∧ t.out = s.out ++ [.spdm tr 0x65 b]) ∧
      (x.finished = false → ∃ t, exec (.finish tr sid req false) s = .next t ∧ t.sec.sessions = s.sec.sessions.filter (fun x => x.id != sid) ∧ t.out = s.out ++ [.spdm tr 0x7F [1]]) ∧
      (x.finished = true → exec (.heartbeat tr sid) s = .next (s.emit (.spdm tr 0x68 []))) ∧
      (x.finished = true → exec (.keyUpdate tr sid) s = .next (State.emit { s with sec.sessions := s.sec.sessions.map fun x => if x.id = sid then { x with updates := x.updates + 1 } else x } (.spdm tr 0x69 []))) ∧
      (x.finished = true → exec (.endSession tr sid) s = .next (State.emit { s with sec.sessions := s.sec.sessions.filter fun x => x.id != sid } (.spdm tr 0x6C [])))) ∧
  (∀ (s : State) (tr sid i k : Nat) (key : Bytes) (x : SpdmSession),
    s.spdmUp tr = true →
    2 ≤ s.boot →
    3 ≤ s.sec.spdmState →
    (s.sec.sessions.find? fun x => x.id == sid) = some x →
    x.finished = true →
    s.pf0Base (if tr = 1 then 1 else 0) = some k →
    k < 65536 →
    key.length = 32 →
    s.freeKey 5 = some i →
    ∃ t y, exec (.keyInstallWrap tr sid 5 false key) s = .next t ∧ Map.get t.sec.keys i = some y ∧ y.cls = 5 ∧ y.owner = k ∧ y.value = key ∧ y.persist = false ∧
      t.out = s.out ++ [.spdm tr 0x7E (toLe 4 (y.handle i))])

/-- A bundle whose first image verifies starts root firmware and answers; one that does not is answered with the status of the check. FW_STATUS reports every service. An update stages its image, or the previous one, and goes on; a cancel or the end of the wait discards what is staged; when no job uses the service the image becomes the one that runs and the one before it the previous. A watchdog, a fault or FW_SERVICE_RESTART puts the group of a running service in restart with its cause; a restart with a good image brings the service back, and one with a bad image fails it, unless it is the firmware core. -/
def Obligations.ServicesStartUpdateAndRestart : Prop :=
  (∀ (s : State) (f : Nat) (p h b : Bytes) (heads : List Bytes) (e0 : Nat × Nat) (rest : List (Nat × Nat)) (hdr a0 : HostAns) (fields more : List HostAns),
    s.performable f 0x0901 = true →
    (s.fn f).mb.payload = p →
    s.fwm.bundleTaken = false →
    s.fnRead f (min (u32 p 8) 208) hdr = .ok h →
    bundleEntries h = e0 :: rest →
    s.fnReads f ((((bundleEntries h).zip fields).filter fun e => decide (16 ≤ e.1.2)).map fun e => (16, e.2)) = .ok heads →
    heads.length = (bundleEntries h).length →
    more.length = rest.length →
    bundleBad (u32 p 8) h heads = false →
    s.fnRead f e0.2 a0 = .ok b →
    (s.imageCheck 2 s.anchorOk b = .success → ∃ t q, exec (.fwBundleLoad f hdr fields (a0 :: more)) s = .next t ∧ t.fwm.bundleTaken = true ∧ t.fwm.root = some (imageOf b) ∧
      (t.boot = 2 ∨ t.boot = 3) ∧ t.responded f .success q false) ∧
      (∀ st, s.imageCheck 2 s.anchorOk b = st → st ≠ .success → ∃ t, exec (.fwBundleLoad f hdr fields (a0 :: more)) s = .next t ∧ s.answered t f st [])) ∧
  (∀ (s : State) (f : Nat) (p : Bytes),
    s.performable f 0x0902 = true →
    (s.fn f).mb.payload = p →
    ∃ t, exec (.fwStatus f) s = .next t ∧ s.answered t f .success (toLe 1 s.boot ++ zeros 7 ++ (List.range 9).flatMap s.svcStatus)) ∧
  (∀ (s : State) (f : Nat) (p : Bytes) (i : Image),
    s.performable f 0x0903 = true →
    (s.fn f).mb.payload = p →
    u32 p 0 ∈ coreServices →
    1 ≤ u32 p 20 →
    u32 p 20 ≤ 600000 →
    bit (u8 p 4) 1 = true →
    u64 p 8 = 0 →
    u32 p 16 = 0 →
    (s.service (u32 p 0)).staged = none →
    (s.service (u32 p 0)).prev = some i →
    s.svnFloor 3 ≤ i.svn →
    ∃ t, exec (.fwServiceUpdate f (.ok [] false)) s = .next t ∧ t.responded f .success [] true ∧
      (t.service (u32 p 0)).staged = some { image := i, fn := f, seq := (s.fn f).mb.seq, hold := bit (u8 p 4) 0, deadline := s.now + 1000000 * u32 p 20, rollback := true } ∧
      (t.service (u32 p 0)).image = (s.service (u32 p 0)).image ∧ (∀ v, v ≠ u32 p 0 → t.service v = s.service v) ∧
      t.host.asyncs = s.host.asyncs ++ [AsyncCmd.mk f 0x0903 (s.fn f).mb.seq (u32 p 0)]) ∧
  (∀ (s : State) (f : Nat) (p b : Bytes) (ans : HostAns),
    s.performable f 0x0903 = true →
    (s.fn f).mb.payload = p →
    u32 p 0 ∈ coreServices →
    1 ≤ u32 p 20 →
    u32 p 20 ≤ 600000 →
    bit (u8 p 4) 1 = false →
    (s.service (u32 p 0)).staged = none →
    s.fnRead f (u32 p 16) ans = .ok b →
    imgService b = u32 p 0 →
    (s.imageCheck 3 s.anchorOk b = .success → ∃ t, exec (.fwServiceUpdate f ans) s = .next t ∧ t.responded f .success [] true ∧
      (t.service (u32 p 0)).staged = some { image := imageOf b, fn := f, seq := (s.fn f).mb.seq, hold := bit (u8 p 4) 0, deadline := s.now + 1000000 * u32 p 20, rollback := false }) ∧
      (∀ st, s.imageCheck 3 s.anchorOk b = st → st ≠ .success → ∃ t, exec (.fwServiceUpdate f ans) s = .next t ∧ s.answered t f st [])) ∧
  (∀ (s : State) (f : Nat) (p : Bytes),
    s.performable f 0x0904 = true →
    (s.fn f).mb.payload = p →
    (s.service (u32 p 0)).staged.isSome = true →
    ∃ t, exec (.fwServiceCancel f) s = .next t ∧ t.responded f .success [] false ∧ (t.service (u32 p 0)).staged = none ∧
      (t.service (u32 p 0)).image = (s.service (u32 p 0)).image ∧ t.host.asyncs = s.host.asyncs.filter (fun a => !(a.opcode == 0x0903 && a.arg == u32 p 0))) ∧
  (∀ (s : State) (v : Nat) (g : Staged),
    (s.service v).staged = some g →
    ∃ t, exec (.updateWaitTimeout v) s = .next t ∧ t.now = max s.now g.deadline ∧ (t.service v).staged = none ∧
      (t.service v).image = (s.service v).image ∧ t.host.asyncs = s.host.asyncs.filter (fun a => !(a.opcode == 0x0903 && a.arg == v))) ∧
  (∀ (s : State) (v : Nat) (g : Staged),
    (s.service v).staged = some g →
    s.brd.scan = false →
    (s.service v).state = .staged →
    (s.svcFree v = true → ∃ t, exec (.serviceActivation v) s = .next t ∧ (t.service v).image = some g.image ∧ (t.service v).prev = (s.service v).image ∧
      (t.service v).staged = none ∧ (t.service v).state = .running ∧ t.host.asyncs = s.host.asyncs.filter (fun a => !(a.opcode == 0x0903 && a.arg == v))) ∧
      (s.svcFree v = false → exec (.serviceActivation v) s = .next s)) ∧
  (∀ (s : State) (core : Nat),
    core < 16 →
    (s.service (svcOfGroup (groupOf core))).state = .running →
    (∃ t, exec (.watchdogExpire core) s = .next t ∧ (t.service (svcOfGroup (groupOf core))).state = .restarting ∧ (t.service (svcOfGroup (groupOf core))).cause = 0 ∧
      (t.service (svcOfGroup (groupOf core))).firstCore = core ∧ Map.get t.fwm.groupState (groupOf core) = some 2) ∧
      (∀ memory, ∃ t, exec (.coreFault core memory) s = .next t ∧ (t.service (svcOfGroup (groupOf core))).state = .restarting ∧
      (t.service (svcOfGroup (groupOf core))).cause = (if memory then 1 else 2) ∧ (t.service (svcOfGroup (groupOf core))).firstCore = core)) ∧
  (∀ (s : State) (f : Nat) (p : Bytes),
    s.performable f 0x0905 = true →
    (s.fn f).mb.payload = p →
    u32 p 0 ∈ coreServices →
    f % 4 = 0 →
    (s.service (u32 p 0)).state = .running →
    ∃ t, exec (.fwServiceRestart f) s = .next t ∧ t.responded f .success [] false ∧ (t.service (u32 p 0)).state = .restarting ∧ (t.service (u32 p 0)).cause = 3) ∧
  (∀ (s : State) (v : Nat),
    v ∈ coreServices →
    (s.service v).state = .restarting →
    (s.service v).cause = 3 →
    (∃ t, exec (.groupRestartComplete v true) s = .next t ∧ (t.service v).state = (if (s.service v).staged.isSome then .staged else .running) ∧
      (t.service v).image = (s.service v).image ∧ Map.get t.fwm.groupState (groupOfSvc v) = some 1 ∧
      (t.service v).recent = ((s.service v).recent.filter fun t => decide (s.now < t.1 + 600000000000)) ++ [(s.now, false)] ∧
      t.fwm.records = s.fwm.records.filter fun r => r.service != v) ∧
      (v ≠ 0 → ∃ t, exec (.groupRestartComplete v false) s = .next t ∧ (t.service v).state = .failed ∧ Map.get t.fwm.groupState (groupOfSvc v) = some 3))

/-- An item in range is recorded, and one is read back with whether it is set; FW_PERSIST and FW_JOURNAL_CLEAR answer and go on until their objects are committed; a log ring is set and ended; trace points are enabled, and one that is passed is counted. A write whose read-back is good takes the next slot; the last part of an object commits it and sends the response that awaits it; a third write that fails ends with MEDIUM_ERROR. A compaction of a full bank moves the objects in effect and a seal to the other bank. -/
def Obligations.ConfigurationLogsAndJournalFollowTheirCommands : Prop :=
  (∀ (s : State) (f : Nat) (p : Bytes),
    s.performable f 0x0910 = true →
    (s.fn f).mb.payload = p →
    itemOk (u16 p 0) (u64 p 8) = some true →
    u16 p 0 ≠ 0x0500 →
    f % 4 = 0 →
    s.jRoom 16 = true →
    ∃ t, exec (.fwConfigSet f) s = .next t ∧ s.journalled t 2 (u16 p 0) (bit (u8 p 2) 0) (if bit (u8 p 2) 0 then [] else p) (some ⟨f, .success, [], none, none⟩)) ∧
  (∀ (s : State) (f : Nat) (p : Bytes),
    s.performable f 0x0911 = true →
    (s.fn f).mb.payload = p →
    (itemOk (u16 p 0) 0).isSome = true →
    f % 4 = 0 →
    ∃ t, exec (.fwConfigGet f) s = .next t ∧ s.answered t f .success (match s.jGet 2 (u16 p 0) with
      | some b => toLe 8 1 ++ toLe 8 (u64 b 8)
      | none => zeros 16)) ∧
  (∀ (s : State) (f : Nat) (p q : Bytes) (l : List (Nat × Nat × Bool × Bytes)),
    s.performable f 0x0920 = true →
    (s.fn f).mb.payload = p →
    s.persist f p = .ok (q, l) →
    l ≠ [] →
    ∃ t, exec (.fwPersist f) s = .next t ∧ t.responded f .success q true ∧
      (t.fwm.jpend.drop s.fwm.jpend.length).map (fun w => (w.type, w.key, w.delete)) = l.map (fun x => (x.1, x.2.1, x.2.2.1)) ∧
      t.host.asyncs = s.host.asyncs ++ [AsyncCmd.mk f 0x0920 (s.fn f).mb.seq 0]) ∧
  (∀ (s : State) (f : Nat) (p : Bytes),
    s.performable f 0x0940 = true →
    (s.fn f).mb.payload = p →
    f % 4 = 0 →
    s.cleared (u32 p 0) ≠ [] →
    s.jRoom (208 * (s.cleared (u32 p 0)).length) = true →
    ∃ t, exec (.fwJournalClear f) s = .next t ∧ t.responded f .success [] true ∧
      (t.fwm.jpend.drop s.fwm.jpend.length).map (fun w => (w.type, w.key, w.delete)) = (s.cleared (u32 p 0)).map (fun x => (x.1, x.2.1, true))) ∧
  (∀ (s : State) (f : Nat) (p : Bytes),
    s.performable f 0x0930 = true →
    (s.fn f).mb.payload = p →
    f % 4 = 0 →
    (u8 p 8 = 0 → ∃ t, exec (.fwLogSet f) s = .next t ∧ State.answered { s with fwm.logs := Map.erase s.fwm.logs (f / 4) } t f .success []) ∧
      (6 ≤ u8 p 8 → u8 p 8 ≤ 20 → u64 p 0 % 64 = 0 → u8 p 9 ≤ 4 → u8 p 10 ≤ 4 ∨ u8 p 10 = 7 → u16 p 12 ≤ 4095 → ∃ t, exec (.fwLogSet f) s = .next t ∧
      State.answered (State.rset { s with fwm.logs := Map.put s.fwm.logs (f / 4) { addr := u64 p 0, log2 := u8 p 8, lowest := u8 p 9, irqLevel := u8 p 10, vector := u16 p 12 } } (0xA02208 + 8 * (f / 4)) 63 32 1) t f .success [])) ∧
  (∀ (s : State) (f : Nat) (p : Bytes),
    s.performable f 0x0931 = true →
    (s.fn f).mb.payload = p →
    0 < u16 p 2 →
    u16 p 0 + u16 p 2 ≤ 4096 →
    f % 4 = 0 →
    ∃ t, exec (.fwTraceSet f) s = .next t ∧ t.responded f .success [] false ∧ (∀ i, i < u16 p 2 → t.rfield (aTrace (u16 p 0 + i)) 32 32 = u8 p 4 % 2)) ∧
  (∀ (s : State) (p core : Nat) (args : List Nat),
    p < 4096 →
    core < 16 →
    groupOf core = p / 512 →
    (s.rfield (aTrace p) 32 32 ≠ 0 → exec (.tracePointPass p core args) s = .next ((s.rsat (aTrace p) 31 0 1).log core 0 1 p (args.take 5))) ∧
      (s.rfield (aTrace p) 32 32 = 0 → exec (.tracePointPass p core args) s = .next s)) ∧
  (∀ (s : State) (w : JWrite) (l : List JWrite),
    s.fwm.jpend = w :: l →
    s.brd.aon = true →
    s.brd.resetN = true →
    s.jUsed < jBankSlots →
    (w.next + 1 < w.parts.length → exec (.journalWrite true) s = .next { s with
      fwm.slots := s.fwm.slots ++ [.record w.type w.key (jMaxSeq s.fwm.slots + 1) (if w.next = 0 then jMaxSeq s.fwm.slots + 1 else w.objSeq) w.next w.parts.length w.delete (w.parts.getD w.next [])],
      fwm.jpend := { w with next := w.next + 1, objSeq := if w.next = 0 then jMaxSeq s.fwm.slots + 1 else w.objSeq, attempts := 0 } :: l }) ∧
      (w.parts.length ≤ w.next + 1 → w.wait = none → exec (.journalWrite true) s = .next { s with
      fwm.slots := s.fwm.slots ++ [.record w.type w.key (jMaxSeq s.fwm.slots + 1) (if w.next = 0 then jMaxSeq s.fwm.slots + 1 else w.objSeq) w.next w.parts.length w.delete (w.parts.getD w.next [])],
      fwm.jpend := l }) ∧
      (w.attempts < 2 → exec (.journalWrite false) s = .next { s with fwm.slots := s.fwm.slots ++ [.torn], fwm.jpend := { w with attempts := w.attempts + 1 } :: l })) ∧
  (∀ (s : State) (w : JWrite) (l : List JWrite) (f : Nat) (st : Status) (q : Bytes),
    s.fwm.jpend = w :: l →
    s.brd.aon = true →
    s.brd.resetN = true →
    s.jUsed < jBankSlots →
    w.wait = some ⟨f, st, q, none, none⟩ →
    f < 8 →
    (s.fn f).mb.outstanding = true →
    (w.parts.length ≤ w.next + 1 → ∃ t, exec (.journalWrite true) s = .next t ∧ t.fwm.jpend = l ∧ t.fwm.slots.length = s.fwm.slots.length + 1 ∧ t.responded f st q false) ∧
      (w.attempts = 2 → ∃ t, exec (.journalWrite false) s = .next t ∧ t.fwm.jpend = l ∧ t.fwm.slots = s.fwm.slots ++ [.torn] ∧ t.rfield 0xA02200 2 2 = 1 ∧ t.responded f .mediumError [] false)) ∧
  (∀ (s : State),
    196608 < s.jUsed →
    exec .compaction s = .next { s with
      fwm.slots := ((fun c => c ++ [JSlot.record 1 0 (jMaxSeq c + 1) (jMaxSeq c + 1) 0 1 false (toLe 2 ((s.jGen + 1) % 65536))])
      (jCopies (jMaxSeq s.fwm.slots + 1) (((jEffective s.fwm.slots).filter fun o => o.type != 1).foldl (fun l o => jInsert o l) []))),
      fwm.bank := 1 - s.fwm.bank }) ∧
  (∀ (s : State),
    s.jUsed ≤ 196608 →
    exec .compaction s = .next s)

/-- An effective skip count above its requests falls by at most 4 and never below them. Above 98 % of the cap the limiter takes the least skip count that the prediction allows, or 56 with the other domains 4 higher; below 95 % the others fall first. The offset is the difference of the means. The eighth window in a row above 15 % enters conservative mode with its FAULT, the hundredth at or below 10 % leaves it. A host limit takes effect, or is kept in the journal. A droop trip requests DROOP_K of all four wheels until its hold has passed. At 104 °C every thermal request is 56, from 100 °C TILE's rises by 4, below 98 °C it falls by 1. -/
def Obligations.WheelsFollowTheirRequestsLimiterDroopAndHeat : Prop :=
  (∀ (s : State) (d : Nat),
    d < 4 →
    ∃ t, exec .kRampDown s = .next t ∧ t.kTarget d = s.kTarget d ∧
      t.kEff d = (if s.kTarget d < s.kEff d then max (s.kTarget d) (s.kEff d - 4) else s.kEff d)) ∧
  (∀ (s : State) (raw tile stor k : Nat),
    980 * (s.capW : Int) < s.predicted raw stor →
    leastSkip (s.predicted raw stor) tile (s.kEff 0) s.capW (s.kBudget 0) 57 = some k →
    ∃ t, exec (.limiterTick raw tile stor) s = .next t ∧ t.kBudget 0 = k ∧ t.kBudget 1 = s.kBudget 1 ∧ t.capW = s.capW ∧
      (∀ d, d < 4 → t.kTarget d ≤ t.kEff d)) ∧
  (∀ (s : State) (raw tile stor : Nat),
    980 * (s.capW : Int) < s.predicted raw stor →
    leastSkip (s.predicted raw stor) tile (s.kEff 0) s.capW (s.kBudget 0) 57 = none →
    ∃ t, exec (.limiterTick raw tile stor) s = .next t ∧ t.kBudget 0 = 56 ∧
      (∀ d, 0 < d → d < 4 → t.kBudget d = min 56 (s.kBudget 1 + 4)) ∧ (∀ d, d < 4 → t.kTarget d ≤ t.kEff d)) ∧
  (∀ (s : State) (raw tile stor : Nat),
    s.predicted raw stor < 950 * (s.capW : Int) →
    0 < s.kBudget 1 →
    withinCap (s.predicted raw stor) tile (s.kEff 0) (s.kBudget 0) s.capW = true →
    ∃ t, exec (.limiterTick raw tile stor) s = .next t ∧ t.kBudget 0 = s.kBudget 0 ∧ t.kBudget 1 = s.kBudget 1 - 4 ∧
      t.rfield aPwrStat 27 27 = 0 ∧ (∀ d, d < 4 → t.kTarget d ≤ t.kEff d)) ∧
  (∀ (s : State) (raw tile stor : Nat),
    s.predicted raw stor ≤ 980 * (s.capW : Int) →
    950 * (s.capW : Int) ≤ s.predicted raw stor →
    ∃ t, exec (.limiterTick raw tile stor) s = .next t ∧ t.kBudget 0 = s.kBudget 0 ∧ t.kBudget 1 = s.kBudget 1 ∧
      t.rfield aPwrStat 27 27 = s.rfield aPwrStat 27 27) ∧
  (∀ (s : State) (m e : Nat),
    s.serves 7 = true →
    exec (.offsetUpdate m e) s = .next (State.rset { s with pwr.offset := ((m : Int) - e), pwr.meanM := m } aPwrStat 41 32 (min 1023 (m / 1000)))) ∧
  (∀ (s : State) (m e : Nat) (missing : Bool),
    s.serves 7 = true →
    s.rfield aPwrStat 24 24 = 0 →
    (missing = true ∨ 15 * (1000 * s.capW) < 100 * ((m - e) + (e - m))) →
    ∃ t, exec (.divergenceWindow m e missing) s = .next t ∧ t.pwr.overRun = s.pwr.overRun + 1 ∧
      t.rfield aPwrStat 24 24 = (if 7 ≤ s.pwr.overRun then 1 else 0) ∧
      t.pwr.crFaults = (if 7 ≤ s.pwr.overRun then s.pwr.crFaults ++ [⟨s.pwr.crSeq, 0x10, m / 1000 % 65536 + 65536 * (e / 1000 % 65536)⟩] else s.pwr.crFaults)) ∧
  (∀ (s : State) (m e : Nat),
    s.serves 7 = true →
    s.rfield aPwrStat 24 24 = 1 →
    100 * ((m - e) + (e - m)) ≤ 10 * (1000 * s.capW) →
    ∃ t, exec (.divergenceWindow m e false) s = .next t ∧ t.pwr.okRun = s.pwr.okRun + 1 ∧ t.pwr.overRun = 0 ∧
      t.rfield aPwrStat 24 24 = (if 99 ≤ s.pwr.okRun then 0 else 1) ∧
      t.pwr.crFaults = (if 99 ≤ s.pwr.okRun then s.pwr.crFaults ++ [⟨s.pwr.crSeq, 0x11, m / 1000 % 65536 + 65536 * (e / 1000 % 65536)⟩] else s.pwr.crFaults)) ∧
  (∀ (s : State) (f : Nat) (p : Bytes),
    s.performable f 0x0A01 = true →
    (s.fn f).mb.payload = p →
    250 ≤ u16 p 0 →
    u16 p 0 ≤ 750 →
    f % 4 = 0 →
    (bit (u8 p 2) 0 = false → ∃ t, exec (.pwrLimitSet f) s = .next t ∧ State.answered ((s.rset aPwrCap 9 0 (u16 p 0)).capChanged) t f .success []) ∧
      (bit (u8 p 2) 0 = true → ∃ t, exec (.pwrLimitSet f) s = .next t ∧
      State.journalled ((s.rset aPwrCap 9 0 (u16 p 0)).capChanged) t 0x0A01 0 false p (some ⟨f, .success, [], none, none⟩))) ∧
  (∀ (s : State),
    ∃ t, exec .droopTrip s = .next t ∧ (∀ d, d < 4 → t.kDroop d = min 56 (s.rfield aDroop 13 8) ∧ t.kEff d = max (s.kEff d) (t.kTarget d)) ∧
      t.rfield aPwrStat 26 26 = 1 ∧ t.pwr.droopUntil = s.now + 100 * max 1 (s.rfield aDroop 23 16)) ∧
  (∀ (s : State),
    s.rfield aPwrStat 26 26 = 1 →
    ∃ t, exec .droopHoldExpire s = .next t ∧ (∀ d, d < 4 → t.kDroop d = 0 ∧ t.kEff d = s.kEff d) ∧ t.rfield aPwrStat 26 26 = 0 ∧
      t.now = max s.now s.pwr.droopUntil) ∧
  (∀ (s : State) (c : Nat),
    104 ≤ c →
    ∃ t, exec (.thermalSample c) s = .next t ∧ (∀ d, d < 4 → t.kThermal d = 56 ∧ t.kTarget d ≤ t.kEff d) ∧ t.rfield aPwrStat 25 25 = 1 ∧
      t.rfield aPwrStat 58 52 = min 127 c) ∧
  (∀ (s : State) (c : Nat),
    c < 104 →
    ∃ t, exec (.thermalSample c) s = .next t ∧ (∀ d, 0 < d → d < 4 → t.kThermal d = (if c < 102 then 0 else s.kThermal d)) ∧
      t.kThermal 0 = (if 100 ≤ c ∧ 9 ≤ s.pwr.hotTick then min 56 (s.kThermal 0 + 4) else if c < 98 ∧ 99 ≤ s.pwr.coolTick then s.kThermal 0 - 1 else s.kThermal 0))

/-- PELOTON_JOIN makes a member with the named peers, round 1 and its own proposal; PELOTON_LEAVE ends the membership and its request. A round that finishes adopts the least of the own proposal and the last ones of the peers not excluded, requests 64 less it of TILE's wheel, counts the peers that were not heard, and starts the next round. A proposal in order is recorded, brings a higher round, and readmits or excludes its sender; an older round is counted stale; one with no peloton or not in order is counted and dropped. A change that waits for the end of its millisecond is posted there. -/
def Obligations.PelotonMembersShareACadence : Prop :=
  (∀ (s : State) (f : Nat) (p : Bytes),
    s.performable f 0x0A10 = true →
    (s.fn f).mb.payload = p →
    s.joinBad f p = false →
    f % 4 = 0 →
    s.pwr.peloton = none →
    s.mayNameSpoke f (u16 p 6) = true →
    ∃ t, exec (.pelotonJoin f) s = .next t ∧ t.responded f .success [] false ∧
      (t.pwr.peloton.map fun g => (g.id, g.kLimit, g.accelW, g.spoke, g.round, g.adopted)) = some (u32 p 0, u8 p 4, u16 p 8, u16 p 6, 1, 64) ∧
      (∀ c, (t.pwr.peloton.map fun g => Map.has g.peers c) = some ((joinConns p).contains c)) ∧
      t.rfield aPeloton 14 8 = max (64 - u8 p 4) (64 - max (s.kBudget 0) (s.kThermal 0)) ∧ t.rfield aPeloton 54 48 = u8 p 5 ∧
      t.rfield aPwrStat 30 30 = 1) ∧
  (∀ (s : State) (f : Nat) (p : Bytes),
    s.performable f 0x0A11 = true →
    (s.fn f).mb.payload = p →
    s.pwr.peloton ≠ none →
    f % 4 = 0 →
    ∃ t, exec (.pelotonLeave f) s = .next t ∧ t.responded f .success [] false ∧ t.pwr.peloton = none ∧ t.kPeloton 0 = 0 ∧
      t.rfield aPwrStat 31 30 = 0) ∧
  (∀ (s : State) (g : Peloton),
    s.pwr.peloton = some g →
    s.serves 7 = true →
    ∃ t, exec .roundFinish s = .next t ∧ t.rfield aPeloton 6 0 = g.cadence s.cOwn ∧ t.kPeloton 0 = min 56 (64 - g.cadence s.cOwn) ∧
      t.kTarget 0 ≤ t.kEff 0 ∧ (t.pwr.peloton.map fun g => (g.round, g.adopted)) = some (g.round + 1, g.cadence s.cOwn) ∧
      t.rfield aPeloton 47 32 = g.accelW * g.cadence s.cOwn / 64 % 65536 ∧
      t.now = max s.now (g.started + (if (g.peers.filter fun x => !x.2.excluded).all (fun x => x.2.seen) then 20000 else 100000))) ∧
  (∀ (s : State) (g : Peloton),
    s.pwr.peloton = some g →
    (g.pending = false → exec .cadenceChanged s = .next s) ∧
      (g.pending = true → ∃ t, exec .cadenceChanged s = .next t ∧ t.now = max s.now (g.posted.getD 0 + 1000000) ∧
      t.pwr.peloton = some { g with posted := some t.now, pending := false })) ∧
  (∀ (s : State) (i : Nat) (p : YPkt) (g : Peloton) (x : Peer),
    (s.takeY i 0x20).2 = some p →
    s.pwr.peloton = some g →
    s.serves 7 = true →
    (s.takeY i 0x20).1.cadenceOk g p = true →
    Map.get g.peers p.conn = some x →
    (p.offset < x.lastR → exec (.cadence i) s = .next ((s.takeY i 0x20).1.pwrCount 3)) ∧
      (x.lastR ≤ p.offset → ∃ t, exec (.cadence i) s = .next t ∧ t.kPeloton 0 = s.kPeloton 0 ∧
      ((t.pwr.peloton.bind fun g => Map.get g.peers p.conn).map fun y => (y.lastR, y.lastC, y.silent, y.excluded)) = some (p.offset, bits p.key 6 0, 0, bit p.key 9) ∧
      (bit p.key 9 = false → (t.pwr.peloton.map fun g => g.round) = some (max g.round p.offset)))) ∧
  (∀ (s : State) (i : Nat) (p : YPkt),
    (s.takeY i 0x20).2 = some p →
    (s.pwr.peloton = none → exec (.cadence i) s = .next ((s.takeY i 0x20).1.pwrCount 2)) ∧
      (∀ g, s.pwr.peloton = some g → (s.takeY i 0x20).1.cadenceOk g p = false → exec (.cadence i) s = .next ((s.takeY i 0x20).1.pwrCount 2)))

/-- A good frame that is not the member's own and has TTL above 1 is acted on and forwarded with TTL one less; one whose check fails is counted; the member's own is stripped. COUNT gives the next position, with the frame's count raised and the serial number added. A BUDGET in order gives the member its share, within 250 to 750 W, and every BUDGET of the epoch is acknowledged. The ACK of a FAULT ends its retransmission. Without a BUDGET for its time the share falls to the fallback. The join sequence ends with FAULT 0x0001, which is repeated until the member is numbered; the leave sequence ends in bypass with no share. CR_SET sets the fallback and begins a leave. -/
def Obligations.ChainringMembersCountShareAndReport : Prop :=
  (∀ (s : State) (ttl src seq epoch : Nat) (body : Bytes),
    s.crOpen = true →
    body.length ≤ 1024 →
    1 < ttl →
    (s.crOwn crCount src epoch body = false → 64 ≤ u16 body 0 → exec (.countFrame ttl src seq epoch body true) s =
      .next ((((s.rset aCrStat 31 16 epoch).rset aCrStat 1 0 2).rset aCrStat 14 8 0).emit (.chainring 1 (ttl - 1) src seq epoch body))) ∧
      (s.crOwn crCount src epoch body = false → u16 body 0 < 64 → ∃ t, exec (.countFrame ttl src seq epoch body true) s = .next t ∧ t.crNumbered = true ∧
      t.crPos = u16 body 0 + 1 ∧ t.crEpoch = epoch % 65536 ∧ t.pwr.lastBudget = s.now ∧
      t.out = s.out ++ [.chainring 1 (ttl - 1) src seq epoch (toLe 2 (u16 body 0 + 1) ++ body.drop 2 ++ toLe 8 s.sec.fuses.serial)]) ∧
      (s.crOwn crCount src epoch body = true → exec (.countFrame ttl src seq epoch body true) s = .next s) ∧
      exec (.countFrame ttl src seq epoch body false) s = .next (s.pwrCount 4)) ∧
  (∀ (s : State) (ttl src seq epoch : Nat) (body : Bytes),
    s.crOpen = true →
    body.length ≤ 1024 →
    1 < ttl →
    s.crOwn crBudget src epoch body = false →
    s.crNumbered = true →
    epoch = s.crEpoch →
    s.crPos ≤ u16 body 0 →
    1 ≤ (seq + 65536 - s.rfield aCrStat 47 32) % 65536 →
    (seq + 65536 - s.rfield aCrStat 47 32) % 65536 ≤ 32767 →
    ∃ t, exec (.budgetFrame ttl src seq epoch body true) s = .next t ∧ t.rfield aCrStat 47 32 = seq % 65536 ∧
      t.rfield aPwrStat 28 28 = 0 ∧ t.rfield aPwrStat 9 0 = t.capW ∧ t.pwr.lastBudget = s.now ∧
      t.rfield aPwrCap 25 16 = (if u16 body (4 + 2 * (s.crPos - 1)) = 0xFFFF then 0 else min 750 (max 250 (u16 body (4 + 2 * (s.crPos - 1))))) ∧
      t.pwr.crSeq = (s.pwr.crSeq + 1) % 65536 ∧
      t.out.getLast? = some (.chainring 2 (ttl - 1) src seq epoch body)) ∧
  (∀ (s : State) (ttl src seq epoch : Nat) (body : Bytes),
    s.crOpen = true →
    body.length ≤ 1024 →
    1 < ttl →
    s.crOwn crBudget src epoch body = false →
    (s.crNumbered = false → exec (.budgetFrame ttl src seq epoch body true) s = .next (s.emit (.chainring 2 (ttl - 1) src seq epoch body))) ∧
      (s.crNumbered = true → epoch ≠ s.crEpoch → exec (.budgetFrame ttl src seq epoch body true) s = .next ((s.pwrCount 5).emit (.chainring 2 (ttl - 1) src seq epoch body))) ∧
      (s.crNumbered = true → epoch = s.crEpoch → u16 body 0 < s.crPos → exec (.budgetFrame ttl src seq epoch body true) s =
      .next (((State.pwrCount { s with pwr.lastBudget := s.now } 5).crAckSend seq 2).emit (.chainring 2 (ttl - 1) src seq epoch body)))) ∧
  (∀ (s : State) (ttl src seq epoch : Nat) (body : Bytes),
    s.crOpen = true →
    body.length ≤ 1024 →
    1 < ttl →
    s.crOwn crAck src epoch body = false →
    s.crOwn crFaultType src epoch body = false →
    (u16 body 0 = (if s.crNumbered then s.crPos else 0xFFFF) → u8 body 4 = 4 → exec (.ackFrame ttl src seq epoch body true) s =
      .next (State.emit { s with pwr.crFaults := (s.pwr.crFaults.filter fun x => x.seq != u16 body 2) } (.chainring 3 (ttl - 1) src seq epoch body))) ∧
      (u8 body 4 ≠ 4 → exec (.ackFrame ttl src seq epoch body true) s = .next (s.emit (.chainring 3 (ttl - 1) src seq epoch body))) ∧
      exec (.faultFrame ttl src seq epoch body true) s = .next (s.emit (.chainring 4 (ttl - 1) src seq epoch body))) ∧
  (∀ (s : State) (seq : Nat) (x : CrFault),
    s.pwr.crFaults.find? (fun x => x.seq == seq) = some x →
    s.crOpen = true →
    exec (.faultRetransmit seq) s = .next (s.emit (.chainring 4 64 s.crSrc seq s.crEpoch (toLe 2 x.code ++ zeros 6 ++ toLe 8 s.sec.fuses.serial ++ toLe 8 x.detail)))) ∧
  (∀ (s : State),
    s.crNumbered = true →
    s.rfield aPwrStat 28 28 = 0 →
    ∃ t, exec .budgetTimeout s = .next t ∧ t.rfield aPwrStat 28 28 = 1 ∧ t.rfield aPwrStat 9 0 = t.capW ∧
      t.now = max s.now (s.pwr.lastBudget + s.rfield aPwrCap 63 48 * 1000000) ∧
      t.rfield aPwrCap 25 16 = (match s.pwr.lastShare with
      | some w => min w (s.rfield aPwrCap 41 32)
      | none => s.rfield aPwrCap 41 32)) ∧
  (∀ (s : State),
    s.pwr.crPhase = .settling →
    ∃ t, exec .joinBypassSettled s = .next t ∧ t.pwr.crPhase = .joined ∧ t.rfield aCrStat 1 0 = 2 ∧
      t.pwr.crFaults = s.pwr.crFaults ++ [⟨s.pwr.crSeq, 1, 0⟩] ∧ t.out.length = s.out.length + 1) ∧
  (∀ (s : State),
    s.crOpen = true →
    s.crNumbered = false →
    (∀ x, s.pwr.crFaults.find? (fun x => x.code == 1) = some x → exec .joinedRepeat s = .next (s.faultAgain x.seq)) ∧
      (s.pwr.crFaults.find? (fun x => x.code == 1) = none → exec .joinedRepeat s = .next (s.crFault 1 0))) ∧
  (∀ (s : State) (n : Nat),
    s.pwr.crPhase = .leaving n →
    ∃ t, exec .leaveBypassClose s = .next t ∧ t.pwr.crPhase = .bypassed ∧ t.brd.bypassHigh = false ∧ t.pwr.lastShare = none ∧
      t.rfield aCrStat 14 0 = 0 ∧ t.rfield aPwrCap 25 16 = 0 ∧ t.pwr.crFaults = (s.pwr.crFaults.filter fun x => x.seq != n)) ∧
  (∀ (s : State) (f : Nat) (p : Bytes),
    s.performable f 0x0A20 = true →
    (s.fn f).mb.payload = p →
    250 ≤ u16 p 0 →
    u16 p 0 ≤ 750 →
    100 ≤ u16 p 2 →
    u16 p 2 ≤ 60000 →
    s.rfield aStrap 19 19 = 1 →
    f % 4 = 0 →
    (u8 p 4 = 0 → ∃ t, exec (.crSet f) s = .next t ∧
      State.answered ((s.rset aPwrCap 41 32 (u16 p 0)).rset aPwrCap 63 48 (u16 p 2)) t f .success []) ∧
      (u8 p 4 = 1 → ∃ t, exec (.crSet f) s = .next t ∧
      State.journalled ((s.rset aPwrCap 41 32 (u16 p 0)).rset aPwrCap 63 48 (u16 p 2)) t 0x0A02 0 false p (some ⟨f, .success, [], none, none⟩)) ∧
      (u8 p 4 = 2 → s.pwr.crPhase = .joined → ∃ t, exec (.crSet f) s = .next t ∧ t.responded f .success [] false ∧ t.pwr.crPhase = .leaving s.pwr.crSeq ∧
      t.pwr.crFaults = s.pwr.crFaults ++ [⟨s.pwr.crSeq, 2, 0⟩]) ∧
      (u8 p 4 = 4 → s.pwr.crPhase = .bypassed → ∃ t, exec (.crSet f) s = .next t ∧ t.responded f .success [] false ∧ t.pwr.crPhase = .settling ∧
      t.brd.bypassHigh = true))

/-- TEL_HIST_READ answers the device time and a class's 32 buckets, and clears them when asked. TEL_FLOW_SET sets the sampling interval and the timeouts of every sub-port it names and of no other; a changed interval ends every flow. TEL_IPFIX_SET names the collector, and a new one gets the templates; ENABLE clear ends the export. TEL_FLOW_FLUSH ends every flow and answers their number. TEL_RING_SET sets or ends the ring. An idle flow leaves the cache; one whose record is due has its counts restarted, unless it is idle; the templates go out again 600 s after the last time. While the service is away records and templates become due instead. -/
def Obligations.FlowsAreSampledExportedAndEnded : Prop :=
  (∀ (s : State) (f : Nat) (p : Bytes),
    s.performable f 0x0B20 = true →
    (s.fn f).mb.payload = p →
    u8 p 0 < 7 →
    f % 4 = 0 →
    (bit (u8 p 1) 0 = false → ∃ t, exec (.telHistRead f) s = .next t ∧
      s.answered t f .success (toLe 8 (s.counterOf 81) ++ (List.range 32).flatMap fun b => toLe 8 (s.rget (aHist (u8 p 0) b)))) ∧
      (bit (u8 p 1) 0 = true → ∃ t, exec (.telHistRead f) s = .next t ∧
      t.responded f .success (toLe 8 (s.counterOf 81) ++ (List.range 32).flatMap fun b => toLe 8 (s.rget (aHist (u8 p 0) b))) false ∧
      (∀ b, b < 32 → t.rget (aHist (u8 p 0) b) = 0))) ∧
  (∀ (s : State) (f : Nat) (p : Bytes),
    s.performable f 0x0B30 = true →
    (s.fn f).mb.payload = p →
    1 ≤ u16 p 6 →
    u16 p 6 ≤ 3600 →
    1 ≤ u16 p 8 →
    u16 p 8 ≤ 600 →
    f % 4 = 0 →
    Map.wf s.tel.sampleN = true →
    ∃ t, exec (.telFlowSet f) s = .next t ∧ t.responded f .success [] false ∧
      (∀ i, i < 32 → (Map.get t.tel.sampleN i).getD 0 = (if bit (u32 p 0) i then u16 p 4 else (Map.get s.tel.sampleN i).getD 0)) ∧
      (∀ i, i < 32 → Map.get t.tel.activeS i = (if bit (u32 p 0) i then some (u16 p 6) else Map.get s.tel.activeS i)) ∧
      (∀ i, i < 32 → Map.get t.tel.idleS i = (if bit (u32 p 0) i then some (u16 p 8) else Map.get s.tel.idleS i)) ∧
      t.tel.flows = (if (List.range 32).any (fun i => bit (u32 p 0) i && (Map.get s.tel.sampleN i).getD 0 != u16 p 4) then [] else s.tel.flows)) ∧
  (∀ (s : State) (f : Nat) (p : Bytes),
    s.performable f 0x0B31 = true →
    (s.fn f).mb.payload = p →
    s.subExists (u8 p 1) = true →
    u16 p 4 ≤ 4095 →
    (bit (u8 p 0) 1 = true ∨ ((slice p 20 12).all (· == 0) = true ∧ (slice p 36 12).all (· == 0) = true)) →
    f % 4 = 0 →
    (bit (u8 p 0) 0 = false → ∃ t, exec (.telIpfixSet f) s = .next t ∧
      State.answered { s with tel.ipfix := none, tel.templateDue := false, sch.queues := Map.erase s.sch.queues telQueue } t f .success []) ∧
      (bit (u8 p 0) 0 = true → ∃ t, exec (.telIpfixSet f) s = .next t ∧ t.responded f .success [] false ∧
      t.tel.ipfix = some (Ipfix.mk (bit (u8 p 0) 1) (bit (u8 p 0) 2) (u8 p 1) (u8 p 2) (u8 p 3) (u16 p 4) (u16 p 6) (u32 p 8) (slice p 16 16) (slice p 32 16) (slice p 48 6)) ∧
      (s.tel.ipfix = none → t.tel.templateAt = s.now))) ∧
  (∀ (s : State) (f : Nat) (p : Bytes),
    s.performable f 0x0B32 = true →
    (s.fn f).mb.payload = p →
    f % 4 = 0 →
    ∃ t, exec (.telFlowFlush f) s = .next t ∧ t.responded f .success (toLe 4 s.tel.flows.length) false ∧ t.tel.flows = []) ∧
  (∀ (s : State) (f : Nat) (p : Bytes),
    s.performable f 0x0B40 = true →
    (s.fn f).mb.payload = p →
    f % 4 = 0 →
    (u8 p 8 = 0 → ∃ t, exec (.telRingSet f) s = .next t ∧ State.answered { s with tel.ring := none } t f .success []) ∧
      (6 ≤ u8 p 8 → u8 p 8 ≤ 20 → u64 p 0 % 128 = 0 → u16 p 10 ≤ 4095 ∨ u16 p 10 = 0xFFFF → ∃ t, exec (.telRingSet f) s = .next t ∧
      State.answered { s with tel.ring := (some { addr := u64 p 0, log2 := u8 p 8, vector := u16 p 10, fn := f }) } t f .success [])) ∧
  (∀ (s : State) (i : Nat) (x : Flow),
    s.tel.flows[i]? = some x →
    ∃ t, exec (.flowIdleTimeout i) s = .next t ∧ t.tel.flows = (s.tel.flows.filter fun y => y.key != x.key) ∧ t.now = max s.now (s.idleAt x) ∧
      (s.serves 8 = false → t.tel.due = s.tel.due ++ [(x, (Map.get s.tel.sampleN x.key.sub).getD 0, 1)])) ∧
  (∀ (s : State) (i : Nat) (x : Flow),
    s.tel.flows[i]? = some x →
    (max s.now (s.activeAt x) < s.idleAt x → ∃ t, exec (.flowActiveTimeout i) s = .next t ∧ t.now = max s.now (s.activeAt x) ∧
      t.tel.flows = (s.tel.flows.map fun y => if y.key = x.key then { y with octets := 0, packets := 0, exportedAt := max s.now (s.activeAt x) } else y) ∧
      (s.serves 8 = false → t.tel.due = s.tel.due ++ [(x, (Map.get s.tel.sampleN x.key.sub).getD 0, 2)])) ∧
      (s.idleAt x ≤ max s.now (s.activeAt x) → ∃ t, exec (.flowActiveTimeout i) s = .next t ∧
      t.tel.flows = (s.tel.flows.filter fun y => y.key != x.key))) ∧
  (∀ (s : State),
    (s.tel.ipfix = none → exec .templateRefresh s = .next s) ∧
      (s.tel.ipfix ≠ none → ∃ t, exec .templateRefresh s = .next t ∧ t.tel.templateAt = max s.now (s.tel.templateAt + 600000000000) ∧
      (s.serves 8 = false → t.tel.templateDue = true ∧ t.out = s.out)))

/-- An MCTP control message to the endpoint, or to the null EID, is answered with the EID, the types or the vendor set, and SET_ENDPOINT_ID sets the EID. The PLDM commands are answered with the TID, the types, the readings and states of the sensors and their records. Every 100 ms the readings are taken; a threshold class that changes makes an event. An update goes from request through the component table and the transfer of the copy that is not running to its verification; one that is cancelled ends; self-contained activation is turned away. Message framing and completion codes are the model's, PRESUMED from the DMTF specifications (see NOTES.md). -/
def Obligations.ManagementMessagesAreAnsweredWithTheFacts : Prop :=
  (∀ (s : State) (dst : Nat),
    s.mgmtUp = true →
    (dst = 0 ∨ dst = s.tel.eid) →
    (∀ op eid, op ≤ 1 → 1 ≤ eid → eid < 255 → exec (.setEndpointId dst op eid) s = .next (State.emit { s with tel.eid := eid } (.mctp 0 1 0 ([0] ++ toLe 1 eid ++ [0])))) ∧
      exec (.getEndpointId dst) s = .next (s.emit (.mctp 0 2 0 (toLe 1 s.tel.eid ++ [0, 0]))) ∧
      exec (.getEndpointUuid dst) s = .next (s.emit (.mctp 0 3 0 (padTo 16 Config.endpointUuid))) ∧
      exec (.getMctpVersionSupport dst 255) s = .next (s.emit (.mctp 0 4 0 [1, 0xF1, 0xF3, 0xFF, 0])) ∧
      exec (.getMessageTypeSupport dst) s = .next (s.emit (.mctp 0 5 0 [4, 1, 5, 6, 0x7E])) ∧
      exec (.getVendorDefinedMessageSupport dst 0) s = .next (s.emit (.mctp 0 6 0 ([0xFF, 0, 0x1F, 0x9D] ++ toBe 2 Config.vendorSet)))) ∧
  (∀ (s : State),
    s.mgmtUp = true →
    exec .getTid s = .next (s.emit (.mctp 1 2 0 (toLe 1 s.tel.tid))) ∧
      (∀ tid, 1 ≤ tid → tid < 255 → exec (.setTid tid) s = .next (State.emit { s with tel.tid := tid } (.mctp 1 1 0 []))) ∧
      (∀ ty ∈ pldmTypes, exec (.getPldmVersion ty) s = .next (s.emit (.mctp 1 3 0 (Config.pldmVersions ty))) ∧
      exec (.getPldmCommands ty) s = .next (s.emit (.mctp 1 5 0 (pldmCommands ty)))) ∧
      exec .getPldmTypes s = .next (s.emit (.mctp 1 4 0 [0, 2, 5])) ∧
      (∀ e, exec (.setEventReceiver false e) s = .next (State.emit { s with tel.receiver := none } (.mctp 1 0x204 0 []))) ∧
      (∀ e, ∃ t, exec (.setEventReceiver true e) s = .next t ∧ t.tel.receiver = some e ∧
      t.out = s.out ++ [.mctp 1 0x204 0 []] ++ s.tel.events.map fun x => .pldmEvent x.sensor x.state) ∧
      exec .getPdrRepositoryInfo s = .next (s.emit (.mctp 1 0x250 0 (toLe 4 18))) ∧
      (∀ h ∈ pdrIds, exec (.getPdr h) s = .next (s.emit (.mctp 1 0x251 0 (toLe 4 (if h = 13 then 32 else if h = 36 then 0 else h + 1) ++ pdrOf h))))) ∧
  (∀ (s : State) (i : Nat),
    s.mgmtUp = true →
    (isNumeric i = true → i = 3 ∨ s.brd.mainPg = true → exec (.getSensorReading i) s = .next (s.emit (.mctp 1 0x211 0 (0 :: toLe 4 ((Map.get s.tel.readings i).getD 0))))) ∧
      (isNumeric i = true → i ≠ 3 → s.brd.mainPg = false → exec (.getSensorReading i) s = .next (s.emit (.mctp 1 0x211 0 (2 :: zeros 4)))) ∧
      (isStateSensor i = true → exec (.getStateSensorReadings i) s = .next (s.emit (.mctp 1 0x221 0 ([0] ++ toLe 1 (s.sensorState i)))))) ∧
  (∀ (s : State) (temps : List Nat) (acks : Nat),
    s.mgmtUp = true →
    ∃ t, exec (.sensorUpdate temps acks) s = .next t ∧ t.now = max s.now (s.tel.readAt + 100000000) ∧ t.tel.readAt = t.now ∧
      (∀ i, i < 10 → Map.get t.tel.readings (3 + i) = some (temps.getD i 0)) ∧ Map.get t.tel.readings 1 = some (s.pwr.meanM / 1000) ∧
      Map.get t.tel.readings 2 = some s.capW ∧ Map.get t.tel.readings 13 = some (s.kEff 0) ∧
      (tempClass ((Map.get s.tel.readings 3).getD 0) = tempClass (temps.getD 0 0) → t.tel.events = s.tel.events.drop acks) ∧
      (tempClass ((Map.get s.tel.readings 3).getD 0) ≠ tempClass (temps.getD 0 0) → t.tel.events.getLast? = some ⟨3, tempClass (temps.getD 0 0)⟩)) ∧
  (∀ (s : State),
    s.updateUp = true →
    exec .queryDeviceIdentifiers s = .next (s.emit (.mctp 1 0x501 0 (toLe 2 0x1F9D ++ toLe 2 0x9490))) ∧
      (s.brd.standbyImage = false → exec .getFirmwareParameters s = .next (s.emit (.mctp 1 0x502 0 (toLe 2 10 ++ toLe 2 1 ++ zeros 8)))) ∧
      (s.brd.standbyImage = true → s.spare.tagged = false → exec .getFirmwareParameters s = .next (s.emit (.mctp 1 0x502 0 (toLe 2 10 ++ toLe 2 1 ++ toLe 4 s.standbyCopy.version ++ zeros 4)))) ∧
      exec .pldmGetStatus s = .next (s.emit (.mctp 1 0x51B 0 (toLe 1 s.tel.fwUpdate.number ++ toLe 4 s.tel.fwData.length)))) ∧
  (∀ (s : State),
    s.updateUp = true →
    (∀ n, s.tel.fwUpdate = .idle → 32 ≤ n → exec (.requestUpdate n) s =
      .next (State.emit { s with tel.fwUpdate := .learn, tel.fwChunk := (min 256 n), tel.fwData := [] } (.mctp 1 0x510 0 []))) ∧
      (s.tel.fwUpdate = .learn → exec (.passComponentTable 10 1) s = .next (State.emit { s with tel.fwUpdate := .ready } (.mctp 1 0x513 0 [0]))) ∧
      (∀ n, s.tel.fwUpdate = .ready → 1 ≤ n → n ≤ 2 ^ 25 - 4096 → ∃ t, exec (.updateComponent 10 1 n) s = .next t ∧ t.tel.fwUpdate = .download n ∧
      t.spare = { tagged := false } ∧ t.standbyCopy = s.standbyCopy ∧
      t.out = s.out ++ [.mctp 1 0x514 0 [0], .pldmSend 0x15 0 (min s.tel.fwChunk n)]) ∧
      (s.tel.fwUpdate = .verified → exec (.activateFirmware false) s = .next (State.emit { s with tel.fwUpdate := .idle } (.mctp 1 0x51A 0 []))) ∧
      (s.tel.fwUpdate = .verified → exec (.activateFirmware true) s = .next (s.emit (.mctp 1 0x51A 0x8C []))) ∧
      (∀ n, s.tel.fwUpdate = .download n → exec .cancelUpdateComponent s = .next (State.emit { s with tel.fwUpdate := .ready, tel.fwData := [] } (.mctp 1 0x51C 0 []))) ∧
      (s.tel.fwUpdate ≠ .idle → exec .cancelUpdate s = .next (State.emit { s with tel.fwUpdate := .idle, tel.fwData := [] } (.mctp 1 0x51D 0 [])))) ∧
  (∀ (s : State) (n : Nat) (d : Bytes),
    s.updateUp = true →
    s.tel.fwUpdate = .download n →
    d.length = min s.tel.fwChunk (n - s.tel.fwData.length) →
    (s.tel.fwData.length + d.length < n → exec (.requestFirmwareData d) s = .next (State.emit { s with tel.fwData := s.tel.fwData ++ d }
      (.pldmSend 0x15 (s.tel.fwData.length + d.length) (min s.tel.fwChunk (n - (s.tel.fwData.length + d.length)))))) ∧
      (n ≤ s.tel.fwData.length + d.length → s.imageCheck 1 s.anchorOk (s.tel.fwData ++ d) ≠ .success → ∃ t, exec (.requestFirmwareData d) s = .next t ∧
      t.tel.fwUpdate = .failed ∧ t.fwm = s.fwm) ∧
      (n ≤ s.tel.fwData.length + d.length → s.imageCheck 1 s.anchorOk (s.tel.fwData ++ d) = .success → ∃ t, exec (.requestFirmwareData d) s = .next t ∧
      t.tel.fwUpdate = .verified ∧ t.spare.tagged = true ∧ t.spare.digest = (imageOf (s.tel.fwData ++ d)).digest ∧ t.standbyCopy = s.standbyCopy))

/-- The PCI_CTL_CFG words before the straps are sampled and the fuses' values are the model's (log entry 3). -/
def Obligations.PowerOnLeavesNothingButTheTablesValues : Prop :=
  (State.reset.pending = [] ∧ State.reset.out = [] ∧ State.reset.mem.hbm = [] ∧ State.reset.mem.regions = defaultRegions ∧
      State.reset.host.epoch = 0 ∧ State.reset.host.spokes = [] ∧ State.reset.host.queues = [] ∧ State.reset.host.ops = [] ∧
      State.reset.xpt.conns = [] ∧ State.reset.nvme.spaces = [] ∧ State.reset.ckp.sessions = [] ∧ State.reset.fwm.services = [] ∧
      State.reset.brd.pwrEn = false ∧ State.reset.brd.bypassHigh = false ∧ State.reset.brd.thermTrip = false ∧ State.reset.boot = 0) ∧
  (∀ (f : Nat),
    (State.reset.fn f).attach = .detached ∧ (State.reset.fn f).bme = false ∧ (State.reset.fn f).mb.outstanding = false ∧
      (State.reset.fn f).baseSpoke = none) ∧
  (∀ (off : Nat),
    (∀ n, n < 8 → off ≠ aCtlCfg (n + 2)) →
    State.reset.rget off = regReset off) ∧
  (State.reset.canonical = true)

/-- In every state, reachable or not, in which HBM's bytes, the registers, the tables of functions, ports, spokes, queues, operations and requests, and those of counters and trigger entries are in rising order without repeats (HBM besides without an entry for zero), a step that answers a next state leaves them so. -/
def Obligations.EveryStepKeepsTheCanonicalForms : Prop :=
  ∀ (s t : State),
  s.canonical = true →
  step s = .next t →
  t.canonical = true

/-- Over every step from every state: the serial number, the firmware anchors and their revocations stay; the security version numbers never fall; a debug revocation, PWD_DISABLE and CUSTOMER_LOCK stay blown; a debug anchor or a password hash that is not zero keeps its value. -/
def Obligations.NoCommandTakesBackAFuse : Prop :=
  ∀ (s t : State),
  step s = .next t →
  s.sec.fuses.kept t.sec.fuses

/-- The device time and the list of what has been sent are the model's own fields (log entry 1). -/
def Obligations.TimeAndWhatWasSentNeverGoBack : Prop :=
  ∀ (s t : State),
  step s = .next t →
  t.pending = s.pending.drop 1 ∧ s.now ≤ t.now ∧ s.out <+: t.out
end

