-- ==== Sys2Proof/Laws/Map.lean ====
section
/-! SUPPORT. The laws of sparse tables and of HBM: a read after a write, and the canonical form that every operation keeps. -/

namespace Sys2Proof
open Sys2Proof.Machine

theorem Map.get_put {β : Type} (m : List (Nat × β)) (k j : Nat) (v : β) :
    Map.get (Map.put m k v) j = if k = j then some v else Map.get m j := by
  induction m with
  | nil => simp [Map.put, Map.get]
  | cons h t ih =>
    obtain ⟨a, b⟩ := h
    simp only [Map.put]
    split
    · simp only [Map.get]
    · split
      · subst_vars
        simp only [Map.get]
        split <;> rfl
      · simp only [Map.get, ih]
        split
        · next h => rw [if_neg (by omega)]
        · rfl

@[simp] theorem Map.get_put_self {β : Type} (m : List (Nat × β)) (k : Nat) (v : β) :
    Map.get (Map.put m k v) k = some v := by simp [Map.get_put]

theorem Map.get_put_of_ne {β : Type} (m : List (Nat × β)) {k j : Nat} (v : β) (h : k ≠ j) :
    Map.get (Map.put m k v) j = Map.get m j := by simp [Map.get_put, h]

theorem Map.get_erase_of_ne {β : Type} (m : List (Nat × β)) {k j : Nat} (h : k ≠ j) :
    Map.get (Map.erase m k) j = Map.get m j := by
  induction m with
  | nil => rfl
  | cons x t ih =>
    obtain ⟨a, b⟩ := x
    simp only [Map.erase]
    split
    · subst_vars; simp [Map.get, h]
    · simp only [Map.get, ih]

theorem Map.get_none_of_below {β : Type} (m : List (Nat × β)) (k : Nat)
    (h : ∀ x ∈ m, k < x.1) : Map.get m k = none := by
  induction m with
  | nil => rfl
  | cons x t ih =>
    have h1 : k < x.1 := h x (by simp)
    have h2 : x.1 ≠ k := by omega
    simp [Map.get, h2, ih fun y hy => h y (by simp [hy])]

/-- The canonical form, as a property of pairs: what later proofs use. -/
theorem Map.wf_iff {β : Type} (m : List (Nat × β)) :
    Map.wf m = true ↔ m.Pairwise fun x y => x.1 < y.1 := by
  induction m with
  | nil => simp [Map.wf]
  | cons x t ih =>
    cases t with
    | nil => simp [Map.wf]
    | cons y t =>
      obtain ⟨a, b⟩ := x
      obtain ⟨c, d⟩ := y
      simp only [Map.wf, Bool.and_eq_true, decide_eq_true_eq, ih, List.pairwise_cons, List.mem_cons]
      constructor
      · rintro ⟨h, h1, h2⟩
        refine ⟨?_, h1, h2⟩
        rintro z (rfl | hz)
        · exact h
        · exact Nat.lt_trans h (h1 z hz)
      · rintro ⟨h, h1, h2⟩
        exact ⟨h _ (Or.inl rfl), h1, h2⟩

theorem Map.mem_put {β : Type} (m : List (Nat × β)) (k : Nat) (v : β) (x : Nat × β) (h : x ∈ Map.put m k v) :
    x = (k, v) ∨ x ∈ m := by
  induction m with
  | nil => simpa [Map.put] using h
  | cons y t ih =>
    obtain ⟨a, b⟩ := y
    simp only [Map.put] at h
    split at h
    · simpa using h
    · split at h
      · simp only [List.mem_cons] at h ⊢; tauto
      · simp only [List.mem_cons] at h ⊢
        rcases h with h | h
        · exact Or.inr (Or.inl h)
        · have := ih h; tauto

theorem Map.mem_erase {β : Type} (m : List (Nat × β)) (k : Nat) (x : Nat × β) (h : x ∈ Map.erase m k) : x ∈ m := by
  induction m with
  | nil => simp [Map.erase] at h
  | cons y t ih =>
    obtain ⟨a, b⟩ := y
    simp only [Map.erase] at h
    split at h
    · exact List.mem_cons_of_mem _ h
    · simp only [List.mem_cons] at h ⊢
      rcases h with h | h
      · exact Or.inl h
      · exact Or.inr (ih h)

/-- Setting an entry keeps the canonical form. -/
theorem Map.put_wf {β : Type} (m : List (Nat × β)) (k : Nat) (v : β) (h : Map.wf m = true) :
    Map.wf (Map.put m k v) = true := by
  rw [Map.wf_iff] at h ⊢
  induction m with
  | nil => simp [Map.put]
  | cons y t ih =>
    obtain ⟨a, b⟩ := y
    rw [List.pairwise_cons] at h
    simp only [Map.put]
    split
    · next hk =>
      refine List.pairwise_cons.2 ⟨?_, List.pairwise_cons.2 h⟩
      intro z hz
      rcases List.mem_cons.1 hz with rfl | hz
      · exact hk
      · exact Nat.lt_trans hk (h.1 z hz)
    · split
      · next _ he =>
        subst he
        exact List.pairwise_cons.2 ⟨h.1, h.2⟩
      · next h1 h2 =>
        refine List.pairwise_cons.2 ⟨?_, ih h.2⟩
        intro z hz
        rcases Map.mem_put t k v z hz with rfl | hz
        · show a < k
          omega
        · exact h.1 z hz

/-- Taking an entry out keeps the canonical form. -/
theorem Map.erase_wf {β : Type} (m : List (Nat × β)) (k : Nat) (h : Map.wf m = true) :
    Map.wf (Map.erase m k) = true := by
  rw [Map.wf_iff] at h ⊢
  induction m with
  | nil => simp [Map.erase]
  | cons y t ih =>
    obtain ⟨a, b⟩ := y
    rw [List.pairwise_cons] at h
    simp only [Map.erase]
    split
    · exact h.2
    · exact List.pairwise_cons.2 ⟨fun z hz => h.1 z (Map.mem_erase t k z hz), ih h.2⟩

/-- Keeping some of the entries keeps the canonical form. -/
theorem Map.filter_wf {β : Type} (m : List (Nat × β)) (p : Nat × β → Bool) (h : Map.wf m = true) :
    Map.wf (m.filter p) = true := by
  rw [Map.wf_iff] at h ⊢
  exact h.filter p

/-- Changing an entry in place keeps the canonical form. -/
theorem Map.modify_wf {β : Type} (m : List (Nat × β)) (k : Nat) (f : β → β) (h : Map.wf m = true) :
    Map.wf (Map.modify m k f) = true := by
  unfold Map.modify
  split
  · exact Map.put_wf _ _ _ h
  · exact h

/-- In a canonical table an entry taken out is absent. -/
theorem Map.get_erase_self {β : Type} (m : List (Nat × β)) (k : Nat) (h : Map.wf m = true) :
    Map.get (Map.erase m k) k = none := by
  rw [Map.wf_iff] at h
  induction m with
  | nil => rfl
  | cons y t ih =>
    obtain ⟨a, b⟩ := y
    rw [List.pairwise_cons] at h
    simp only [Map.erase]
    split
    · next e =>
      subst e
      exact Map.get_none_of_below t a h.1
    · next e => simp [Map.get, e, ih h.2]

end Sys2Proof

namespace Sys2Proof.Machine
open Sys2Proof

/-! ## HBM -/

theorem Memory.wf_write (m : List Host.Cell) (a : Nat) (b : Byte) (h : Memory.wf m = true) :
    Memory.wf (Memory.write m a b) = true := by
  simp only [Memory.wf, Bool.and_eq_true, List.all_eq_true] at h ⊢
  unfold Memory.write
  split
  · exact ⟨Map.erase_wf m a h.1, fun x hx => h.2 x (Map.mem_erase m a x hx)⟩
  · next hb =>
    refine ⟨Map.put_wf m a b h.1, fun x hx => ?_⟩
    rcases Map.mem_put m a b x hx with rfl | hx
    · simpa using hb
    · exact h.2 x hx

/-- Every write of HBM keeps its canonical form. -/
theorem Memory.wf_writeBytes (d : Bytes) (m : List Host.Cell) (a : Nat) (h : Memory.wf m = true) :
    Memory.wf (Memory.writeBytes m a d) = true := by
  induction d generalizing m a with
  | nil => exact h
  | cons b t ih => exact ih _ _ (Memory.wf_write m a b h)

/-- A read of the byte written gives it. -/
theorem Memory.read_write_self (m : List Host.Cell) (a : Nat) (b : Byte) (h : Memory.wf m = true) :
    Memory.read (Memory.write m a b) a = b := by
  have hw : Map.wf m = true := by simp only [Memory.wf, Bool.and_eq_true] at h; exact h.1
  unfold Memory.read Memory.write
  split
  · next e => simp [Map.get_erase_self m a hw, e]
  · simp

/-- A write leaves every other byte alone. -/
theorem Memory.read_write_of_ne (m : List Host.Cell) {a x : Nat} (b : Byte) (h : a ≠ x) :
    Memory.read (Memory.write m a b) x = Memory.read m x := by
  unfold Memory.read Memory.write
  split
  · rw [Map.get_erase_of_ne m h]
  · rw [Map.get_put_of_ne m b h]

/-- A write leaves every byte outside its range alone. -/
theorem Memory.read_writeBytes_outside (d : Bytes) (m : List Host.Cell) (a x : Nat)
    (h : x < a ∨ a + d.length ≤ x) : Memory.read (Memory.writeBytes m a d) x = Memory.read m x := by
  induction d generalizing m a with
  | nil => rfl
  | cons b t ih =>
    simp only [List.length_cons] at h
    rw [Memory.writeBytes, ih _ _ (by omega), Memory.read_write_of_ne _ _ (by omega)]

/-- A read of a byte in the range written gives the byte written there. -/
theorem Memory.read_writeBytes_inside (d : Bytes) (m : List Host.Cell) (a i : Nat) (hm : Memory.wf m = true)
    (h : i < d.length) : Memory.read (Memory.writeBytes m a d) (a + i) = d.getD i 0 := by
  induction d generalizing m a i with
  | nil => simp at h
  | cons b t ih =>
    rw [Memory.writeBytes]
    cases i with
    | zero =>
      rw [Memory.read_writeBytes_outside _ _ _ _ (by omega)]
      simpa using Memory.read_write_self m a b hm
    | succ i =>
      have := ih (Memory.write m a b) (a + 1) i (Memory.wf_write m a b hm) (by simpa using h)
      rw [show a + (i + 1) = a + 1 + i by omega, this]
      simp

end Sys2Proof.Machine
end

