-- ==== Sys2Proof/Laws/State.lean ====
section
/-! SUPPORT. What each update of the state does to each field, so that no proof unfolds a record update. -/

namespace Sys2Proof.Machine
open Sys2Proof

/-! ### emit -/

@[simp] theorem State.emit_pending (s : State) (e : Emit) : (s.emit e).pending = s.pending := rfl
@[simp] theorem State.emit_now (s : State) (e : Emit) : (s.emit e).now = s.now := rfl
@[simp] theorem State.emit_freeCtr (s : State) (e : Emit) : (s.emit e).freeCtr = s.freeCtr := rfl
@[simp] theorem State.emit_regs (s : State) (e : Emit) : (s.emit e).regs = s.regs := rfl
@[simp] theorem State.emit_host (s : State) (e : Emit) : (s.emit e).host = s.host := rfl
@[simp] theorem State.emit_trg (s : State) (e : Emit) : (s.emit e).trg = s.trg := rfl
@[simp] theorem State.emit_mem (s : State) (e : Emit) : (s.emit e).mem = s.mem := rfl
@[simp] theorem State.emit_net (s : State) (e : Emit) : (s.emit e).net = s.net := rfl
@[simp] theorem State.emit_sch (s : State) (e : Emit) : (s.emit e).sch = s.sch := rfl
@[simp] theorem State.emit_xpt (s : State) (e : Emit) : (s.emit e).xpt = s.xpt := rfl
@[simp] theorem State.emit_str (s : State) (e : Emit) : (s.emit e).str = s.str := rfl
@[simp] theorem State.emit_nvme (s : State) (e : Emit) : (s.emit e).nvme = s.nvme := rfl
@[simp] theorem State.emit_ckp (s : State) (e : Emit) : (s.emit e).ckp = s.ckp := rfl
@[simp] theorem State.emit_sec (s : State) (e : Emit) : (s.emit e).sec = s.sec := rfl
@[simp] theorem State.emit_fwm (s : State) (e : Emit) : (s.emit e).fwm = s.fwm := rfl
@[simp] theorem State.emit_pwr (s : State) (e : Emit) : (s.emit e).pwr = s.pwr := rfl
@[simp] theorem State.emit_brd (s : State) (e : Emit) : (s.emit e).brd = s.brd := rfl
@[simp] theorem State.emit_tel (s : State) (e : Emit) : (s.emit e).tel = s.tel := rfl

/-! ### emits -/

@[simp] theorem State.emits_pending (s : State) (l : List Emit) : (s.emits l).pending = s.pending := rfl
@[simp] theorem State.emits_now (s : State) (l : List Emit) : (s.emits l).now = s.now := rfl
@[simp] theorem State.emits_freeCtr (s : State) (l : List Emit) : (s.emits l).freeCtr = s.freeCtr := rfl
@[simp] theorem State.emits_regs (s : State) (l : List Emit) : (s.emits l).regs = s.regs := rfl
@[simp] theorem State.emits_host (s : State) (l : List Emit) : (s.emits l).host = s.host := rfl
@[simp] theorem State.emits_trg (s : State) (l : List Emit) : (s.emits l).trg = s.trg := rfl
@[simp] theorem State.emits_mem (s : State) (l : List Emit) : (s.emits l).mem = s.mem := rfl
@[simp] theorem State.emits_net (s : State) (l : List Emit) : (s.emits l).net = s.net := rfl
@[simp] theorem State.emits_sch (s : State) (l : List Emit) : (s.emits l).sch = s.sch := rfl
@[simp] theorem State.emits_xpt (s : State) (l : List Emit) : (s.emits l).xpt = s.xpt := rfl
@[simp] theorem State.emits_str (s : State) (l : List Emit) : (s.emits l).str = s.str := rfl
@[simp] theorem State.emits_nvme (s : State) (l : List Emit) : (s.emits l).nvme = s.nvme := rfl
@[simp] theorem State.emits_ckp (s : State) (l : List Emit) : (s.emits l).ckp = s.ckp := rfl
@[simp] theorem State.emits_sec (s : State) (l : List Emit) : (s.emits l).sec = s.sec := rfl
@[simp] theorem State.emits_fwm (s : State) (l : List Emit) : (s.emits l).fwm = s.fwm := rfl
@[simp] theorem State.emits_pwr (s : State) (l : List Emit) : (s.emits l).pwr = s.pwr := rfl
@[simp] theorem State.emits_brd (s : State) (l : List Emit) : (s.emits l).brd = s.brd := rfl
@[simp] theorem State.emits_tel (s : State) (l : List Emit) : (s.emits l).tel = s.tel := rfl

/-! ### bump -/

@[simp] theorem State.bump_pending (s : State) : s.bump.pending = s.pending := rfl
@[simp] theorem State.bump_now (s : State) : s.bump.now = s.now := rfl
@[simp] theorem State.bump_freeCtr (s : State) : s.bump.freeCtr = s.freeCtr := rfl
@[simp] theorem State.bump_regs (s : State) : s.bump.regs = s.regs := rfl
@[simp] theorem State.bump_out (s : State) : s.bump.out = s.out := rfl
@[simp] theorem State.bump_trg (s : State) : s.bump.trg = s.trg := rfl
@[simp] theorem State.bump_mem (s : State) : s.bump.mem = s.mem := rfl
@[simp] theorem State.bump_net (s : State) : s.bump.net = s.net := rfl
@[simp] theorem State.bump_sch (s : State) : s.bump.sch = s.sch := rfl
@[simp] theorem State.bump_xpt (s : State) : s.bump.xpt = s.xpt := rfl
@[simp] theorem State.bump_str (s : State) : s.bump.str = s.str := rfl
@[simp] theorem State.bump_nvme (s : State) : s.bump.nvme = s.nvme := rfl
@[simp] theorem State.bump_ckp (s : State) : s.bump.ckp = s.ckp := rfl
@[simp] theorem State.bump_sec (s : State) : s.bump.sec = s.sec := rfl
@[simp] theorem State.bump_fwm (s : State) : s.bump.fwm = s.fwm := rfl
@[simp] theorem State.bump_pwr (s : State) : s.bump.pwr = s.pwr := rfl
@[simp] theorem State.bump_brd (s : State) : s.bump.brd = s.brd := rfl
@[simp] theorem State.bump_tel (s : State) : s.bump.tel = s.tel := rfl
@[simp] theorem State.bump_host_fns (s : State) : s.bump.host.fns = s.host.fns := rfl
@[simp] theorem State.bump_host_ports (s : State) : s.bump.host.ports = s.host.ports := rfl
@[simp] theorem State.bump_host_spokes (s : State) : s.bump.host.spokes = s.host.spokes := rfl
@[simp] theorem State.bump_host_queues (s : State) : s.bump.host.queues = s.host.queues := rfl
@[simp] theorem State.bump_host_ops (s : State) : s.bump.host.ops = s.host.ops := rfl
@[simp] theorem State.bump_host_nextOp (s : State) : s.bump.host.nextOp = s.host.nextOp := rfl
@[simp] theorem State.bump_host_reqs (s : State) : s.bump.host.reqs = s.host.reqs := rfl
@[simp] theorem State.bump_host_pageReqs (s : State) : s.bump.host.pageReqs = s.host.pageReqs := rfl
@[simp] theorem State.bump_host_atc (s : State) : s.bump.host.atc = s.host.atc := rfl
@[simp] theorem State.bump_host_winReqs (s : State) : s.bump.host.winReqs = s.host.winReqs := rfl
@[simp] theorem State.bump_host_nextWin (s : State) : s.bump.host.nextWin = s.host.nextWin := rfl
@[simp] theorem State.bump_host_cursors (s : State) : s.bump.host.cursors = s.host.cursors := rfl
@[simp] theorem State.bump_host_asyncs (s : State) : s.bump.host.asyncs = s.host.asyncs := rfl

/-! ### rput -/

@[simp] theorem State.rput_pending (s : State) (off v : Nat) : (s.rput off v).pending = s.pending := rfl
@[simp] theorem State.rput_now (s : State) (off v : Nat) : (s.rput off v).now = s.now := rfl
@[simp] theorem State.rput_freeCtr (s : State) (off v : Nat) : (s.rput off v).freeCtr = s.freeCtr := rfl
@[simp] theorem State.rput_out (s : State) (off v : Nat) : (s.rput off v).out = s.out := rfl
@[simp] theorem State.rput_host (s : State) (off v : Nat) : (s.rput off v).host = s.host := rfl
@[simp] theorem State.rput_trg (s : State) (off v : Nat) : (s.rput off v).trg = s.trg := rfl
@[simp] theorem State.rput_mem (s : State) (off v : Nat) : (s.rput off v).mem = s.mem := rfl
@[simp] theorem State.rput_net (s : State) (off v : Nat) : (s.rput off v).net = s.net := rfl
@[simp] theorem State.rput_sch (s : State) (off v : Nat) : (s.rput off v).sch = s.sch := rfl
@[simp] theorem State.rput_xpt (s : State) (off v : Nat) : (s.rput off v).xpt = s.xpt := rfl
@[simp] theorem State.rput_str (s : State) (off v : Nat) : (s.rput off v).str = s.str := rfl
@[simp] theorem State.rput_nvme (s : State) (off v : Nat) : (s.rput off v).nvme = s.nvme := rfl
@[simp] theorem State.rput_ckp (s : State) (off v : Nat) : (s.rput off v).ckp = s.ckp := rfl
@[simp] theorem State.rput_sec (s : State) (off v : Nat) : (s.rput off v).sec = s.sec := rfl
@[simp] theorem State.rput_fwm (s : State) (off v : Nat) : (s.rput off v).fwm = s.fwm := rfl
@[simp] theorem State.rput_pwr (s : State) (off v : Nat) : (s.rput off v).pwr = s.pwr := rfl
@[simp] theorem State.rput_brd (s : State) (off v : Nat) : (s.rput off v).brd = s.brd := rfl
@[simp] theorem State.rput_tel (s : State) (off v : Nat) : (s.rput off v).tel = s.tel := rfl

/-! ### rset -/

@[simp] theorem State.rset_pending (s : State) (off hi lo v : Nat) : (s.rset off hi lo v).pending = s.pending := rfl
@[simp] theorem State.rset_now (s : State) (off hi lo v : Nat) : (s.rset off hi lo v).now = s.now := rfl
@[simp] theorem State.rset_freeCtr (s : State) (off hi lo v : Nat) : (s.rset off hi lo v).freeCtr = s.freeCtr := rfl
@[simp] theorem State.rset_out (s : State) (off hi lo v : Nat) : (s.rset off hi lo v).out = s.out := rfl
@[simp] theorem State.rset_host (s : State) (off hi lo v : Nat) : (s.rset off hi lo v).host = s.host := rfl
@[simp] theorem State.rset_trg (s : State) (off hi lo v : Nat) : (s.rset off hi lo v).trg = s.trg := rfl
@[simp] theorem State.rset_mem (s : State) (off hi lo v : Nat) : (s.rset off hi lo v).mem = s.mem := rfl
@[simp] theorem State.rset_net (s : State) (off hi lo v : Nat) : (s.rset off hi lo v).net = s.net := rfl
@[simp] theorem State.rset_sch (s : State) (off hi lo v : Nat) : (s.rset off hi lo v).sch = s.sch := rfl
@[simp] theorem State.rset_xpt (s : State) (off hi lo v : Nat) : (s.rset off hi lo v).xpt = s.xpt := rfl
@[simp] theorem State.rset_str (s : State) (off hi lo v : Nat) : (s.rset off hi lo v).str = s.str := rfl
@[simp] theorem State.rset_nvme (s : State) (off hi lo v : Nat) : (s.rset off hi lo v).nvme = s.nvme := rfl
@[simp] theorem State.rset_ckp (s : State) (off hi lo v : Nat) : (s.rset off hi lo v).ckp = s.ckp := rfl
@[simp] theorem State.rset_sec (s : State) (off hi lo v : Nat) : (s.rset off hi lo v).sec = s.sec := rfl
@[simp] theorem State.rset_fwm (s : State) (off hi lo v : Nat) : (s.rset off hi lo v).fwm = s.fwm := rfl
@[simp] theorem State.rset_pwr (s : State) (off hi lo v : Nat) : (s.rset off hi lo v).pwr = s.pwr := rfl
@[simp] theorem State.rset_brd (s : State) (off hi lo v : Nat) : (s.rset off hi lo v).brd = s.brd := rfl
@[simp] theorem State.rset_tel (s : State) (off hi lo v : Nat) : (s.rset off hi lo v).tel = s.tel := rfl

/-! ### rsat -/

@[simp] theorem State.rsat_pending (s : State) (off hi lo n : Nat) : (s.rsat off hi lo n).pending = s.pending := rfl
@[simp] theorem State.rsat_now (s : State) (off hi lo n : Nat) : (s.rsat off hi lo n).now = s.now := rfl
@[simp] theorem State.rsat_freeCtr (s : State) (off hi lo n : Nat) : (s.rsat off hi lo n).freeCtr = s.freeCtr := rfl
@[simp] theorem State.rsat_out (s : State) (off hi lo n : Nat) : (s.rsat off hi lo n).out = s.out := rfl
@[simp] theorem State.rsat_host (s : State) (off hi lo n : Nat) : (s.rsat off hi lo n).host = s.host := rfl
@[simp] theorem State.rsat_trg (s : State) (off hi lo n : Nat) : (s.rsat off hi lo n).trg = s.trg := rfl
@[simp] theorem State.rsat_mem (s : State) (off hi lo n : Nat) : (s.rsat off hi lo n).mem = s.mem := rfl
@[simp] theorem State.rsat_net (s : State) (off hi lo n : Nat) : (s.rsat off hi lo n).net = s.net := rfl
@[simp] theorem State.rsat_sch (s : State) (off hi lo n : Nat) : (s.rsat off hi lo n).sch = s.sch := rfl
@[simp] theorem State.rsat_xpt (s : State) (off hi lo n : Nat) : (s.rsat off hi lo n).xpt = s.xpt := rfl
@[simp] theorem State.rsat_str (s : State) (off hi lo n : Nat) : (s.rsat off hi lo n).str = s.str := rfl
@[simp] theorem State.rsat_nvme (s : State) (off hi lo n : Nat) : (s.rsat off hi lo n).nvme = s.nvme := rfl
@[simp] theorem State.rsat_ckp (s : State) (off hi lo n : Nat) : (s.rsat off hi lo n).ckp = s.ckp := rfl
@[simp] theorem State.rsat_sec (s : State) (off hi lo n : Nat) : (s.rsat off hi lo n).sec = s.sec := rfl
@[simp] theorem State.rsat_fwm (s : State) (off hi lo n : Nat) : (s.rsat off hi lo n).fwm = s.fwm := rfl
@[simp] theorem State.rsat_pwr (s : State) (off hi lo n : Nat) : (s.rsat off hi lo n).pwr = s.pwr := rfl
@[simp] theorem State.rsat_brd (s : State) (off hi lo n : Nat) : (s.rsat off hi lo n).brd = s.brd := rfl
@[simp] theorem State.rsat_tel (s : State) (off hi lo n : Nat) : (s.rsat off hi lo n).tel = s.tel := rfl

/-! ### sample -/

@[simp] theorem State.sample_pending (s : State) (c t : Nat) : (s.sample c t).pending = s.pending := rfl
@[simp] theorem State.sample_now (s : State) (c t : Nat) : (s.sample c t).now = s.now := rfl
@[simp] theorem State.sample_freeCtr (s : State) (c t : Nat) : (s.sample c t).freeCtr = s.freeCtr := rfl
@[simp] theorem State.sample_out (s : State) (c t : Nat) : (s.sample c t).out = s.out := rfl
@[simp] theorem State.sample_host (s : State) (c t : Nat) : (s.sample c t).host = s.host := rfl
@[simp] theorem State.sample_trg (s : State) (c t : Nat) : (s.sample c t).trg = s.trg := rfl
@[simp] theorem State.sample_mem (s : State) (c t : Nat) : (s.sample c t).mem = s.mem := rfl
@[simp] theorem State.sample_net (s : State) (c t : Nat) : (s.sample c t).net = s.net := rfl
@[simp] theorem State.sample_sch (s : State) (c t : Nat) : (s.sample c t).sch = s.sch := rfl
@[simp] theorem State.sample_xpt (s : State) (c t : Nat) : (s.sample c t).xpt = s.xpt := rfl
@[simp] theorem State.sample_str (s : State) (c t : Nat) : (s.sample c t).str = s.str := rfl
@[simp] theorem State.sample_nvme (s : State) (c t : Nat) : (s.sample c t).nvme = s.nvme := rfl
@[simp] theorem State.sample_ckp (s : State) (c t : Nat) : (s.sample c t).ckp = s.ckp := rfl
@[simp] theorem State.sample_sec (s : State) (c t : Nat) : (s.sample c t).sec = s.sec := rfl
@[simp] theorem State.sample_fwm (s : State) (c t : Nat) : (s.sample c t).fwm = s.fwm := rfl
@[simp] theorem State.sample_pwr (s : State) (c t : Nat) : (s.sample c t).pwr = s.pwr := rfl
@[simp] theorem State.sample_brd (s : State) (c t : Nat) : (s.sample c t).brd = s.brd := rfl
@[simp] theorem State.sample_tel (s : State) (c t : Nat) : (s.sample c t).tel = s.tel := rfl

/-! ### badAccess -/

@[simp] theorem State.badAccess_pending (s : State) (k f : Nat) : (s.badAccess k f).pending = s.pending := rfl
@[simp] theorem State.badAccess_now (s : State) (k f : Nat) : (s.badAccess k f).now = s.now := rfl
@[simp] theorem State.badAccess_freeCtr (s : State) (k f : Nat) : (s.badAccess k f).freeCtr = s.freeCtr := rfl
@[simp] theorem State.badAccess_out (s : State) (k f : Nat) : (s.badAccess k f).out = s.out := rfl
@[simp] theorem State.badAccess_host (s : State) (k f : Nat) : (s.badAccess k f).host = s.host := rfl
@[simp] theorem State.badAccess_trg (s : State) (k f : Nat) : (s.badAccess k f).trg = s.trg := rfl
@[simp] theorem State.badAccess_mem (s : State) (k f : Nat) : (s.badAccess k f).mem = s.mem := rfl
@[simp] theorem State.badAccess_net (s : State) (k f : Nat) : (s.badAccess k f).net = s.net := rfl
@[simp] theorem State.badAccess_sch (s : State) (k f : Nat) : (s.badAccess k f).sch = s.sch := rfl
@[simp] theorem State.badAccess_xpt (s : State) (k f : Nat) : (s.badAccess k f).xpt = s.xpt := rfl
@[simp] theorem State.badAccess_str (s : State) (k f : Nat) : (s.badAccess k f).str = s.str := rfl
@[simp] theorem State.badAccess_nvme (s : State) (k f : Nat) : (s.badAccess k f).nvme = s.nvme := rfl
@[simp] theorem State.badAccess_ckp (s : State) (k f : Nat) : (s.badAccess k f).ckp = s.ckp := rfl
@[simp] theorem State.badAccess_sec (s : State) (k f : Nat) : (s.badAccess k f).sec = s.sec := rfl
@[simp] theorem State.badAccess_fwm (s : State) (k f : Nat) : (s.badAccess k f).fwm = s.fwm := rfl
@[simp] theorem State.badAccess_pwr (s : State) (k f : Nat) : (s.badAccess k f).pwr = s.pwr := rfl
@[simp] theorem State.badAccess_brd (s : State) (k f : Nat) : (s.badAccess k f).brd = s.brd := rfl
@[simp] theorem State.badAccess_tel (s : State) (k f : Nat) : (s.badAccess k f).tel = s.tel := rfl

/-! ### setFn -/

@[simp] theorem State.setFn_pending (s : State) (f : Nat) (x : FnState) : (s.setFn f x).pending = s.pending := rfl
@[simp] theorem State.setFn_now (s : State) (f : Nat) (x : FnState) : (s.setFn f x).now = s.now := rfl
@[simp] theorem State.setFn_freeCtr (s : State) (f : Nat) (x : FnState) : (s.setFn f x).freeCtr = s.freeCtr := rfl
@[simp] theorem State.setFn_regs (s : State) (f : Nat) (x : FnState) : (s.setFn f x).regs = s.regs := rfl
@[simp] theorem State.setFn_out (s : State) (f : Nat) (x : FnState) : (s.setFn f x).out = s.out := rfl
@[simp] theorem State.setFn_trg (s : State) (f : Nat) (x : FnState) : (s.setFn f x).trg = s.trg := rfl
@[simp] theorem State.setFn_mem (s : State) (f : Nat) (x : FnState) : (s.setFn f x).mem = s.mem := rfl
@[simp] theorem State.setFn_net (s : State) (f : Nat) (x : FnState) : (s.setFn f x).net = s.net := rfl
@[simp] theorem State.setFn_sch (s : State) (f : Nat) (x : FnState) : (s.setFn f x).sch = s.sch := rfl
@[simp] theorem State.setFn_xpt (s : State) (f : Nat) (x : FnState) : (s.setFn f x).xpt = s.xpt := rfl
@[simp] theorem State.setFn_str (s : State) (f : Nat) (x : FnState) : (s.setFn f x).str = s.str := rfl
@[simp] theorem State.setFn_nvme (s : State) (f : Nat) (x : FnState) : (s.setFn f x).nvme = s.nvme := rfl
@[simp] theorem State.setFn_ckp (s : State) (f : Nat) (x : FnState) : (s.setFn f x).ckp = s.ckp := rfl
@[simp] theorem State.setFn_sec (s : State) (f : Nat) (x : FnState) : (s.setFn f x).sec = s.sec := rfl
@[simp] theorem State.setFn_fwm (s : State) (f : Nat) (x : FnState) : (s.setFn f x).fwm = s.fwm := rfl
@[simp] theorem State.setFn_pwr (s : State) (f : Nat) (x : FnState) : (s.setFn f x).pwr = s.pwr := rfl
@[simp] theorem State.setFn_brd (s : State) (f : Nat) (x : FnState) : (s.setFn f x).brd = s.brd := rfl
@[simp] theorem State.setFn_tel (s : State) (f : Nat) (x : FnState) : (s.setFn f x).tel = s.tel := rfl
@[simp] theorem State.setFn_host_ports (s : State) (f : Nat) (x : FnState) : (s.setFn f x).host.ports = s.host.ports := rfl
@[simp] theorem State.setFn_host_spokes (s : State) (f : Nat) (x : FnState) : (s.setFn f x).host.spokes = s.host.spokes := rfl
@[simp] theorem State.setFn_host_queues (s : State) (f : Nat) (x : FnState) : (s.setFn f x).host.queues = s.host.queues := rfl
@[simp] theorem State.setFn_host_ops (s : State) (f : Nat) (x : FnState) : (s.setFn f x).host.ops = s.host.ops := rfl
@[simp] theorem State.setFn_host_nextOp (s : State) (f : Nat) (x : FnState) : (s.setFn f x).host.nextOp = s.host.nextOp := rfl
@[simp] theorem State.setFn_host_reqs (s : State) (f : Nat) (x : FnState) : (s.setFn f x).host.reqs = s.host.reqs := rfl
@[simp] theorem State.setFn_host_pageReqs (s : State) (f : Nat) (x : FnState) : (s.setFn f x).host.pageReqs = s.host.pageReqs := rfl
@[simp] theorem State.setFn_host_atc (s : State) (f : Nat) (x : FnState) : (s.setFn f x).host.atc = s.host.atc := rfl
@[simp] theorem State.setFn_host_winReqs (s : State) (f : Nat) (x : FnState) : (s.setFn f x).host.winReqs = s.host.winReqs := rfl
@[simp] theorem State.setFn_host_nextWin (s : State) (f : Nat) (x : FnState) : (s.setFn f x).host.nextWin = s.host.nextWin := rfl
@[simp] theorem State.setFn_host_cursors (s : State) (f : Nat) (x : FnState) : (s.setFn f x).host.cursors = s.host.cursors := rfl
@[simp] theorem State.setFn_host_asyncs (s : State) (f : Nat) (x : FnState) : (s.setFn f x).host.asyncs = s.host.asyncs := rfl
@[simp] theorem State.setFn_host_epoch (s : State) (f : Nat) (x : FnState) : (s.setFn f x).host.epoch = s.host.epoch := rfl

/-! ### modFn -/

@[simp] theorem State.modFn_pending (s : State) (f : Nat) (g : FnState → FnState) : (s.modFn f g).pending = s.pending := rfl
@[simp] theorem State.modFn_now (s : State) (f : Nat) (g : FnState → FnState) : (s.modFn f g).now = s.now := rfl
@[simp] theorem State.modFn_freeCtr (s : State) (f : Nat) (g : FnState → FnState) : (s.modFn f g).freeCtr = s.freeCtr := rfl
@[simp] theorem State.modFn_regs (s : State) (f : Nat) (g : FnState → FnState) : (s.modFn f g).regs = s.regs := rfl
@[simp] theorem State.modFn_out (s : State) (f : Nat) (g : FnState → FnState) : (s.modFn f g).out = s.out := rfl
@[simp] theorem State.modFn_trg (s : State) (f : Nat) (g : FnState → FnState) : (s.modFn f g).trg = s.trg := rfl
@[simp] theorem State.modFn_mem (s : State) (f : Nat) (g : FnState → FnState) : (s.modFn f g).mem = s.mem := rfl
@[simp] theorem State.modFn_net (s : State) (f : Nat) (g : FnState → FnState) : (s.modFn f g).net = s.net := rfl
@[simp] theorem State.modFn_sch (s : State) (f : Nat) (g : FnState → FnState) : (s.modFn f g).sch = s.sch := rfl
@[simp] theorem State.modFn_xpt (s : State) (f : Nat) (g : FnState → FnState) : (s.modFn f g).xpt = s.xpt := rfl
@[simp] theorem State.modFn_str (s : State) (f : Nat) (g : FnState → FnState) : (s.modFn f g).str = s.str := rfl
@[simp] theorem State.modFn_nvme (s : State) (f : Nat) (g : FnState → FnState) : (s.modFn f g).nvme = s.nvme := rfl
@[simp] theorem State.modFn_ckp (s : State) (f : Nat) (g : FnState → FnState) : (s.modFn f g).ckp = s.ckp := rfl
@[simp] theorem State.modFn_sec (s : State) (f : Nat) (g : FnState → FnState) : (s.modFn f g).sec = s.sec := rfl
@[simp] theorem State.modFn_fwm (s : State) (f : Nat) (g : FnState → FnState) : (s.modFn f g).fwm = s.fwm := rfl
@[simp] theorem State.modFn_pwr (s : State) (f : Nat) (g : FnState → FnState) : (s.modFn f g).pwr = s.pwr := rfl
@[simp] theorem State.modFn_brd (s : State) (f : Nat) (g : FnState → FnState) : (s.modFn f g).brd = s.brd := rfl
@[simp] theorem State.modFn_tel (s : State) (f : Nat) (g : FnState → FnState) : (s.modFn f g).tel = s.tel := rfl
@[simp] theorem State.modFn_host_ports (s : State) (f : Nat) (g : FnState → FnState) : (s.modFn f g).host.ports = s.host.ports := rfl
@[simp] theorem State.modFn_host_spokes (s : State) (f : Nat) (g : FnState → FnState) : (s.modFn f g).host.spokes = s.host.spokes := rfl
@[simp] theorem State.modFn_host_queues (s : State) (f : Nat) (g : FnState → FnState) : (s.modFn f g).host.queues = s.host.queues := rfl
@[simp] theorem State.modFn_host_ops (s : State) (f : Nat) (g : FnState → FnState) : (s.modFn f g).host.ops = s.host.ops := rfl
@[simp] theorem State.modFn_host_nextOp (s : State) (f : Nat) (g : FnState → FnState) : (s.modFn f g).host.nextOp = s.host.nextOp := rfl
@[simp] theorem State.modFn_host_reqs (s : State) (f : Nat) (g : FnState → FnState) : (s.modFn f g).host.reqs = s.host.reqs := rfl
@[simp] theorem State.modFn_host_pageReqs (s : State) (f : Nat) (g : FnState → FnState) : (s.modFn f g).host.pageReqs = s.host.pageReqs := rfl
@[simp] theorem State.modFn_host_atc (s : State) (f : Nat) (g : FnState → FnState) : (s.modFn f g).host.atc = s.host.atc := rfl
@[simp] theorem State.modFn_host_winReqs (s : State) (f : Nat) (g : FnState → FnState) : (s.modFn f g).host.winReqs = s.host.winReqs := rfl
@[simp] theorem State.modFn_host_nextWin (s : State) (f : Nat) (g : FnState → FnState) : (s.modFn f g).host.nextWin = s.host.nextWin := rfl
@[simp] theorem State.modFn_host_cursors (s : State) (f : Nat) (g : FnState → FnState) : (s.modFn f g).host.cursors = s.host.cursors := rfl
@[simp] theorem State.modFn_host_asyncs (s : State) (f : Nat) (g : FnState → FnState) : (s.modFn f g).host.asyncs = s.host.asyncs := rfl
@[simp] theorem State.modFn_host_epoch (s : State) (f : Nat) (g : FnState → FnState) : (s.modFn f g).host.epoch = s.host.epoch := rfl

/-! ### setPort -/

@[simp] theorem State.setPort_pending (s : State) (q : Nat) (x : Port) : (s.setPort q x).pending = s.pending := rfl
@[simp] theorem State.setPort_now (s : State) (q : Nat) (x : Port) : (s.setPort q x).now = s.now := rfl
@[simp] theorem State.setPort_freeCtr (s : State) (q : Nat) (x : Port) : (s.setPort q x).freeCtr = s.freeCtr := rfl
@[simp] theorem State.setPort_regs (s : State) (q : Nat) (x : Port) : (s.setPort q x).regs = s.regs := rfl
@[simp] theorem State.setPort_out (s : State) (q : Nat) (x : Port) : (s.setPort q x).out = s.out := rfl
@[simp] theorem State.setPort_trg (s : State) (q : Nat) (x : Port) : (s.setPort q x).trg = s.trg := rfl
@[simp] theorem State.setPort_mem (s : State) (q : Nat) (x : Port) : (s.setPort q x).mem = s.mem := rfl
@[simp] theorem State.setPort_net (s : State) (q : Nat) (x : Port) : (s.setPort q x).net = s.net := rfl
@[simp] theorem State.setPort_sch (s : State) (q : Nat) (x : Port) : (s.setPort q x).sch = s.sch := rfl
@[simp] theorem State.setPort_xpt (s : State) (q : Nat) (x : Port) : (s.setPort q x).xpt = s.xpt := rfl
@[simp] theorem State.setPort_str (s : State) (q : Nat) (x : Port) : (s.setPort q x).str = s.str := rfl
@[simp] theorem State.setPort_nvme (s : State) (q : Nat) (x : Port) : (s.setPort q x).nvme = s.nvme := rfl
@[simp] theorem State.setPort_ckp (s : State) (q : Nat) (x : Port) : (s.setPort q x).ckp = s.ckp := rfl
@[simp] theorem State.setPort_sec (s : State) (q : Nat) (x : Port) : (s.setPort q x).sec = s.sec := rfl
@[simp] theorem State.setPort_fwm (s : State) (q : Nat) (x : Port) : (s.setPort q x).fwm = s.fwm := rfl
@[simp] theorem State.setPort_pwr (s : State) (q : Nat) (x : Port) : (s.setPort q x).pwr = s.pwr := rfl
@[simp] theorem State.setPort_brd (s : State) (q : Nat) (x : Port) : (s.setPort q x).brd = s.brd := rfl
@[simp] theorem State.setPort_tel (s : State) (q : Nat) (x : Port) : (s.setPort q x).tel = s.tel := rfl
@[simp] theorem State.setPort_host_fns (s : State) (q : Nat) (x : Port) : (s.setPort q x).host.fns = s.host.fns := rfl
@[simp] theorem State.setPort_host_spokes (s : State) (q : Nat) (x : Port) : (s.setPort q x).host.spokes = s.host.spokes := rfl
@[simp] theorem State.setPort_host_queues (s : State) (q : Nat) (x : Port) : (s.setPort q x).host.queues = s.host.queues := rfl
@[simp] theorem State.setPort_host_ops (s : State) (q : Nat) (x : Port) : (s.setPort q x).host.ops = s.host.ops := rfl
@[simp] theorem State.setPort_host_nextOp (s : State) (q : Nat) (x : Port) : (s.setPort q x).host.nextOp = s.host.nextOp := rfl
@[simp] theorem State.setPort_host_reqs (s : State) (q : Nat) (x : Port) : (s.setPort q x).host.reqs = s.host.reqs := rfl
@[simp] theorem State.setPort_host_pageReqs (s : State) (q : Nat) (x : Port) : (s.setPort q x).host.pageReqs = s.host.pageReqs := rfl
@[simp] theorem State.setPort_host_atc (s : State) (q : Nat) (x : Port) : (s.setPort q x).host.atc = s.host.atc := rfl
@[simp] theorem State.setPort_host_winReqs (s : State) (q : Nat) (x : Port) : (s.setPort q x).host.winReqs = s.host.winReqs := rfl
@[simp] theorem State.setPort_host_nextWin (s : State) (q : Nat) (x : Port) : (s.setPort q x).host.nextWin = s.host.nextWin := rfl
@[simp] theorem State.setPort_host_cursors (s : State) (q : Nat) (x : Port) : (s.setPort q x).host.cursors = s.host.cursors := rfl
@[simp] theorem State.setPort_host_asyncs (s : State) (q : Nat) (x : Port) : (s.setPort q x).host.asyncs = s.host.asyncs := rfl
@[simp] theorem State.setPort_host_epoch (s : State) (q : Nat) (x : Port) : (s.setPort q x).host.epoch = s.host.epoch := rfl

/-! ### modPort -/

@[simp] theorem State.modPort_pending (s : State) (q : Nat) (g : Port → Port) : (s.modPort q g).pending = s.pending := rfl
@[simp] theorem State.modPort_now (s : State) (q : Nat) (g : Port → Port) : (s.modPort q g).now = s.now := rfl
@[simp] theorem State.modPort_freeCtr (s : State) (q : Nat) (g : Port → Port) : (s.modPort q g).freeCtr = s.freeCtr := rfl
@[simp] theorem State.modPort_regs (s : State) (q : Nat) (g : Port → Port) : (s.modPort q g).regs = s.regs := rfl
@[simp] theorem State.modPort_out (s : State) (q : Nat) (g : Port → Port) : (s.modPort q g).out = s.out := rfl
@[simp] theorem State.modPort_trg (s : State) (q : Nat) (g : Port → Port) : (s.modPort q g).trg = s.trg := rfl
@[simp] theorem State.modPort_mem (s : State) (q : Nat) (g : Port → Port) : (s.modPort q g).mem = s.mem := rfl
@[simp] theorem State.modPort_net (s : State) (q : Nat) (g : Port → Port) : (s.modPort q g).net = s.net := rfl
@[simp] theorem State.modPort_sch (s : State) (q : Nat) (g : Port → Port) : (s.modPort q g).sch = s.sch := rfl
@[simp] theorem State.modPort_xpt (s : State) (q : Nat) (g : Port → Port) : (s.modPort q g).xpt = s.xpt := rfl
@[simp] theorem State.modPort_str (s : State) (q : Nat) (g : Port → Port) : (s.modPort q g).str = s.str := rfl
@[simp] theorem State.modPort_nvme (s : State) (q : Nat) (g : Port → Port) : (s.modPort q g).nvme = s.nvme := rfl
@[simp] theorem State.modPort_ckp (s : State) (q : Nat) (g : Port → Port) : (s.modPort q g).ckp = s.ckp := rfl
@[simp] theorem State.modPort_sec (s : State) (q : Nat) (g : Port → Port) : (s.modPort q g).sec = s.sec := rfl
@[simp] theorem State.modPort_fwm (s : State) (q : Nat) (g : Port → Port) : (s.modPort q g).fwm = s.fwm := rfl
@[simp] theorem State.modPort_pwr (s : State) (q : Nat) (g : Port → Port) : (s.modPort q g).pwr = s.pwr := rfl
@[simp] theorem State.modPort_brd (s : State) (q : Nat) (g : Port → Port) : (s.modPort q g).brd = s.brd := rfl
@[simp] theorem State.modPort_tel (s : State) (q : Nat) (g : Port → Port) : (s.modPort q g).tel = s.tel := rfl
@[simp] theorem State.modPort_host_fns (s : State) (q : Nat) (g : Port → Port) : (s.modPort q g).host.fns = s.host.fns := rfl
@[simp] theorem State.modPort_host_spokes (s : State) (q : Nat) (g : Port → Port) : (s.modPort q g).host.spokes = s.host.spokes := rfl
@[simp] theorem State.modPort_host_queues (s : State) (q : Nat) (g : Port → Port) : (s.modPort q g).host.queues = s.host.queues := rfl
@[simp] theorem State.modPort_host_ops (s : State) (q : Nat) (g : Port → Port) : (s.modPort q g).host.ops = s.host.ops := rfl
@[simp] theorem State.modPort_host_nextOp (s : State) (q : Nat) (g : Port → Port) : (s.modPort q g).host.nextOp = s.host.nextOp := rfl
@[simp] theorem State.modPort_host_reqs (s : State) (q : Nat) (g : Port → Port) : (s.modPort q g).host.reqs = s.host.reqs := rfl
@[simp] theorem State.modPort_host_pageReqs (s : State) (q : Nat) (g : Port → Port) : (s.modPort q g).host.pageReqs = s.host.pageReqs := rfl
@[simp] theorem State.modPort_host_atc (s : State) (q : Nat) (g : Port → Port) : (s.modPort q g).host.atc = s.host.atc := rfl
@[simp] theorem State.modPort_host_winReqs (s : State) (q : Nat) (g : Port → Port) : (s.modPort q g).host.winReqs = s.host.winReqs := rfl
@[simp] theorem State.modPort_host_nextWin (s : State) (q : Nat) (g : Port → Port) : (s.modPort q g).host.nextWin = s.host.nextWin := rfl
@[simp] theorem State.modPort_host_cursors (s : State) (q : Nat) (g : Port → Port) : (s.modPort q g).host.cursors = s.host.cursors := rfl
@[simp] theorem State.modPort_host_asyncs (s : State) (q : Nat) (g : Port → Port) : (s.modPort q g).host.asyncs = s.host.asyncs := rfl
@[simp] theorem State.modPort_host_epoch (s : State) (q : Nat) (g : Port → Port) : (s.modPort q g).host.epoch = s.host.epoch := rfl

/-! ### modSpoke -/

@[simp] theorem State.modSpoke_pending (s : State) (k : Nat) (g : Spoke → Spoke) : (s.modSpoke k g).pending = s.pending := rfl
@[simp] theorem State.modSpoke_now (s : State) (k : Nat) (g : Spoke → Spoke) : (s.modSpoke k g).now = s.now := rfl
@[simp] theorem State.modSpoke_freeCtr (s : State) (k : Nat) (g : Spoke → Spoke) : (s.modSpoke k g).freeCtr = s.freeCtr := rfl
@[simp] theorem State.modSpoke_regs (s : State) (k : Nat) (g : Spoke → Spoke) : (s.modSpoke k g).regs = s.regs := rfl
@[simp] theorem State.modSpoke_out (s : State) (k : Nat) (g : Spoke → Spoke) : (s.modSpoke k g).out = s.out := rfl
@[simp] theorem State.modSpoke_trg (s : State) (k : Nat) (g : Spoke → Spoke) : (s.modSpoke k g).trg = s.trg := rfl
@[simp] theorem State.modSpoke_mem (s : State) (k : Nat) (g : Spoke → Spoke) : (s.modSpoke k g).mem = s.mem := rfl
@[simp] theorem State.modSpoke_net (s : State) (k : Nat) (g : Spoke → Spoke) : (s.modSpoke k g).net = s.net := rfl
@[simp] theorem State.modSpoke_sch (s : State) (k : Nat) (g : Spoke → Spoke) : (s.modSpoke k g).sch = s.sch := rfl
@[simp] theorem State.modSpoke_xpt (s : State) (k : Nat) (g : Spoke → Spoke) : (s.modSpoke k g).xpt = s.xpt := rfl
@[simp] theorem State.modSpoke_str (s : State) (k : Nat) (g : Spoke → Spoke) : (s.modSpoke k g).str = s.str := rfl
@[simp] theorem State.modSpoke_nvme (s : State) (k : Nat) (g : Spoke → Spoke) : (s.modSpoke k g).nvme = s.nvme := rfl
@[simp] theorem State.modSpoke_ckp (s : State) (k : Nat) (g : Spoke → Spoke) : (s.modSpoke k g).ckp = s.ckp := rfl
@[simp] theorem State.modSpoke_sec (s : State) (k : Nat) (g : Spoke → Spoke) : (s.modSpoke k g).sec = s.sec := rfl
@[simp] theorem State.modSpoke_fwm (s : State) (k : Nat) (g : Spoke → Spoke) : (s.modSpoke k g).fwm = s.fwm := rfl
@[simp] theorem State.modSpoke_pwr (s : State) (k : Nat) (g : Spoke → Spoke) : (s.modSpoke k g).pwr = s.pwr := rfl
@[simp] theorem State.modSpoke_brd (s : State) (k : Nat) (g : Spoke → Spoke) : (s.modSpoke k g).brd = s.brd := rfl
@[simp] theorem State.modSpoke_tel (s : State) (k : Nat) (g : Spoke → Spoke) : (s.modSpoke k g).tel = s.tel := rfl
@[simp] theorem State.modSpoke_host_fns (s : State) (k : Nat) (g : Spoke → Spoke) : (s.modSpoke k g).host.fns = s.host.fns := rfl
@[simp] theorem State.modSpoke_host_ports (s : State) (k : Nat) (g : Spoke → Spoke) : (s.modSpoke k g).host.ports = s.host.ports := rfl
@[simp] theorem State.modSpoke_host_queues (s : State) (k : Nat) (g : Spoke → Spoke) : (s.modSpoke k g).host.queues = s.host.queues := rfl
@[simp] theorem State.modSpoke_host_ops (s : State) (k : Nat) (g : Spoke → Spoke) : (s.modSpoke k g).host.ops = s.host.ops := rfl
@[simp] theorem State.modSpoke_host_nextOp (s : State) (k : Nat) (g : Spoke → Spoke) : (s.modSpoke k g).host.nextOp = s.host.nextOp := rfl
@[simp] theorem State.modSpoke_host_reqs (s : State) (k : Nat) (g : Spoke → Spoke) : (s.modSpoke k g).host.reqs = s.host.reqs := rfl
@[simp] theorem State.modSpoke_host_pageReqs (s : State) (k : Nat) (g : Spoke → Spoke) : (s.modSpoke k g).host.pageReqs = s.host.pageReqs := rfl
@[simp] theorem State.modSpoke_host_atc (s : State) (k : Nat) (g : Spoke → Spoke) : (s.modSpoke k g).host.atc = s.host.atc := rfl
@[simp] theorem State.modSpoke_host_winReqs (s : State) (k : Nat) (g : Spoke → Spoke) : (s.modSpoke k g).host.winReqs = s.host.winReqs := rfl
@[simp] theorem State.modSpoke_host_nextWin (s : State) (k : Nat) (g : Spoke → Spoke) : (s.modSpoke k g).host.nextWin = s.host.nextWin := rfl
@[simp] theorem State.modSpoke_host_cursors (s : State) (k : Nat) (g : Spoke → Spoke) : (s.modSpoke k g).host.cursors = s.host.cursors := rfl
@[simp] theorem State.modSpoke_host_asyncs (s : State) (k : Nat) (g : Spoke → Spoke) : (s.modSpoke k g).host.asyncs = s.host.asyncs := rfl
@[simp] theorem State.modSpoke_host_epoch (s : State) (k : Nat) (g : Spoke → Spoke) : (s.modSpoke k g).host.epoch = s.host.epoch := rfl

/-! ### setQueue -/

@[simp] theorem State.setQueue_pending (s : State) (q : Nat) (x : Queue) : (s.setQueue q x).pending = s.pending := rfl
@[simp] theorem State.setQueue_now (s : State) (q : Nat) (x : Queue) : (s.setQueue q x).now = s.now := rfl
@[simp] theorem State.setQueue_freeCtr (s : State) (q : Nat) (x : Queue) : (s.setQueue q x).freeCtr = s.freeCtr := rfl
@[simp] theorem State.setQueue_regs (s : State) (q : Nat) (x : Queue) : (s.setQueue q x).regs = s.regs := rfl
@[simp] theorem State.setQueue_out (s : State) (q : Nat) (x : Queue) : (s.setQueue q x).out = s.out := rfl
@[simp] theorem State.setQueue_trg (s : State) (q : Nat) (x : Queue) : (s.setQueue q x).trg = s.trg := rfl
@[simp] theorem State.setQueue_mem (s : State) (q : Nat) (x : Queue) : (s.setQueue q x).mem = s.mem := rfl
@[simp] theorem State.setQueue_net (s : State) (q : Nat) (x : Queue) : (s.setQueue q x).net = s.net := rfl
@[simp] theorem State.setQueue_sch (s : State) (q : Nat) (x : Queue) : (s.setQueue q x).sch = s.sch := rfl
@[simp] theorem State.setQueue_xpt (s : State) (q : Nat) (x : Queue) : (s.setQueue q x).xpt = s.xpt := rfl
@[simp] theorem State.setQueue_str (s : State) (q : Nat) (x : Queue) : (s.setQueue q x).str = s.str := rfl
@[simp] theorem State.setQueue_nvme (s : State) (q : Nat) (x : Queue) : (s.setQueue q x).nvme = s.nvme := rfl
@[simp] theorem State.setQueue_ckp (s : State) (q : Nat) (x : Queue) : (s.setQueue q x).ckp = s.ckp := rfl
@[simp] theorem State.setQueue_sec (s : State) (q : Nat) (x : Queue) : (s.setQueue q x).sec = s.sec := rfl
@[simp] theorem State.setQueue_fwm (s : State) (q : Nat) (x : Queue) : (s.setQueue q x).fwm = s.fwm := rfl
@[simp] theorem State.setQueue_pwr (s : State) (q : Nat) (x : Queue) : (s.setQueue q x).pwr = s.pwr := rfl
@[simp] theorem State.setQueue_brd (s : State) (q : Nat) (x : Queue) : (s.setQueue q x).brd = s.brd := rfl
@[simp] theorem State.setQueue_tel (s : State) (q : Nat) (x : Queue) : (s.setQueue q x).tel = s.tel := rfl
@[simp] theorem State.setQueue_host_fns (s : State) (q : Nat) (x : Queue) : (s.setQueue q x).host.fns = s.host.fns := rfl
@[simp] theorem State.setQueue_host_ports (s : State) (q : Nat) (x : Queue) : (s.setQueue q x).host.ports = s.host.ports := rfl
@[simp] theorem State.setQueue_host_spokes (s : State) (q : Nat) (x : Queue) : (s.setQueue q x).host.spokes = s.host.spokes := rfl
@[simp] theorem State.setQueue_host_ops (s : State) (q : Nat) (x : Queue) : (s.setQueue q x).host.ops = s.host.ops := rfl
@[simp] theorem State.setQueue_host_nextOp (s : State) (q : Nat) (x : Queue) : (s.setQueue q x).host.nextOp = s.host.nextOp := rfl
@[simp] theorem State.setQueue_host_reqs (s : State) (q : Nat) (x : Queue) : (s.setQueue q x).host.reqs = s.host.reqs := rfl
@[simp] theorem State.setQueue_host_pageReqs (s : State) (q : Nat) (x : Queue) : (s.setQueue q x).host.pageReqs = s.host.pageReqs := rfl
@[simp] theorem State.setQueue_host_atc (s : State) (q : Nat) (x : Queue) : (s.setQueue q x).host.atc = s.host.atc := rfl
@[simp] theorem State.setQueue_host_winReqs (s : State) (q : Nat) (x : Queue) : (s.setQueue q x).host.winReqs = s.host.winReqs := rfl
@[simp] theorem State.setQueue_host_nextWin (s : State) (q : Nat) (x : Queue) : (s.setQueue q x).host.nextWin = s.host.nextWin := rfl
@[simp] theorem State.setQueue_host_cursors (s : State) (q : Nat) (x : Queue) : (s.setQueue q x).host.cursors = s.host.cursors := rfl
@[simp] theorem State.setQueue_host_asyncs (s : State) (q : Nat) (x : Queue) : (s.setQueue q x).host.asyncs = s.host.asyncs := rfl
@[simp] theorem State.setQueue_host_epoch (s : State) (q : Nat) (x : Queue) : (s.setQueue q x).host.epoch = s.host.epoch := rfl

/-! ### modQueue -/

@[simp] theorem State.modQueue_pending (s : State) (q : Nat) (g : Queue → Queue) : (s.modQueue q g).pending = s.pending := rfl
@[simp] theorem State.modQueue_now (s : State) (q : Nat) (g : Queue → Queue) : (s.modQueue q g).now = s.now := rfl
@[simp] theorem State.modQueue_freeCtr (s : State) (q : Nat) (g : Queue → Queue) : (s.modQueue q g).freeCtr = s.freeCtr := rfl
@[simp] theorem State.modQueue_regs (s : State) (q : Nat) (g : Queue → Queue) : (s.modQueue q g).regs = s.regs := rfl
@[simp] theorem State.modQueue_out (s : State) (q : Nat) (g : Queue → Queue) : (s.modQueue q g).out = s.out := rfl
@[simp] theorem State.modQueue_trg (s : State) (q : Nat) (g : Queue → Queue) : (s.modQueue q g).trg = s.trg := rfl
@[simp] theorem State.modQueue_mem (s : State) (q : Nat) (g : Queue → Queue) : (s.modQueue q g).mem = s.mem := rfl
@[simp] theorem State.modQueue_net (s : State) (q : Nat) (g : Queue → Queue) : (s.modQueue q g).net = s.net := rfl
@[simp] theorem State.modQueue_sch (s : State) (q : Nat) (g : Queue → Queue) : (s.modQueue q g).sch = s.sch := rfl
@[simp] theorem State.modQueue_xpt (s : State) (q : Nat) (g : Queue → Queue) : (s.modQueue q g).xpt = s.xpt := rfl
@[simp] theorem State.modQueue_str (s : State) (q : Nat) (g : Queue → Queue) : (s.modQueue q g).str = s.str := rfl
@[simp] theorem State.modQueue_nvme (s : State) (q : Nat) (g : Queue → Queue) : (s.modQueue q g).nvme = s.nvme := rfl
@[simp] theorem State.modQueue_ckp (s : State) (q : Nat) (g : Queue → Queue) : (s.modQueue q g).ckp = s.ckp := rfl
@[simp] theorem State.modQueue_sec (s : State) (q : Nat) (g : Queue → Queue) : (s.modQueue q g).sec = s.sec := rfl
@[simp] theorem State.modQueue_fwm (s : State) (q : Nat) (g : Queue → Queue) : (s.modQueue q g).fwm = s.fwm := rfl
@[simp] theorem State.modQueue_pwr (s : State) (q : Nat) (g : Queue → Queue) : (s.modQueue q g).pwr = s.pwr := rfl
@[simp] theorem State.modQueue_brd (s : State) (q : Nat) (g : Queue → Queue) : (s.modQueue q g).brd = s.brd := rfl
@[simp] theorem State.modQueue_tel (s : State) (q : Nat) (g : Queue → Queue) : (s.modQueue q g).tel = s.tel := rfl
@[simp] theorem State.modQueue_host_fns (s : State) (q : Nat) (g : Queue → Queue) : (s.modQueue q g).host.fns = s.host.fns := rfl
@[simp] theorem State.modQueue_host_ports (s : State) (q : Nat) (g : Queue → Queue) : (s.modQueue q g).host.ports = s.host.ports := rfl
@[simp] theorem State.modQueue_host_spokes (s : State) (q : Nat) (g : Queue → Queue) : (s.modQueue q g).host.spokes = s.host.spokes := rfl
@[simp] theorem State.modQueue_host_ops (s : State) (q : Nat) (g : Queue → Queue) : (s.modQueue q g).host.ops = s.host.ops := rfl
@[simp] theorem State.modQueue_host_nextOp (s : State) (q : Nat) (g : Queue → Queue) : (s.modQueue q g).host.nextOp = s.host.nextOp := rfl
@[simp] theorem State.modQueue_host_reqs (s : State) (q : Nat) (g : Queue → Queue) : (s.modQueue q g).host.reqs = s.host.reqs := rfl
@[simp] theorem State.modQueue_host_pageReqs (s : State) (q : Nat) (g : Queue → Queue) : (s.modQueue q g).host.pageReqs = s.host.pageReqs := rfl
@[simp] theorem State.modQueue_host_atc (s : State) (q : Nat) (g : Queue → Queue) : (s.modQueue q g).host.atc = s.host.atc := rfl
@[simp] theorem State.modQueue_host_winReqs (s : State) (q : Nat) (g : Queue → Queue) : (s.modQueue q g).host.winReqs = s.host.winReqs := rfl
@[simp] theorem State.modQueue_host_nextWin (s : State) (q : Nat) (g : Queue → Queue) : (s.modQueue q g).host.nextWin = s.host.nextWin := rfl
@[simp] theorem State.modQueue_host_cursors (s : State) (q : Nat) (g : Queue → Queue) : (s.modQueue q g).host.cursors = s.host.cursors := rfl
@[simp] theorem State.modQueue_host_asyncs (s : State) (q : Nat) (g : Queue → Queue) : (s.modQueue q g).host.asyncs = s.host.asyncs := rfl
@[simp] theorem State.modQueue_host_epoch (s : State) (q : Nat) (g : Queue → Queue) : (s.modQueue q g).host.epoch = s.host.epoch := rfl

/-! ### modOp -/

@[simp] theorem State.modOp_pending (s : State) (o : Nat) (g : Op → Op) : (s.modOp o g).pending = s.pending := rfl
@[simp] theorem State.modOp_now (s : State) (o : Nat) (g : Op → Op) : (s.modOp o g).now = s.now := rfl
@[simp] theorem State.modOp_freeCtr (s : State) (o : Nat) (g : Op → Op) : (s.modOp o g).freeCtr = s.freeCtr := rfl
@[simp] theorem State.modOp_regs (s : State) (o : Nat) (g : Op → Op) : (s.modOp o g).regs = s.regs := rfl
@[simp] theorem State.modOp_out (s : State) (o : Nat) (g : Op → Op) : (s.modOp o g).out = s.out := rfl
@[simp] theorem State.modOp_trg (s : State) (o : Nat) (g : Op → Op) : (s.modOp o g).trg = s.trg := rfl
@[simp] theorem State.modOp_mem (s : State) (o : Nat) (g : Op → Op) : (s.modOp o g).mem = s.mem := rfl
@[simp] theorem State.modOp_net (s : State) (o : Nat) (g : Op → Op) : (s.modOp o g).net = s.net := rfl
@[simp] theorem State.modOp_sch (s : State) (o : Nat) (g : Op → Op) : (s.modOp o g).sch = s.sch := rfl
@[simp] theorem State.modOp_xpt (s : State) (o : Nat) (g : Op → Op) : (s.modOp o g).xpt = s.xpt := rfl
@[simp] theorem State.modOp_str (s : State) (o : Nat) (g : Op → Op) : (s.modOp o g).str = s.str := rfl
@[simp] theorem State.modOp_nvme (s : State) (o : Nat) (g : Op → Op) : (s.modOp o g).nvme = s.nvme := rfl
@[simp] theorem State.modOp_ckp (s : State) (o : Nat) (g : Op → Op) : (s.modOp o g).ckp = s.ckp := rfl
@[simp] theorem State.modOp_sec (s : State) (o : Nat) (g : Op → Op) : (s.modOp o g).sec = s.sec := rfl
@[simp] theorem State.modOp_fwm (s : State) (o : Nat) (g : Op → Op) : (s.modOp o g).fwm = s.fwm := rfl
@[simp] theorem State.modOp_pwr (s : State) (o : Nat) (g : Op → Op) : (s.modOp o g).pwr = s.pwr := rfl
@[simp] theorem State.modOp_brd (s : State) (o : Nat) (g : Op → Op) : (s.modOp o g).brd = s.brd := rfl
@[simp] theorem State.modOp_tel (s : State) (o : Nat) (g : Op → Op) : (s.modOp o g).tel = s.tel := rfl
@[simp] theorem State.modOp_host_fns (s : State) (o : Nat) (g : Op → Op) : (s.modOp o g).host.fns = s.host.fns := rfl
@[simp] theorem State.modOp_host_ports (s : State) (o : Nat) (g : Op → Op) : (s.modOp o g).host.ports = s.host.ports := rfl
@[simp] theorem State.modOp_host_spokes (s : State) (o : Nat) (g : Op → Op) : (s.modOp o g).host.spokes = s.host.spokes := rfl
@[simp] theorem State.modOp_host_queues (s : State) (o : Nat) (g : Op → Op) : (s.modOp o g).host.queues = s.host.queues := rfl
@[simp] theorem State.modOp_host_nextOp (s : State) (o : Nat) (g : Op → Op) : (s.modOp o g).host.nextOp = s.host.nextOp := rfl
@[simp] theorem State.modOp_host_reqs (s : State) (o : Nat) (g : Op → Op) : (s.modOp o g).host.reqs = s.host.reqs := rfl
@[simp] theorem State.modOp_host_pageReqs (s : State) (o : Nat) (g : Op → Op) : (s.modOp o g).host.pageReqs = s.host.pageReqs := rfl
@[simp] theorem State.modOp_host_atc (s : State) (o : Nat) (g : Op → Op) : (s.modOp o g).host.atc = s.host.atc := rfl
@[simp] theorem State.modOp_host_winReqs (s : State) (o : Nat) (g : Op → Op) : (s.modOp o g).host.winReqs = s.host.winReqs := rfl
@[simp] theorem State.modOp_host_nextWin (s : State) (o : Nat) (g : Op → Op) : (s.modOp o g).host.nextWin = s.host.nextWin := rfl
@[simp] theorem State.modOp_host_cursors (s : State) (o : Nat) (g : Op → Op) : (s.modOp o g).host.cursors = s.host.cursors := rfl
@[simp] theorem State.modOp_host_asyncs (s : State) (o : Nat) (g : Op → Op) : (s.modOp o g).host.asyncs = s.host.asyncs := rfl
@[simp] theorem State.modOp_host_epoch (s : State) (o : Nat) (g : Op → Op) : (s.modOp o g).host.epoch = s.host.epoch := rfl

/-! ### setCounter -/

@[simp] theorem State.setCounter_pending (s : State) (c : Nat) (x : Counter) : (s.setCounter c x).pending = s.pending := rfl
@[simp] theorem State.setCounter_now (s : State) (c : Nat) (x : Counter) : (s.setCounter c x).now = s.now := rfl
@[simp] theorem State.setCounter_freeCtr (s : State) (c : Nat) (x : Counter) : (s.setCounter c x).freeCtr = s.freeCtr := rfl
@[simp] theorem State.setCounter_regs (s : State) (c : Nat) (x : Counter) : (s.setCounter c x).regs = s.regs := rfl
@[simp] theorem State.setCounter_out (s : State) (c : Nat) (x : Counter) : (s.setCounter c x).out = s.out := rfl
@[simp] theorem State.setCounter_host (s : State) (c : Nat) (x : Counter) : (s.setCounter c x).host = s.host := rfl
@[simp] theorem State.setCounter_mem (s : State) (c : Nat) (x : Counter) : (s.setCounter c x).mem = s.mem := rfl
@[simp] theorem State.setCounter_net (s : State) (c : Nat) (x : Counter) : (s.setCounter c x).net = s.net := rfl
@[simp] theorem State.setCounter_sch (s : State) (c : Nat) (x : Counter) : (s.setCounter c x).sch = s.sch := rfl
@[simp] theorem State.setCounter_xpt (s : State) (c : Nat) (x : Counter) : (s.setCounter c x).xpt = s.xpt := rfl
@[simp] theorem State.setCounter_str (s : State) (c : Nat) (x : Counter) : (s.setCounter c x).str = s.str := rfl
@[simp] theorem State.setCounter_nvme (s : State) (c : Nat) (x : Counter) : (s.setCounter c x).nvme = s.nvme := rfl
@[simp] theorem State.setCounter_ckp (s : State) (c : Nat) (x : Counter) : (s.setCounter c x).ckp = s.ckp := rfl
@[simp] theorem State.setCounter_sec (s : State) (c : Nat) (x : Counter) : (s.setCounter c x).sec = s.sec := rfl
@[simp] theorem State.setCounter_fwm (s : State) (c : Nat) (x : Counter) : (s.setCounter c x).fwm = s.fwm := rfl
@[simp] theorem State.setCounter_pwr (s : State) (c : Nat) (x : Counter) : (s.setCounter c x).pwr = s.pwr := rfl
@[simp] theorem State.setCounter_brd (s : State) (c : Nat) (x : Counter) : (s.setCounter c x).brd = s.brd := rfl
@[simp] theorem State.setCounter_tel (s : State) (c : Nat) (x : Counter) : (s.setCounter c x).tel = s.tel := rfl

/-! ### setEntry -/

@[simp] theorem State.setEntry_pending (s : State) (k : Nat) (e : TrigEntry) : (s.setEntry k e).pending = s.pending := rfl
@[simp] theorem State.setEntry_now (s : State) (k : Nat) (e : TrigEntry) : (s.setEntry k e).now = s.now := rfl
@[simp] theorem State.setEntry_freeCtr (s : State) (k : Nat) (e : TrigEntry) : (s.setEntry k e).freeCtr = s.freeCtr := rfl
@[simp] theorem State.setEntry_regs (s : State) (k : Nat) (e : TrigEntry) : (s.setEntry k e).regs = s.regs := rfl
@[simp] theorem State.setEntry_out (s : State) (k : Nat) (e : TrigEntry) : (s.setEntry k e).out = s.out := rfl
@[simp] theorem State.setEntry_host (s : State) (k : Nat) (e : TrigEntry) : (s.setEntry k e).host = s.host := rfl
@[simp] theorem State.setEntry_mem (s : State) (k : Nat) (e : TrigEntry) : (s.setEntry k e).mem = s.mem := rfl
@[simp] theorem State.setEntry_net (s : State) (k : Nat) (e : TrigEntry) : (s.setEntry k e).net = s.net := rfl
@[simp] theorem State.setEntry_sch (s : State) (k : Nat) (e : TrigEntry) : (s.setEntry k e).sch = s.sch := rfl
@[simp] theorem State.setEntry_xpt (s : State) (k : Nat) (e : TrigEntry) : (s.setEntry k e).xpt = s.xpt := rfl
@[simp] theorem State.setEntry_str (s : State) (k : Nat) (e : TrigEntry) : (s.setEntry k e).str = s.str := rfl
@[simp] theorem State.setEntry_nvme (s : State) (k : Nat) (e : TrigEntry) : (s.setEntry k e).nvme = s.nvme := rfl
@[simp] theorem State.setEntry_ckp (s : State) (k : Nat) (e : TrigEntry) : (s.setEntry k e).ckp = s.ckp := rfl
@[simp] theorem State.setEntry_sec (s : State) (k : Nat) (e : TrigEntry) : (s.setEntry k e).sec = s.sec := rfl
@[simp] theorem State.setEntry_fwm (s : State) (k : Nat) (e : TrigEntry) : (s.setEntry k e).fwm = s.fwm := rfl
@[simp] theorem State.setEntry_pwr (s : State) (k : Nat) (e : TrigEntry) : (s.setEntry k e).pwr = s.pwr := rfl
@[simp] theorem State.setEntry_brd (s : State) (k : Nat) (e : TrigEntry) : (s.setEntry k e).brd = s.brd := rfl
@[simp] theorem State.setEntry_tel (s : State) (k : Nat) (e : TrigEntry) : (s.setEntry k e).tel = s.tel := rfl

/-! ### refuseUpdate -/

@[simp] theorem State.refuseUpdate_pending (s : State) : s.refuseUpdate.pending = s.pending := rfl
@[simp] theorem State.refuseUpdate_now (s : State) : s.refuseUpdate.now = s.now := rfl
@[simp] theorem State.refuseUpdate_freeCtr (s : State) : s.refuseUpdate.freeCtr = s.freeCtr := rfl
@[simp] theorem State.refuseUpdate_regs (s : State) : s.refuseUpdate.regs = s.regs := rfl
@[simp] theorem State.refuseUpdate_out (s : State) : s.refuseUpdate.out = s.out := rfl
@[simp] theorem State.refuseUpdate_host (s : State) : s.refuseUpdate.host = s.host := rfl
@[simp] theorem State.refuseUpdate_mem (s : State) : s.refuseUpdate.mem = s.mem := rfl
@[simp] theorem State.refuseUpdate_net (s : State) : s.refuseUpdate.net = s.net := rfl
@[simp] theorem State.refuseUpdate_sch (s : State) : s.refuseUpdate.sch = s.sch := rfl
@[simp] theorem State.refuseUpdate_xpt (s : State) : s.refuseUpdate.xpt = s.xpt := rfl
@[simp] theorem State.refuseUpdate_str (s : State) : s.refuseUpdate.str = s.str := rfl
@[simp] theorem State.refuseUpdate_nvme (s : State) : s.refuseUpdate.nvme = s.nvme := rfl
@[simp] theorem State.refuseUpdate_ckp (s : State) : s.refuseUpdate.ckp = s.ckp := rfl
@[simp] theorem State.refuseUpdate_sec (s : State) : s.refuseUpdate.sec = s.sec := rfl
@[simp] theorem State.refuseUpdate_fwm (s : State) : s.refuseUpdate.fwm = s.fwm := rfl
@[simp] theorem State.refuseUpdate_pwr (s : State) : s.refuseUpdate.pwr = s.pwr := rfl
@[simp] theorem State.refuseUpdate_brd (s : State) : s.refuseUpdate.brd = s.brd := rfl
@[simp] theorem State.refuseUpdate_tel (s : State) : s.refuseUpdate.tel = s.tel := rfl

/-! ### sendUpdate -/

@[simp] theorem State.sendUpdate_pending (s : State) (u : CntUpdate) : (s.sendUpdate u).pending = s.pending := rfl
@[simp] theorem State.sendUpdate_now (s : State) (u : CntUpdate) : (s.sendUpdate u).now = s.now := rfl
@[simp] theorem State.sendUpdate_freeCtr (s : State) (u : CntUpdate) : (s.sendUpdate u).freeCtr = s.freeCtr := rfl
@[simp] theorem State.sendUpdate_regs (s : State) (u : CntUpdate) : (s.sendUpdate u).regs = s.regs := rfl
@[simp] theorem State.sendUpdate_out (s : State) (u : CntUpdate) : (s.sendUpdate u).out = s.out := rfl
@[simp] theorem State.sendUpdate_host (s : State) (u : CntUpdate) : (s.sendUpdate u).host = s.host := rfl
@[simp] theorem State.sendUpdate_mem (s : State) (u : CntUpdate) : (s.sendUpdate u).mem = s.mem := rfl
@[simp] theorem State.sendUpdate_net (s : State) (u : CntUpdate) : (s.sendUpdate u).net = s.net := rfl
@[simp] theorem State.sendUpdate_sch (s : State) (u : CntUpdate) : (s.sendUpdate u).sch = s.sch := rfl
@[simp] theorem State.sendUpdate_xpt (s : State) (u : CntUpdate) : (s.sendUpdate u).xpt = s.xpt := rfl
@[simp] theorem State.sendUpdate_str (s : State) (u : CntUpdate) : (s.sendUpdate u).str = s.str := rfl
@[simp] theorem State.sendUpdate_nvme (s : State) (u : CntUpdate) : (s.sendUpdate u).nvme = s.nvme := rfl
@[simp] theorem State.sendUpdate_ckp (s : State) (u : CntUpdate) : (s.sendUpdate u).ckp = s.ckp := rfl
@[simp] theorem State.sendUpdate_sec (s : State) (u : CntUpdate) : (s.sendUpdate u).sec = s.sec := rfl
@[simp] theorem State.sendUpdate_fwm (s : State) (u : CntUpdate) : (s.sendUpdate u).fwm = s.fwm := rfl
@[simp] theorem State.sendUpdate_pwr (s : State) (u : CntUpdate) : (s.sendUpdate u).pwr = s.pwr := rfl
@[simp] theorem State.sendUpdate_brd (s : State) (u : CntUpdate) : (s.sendUpdate u).brd = s.brd := rfl
@[simp] theorem State.sendUpdate_tel (s : State) (u : CntUpdate) : (s.sendUpdate u).tel = s.tel := rfl

/-! ### journal -/

@[simp] theorem State.journal_pending (s : State) (t k : Nat) (d : Bool) (b : Bytes) (w : Option JWait) : (s.journal t k d b w).pending = s.pending := rfl
@[simp] theorem State.journal_now (s : State) (t k : Nat) (d : Bool) (b : Bytes) (w : Option JWait) : (s.journal t k d b w).now = s.now := rfl
@[simp] theorem State.journal_freeCtr (s : State) (t k : Nat) (d : Bool) (b : Bytes) (w : Option JWait) : (s.journal t k d b w).freeCtr = s.freeCtr := rfl
@[simp] theorem State.journal_regs (s : State) (t k : Nat) (d : Bool) (b : Bytes) (w : Option JWait) : (s.journal t k d b w).regs = s.regs := rfl
@[simp] theorem State.journal_out (s : State) (t k : Nat) (d : Bool) (b : Bytes) (w : Option JWait) : (s.journal t k d b w).out = s.out := rfl
@[simp] theorem State.journal_host (s : State) (t k : Nat) (d : Bool) (b : Bytes) (w : Option JWait) : (s.journal t k d b w).host = s.host := rfl
@[simp] theorem State.journal_trg (s : State) (t k : Nat) (d : Bool) (b : Bytes) (w : Option JWait) : (s.journal t k d b w).trg = s.trg := rfl
@[simp] theorem State.journal_mem (s : State) (t k : Nat) (d : Bool) (b : Bytes) (w : Option JWait) : (s.journal t k d b w).mem = s.mem := rfl
@[simp] theorem State.journal_net (s : State) (t k : Nat) (d : Bool) (b : Bytes) (w : Option JWait) : (s.journal t k d b w).net = s.net := rfl
@[simp] theorem State.journal_sch (s : State) (t k : Nat) (d : Bool) (b : Bytes) (w : Option JWait) : (s.journal t k d b w).sch = s.sch := rfl
@[simp] theorem State.journal_xpt (s : State) (t k : Nat) (d : Bool) (b : Bytes) (w : Option JWait) : (s.journal t k d b w).xpt = s.xpt := rfl
@[simp] theorem State.journal_str (s : State) (t k : Nat) (d : Bool) (b : Bytes) (w : Option JWait) : (s.journal t k d b w).str = s.str := rfl
@[simp] theorem State.journal_nvme (s : State) (t k : Nat) (d : Bool) (b : Bytes) (w : Option JWait) : (s.journal t k d b w).nvme = s.nvme := rfl
@[simp] theorem State.journal_ckp (s : State) (t k : Nat) (d : Bool) (b : Bytes) (w : Option JWait) : (s.journal t k d b w).ckp = s.ckp := rfl
@[simp] theorem State.journal_sec (s : State) (t k : Nat) (d : Bool) (b : Bytes) (w : Option JWait) : (s.journal t k d b w).sec = s.sec := rfl
@[simp] theorem State.journal_pwr (s : State) (t k : Nat) (d : Bool) (b : Bytes) (w : Option JWait) : (s.journal t k d b w).pwr = s.pwr := rfl
@[simp] theorem State.journal_brd (s : State) (t k : Nat) (d : Bool) (b : Bytes) (w : Option JWait) : (s.journal t k d b w).brd = s.brd := rfl
@[simp] theorem State.journal_tel (s : State) (t k : Nat) (d : Bool) (b : Bytes) (w : Option JWait) : (s.journal t k d b w).tel = s.tel := rfl

/-! ### setService -/

@[simp] theorem State.setService_pending (s : State) (v : Nat) (x : Service) : (s.setService v x).pending = s.pending := rfl
@[simp] theorem State.setService_now (s : State) (v : Nat) (x : Service) : (s.setService v x).now = s.now := rfl
@[simp] theorem State.setService_freeCtr (s : State) (v : Nat) (x : Service) : (s.setService v x).freeCtr = s.freeCtr := rfl
@[simp] theorem State.setService_regs (s : State) (v : Nat) (x : Service) : (s.setService v x).regs = s.regs := rfl
@[simp] theorem State.setService_out (s : State) (v : Nat) (x : Service) : (s.setService v x).out = s.out := rfl
@[simp] theorem State.setService_host (s : State) (v : Nat) (x : Service) : (s.setService v x).host = s.host := rfl
@[simp] theorem State.setService_trg (s : State) (v : Nat) (x : Service) : (s.setService v x).trg = s.trg := rfl
@[simp] theorem State.setService_mem (s : State) (v : Nat) (x : Service) : (s.setService v x).mem = s.mem := rfl
@[simp] theorem State.setService_net (s : State) (v : Nat) (x : Service) : (s.setService v x).net = s.net := rfl
@[simp] theorem State.setService_sch (s : State) (v : Nat) (x : Service) : (s.setService v x).sch = s.sch := rfl
@[simp] theorem State.setService_xpt (s : State) (v : Nat) (x : Service) : (s.setService v x).xpt = s.xpt := rfl
@[simp] theorem State.setService_str (s : State) (v : Nat) (x : Service) : (s.setService v x).str = s.str := rfl
@[simp] theorem State.setService_nvme (s : State) (v : Nat) (x : Service) : (s.setService v x).nvme = s.nvme := rfl
@[simp] theorem State.setService_ckp (s : State) (v : Nat) (x : Service) : (s.setService v x).ckp = s.ckp := rfl
@[simp] theorem State.setService_sec (s : State) (v : Nat) (x : Service) : (s.setService v x).sec = s.sec := rfl
@[simp] theorem State.setService_pwr (s : State) (v : Nat) (x : Service) : (s.setService v x).pwr = s.pwr := rfl
@[simp] theorem State.setService_brd (s : State) (v : Nat) (x : Service) : (s.setService v x).brd = s.brd := rfl
@[simp] theorem State.setService_tel (s : State) (v : Nat) (x : Service) : (s.setService v x).tel = s.tel := rfl

/-! ### measure -/

@[simp] theorem State.measure_pending (s : State) (i t v n : Nat) (d : Bytes) : (s.measure i t v n d).pending = s.pending := rfl
@[simp] theorem State.measure_now (s : State) (i t v n : Nat) (d : Bytes) : (s.measure i t v n d).now = s.now := rfl
@[simp] theorem State.measure_freeCtr (s : State) (i t v n : Nat) (d : Bytes) : (s.measure i t v n d).freeCtr = s.freeCtr := rfl
@[simp] theorem State.measure_regs (s : State) (i t v n : Nat) (d : Bytes) : (s.measure i t v n d).regs = s.regs := rfl
@[simp] theorem State.measure_out (s : State) (i t v n : Nat) (d : Bytes) : (s.measure i t v n d).out = s.out := rfl
@[simp] theorem State.measure_host (s : State) (i t v n : Nat) (d : Bytes) : (s.measure i t v n d).host = s.host := rfl
@[simp] theorem State.measure_trg (s : State) (i t v n : Nat) (d : Bytes) : (s.measure i t v n d).trg = s.trg := rfl
@[simp] theorem State.measure_mem (s : State) (i t v n : Nat) (d : Bytes) : (s.measure i t v n d).mem = s.mem := rfl
@[simp] theorem State.measure_net (s : State) (i t v n : Nat) (d : Bytes) : (s.measure i t v n d).net = s.net := rfl
@[simp] theorem State.measure_sch (s : State) (i t v n : Nat) (d : Bytes) : (s.measure i t v n d).sch = s.sch := rfl
@[simp] theorem State.measure_xpt (s : State) (i t v n : Nat) (d : Bytes) : (s.measure i t v n d).xpt = s.xpt := rfl
@[simp] theorem State.measure_str (s : State) (i t v n : Nat) (d : Bytes) : (s.measure i t v n d).str = s.str := rfl
@[simp] theorem State.measure_nvme (s : State) (i t v n : Nat) (d : Bytes) : (s.measure i t v n d).nvme = s.nvme := rfl
@[simp] theorem State.measure_ckp (s : State) (i t v n : Nat) (d : Bytes) : (s.measure i t v n d).ckp = s.ckp := rfl
@[simp] theorem State.measure_fwm (s : State) (i t v n : Nat) (d : Bytes) : (s.measure i t v n d).fwm = s.fwm := rfl
@[simp] theorem State.measure_pwr (s : State) (i t v n : Nat) (d : Bytes) : (s.measure i t v n d).pwr = s.pwr := rfl
@[simp] theorem State.measure_brd (s : State) (i t v n : Nat) (d : Bytes) : (s.measure i t v n d).brd = s.brd := rfl
@[simp] theorem State.measure_tel (s : State) (i t v n : Nat) (d : Bytes) : (s.measure i t v n d).tel = s.tel := rfl

/-! ### Reads after updates -/

theorem State.draw_snd (s : State) (w : Nat) : (s.draw w).2 = { s with freeCtr := s.freeCtr + 1 } := rfl

theorem State.fn_setFn (s : State) (f g : Nat) (x : FnState) : (s.setFn f x).fn g = if f = g then x else s.fn g := by
  unfold State.fn State.setFn
  simp only [Map.get_put]
  split <;> rfl

@[simp] theorem State.fn_setFn_self (s : State) (f : Nat) (x : FnState) : (s.setFn f x).fn f = x := by
  simp [State.fn_setFn]

theorem State.fn_setFn_of_ne (s : State) {f g : Nat} (x : FnState) (h : f ≠ g) : (s.setFn f x).fn g = s.fn g := by
  simp [State.fn_setFn, h]

theorem State.port_setPort (s : State) (q r : Nat) (x : Port) :
    (s.setPort q x).port r = if q = r then x else s.port r := by
  unfold State.port State.setPort
  simp only [Map.get_put]
  split <;> rfl

@[simp] theorem State.port_setPort_self (s : State) (q : Nat) (x : Port) : (s.setPort q x).port q = x := by
  simp [State.port_setPort]

theorem State.queue_setQueue (s : State) (q r : Nat) (x : Queue) :
    (s.setQueue q x).queue r = if q = r then some x else s.queue r := by
  simp [State.queue, State.setQueue, Map.get_put]

theorem State.rget_rput (s : State) (a b v : Nat) : (s.rput a v).rget b = if a = b then v else s.rget b := by
  unfold State.rget State.rput
  simp only [Map.get_put]
  split <;> rfl

@[simp] theorem State.rget_rput_self (s : State) (a v : Nat) : (s.rput a v).rget a = v := by simp [State.rget_rput]

theorem State.rget_rput_of_ne (s : State) {a b : Nat} (v : Nat) (h : a ≠ b) : (s.rput a v).rget b = s.rget b := by
  simp [State.rget_rput, h]

theorem State.rget_rset_of_ne (s : State) {a b : Nat} (hi lo v : Nat) (h : a ≠ b) :
    (s.rset a hi lo v).rget b = s.rget b := s.rget_rput_of_ne _ h

theorem State.rget_rsat_of_ne (s : State) {a b : Nat} (hi lo n : Nat) (h : a ≠ b) :
    (s.rsat a hi lo n).rget b = s.rget b := s.rget_rput_of_ne _ h

theorem State.counter_setCounter (s : State) (c d : Nat) (x : Counter) :
    Map.get (s.setCounter c x).trg.counters d = if c = d then some x else Map.get s.trg.counters d := by
  simp [State.setCounter, Map.get_put]

theorem State.entry_setEntry (s : State) (c d : Nat) (x : TrigEntry) :
    Map.get (s.setEntry c x).trg.entries d = if c = d then some x else Map.get s.trg.entries d := by
  simp [State.setEntry, Map.get_put]

theorem State.service_setService (s : State) (v w : Nat) (x : Service) :
    (s.setService v x).service w = if v = w then x else s.service w := by
  unfold State.service State.setService
  simp only [Map.get_put]
  split <;> rfl

/-- A message sent or held changes only what has been sent and what the function holds. -/
theorem State.interrupt_frame (s : State) (f v : Nat) :
    s.interrupt f v = { s with out := (s.interrupt f v).out, host.fns := (s.interrupt f v).host.fns } := by
  simp only [State.interrupt]
  split <;> [split; split <;> [split; rfl]] <;> rfl

/-- A message sent or held for one function leaves the others alone. -/
theorem State.fn_interrupt_of_ne (s : State) {f g : Nat} (v : Nat) (h : f ≠ g) : (s.interrupt f v).fn g = s.fn g := by
  simp only [State.interrupt]
  split <;> [split; split <;> [split; rfl]] <;> first | rfl | exact s.fn_setFn_of_ne _ h

/-- A message sent or held for a function changes only the messages that the function holds. -/
theorem State.fn_interrupt_self (s : State) (f v : Nat) :
    (s.interrupt f v).fn f =
      { s.fn f with pba := ((s.interrupt f v).fn f).pba, msiPend := ((s.interrupt f v).fn f).msiPend } := by
  simp only [State.interrupt]
  split <;> [split; split <;> [split; rfl]] <;> first | rfl | simp only [State.fn_setFn_self]

end Sys2Proof.Machine
end

