-- ==== Sys2Proof/Laws/Mailbox.lean ====
section
/-! SUPPORT. What answering a mailbox request does, said once: a command's statement then needs only its own effect. -/

namespace Sys2Proof.Machine
open Sys2Proof

theorem Status.code_lt (st : Status) : st.code < 256 := by cases st <;> decide

theorem State.histOffset (s : State) (t : Nat) : ∃ b, b < 32 ∧ aHist 7 (histBucket (s.now - t)) = aHist 7 b :=
  ⟨_, by unfold histBucket; omega, rfl⟩

theorem Mailbox.answerWith_hdr1 (m : Mailbox) (st : Status) (p : Bytes) (a : Bool) :
    bits (m.answerWith st p a).hdr1 15 0 = st.code ∧ bit (m.answerWith st p a).hdr1 16 = true ∧
    bit (m.answerWith st p a).hdr1 17 = a := by
  have hc := Status.code_lt st
  cases a <;> simp [Mailbox.answerWith, bits, bit, b2n] <;> omega

/-- What `respond` does (R14, R154, R156). -/
theorem State.respond_answered (u : State) (f : Nat) (st : Status) (p : Bytes) (a : Bool) :
    u.answered (u.respond f st p a) f st p a := by
  obtain ⟨b, hb, he⟩ := u.histOffset (u.fn f).mb.posted
  let m := (u.fn f).mb.answerWith st p a
  let w : State := (u.setFn f { u.fn f with mb := m }).sample 7 (u.fn f).mb.posted
  have hw : w.fn f = { u.fn f with mb := m } := u.fn_setFn_self f _
  have hne : ∀ g, g ≠ f → w.fn g = u.fn g := fun g hg => u.fn_setFn_of_ne _ (Ne.symm hg)
  have hreg : ∀ off, (∀ b, b < 32 → off ≠ aHist 7 b) → w.rget off = u.rget off := by
    intro off ho
    show (State.rsat _ _ _ _ _).rget off = _
    rw [State.rget_rsat_of_ne]
    · rfl
    · show aHist 7 (histBucket (u.now - _)) ≠ off
      rw [he]
      exact fun h => ho b hb h.symm
  have hm : ∀ v : State, (v.fn f).mb = m → v.responded f st p a := fun v hv => by
    unfold State.responded
    rw [hv]
    exact ⟨rfl, rfl, Mailbox.answerWith_hdr1 _ st p a⟩
  have hr : u.respond f st p a = if (u.fn f).mb.irq then w.interrupt f 0 else w := rfl
  rw [hr]
  split
  · have hi := w.fn_interrupt_self f 0
    have hf := w.interrupt_frame f 0
    have hmb : ((w.interrupt f 0).fn f).mb = m := by rw [hi, hw]
    refine ⟨hm _ hmb, ?_, ?_, ?_, ?_⟩
    · intro g hg
      rw [w.fn_interrupt_of_ne 0 (Ne.symm hg), hne g hg]
    · rw [hmb]
      conv_lhs => rw [hi, hw]
    · intro off ho
      rw [hf]
      exact hreg off ho
    · rw [hf]
      rfl
  · exact ⟨hm w (by rw [hw]), hne, by rw [hw], hreg, rfl⟩

/-- An outstanding request is answered with a response. -/
theorem State.answer_answered (u : State) (f : Nat) (st : Status) (p : Bytes) (h : (u.fn f).mb.outstanding = true) :
    u.answered (u.answer f st p none) f st p := by
  simp only [State.answer, h]
  exact u.respond_answered f st p false

/-- A served request is outstanding. -/
theorem State.performable_outstanding {s : State} {f opc : Nat} (h : s.performable f opc = true) :
    (s.fn f).mb.outstanding = true := by
  simp only [State.performable, Bool.and_eq_true] at h
  exact h.1.1.1

/-- A performable request whose command answers at once is answered so, on the state that the command leaves. -/
theorem State.perform_answered {s : State} {f opc : Nat} {body : Bytes → State → Reply} {u : State} {st : Status}
    {p q : Bytes} (h : s.performable f opc = true) (hp : (s.fn f).mb.payload = q)
    (hb : body q s = { st := u, status := st, payload := p })
    (hu : (u.fn f).mb.outstanding = true) :
    ∃ t, (Host.Outcome.next (s.perform f opc body) : Outcome) = .next t ∧ u.answered t f st p := by
  refine ⟨_, rfl, ?_⟩
  simp only [State.perform, h, hp, hb]
  exact u.answer_answered f st p hu

/-- A performable request whose command answers ASYNC (R157): it is noted among the commands that go on. -/
theorem State.perform_async {s : State} {f opc : Nat} {body : Bytes → State → Reply} {u : State} {st : Status}
    {p q : Bytes} {a : Nat} (h : s.performable f opc = true) (hp : (s.fn f).mb.payload = q)
    (hb : body q s = { st := u, status := st, payload := p, async := some a })
    (hu : (u.fn f).mb.outstanding = true) :
    ∃ t, (Host.Outcome.next (s.perform f opc body) : Outcome) = .next t ∧
      State.answered { u with host.asyncs := u.host.asyncs ++ [AsyncCmd.mk f (u.fn f).mb.opcode (u.fn f).mb.seq a] }
        t f st p true := by
  refine ⟨_, rfl, ?_⟩
  simp only [State.perform, h, hp, hb, State.answer, hu]
  exact State.respond_answered _ f st p true

/-- A performable request whose answer comes later leaves the state of its command. -/
theorem State.perform_waits {s : State} {f opc : Nat} {body : Bytes → State → Reply} {r : Reply}
    (h : s.performable f opc = true) (hb : body (s.fn f).mb.payload s = r) (hw : r.wait = true) :
    s.perform f opc body = r.st := by
  simp [State.perform, h, hb, hw]

/-- A performable request whose command writes one journal object. -/
theorem State.perform_journals {s : State} {f opc : Nat} {body : Bytes → State → Reply} {u : State} {st : Status}
    {p q b : Bytes} {ty k : Nat} {d : Bool} {a : Option Nat} (h : s.performable f opc = true)
    (hp : (s.fn f).mb.payload = q)
    (hb : body q s = { st := u, status := st, payload := p, async := a, journal := [(ty, k, d, b)] }) :
    ∃ t, (Host.Outcome.next (s.perform f opc body) : Outcome) = .next t ∧
      u.journalled t ty k d b (some ⟨f, st, p, a, none⟩) := by
  refine ⟨_, rfl, ?_⟩
  simp only [State.perform, h, hp, hb]
  rfl

end Sys2Proof.Machine
end

