-- ==== Sys2Proof/Tests/Slice0.lean ====
section
/-! SUPPORT. Small tests of single commands, the smoke test of WellFormed, and a witness for the hypotheses of each
statement. -/

namespace Sys2Proof.Tests

-- One theorem at a time: elaborated side by side, their threads' stacks would exceed the memory limit of the check.
set_option Elab.async false

open Sys2Proof Sys2Proof.Machine

/-- A device that has started: every service runs and every function is attached, with Bus Master Enable set. -/
def up : State := { State.reset with
  regs := Map.put State.reset.regs 0x900000 3
  fwm.services := ((List.range 9).map fun v => (v, ({ state := .running } : Service)))
  brd := { aon := true, resetN := true, pwrEn := true, mainPg := true, scReleased := true, perst := [0, 1] }
  host.fns := ((List.range 8).map fun f => (f, ({ attach := .attached, bme := true, mse := true } : FnState)))
  host.spokes := [(5, { fn := 0, base := true }), (6, { fn := 0, pasid := 1 })] }

/-- A state in which a request of a function is outstanding: its opcode and its payload. -/
def posted (s : State) (f opc : Nat) (p : Bytes) : State :=
  let svc := match serviceOf opc with
    | some (v, _) => v
    | none => 0
  let d := toLe 8 (3 + 2 ^ 8 + 2 ^ 16 * opc + 2 ^ 32 * p.length) ++ toLe 8 (2 ^ 32 * svc) ++ p
  s.modFn f fun x => { x with mb := Mailbox.write { outstanding := true } 0 d }

/-- The device with the link of P0 up and one window of its port, valid, that leads to the JOBS region of HBM. -/
def winUp : State :=
  let s : State := { up with regs := Map.put up.regs (aCtlCfg 0) 0, host.ports := [(0, { link := .l0 })] }
  let a := aWinBase 0 0
  (((s.rput (a + 0x10) 0x1AB0000000).rput (a + 0x18) 0x301).rput (a + 0x810) 0x1AB0000000).rput (a + 0x818) 0x301


/-- The device with one operation started on a copy queue of PF0's base spoke, and one region of HBM for it. -/
def cpy (d : Bytes) : State := { up with
  host.fns := [(0, { attach := .attached, bme := true, mse := true, baseSpoke := some 5 })]
  host.queues := [(3, { kind := .copy, spoke := 5, state := .active })]
  host.ops := [(4, { queue := 3, index := 0, consumer := 1, desc := d })]
  mem.regions := [(9, { strong := false, use := 5, base := 0, size := 2 })]
  mem.hbm := [(0x100, 7), (0x104, 9), (0x300, 1)] }

/-- The device with the link of sub-port 0 up. -/
def netUp : State := { up with net.up := [0] }

/-- The device with one frame of operation 4 waiting in PACKET_SEND queue 3 of spoke 5 on sub-port 0. -/
def sendUp : State := { netUp with
  host.queues := [(3, { kind := .packetSend, spoke := 5, state := .active })]
  host.ops := [(4, { queue := 3, index := 0, consumer := 1, posted := true
                     desc := toLe 8 1 ++ toLe 8 0 ++ toLe 8 0x1000 ++ toLe 8 60 })]
  sch.queues := [(3, [{ op := some 4, data := zeros 60, cls := 0 }])] }

/-- The device with a key of each class 1 to 4, owned by spoke 5, at the indices 1 to 4. -/
def keyUp : State := { (up.modFn 0 fun x => { x with baseSpoke := some 5 }) with sec.keys := (List.range 4).map fun i =>
  (i + 1, ({ cls := i + 1, gen := 0, alg := 0, owner := 5, value := zeros 32 } : KeySlot)) }

/-- The device with the gates of port 0 enabled, one entry in each bank and a takeover time set. -/
def gateUp : State := ((((up.rset (aGateCtl 0) 0 0 1).rset (aGateCtl 0) 26 16 1).rset (aGateCtl 0) 42 32 1).rput (aGateTime 0)
  50000 |>.rput (aGateEntry 0 0 0) (255 + 2 ^ 8 * 700)).rput (aGateEntry 0 1 0) (3 + 2 ^ 8 * 900)

/-- A connection of spoke 5 that is ACTIVE, with one packet of operation 4 unacknowledged. -/
def xptConn (roce : Bool) : Conn :=
  { spoke := 5, roce := roce, epoch := 1, phase := .active, par := { subports := 1, log2 := 10 }
    out := [{ wire := .y { opcode := 1 }, psn := 7, wr := some 4 }]
    works := [{ op := 4, msg := 0, ordered := false, read := true, length := 3, local_ := 8192, first := 0, count := 1 }] }

/-- A TRANSPORT operation of an opcode on connection 2, with no bytes. -/
def xptOp (opc : Nat) : Op :=
  { queue := 3, index := 0, consumer := 1, desc := toLe 8 opc ++ toLe 8 0 ++ toLe 8 2 ++ zeros 40 }

/-- The device with that operation started on a queue of spoke 5. -/
def xptUp (opc : Nat) (roce : Bool) (kw : Nat) : State := { up with
  host.queues := [(3, { kind := .transport, spoke := 5, state := .active, kindWord := kw })]
  host.ops := [(4, xptOp opc)]
  xpt.conns := [(2, xptConn roce)] }

/-- A Yekel packet as it reaches a transport engine: its UDP datagram. -/
def rxPkt (p : YPkt) : RxPkt :=
  let b := p.bytes
  ⟨0, toBe 2 49152 ++ toBe 2 4893 ++ toBe 2 (8 + b.length) ++ [0, 0] ++ b, { ip := some 0, l4 := some 0 }⟩

/-- The device with that packet waiting, and key 9 of spoke 5. -/
def rxUp (p : YPkt) : State := { up with
  xpt.rx := [(0, rxPkt p)]
  xpt.conns := [(2, xptConn false)]
  xpt.keys := [(9, { spoke := 5, read := true, write := true, addr := 4096, length := 100 })] }

/-- A RoCEv2 packet as it reaches a transport engine. -/
def rrxPkt (p : RPkt) : RxPkt :=
  let b := p.bytes 0
  let udp := toBe 2 49152 ++ toBe 2 4791 ++ toBe 2 (12 + b.length) ++ [0, 0]
  let ip := [0x45] ++ zeros 19
  ⟨0, ip ++ udp ++ b ++ toLe 4 (icrc false ip udp b), { ip := some 0, l4 := some 20 }⟩

def rrxUp (p : RPkt) : State := { up with
  xpt.rx := [(0, rrxPkt p)]
  xpt.conns := [(2, { xptConn true with rc := {} })]
  xpt.keys := [(9, { spoke := 5, read := true, write := true, addr := 4096, length := 100 })] }

/-- The payload of a CONN_CONNECT for connection 2. -/
def conPay : Bytes :=
  [2, 0, 0, 0, 0, 0, 8, 1, 1, 0, 0, 0] ++ zeros 56 ++ [0xFF, 0xFF, 3, 0, 0xFF, 0xFF, 3, 0, 8, 0, 1, 0, 1] ++ zeros 7

/-- A RUN descriptor's operation: one stage, no channel, and a context of three units. -/
def runOp : Op := { queue := 3, index := 0, consumer := 1
                    desc := toLe 8 1 ++ zeros 8 ++ toLe 8 0x1000 ++ toLe 8 0x10000 ++ toLe 4 3 ++ toLe 4 5 ++ zeros 24 }

/-- The device with that operation started; the spoke's first 2 MiB are a JOBS region that holds the pipeline. -/
def strUp : State := { up with
  host.spokes := [(6, { fn := 0, pasid := 1 })]
  host.queues := [(3, { kind := .streamJob, spoke := 6, state := .active })]
  host.ops := [(4, runOp)]
  host.atc := (List.range 8).map fun i => { spoke := 6, page := 0, size := 2 ^ 21, leaf := .hbm 0, rd := true, wr := true, slice := i }
  mem.regions := [(9, { strong := false, use := 0, base := 0, size := 1 })]
  mem.hbm := [(0x1000, 1), (0x1048, 64), (0x104C, 1)] }

def strStage (saved : Option Tile) (tile : Option Nat) : Stage :=
  { program := 0, programLen := 64, units := 1, saved := saved, tile := tile }

/-- The job of that operation. -/
def strJob (ph : JobPhase) (saved : Option Tile) (tile : Option Nat) : Job :=
  { op := 4, queue := 3, spoke := 6, ctx := 0x10000, runLimit := 5, seed := 0, arg := 0, phase := ph
    stages := [strStage saved tile], chans := [] }

/-- The device with that job, on tile 9 (whose bundle writes p1) or waiting. -/
def jobUp (ph : JobPhase) (saved : Option Tile) (tp : TilePhase) : State := { strUp with
  str.bucket := [(6, 10 ^ 9)]
  str.jobs := [(7, strJob ph saved (if tp = .free then none else some 9))]
  str.tiles := if tp = .free then [] else
    [(9, { phase := tp, job := 7, sram := [(0, 0xFF), (56, 0x44), (57, 7)]
           icache := [(0, [0xFF] ++ zeros 55 ++ [0x44, 7] ++ zeros 6)] })] }

/-- A submission queue entry: its opcode, CID 9, its namespace, PRP1 0x8000, and its bytes from dword 10 on. -/
def sqe (opc nsid : Nat) (d : Bytes) : Bytes :=
  [BitVec.ofNat 8 opc, 0, 9, 0] ++ toLe 4 nsid ++ zeros 16 ++ toLe 8 0x8000 ++ zeros 8 ++ padTo 24 d

/-- The command of controller 0 with that entry, on a queue. -/
def nvk (q : Nat) (e : Bytes) : NvCmd := { ctrl := 0, sq := q, cid := 9, sqe := e }

/-- A backing whose path is up, or lost since a time, with a loss time of 5 s. -/
def back (lost : Option Nat) : Backing :=
  { hdr := [0, 0, 5, 0] ++ zeros 316, lbaf := 0, nawupf := 7, nabspf := 7, nsze := 10 ^ 7, zeroes := true, lostAt := lost }

/-- A namespace of 1000 blocks attached to controller 0, mirrored or not. -/
def nsp (b : Option NsSide) : Namespace := { nsze := 1000, lbaf := 0, a := { backing := 0, start := 0 }, b := b, ctrls := [0] }

/-- The device with controller 0 ready, one I/O queue pair, namespace 1 on backing 0, and one command fetched. -/
def stoUp (q : Nat) (e : Bytes) : State := { up with
  nvme.ctrls := [(0, { fn := 2, cc := 0x460001, rdy := true })]
  nvme.sqs := [(0, { base := 0x10000, size := 16 }), (1, { base := 0x20000, size := 16, cqid := 1 })]
  nvme.cqs := [(0, { base := 0x30000, size := 16 }), (1, { base := 0x40000, size := 16 })]
  nvme.cmds := [(7, nvk q e)]
  nvme.nextCmd := 8
  nvme.backings := [(0, back none)]
  nvme.spaces := [(1, nsp none)] }

/-- A shard of one page of HBM, of member 0. -/
def ckpShard : Shard := { device := true, cls := 0, bf16 := false, overlap := false, member := 0, addr := 0, pages := 1 }

/-- A session of spoke 5 with checkpoints in progress. -/
def ckpSess (l : List Ckpt) : Session :=
  { spoke := 5, shards := [ckpShard], nsid := 1, start := 0, blocks := 4096, job := 1, quota := 2 ^ 30, weight := 1, rate := 1
    release := List.replicate 8 0, signKey := 393221, maxChain := 4, hashKey := zeros 16, ckpts := l }

/-- A CHECKPOINT operation on session 2: its opcode, a limit of 5 ms and the number or step 1. -/
def ckpOp (opc : Nat) : Op :=
  { queue := 3, index := 0, consumer := 1, desc := toLe 8 opc ++ zeros 8 ++ [2, 0, 0, 0, 5, 0, 0, 0, 1] ++ zeros 39 }

/-- The device with that session open, and an operation started on a queue of its spoke. -/
def ckpUp (l : List Ckpt) : State := { (up.modFn 0 fun x => { x with baseSpoke := some 5 }) with
  host.queues := [(3, { kind := .checkpoint, spoke := 5, state := .active })]
  host.ops := [(4, ckpOp 1)]
  mem.regions := [(8, { strong := false, use := 1, base := 1, size := 600 }), (9, { strong := false, use := 0, base := 0, size := 1 })]
  nvme.spaces := [(1, { nsze := 10000, lbaf := 2, a := { backing := 0, start := 0 }, ctrls := [0] })]
  sec.keys := [(65541, { cls := 6, gen := 0, alg := 0, owner := 5, value := [] })]
  ckp.sessions := [(2, ckpSess l)] }

/-- The payload of a CKP_SESSION_OPEN for spoke 5, one shard and key 5 of class 6. -/
def ckpPay : Bytes :=
  [5, 0, 1, 0, 1, 0, 0, 0] ++ zeros 8 ++ toLe 8 4096 ++ toLe 8 0x9000 ++ toLe 8 1 ++ [1, 0, 0, 0, 1, 0, 1, 0] ++ zeros 16 ++
  [5, 0, 6, 0, 4] ++ zeros 11

/-- `keyUp` with a WRAP key at index 5. -/
def wrapUp : State := { keyUp with
  sec.keys := keyUp.sec.keys ++ [(5, { cls := 5, gen := 0, alg := 1, owner := 5, value := zeros 32 })] }

/-- `keyUp` with a chaining context of key 1 at index 0. -/
def ctxUp (m : Nat) : State := { keyUp with sec.ctxs := [(0, [1, 0, 1, 0, BitVec.ofNat 8 m] ++ zeros 91)] }

/-- The device with a link, an SPDM connection that has negotiated, and sessions. -/
def spdmLive (l : List SpdmSession) : State := { winUp.modFn 0 fun x => { x with baseSpoke := some 5 } with
  sec.spdmState := 3
  sec.sessions := l }

/-- The header of an operating bundle of two images. -/
def bunHdr : Bytes := padTo 208 (toLe 4 0x4C444E42 ++ toLe 2 1 ++ [2, 0] ++ zeros 56 ++ toLe 8 4096 ++ toLe 8 16 ++ toLe 8 8192 ++ toLe 8 16)

def stg : Staged := { image := { svn := 4, version := 2, digest := [] }, fn := 0, seq := 1, hold := false, deadline := 900, rollback := false }

/-- The device with service 1 running, an image staged or not, and a previous image. -/
def svcUp (g : Option Staged) (prev : Option Image) : State := { up with
  fwm.services := [(0, { state := .running }), (1, { state := if g.isSome then .staged else .running, staged := g, prev := prev })] }

/-- `rxUp` in a peloton of one peer, connection 2. -/
def pelUp (p : YPkt) : State := { rxUp p with
  pwr.peloton := some { id := 7, kLimit := 40, accelW := 64, spoke := 5, peers := [(2, { lastC := 50 })] } }

/-- A member of the chainring: numbered at position 1 of epoch 3, or not numbered. -/
def ringUp (numbered : Bool) : State :=
  let s : State := { up with pwr.crPhase := .joined, brd.bypassHigh := true, pwr.crFaults := [⟨4, 0x10, 0⟩] }
  s.rput aCrStat (if numbered then 3 + 2 ^ 8 + 2 ^ 16 * 3 else 2)

/-- A flow of sub-port 0, and the device with it in the cache. -/
def aFlow : Flow := { key := ⟨false, 1, 2, 6, 80, 90, 0, 0, 0⟩, octets := 640, packets := 10 }
def flowUp : State := { up with tel.flows := [aFlow], tel.sampleN := [(0, 16)], tel.idleS := [(0, 30)], tel.activeS := [(0, 60)] }

/-- The device with its management endpoint at EID 9, and an update in a phase. -/
def mgtUp (u : FwUpdate) : State := { up with brd.standbyImage := true, tel.eid := 9, tel.fwUpdate := u }

/-! ## Ill-formed commands: one for each check of `Instr.wf` -/

theorem test_wf_refuses_functions_and_links :
    [Instr.hello 8, .linkTrainingStart 2, .resetNRelease 1024, .dpcTrigger 40, .completionTimeout 40 0,
     .completionTimeout 0 16384, .barMemoryRequest 0 8 0 0 .read 0 [] 0, .barMemoryRequest 0 0 6 0 .read 0 [] 0,
     .bar4Resize 0 64, .d2dReplay 2 0 true, .d2dReplay 0 8 true, .msixUnmask 0 4096, .descriptorFetched 131072 (.ok [] false),
     .regionZeroingComplete 64].all (fun i => !i.wf) = true := by decide +kernel

theorem test_wf_refuses_network_and_transport :
    [Instr.subportLinkUp 32, .portCommit 8, .pauseExpire 0 8, .pfcRefresh 32 0, .gateDisable 8, .ackTimer 16777216,
     .retransmitTimeout 0 4294967296, .retransmitTimeout 16777216 0].all (fun i => !i.wf) = true := by decide +kernel

theorem test_wf_refuses_tiles_storage_and_keys :
    [Instr.tileGate 64, .controllerReady 2, .nvmeSqDoorbell 2048 0 0 [], .nvmeCqDoorbell 0 65536 0, .backingReconnect 256,
     .resyncComplete 1025, .keyRamUncorrectable 4294967296].all (fun i => !i.wf) = true := by decide +kernel

theorem test_wf_refuses_services_ring_and_management :
    [Instr.serviceActivation 9, .watchdogExpire 16, .tracePointPass 4096 0 [], .tracePointPass 0 16 [], .faultRetransmit 65536,
     .countFrame 256 0 0 0 [] true, .budgetFrame 0 65536 0 0 [] true, .ackFrame 0 0 65536 0 [] true,
     .faultFrame 0 0 0 65536 [] true, .countFrame 0 0 0 0 (List.replicate 1025 0) true, .setEndpointId 256 0 1,
     .setEndpointId 0 0 256, .setTid 256].all (fun i => !i.wf) = true := by decide +kernel

theorem test_wf_takes_the_last_of_each_range :
    [Instr.hello 7, .dpcTrigger 39, .completionTimeout 39 16383, .regionZeroingComplete 63, .tileGate 63, .serviceActivation 8,
     .countFrame 255 65535 65535 65535 (List.replicate 1024 0) true].all Instr.wf = true := by decide +kernel

/-! ## The manual's worked examples -/

/-- Whether a command answers a next state of which `p` holds. -/
def after (i : Instr) (s : State) (p : State → Bool) : Bool :=
  match exec i s with
  | .next t => p t
  | _ => false

/-- Locating STRONG check bytes, in chapter 5: the default JOBS region, address 0x001A_C234_5678. -/
theorem test_strong_check_address :
    (Map.get defaultRegions 6).map (fun r => checkAddr r 0x1AC2345678) = some 0x344C233B64 := by decide +kernel

/-- One member capped in the middle of a collective, in chapter 17: cap 450 W, 640 W in all, 380 W of tiles. -/
theorem test_limiter_takes_34 : leastSkip 640000 380000 0 450 0 57 = some 34 := by decide +kernel

/-- R548: of the 64 slots of a wheel, k are skipped. -/
theorem test_wheel_skips_k_of_64 :
    (List.range 57).all (fun k => ((List.range 64).filter (skipped k)).length == k) = true := by decide +kernel

/-- Quantising one MXFP8 block, in chapter 10: amax 100.0 with E4M3 elements, whose largest is 448 = 7 * 2^6. -/
theorem test_mx_scale : mxScale 100 0 7 6 = -2 := by decide +kernel

/-- A commit while reads and writes arrive, in chapter 3: the window's translation of offset 0x4000_0800 is the current
set's, and REFUSED is set by a second commit while BUSY is set. -/
theorem test_second_commit_is_refused :
    after (.windowCommit 8) (up.rset (aWinCtl 8) 1 1 1)
      (fun t => t.rfield (aWinCtl 8) 2 2 == 1 && t.rget (aWinGen 8) == up.rget (aWinGen 8)) = true := by decide +kernel

/-- A takeover with frames waiting, in chapter 7: bank 1 of port E2, armed for 5,000,400,000 ns. -/
def cassette : State :=
  let s := ((up.rset (aGateCtl 2) 0 0 1).rset (aGateCtl 2) 2 2 1).rset (aGateCtl 2) 42 32 2
  let s := ((s.rset (aGateCtl 2) 26 16 3).rput (aGateTime 2) 5000400000).rput (aGateBase 2) 5000000000
  let s := (s.rput (aGateEntry 2 0 0) (0x80 + 2 ^ 8 * 10000)).rput (aGateEntry 2 0 1) (0x7F + 2 ^ 8 * 90000)
  ((s.rput (aGateEntry 2 1 0) (0x80 + 2 ^ 8 * 20000)).rput (aGateEntry 2 1 1) 0).rput (aGateEntry 2 1 2) (0x7F + 2 ^ 8 * 80000)

/-- 50 ns before the takeover class 3 is open, but not for the 91 ns that its frame needs; class 7 is closed. -/
theorem test_frame_waits_for_the_takeover :
    State.gateOpen { cassette with now := 5000399950 } 2 3 50 = true ∧
    State.gateOpen { cassette with now := 5000399950 } 2 3 91 = false ∧
    State.gateOpen { cassette with now := 5000399950 } 2 7 1 = false := by decide +kernel

/-- At the takeover bank 1 becomes active with CYCLE_NS 100,000, ARMED is 0 and PEND_COUNT reads 2. -/
theorem test_takeover :
    after (.gateTakeover 2) { cassette with now := 5000399950 }
      (fun t => t.rget (aGateBase 2) == 5000400000 && t.rget (aGateCycle 2) == 100000 && !t.gateArmed 2 &&
        t.pendCount 2 == 2 && t.gateOpen 2 7 1 && !t.gateOpen 2 3 91) = true := by decide +kernel

/-! ## Witnesses of the hypotheses of the statements -/

theorem witness_LaneAndReplayErrorsAreCounted :
    (∃ (s : State) (o : Nat) (x : Op),
      s.op o = some x ∧
      x.phase ≠ .done) ∧
    (∃ (s : State) (link port : Nat),
      link < 2 ∧
      port < 8 ∧
      s.d2dDown link port = false) ∧
    (∃ (s : State) (link port : Nat),
      s.d2dDown link port = true) :=
  ⟨⟨{ up with host.ops := [(3, { queue := 1, index := 0, consumer := 1, desc := [] })] }, 3, { queue := 1, index := 0, consumer := 1, desc := [] }, by decide +kernel⟩,
   ⟨{ up with brd.d2dFails := [(3, 7)] }, 0, 3, by decide +kernel⟩,
   ⟨{ up with regs := Map.put up.regs 0x180 8 }, 0, 3, by decide +kernel⟩⟩

theorem witness_SnapshotsRecordEveryUnit :
    (∃ (s : State),
      s.rfield aTimeSnap 1 1 = 0) ∧
    (∃ (s : State),
      s.rfield aTimeSnap 1 1 = 1) ∧
    (∃ (s : State),
      s.rfield aTimeSnap 4 4 = 1 ∧
      s.rfield aTimeSnap 31 16 ≠ 0) ∧
    (∃ (s : State),
      s.rfield aTimeSnap 4 4 = 1 ∧
      s.rfield aTimeSnap 31 16 ≠ 0) ∧
    (∃ (s : State),
      (s.rfield aTimeSnap 4 4 = 0 ∨ s.rfield aTimeSnap 31 16 = 0)) ∧
    (∃ (s : State),
      s.rfield aTimeSnap 1 1 = 1) :=
  ⟨⟨up, by decide +kernel⟩,
   ⟨{ up with regs := Map.put up.regs 0x100 2 }, by decide +kernel⟩,
   ⟨{ up with regs := Map.put up.regs 0x100 0x20010 }, by decide +kernel⟩,
   ⟨{ up with regs := Map.put up.regs 0x100 0x20010 }, by decide +kernel⟩,
   ⟨up, by decide +kernel⟩,
   ⟨{ up with regs := Map.put up.regs 0x100 2 }, by decide +kernel⟩⟩

theorem witness_PowerOnAndResetClearThePackage :
    (∃ (s : State),
      s.brd.aon = true) ∧
    (∃ (s : State),
      s.brd.aon = true ∧
      s.brd.resetN = true) ∧
    (∃ (s : State) (b : Bool),
      s.brd.aon = true ∧
      s.brd.resetN = false ∧
      s.pickCopy = some b) ∧
    (∃ (s : State),
      s.brd.aon = true ∧
      s.brd.resetN = false ∧
      s.pickCopy = none) :=
  ⟨⟨up, by decide +kernel⟩,
   ⟨up, by decide +kernel⟩,
   ⟨State.reset, false, by decide +kernel⟩,
   ⟨{ State.reset with fwm.copyA := { tagged := false } }, by decide +kernel⟩⟩

theorem witness_MainPowerFollowsItsPins :
    (∃ (s : State),
      s.brd.pwrEn = true ∧
      s.brd.mainPg = false) ∧
    (∃ (s : State),
      s.brd.pwrEn = true ∧
      s.brd.mainPg = false) ∧
    (∃ (s : State),
      s.brd.pwrEn = true ∧
      s.brd.mainPg = true) ∧
    (∃ (s : State),
      s.brd.aon = true ∧
      s.brd.thermTrip = false) :=
  ⟨⟨{ up with brd.mainPg := false }, by decide +kernel⟩,
   ⟨{ up with brd.mainPg := false }, by decide +kernel⟩,
   ⟨up, by decide +kernel⟩,
   ⟨up, by decide +kernel⟩⟩

theorem witness_UpstreamAndDownstreamPerstActOnLinks :
    (∃ (s : State) (h : Nat),
      h < 2 ∧
      s.brd.mainPg = true ∧
      s.brd.perst.contains h = true ∧
      s.portRole (4 * h) = 0 ∧
      s.trainWidth (4 * h) ≠ 0 ∧
      s.brd.pll.contains 1 = false ∧
      (s.port (4 * h)).link = .down) ∧
    (∃ (s : State) (h : Nat),
      h < 2 ∧
      s.brd.soft = none ∧
      (s.brd.resetN = false ∨ s.brd.mainPg = false)) ∧
    (∃ (s : State) (h : Nat),
      h < 2 ∧
      s.brd.soft = none ∧
      s.brd.resetN = true ∧
      s.brd.mainPg = true ∧
      s.brd.mainPgAt + 50_000_000 ≤ s.now ∧
      s.portRole (4 * h) = 0 ∧
      s.trainWidth (4 * h) ≠ 0 ∧
      s.brd.pll.contains 1 = false ∧
      (s.port (4 * h)).link = .down) ∧
    (∃ (s : State) (h : Nat) (x : Bool),
      h < 2 ∧
      s.brd.soft = some x) ∧
    (∃ (s : State) (h : Nat),
      h < 2 ∧
      s.brd.soft = none ∧
      s.brd.resetN = true ∧
      s.brd.mainPg = true ∧
      s.portRole (4 * h) = 0) ∧
    (∃ (s : State) (q : Nat),
      s.isDown q = true ∧
      s.brd.mainPg = true ∧
      (s.port q).perst = false ∧
      (s.port q).sbrActive = false) :=
  ⟨⟨{ up with regs := Map.put (Map.put up.regs (aCtlCfg 0) 0) 0x410 0 }, 0, by decide +kernel⟩,
   ⟨{ up with brd.mainPg := false }, 1, by decide +kernel⟩,
   ⟨{ up with regs := Map.put up.regs (aCtlCfg 0) 0, now := 60_000_000 }, 0, by decide +kernel⟩,
   ⟨{ up with brd.soft := some false }, 1, false, by decide +kernel⟩,
   ⟨{ up with regs := Map.put up.regs (aCtlCfg 0) 0, host.ports := [(0, { link := .l0 })] }, 0, by decide +kernel⟩,
   ⟨up, 8, by decide +kernel⟩⟩

theorem witness_SecurityCoreAndSoftResetStart :
    (∃ (s : State),
      s.brd.mainPg = true ∧
      s.brd.scReleased = false ∧
      s.brd.corePllBad = false ∧
      s.brd.soft = none ∧
      s.brd.scan = false) ∧
    (∃ (s : State) (f : Nat) (p : Bytes),
      s.performable f 0x0005 = true ∧
      (s.fn f).mb.payload = p ∧
      f % 4 = 0 ∧
      s.resetBusy = false) ∧
    (∃ (s : State) (f : Nat) (p : Bytes),
      s.performable f 0x0005 = true ∧
      (s.fn f).mb.payload = p ∧
      (f % 4 ≠ 0 ∨ s.resetBusy = true) ∧
      s.brd.soft = none) ∧
    (∃ (s : State) (test : Bool),
      s.brd.soft = some test ∧
      s.brd.deferred = []) :=
  ⟨⟨{ up with brd.scReleased := false }, by decide +kernel⟩,
   ⟨posted (up) 0 0x0005 ([1, 0, 0, 0, 0, 0, 0, 0]), 0, [1, 0, 0, 0, 0, 0, 0, 0], by decide +kernel⟩,
   ⟨posted ({ up with brd.standbyFn := some 4 }) 1 0x0005 ([0, 0, 0, 0, 0, 0, 0, 0]), 1, [0, 0, 0, 0, 0, 0, 0, 0], by decide +kernel⟩,
   ⟨{ up with brd.soft := some true, brd.scReleased := false }, true, by decide +kernel⟩⟩

theorem witness_StandbyIsEnteredAndLeftOnRequest :
    (∃ (s : State) (f : Nat) (p : Bytes),
      s.performable f 0x0006 = true ∧
      (s.fn f).mb.payload = p ∧
      f % 4 = 0 ∧
      s.resetBusy = false) ∧
    (∃ (s : State) (f : Nat) (p : Bytes),
      s.performable f 0x0006 = true ∧
      (s.fn f).mb.payload = p ∧
      (f % 4 ≠ 0 ∨ s.resetBusy = true)) ∧
    (∃ (s : State),
      s.mgmtUp = true ∧
      s.resetBusy = false ∧
      s.brd.standby = false ∧
      s.brd.mainPg = true) ∧
    (∃ (s : State),
      s.mgmtUp = true ∧
      (s.resetBusy = true ∨ s.brd.standby = true ∨ s.brd.mainPg = false)) ∧
    (∃ (s : State),
      s.brd.standbyFn.isSome = true) ∧
    (∃ (s : State),
      s.mgmtUp = true ∧
      s.brd.thermTrip = false ∧
      s.brd.noPower = false ∧
      s.brd.standby = true ∧
      s.brd.pwrEn = false) ∧
    (∃ (s : State),
      s.mgmtUp = true) :=
  ⟨⟨posted (up) 4 0x0006 ([]), 4, [], by decide +kernel⟩,
   ⟨posted (up) 1 0x0006 ([]), 1, [], by decide +kernel⟩,
   ⟨{ up with brd.standbyImage := true }, by decide +kernel⟩,
   ⟨{ up with brd.standbyImage := true, brd.standby := true }, by decide +kernel⟩,
   ⟨{ up with brd.standbyFn := some 0 }, by decide +kernel⟩,
   ⟨{ up with brd.standbyImage := true, brd.standby := true, brd.pwrEn := false, brd.pwrEnAt := 7 }, by decide +kernel⟩,
   ⟨{ up with brd.standbyImage := true }, by decide +kernel⟩⟩

theorem witness_SelfTestsRunAndReport :
    (∃ (s : State) (f : Nat) (p : Bytes),
      s.performable f 0x0B10 = true ∧
      (s.fn f).mb.payload = p ∧
      s.testRefused f (u8 p 0) (u16 p 2) = none) ∧
    (∃ (s : State) (f : Nat) (p : Bytes) (st : Status),
      s.performable f 0x0B10 = true ∧
      (s.fn f).mb.payload = p ∧
      s.testRefused f (u8 p 0) (u16 p 2) = some st) ∧
    (∃ (s : State) (test unit f : Nat),
      s.brd.testRun = some (test, unit, f) ∧
      2 < test ∧
      (s.fn f).mb.outstanding = true ∧
      (s.fn f).mb.opcode = 0x0B10) ∧
    (∃ (s : State) (f : Nat) (p : Bytes),
      s.performable f 0x0B11 = true ∧
      (s.fn f).mb.payload = p ∧
      f % 4 = 0) ∧
    (∃ (s : State) (f : Nat) (p : Bytes),
      s.performable f 0x0B12 = true ∧
      (s.fn f).mb.payload = p ∧
      f % 4 = 0) :=
  ⟨⟨posted ({ up with str.retired := [] }) 0 0x0B10 ([5, 0, 3, 0, 0, 0, 0, 0]), 0, [5, 0, 3, 0, 0, 0, 0, 0], by decide +kernel⟩,
   ⟨posted (up) 1 0x0B10 ([5, 0, 3, 0, 0, 0, 0, 0]), 1, [5, 0, 3, 0, 0, 0, 0, 0], .notPermitted, by decide +kernel⟩,
   ⟨posted { up with brd.testRun := some (5, 3, 0) } 0 0x0B10 [5, 0, 3, 0, 0, 0, 0, 0], 5, 3, 0, by decide +kernel⟩,
   ⟨posted (up) 0 0x0B11 ([0, 0, 0, 0, 0, 0, 0, 0]), 0, [0, 0, 0, 0, 0, 0, 0, 0], by decide +kernel⟩,
   ⟨posted ({ up with regs := Map.put up.regs 0x410 7 }) 0 0x0B12 ([2, 0, 0, 0, 0, 0, 0, 0]), 0, [2, 0, 0, 0, 0, 0, 0, 0], by decide +kernel⟩⟩

theorem witness_BusMasterAndPowerStatesHoldTheirFunction :
    (∃ (s : State) (f : Nat),
      f < 8 ∧
      (s.fn f).bme = true ∧
      (s.fn f).flr = false) ∧
    (∃ (s : State) (f : Nat),
      f < 8 ∧
      (s.fn f).bme = true ∧
      (s.fn f).flr = true) ∧
    (∃ (s : State) (f : Nat),
      f < 8 ∧
      (s.fn f).bme = false) ∧
    (∃ (s : State) (f : Nat),
      f < 8 ∧
      (s.fn f).d3hot = false) ∧
    (∃ (s : State) (f : Nat),
      f < 8 ∧
      (s.fn f).d3hot = true) ∧
    (∃ (f v : Nat),
      f < 8 ∧
      v < 4096) ∧
    (∃ (s : State) (q : Nat),
      s.isDown q = true) :=
  ⟨⟨{ up with host.queues := [(3, { kind := .copy, spoke := 5, state := .active })] }, 0, by decide +kernel⟩,
   ⟨up.modFn 1 fun x => { x with flr := true }, 1, by decide +kernel⟩,
   ⟨up.modFn 1 fun x => { x with bme := false, msixEn := true, pba := [4] }, 1, by decide +kernel⟩,
   ⟨{ up with host.queues := [(3, { kind := .copy, spoke := 5, state := .active })] }, 0, by decide +kernel⟩,
   ⟨up.modFn 1 fun x => { x with d3hot := true }, 1, by decide +kernel⟩,
   ⟨1, 4, by decide +kernel⟩,
   ⟨up, 8, by decide +kernel⟩⟩

theorem witness_ContainmentAndResetTerminateRequests :
    (∃ (s : State) (q : Nat),
      s.isDown q = true ∧
      s.portRole q = 2) ∧
    (∃ (s : State) (q : Nat),
      s.isDown q = true ∧
      s.portRole q ≠ 2 ∧
      (s.port q).dpcEn = true ∧
      (s.port q).dpcTriggered = false) ∧
    (∃ (s : State) (q : Nat),
      s.isDown q = true ∧
      (s.port q).link ≠ .down ∧
      (s.port q).sbrActive = false) ∧
    (∃ (s : State) (q : Nat),
      s.isDown q = true ∧
      (s.port q).sbrActive = true ∧
      (s.port q).link ≠ .down) ∧
    (∃ (s : State) (q : Nat),
      s.isDown q = true ∧
      (s.port q).perst = true ∧
      (s.port q).blocked = false ∧
      (s.port q).link ≠ .l0 ∧
      s.brd.pll.contains 1 = false) ∧
    (∃ (s : State) (q : Nat),
      s.isDown q = true) ∧
    (∃ (s : State) (q : Nat),
      s.isDown q = true ∧
      s.brd.soft = none ∧
      (s.port q).sbr = false) ∧
    (∃ (s : State) (q : Nat),
      s.isDown q = true ∧
      s.brd.soft = none) ∧
    (∃ (s : State) (q : Nat) (x : Bool),
      s.isDown q = true ∧
      s.brd.soft = some x) ∧
    (∃ (s : State) (q : Nat),
      s.isDown q = true ∧
      (s.port q).sbrActive = true ∧
      (s.port q).sbr = false ∧
      (s.port q).perst = false) :=
  ⟨⟨{ up with regs := Map.put up.regs (aCtlCfg 2) 2 }, 8, by decide +kernel⟩,
   ⟨{ up with host.ports := [(8, { dpcEn := true, link := .l0 })] }, 8, by decide +kernel⟩,
   ⟨{ up with host.ports := [(8, { link := .l0 })] }, 8, by decide +kernel⟩,
   ⟨{ up with host.ports := [(8, { link := .l0, sbrActive := true })] }, 8, by decide +kernel⟩,
   ⟨{ up with host.ports := [(8, { perst := true })] }, 8, by decide +kernel⟩,
   ⟨up, 8, by decide +kernel⟩,
   ⟨{ up with host.ports := [(8, { perst := true })] }, 8, by decide +kernel⟩,
   ⟨up, 8, by decide +kernel⟩,
   ⟨{ up with brd.soft := some true }, 8, true, by decide +kernel⟩,
   ⟨{ up with host.ports := [(8, { sbrActive := true })] }, 8, by decide +kernel⟩⟩

theorem witness_LinkPowerChangesOneLink :
    (∃ (s : State) (q : Nat),
      s.portExists q = true ∧
      (s.port q).link = .l0 ∧
      (s.port q).l1En = true ∧
      s.rfield (aCtlCfg (q / 4)) 15 8 ≠ 0) ∧
    (∃ (s : State) (q : Nat),
      s.portExists q = true ∧
      (s.port q).link = .l0 ∧
      (s.port q).l0pEn = true ∧
      s.rfield (aCtlCfg (q / 4)) 16 16 = 1 ∧
      8 ≤ (s.port q).width) ∧
    (∃ (s : State) (q : Nat),
      s.portExists q = true ∧
      (s.port q).link = .l0 ∧
      (s.port q).width ≠ (s.port q).fullWidth) :=
  ⟨⟨{ up with regs := Map.put up.regs (aCtlCfg 2) 0x10101, host.ports := [(8, { link := .l0, l1En := true })] }, 8, by decide +kernel⟩,
   ⟨{ up with regs := Map.put up.regs (aCtlCfg 2) 0x10101, host.ports := [(8, { link := .l0, l0pEn := true })] }, 8, by decide +kernel⟩,
   ⟨{ up with host.ports := [(8, { link := .l0, width := 8 })] }, 8, by decide +kernel⟩⟩

theorem witness_CompletionsEndTheirRequest :
    (∃ (s : State) (q tag : Nat),
      q < 40 ∧
      tag < 16384 ∧
      Map.get s.host.reqs (16384 * q + tag) = none) ∧
    (∃ (s : State) (q tag : Nat) (r : Req),
      q < 40 ∧
      tag < 16384 ∧
      Map.get s.host.reqs (16384 * q + tag) = some r ∧
      r.quarantined = true) ∧
    (∃ (s : State) (q tag g u w : Nat) (r : Req),
      q < 40 ∧
      tag < 16384 ∧
      Map.get s.host.reqs (16384 * q + tag) = some r ∧
      r.quarantined = false ∧
      r.purpose = .forwarded g u w) ∧
    (∃ (s : State) (q tag o va n : Nat) (st : CplStatus) (r : Req) (x : Op),
      q < 40 ∧
      tag < 16384 ∧
      Map.get s.host.reqs (16384 * q + tag) = some r ∧
      r.quarantined = false ∧
      r.purpose = .copyRead o va n ∧
      s.op o = some x ∧
      x.phase ≠ .done ∧
      x.poisoned = false ∧
      x.medium = false ∧
      st ≠ .success) ∧
    (∃ (s : State) (q tag o va n : Nat) (r : Req),
      q < 40 ∧
      tag < 16384 ∧
      Map.get s.host.reqs (16384 * q + tag) = some r ∧
      r.quarantined = false ∧
      r.purpose = .copyRead o va n) ∧
    (∃ (s : State) (q tag o va n : Nat) (r : Req) (x : Op),
      q < 40 ∧
      tag < 16384 ∧
      Map.get s.host.reqs (16384 * q + tag) = some r ∧
      r.quarantined = false ∧
      r.purpose = .copyRead o va n ∧
      s.op o = some x ∧
      x.phase ≠ .done ∧
      x.poisoned = false ∧
      x.medium = false) :=
  ⟨⟨up, 0, 5, by decide +kernel⟩,
   ⟨{ up with host.reqs := [(5, { fn := 0, port := 0, purpose := .other 0, issued := 0, quarantined := true })] }, 0, 5, { fn := 0, port := 0, purpose := .other 0, issued := 0, quarantined := true }, by decide +kernel⟩,
   ⟨{ up with host.reqs := [(5, { fn := 0, port := 0, purpose := .forwarded 8 2 1, issued := 0 })] }, 0, 5, 8, 2, 1, { fn := 0, port := 0, purpose := .forwarded 8 2 1, issued := 0 }, by decide +kernel⟩,
   ⟨{ up with host.reqs := [(5, { fn := 0, port := 0, purpose := .copyRead 3 64 8, issued := 0 })], host.ops := [(3, { queue := 1, index := 0, consumer := 1, desc := [] })] }, 0, 5, 3, 64, 8, .unsupported, { fn := 0, port := 0, purpose := .copyRead 3 64 8, issued := 0 }, { queue := 1, index := 0, consumer := 1, desc := [] }, by decide +kernel⟩,
   ⟨{ up with host.reqs := [(5, { fn := 0, port := 0, purpose := .copyRead 3 64 8, issued := 0 })] }, 0, 5, 3, 64, 8, { fn := 0, port := 0, purpose := .copyRead 3 64 8, issued := 0 }, by decide +kernel⟩,
   ⟨{ up with host.reqs := [(5, { fn := 0, port := 0, purpose := .copyRead 3 64 8, issued := 0 })], host.ops := [(3, { queue := 1, index := 0, consumer := 1, desc := [] })] }, 0, 5, 3, 64, 8, { fn := 0, port := 0, purpose := .copyRead 3 64 8, issued := 0 }, { queue := 1, index := 0, consumer := 1, desc := [] }, by decide +kernel⟩⟩

theorem witness_TranslationEventsActOnTheirPages :
    (∃ (f : Nat),
      f < 8) ∧
    (∃ (s : State) (f o page : Nat) (pasid : Option Nat) (p : PageReq) (x : Op),
      s.host.pageReqs.find? (fun p => p.fn == f && p.pasid == pasid && p.page == page && p.sent) = some p ∧
      p.waiters = [.op o] ∧
      s.op o = some x ∧
      x.phase = .parked) ∧
    (∃ (s : State) (f o page : Nat) (pasid : Option Nat) (code : PageCode) (p : PageReq) (x : Op) (q : Queue),
      s.host.pageReqs.find? (fun p => p.fn == f && p.pasid == pasid && p.page == page && p.sent) = some p ∧
      p.waiters = [.op o] ∧
      s.op o = some x ∧
      x.phase = .parked ∧
      code ≠ .success ∧
      s.queue x.queue = some q ∧
      q.kind = .copy ∧
      x.poisoned = false ∧
      x.medium = false) ∧
    (∃ (s : State) (o : Nat) (p : PageReq) (x : Op) (q : Queue),
      s.host.pageReqs.find? (fun p => p.waiters.contains (.op o)) = some p ∧
      s.op o = some x ∧
      x.phase = .parked ∧
      s.queue x.queue = some q ∧
      q.kind = .copy ∧
      x.poisoned = false ∧
      x.medium = false) :=
  ⟨⟨1, by decide +kernel⟩,
   ⟨{ up with host.pageReqs := [{ fn := 0, pasid := none, page := 7, sent := true, since := 0, waiters := [.op 3] }], host.ops := [(3, { queue := 1, index := 0, consumer := 1, desc := [], phase := .parked })] }, 0, 3, 7, none, { fn := 0, pasid := none, page := 7, sent := true, since := 0, waiters := [.op 3] }, { queue := 1, index := 0, consumer := 1, desc := [], phase := .parked }, by decide +kernel⟩,
   ⟨{ up with host.pageReqs := [{ fn := 0, pasid := none, page := 7, sent := true, since := 0, waiters := [.op 3] }], host.queues := [(1, { kind := .copy, spoke := 5 })], host.ops := [(3, { queue := 1, index := 0, consumer := 1, desc := [], phase := .parked })] }, 0, 3, 7, none, .failure, { fn := 0, pasid := none, page := 7, sent := true, since := 0, waiters := [.op 3] }, { queue := 1, index := 0, consumer := 1, desc := [], phase := .parked }, { kind := .copy, spoke := 5 }, by decide +kernel⟩,
   ⟨{ up with host.pageReqs := [{ fn := 0, pasid := none, page := 7, sent := true, since := 0, waiters := [.op 3] }], host.queues := [(1, { kind := .copy, spoke := 5 })], host.ops := [(3, { queue := 1, index := 0, consumer := 1, desc := [], phase := .parked })] }, 3, { fn := 0, pasid := none, page := 7, sent := true, since := 0, waiters := [.op 3] }, { queue := 1, index := 0, consumer := 1, desc := [], phase := .parked }, { kind := .copy, spoke := 5 }, by decide +kernel⟩⟩

theorem witness_RegisterWritesFollowTheAccessCodes :
    (∃ (s : State) (f off : Nat) (d : RegDef) (ix : List Nat) (x : RegField),
      f < 8 ∧
      f % 4 = 0 ∧
      off < 0x4000000 ∧
      off % 8 = 0 ∧
      s.brd.soft = none ∧
      s.place0 f off = .reg off ∧
      findReg off = some (d, ix) ∧
      d.name ∉ ([.glbTimeSnap, .pciWinCtl, .memRawCmd, .pktPortCfg, .schGateCtl, .schGateEntry] : List RegName) ∧
      x ∈ d.fields) ∧
    (∃ (s : State) (f off width : Nat),
      f < 8 ∧
      off < 0x4000000 ∧
      s.brd.soft = none ∧
      ((width ≠ 4 ∧ width ≠ 8) ∨ off % width ≠ 0)) ∧
    (∃ (s : State) (f off width : Nat),
      f < 8 ∧
      off < 0x4000000 ∧
      s.brd.soft = none ∧
      (width = 4 ∨ width = 8) ∧
      off % width = 0 ∧
      s.place0 f (off / 8 * 8) = .none) ∧
    (∃ (s : State) (f off width o : Nat),
      f < 8 ∧
      off < 0x4000000 ∧
      s.brd.soft = none ∧
      (width = 4 ∨ width = 8) ∧
      off % width = 0 ∧
      s.place0 f (off / 8 * 8) = .response o) ∧
    (∃ (s : State) (x : Bool),
      s.brd.soft = some x) :=
  ⟨⟨up, 0, 0x201008, ((findReg 0x201008).get (by decide +kernel)).1, [0], { hi := 63, lo := 0, acc := .rw, reset := 0 }, by decide +kernel⟩,
   ⟨up, 1, 4, 8, by decide +kernel⟩,
   ⟨up, 1, 64, 8, by decide +kernel⟩,
   ⟨up, 1, 0xA01000, 8, 0, by decide +kernel⟩,
   ⟨{ up with brd.soft := some true }, true, by decide +kernel⟩⟩

theorem witness_LinkRequestsReachBars :
    (∃ (s : State) (q f off v : Nat),
      s.canArrive q = true ∧
      s.ingressShut q = false ∧
      f < 8 ∧
      f % 4 = 0 ∧
      s.barsOpen f = true ∧
      off + 8 ≤ 0x4000000 ∧
      off % 8 = 0 ∧
      s.brd.soft = none ∧
      s.place0 f off = .reg off ∧
      s.regRead off = some v) ∧
    (∃ (s : State) (q f off : Nat) (data : Bytes),
      s.canArrive q = true ∧
      s.ingressShut q = false ∧
      f < 8 ∧
      s.barsOpen f = true ∧
      off + data.length ≤ 0x4000000 ∧
      0 < data.length) ∧
    (∃ (s : State) (q f bar : Nat),
      s.canArrive q = true ∧
      s.ingressShut q = false ∧
      f < 8 ∧
      (bar = 0 ∨ bar = 2) ∧
      s.barsOpen f = false) ∧
    (∃ (s : State) (q f bar off : Nat) (data : Bytes),
      s.canArrive q = true ∧
      s.ingressShut q = false ∧
      f < 8 ∧
      (bar = 0 ∨ bar = 2) ∧
      s.barsOpen f = true ∧
      off + data.length ≤ 0x1000000) ∧
    (∃ (s : State) (q off : Nat) (data : Bytes) (x : Win),
      s.canArrive q = true ∧
      s.ingressShut q = false ∧
      s.barsOpen (4 * s.portHier q + 3) = true ∧
      off + data.length ≤ 2 ^ (s.fn (4 * s.portHier q + 3)).bar4Log2 ∧
      ((List.range 64).map (s.winCurrent q)).find? (fun x => x.valid && decide (x.base * 65536 ≤ off) && decide (off + data.length ≤ (x.limit + 1) * 65536)) = some x ∧
      x.wr = true ∧
      x.port = false ∧
      s.inUse [useJobs] (x.target + (off - x.base * 65536)) data.length = true) ∧
    (∃ (s : State) (q off n : Nat) (x : Win),
      s.canArrive q = true ∧
      s.ingressShut q = false ∧
      s.barsOpen (4 * s.portHier q + 3) = true ∧
      off + n ≤ 2 ^ (s.fn (4 * s.portHier q + 3)).bar4Log2 ∧
      ((List.range 64).map (s.winCurrent q)).find? (fun x => x.valid && decide (x.base * 65536 ≤ off) && decide (off + n ≤ (x.limit + 1) * 65536)) = some x ∧
      x.rd = true ∧
      x.port = false ∧
      s.inUse [useJobs] (x.target + (off - x.base * 65536)) n = true) ∧
    (∃ (s : State) (q off n : Nat),
      s.canArrive q = true ∧
      s.ingressShut q = false ∧
      s.barsOpen (4 * s.portHier q + 3) = true ∧
      off + n ≤ 2 ^ (s.fn (4 * s.portHier q + 3)).bar4Log2 ∧
      ((List.range 64).map (s.winCurrent q)).find? (fun x => x.valid && decide (x.base * 65536 ≤ off) && decide (off + n ≤ (x.limit + 1) * 65536)) = none) ∧
    (∃ (s : State) (q u a : Nat),
      s.canArrive q = true ∧
      s.ingressShut q = false ∧
      s.portRole q < 2 ∧
      s.barHit (s.portHier q) a = none ∧
      s.claims (s.portHier q) a = some u ∧
      u ≠ q ∧
      (s.portRole q = 0 ∨ (s.port q).acsRedirect = false) ∧
      (s.port u).contained = false ∧
      (s.port u).sbrActive = false ∧
      (s.port u).link = .l0) ∧
    (∃ (s : State) (q : Nat),
      s.canArrive q = true ∧
      s.ingressShut q = true ∧
      s.portRole q < 2) :=
  ⟨⟨{ up with regs := Map.put up.regs (aCtlCfg 0) 0, host.ports := [(0, { link := .l0 })] }, 0, 0, 0x201008, 0, by decide +kernel⟩,
   ⟨{ up with regs := Map.put up.regs (aCtlCfg 0) 0, host.ports := [(0, { link := .l1 })] }, 0, 0, 0x201008, [1, 2, 3, 4], by decide +kernel⟩,
   ⟨{ up with host.fns := [], regs := Map.put up.regs (aCtlCfg 0) 0, host.ports := [(0, { link := .l1 })] }, 0, 0, 2, by decide +kernel⟩,
   ⟨{ up with regs := Map.put up.regs (aCtlCfg 0) 0, host.ports := [(0, { link := .l1 })] }, 0, 0, 2, 0, [1, 2, 3, 4], by decide +kernel⟩,
   ⟨winUp, 0, 0, [1, 2, 3, 4], { base := 0, limit := 0, target := 0x1AB0000000, valid := true, port := false, tport := 0, rd := true, wr := true, atomic := false }, by decide +kernel⟩,
   ⟨winUp, 0, 64, 8, { base := 0, limit := 0, target := 0x1AB0000000, valid := true, port := false, tport := 0, rd := true, wr := true, atomic := false }, by decide +kernel⟩,
   ⟨winUp, 0, 0x20000, 8, by decide +kernel⟩,
   ⟨{ up with regs := Map.put up.regs (aCtlCfg 0) 0, host.ports := [(0, { link := .l0 }), (8, { link := .l0, memBase := 4096, memLimit := 8192 })] }, 0, 8, 4096, by decide +kernel⟩,
   ⟨{ up with host.ports := [(8, { link := .l0 })] }, 8, by decide +kernel⟩⟩

theorem witness_WindowsAndConfigurationSpaceFollowTheirRequests :
    (∃ (s : State) (q : Nat),
      q < 40 ∧
      s.rfield (aWinCtl q) 1 1 = 1) ∧
    (∃ (s : State) (q w : Nat),
      q < 40 ∧
      s.rfield (aWinCtl q) 1 1 = 0 ∧
      s.winFailing q = some w) ∧
    (∃ (s : State) (q : Nat),
      q < 40 ∧
      s.rfield (aWinCtl q) 1 1 = 0 ∧
      s.winFailing q = none) ∧
    (∃ (s : State) (i : Nat) (r : WinReq),
      Map.get s.host.winReqs i = some r ∧
      s.host.reqs = []) ∧
    (∃ (s : State) (h n : Nat),
      h < 2 ∧
      (s.fn (4 * h + 3)).mse = false ∧
      30 ≤ n ∧
      n ≤ 38) ∧
    (∃ (s : State) (f : Nat),
      f < 8 ∧
      (s.port (upPort f)).link = .l0 ∧
      s.brd.scReleased = false ∧
      s.brd.soft = none) ∧
    (∃ (s : State) (f : Nat) (c : CfgField),
      f < 8 ∧
      (s.port (upPort f)).link = .l0 ∧
      s.brd.scReleased = true ∧
      portOf c = none ∧
      (s.fn f).flr = false) ∧
    (∃ (s : State) (f : Nat),
      f < 8 ∧
      (s.port (upPort f)).link = .l0 ∧
      s.brd.scReleased = true ∧
      (s.fn f).flr = false) :=
  ⟨⟨{ up with regs := Map.put up.regs (aWinCtl 0) 2 }, 0, by decide +kernel⟩,
   ⟨winUp.rput (aWinBase 0 0 + 8) 0x1000000000000000000 |>.rput (aWinBase 0 1 + 0x18) 1, 0, 0, by decide +kernel⟩,
   ⟨winUp, 0, by decide +kernel⟩,
   ⟨{ up with host.winReqs := [(4, { q := 0, gen := 1, port := false, tag := 0, posted := true })] }, 4, { q := 0, gen := 1, port := false, tag := 0, posted := true }, by decide +kernel⟩,
   ⟨{ up with host.fns := [] }, 0, 34, by decide +kernel⟩,
   ⟨{ State.reset with host.ports := [(0, { link := .l0 })] }, 0, by decide +kernel⟩,
   ⟨{ up with host.ports := [(0, { link := .l0 })] }, 0, .ids, by decide +kernel⟩,
   ⟨{ up with host.ports := [(0, { link := .l0 })] }, 0, by decide +kernel⟩⟩

theorem witness_FunctionLevelResetClearsTheFunction :
    (∃ (s : State) (f : Nat),
      f < 8 ∧
      s.canonical = true ∧
      s.brd.soft = none ∧
      (s.fn f).flr = false) ∧
    (∃ (s : State) (f : Nat) (x : Bool),
      f < 8 ∧
      s.brd.soft = some x) ∧
    (∃ (s : State) (f : Nat),
      f < 8 ∧
      (s.fn f).flr = true) :=
  ⟨⟨up, 0, by decide +kernel⟩,
   ⟨{ up with brd.soft := some true }, 0, true, by decide +kernel⟩,
   ⟨up.modFn 1 fun x => { x with flr := true }, 1, by decide +kernel⟩⟩

theorem witness_MailboxPostAnswersTheFirstFailure :
    (∃ (s : State) (f : Nat),
      (s.fn f).mb.outstanding = true) ∧
    (∃ (s : State) (f v : Nat) (m : Mailbox),
      (s.fn f).mb.outstanding = false ∧
      (s.fn f).mb.write 0 (toLe 8 v) = m ∧
      s.brd.scan = false ∧
      s.brd.soft = none ∧
      s.brd.scReleased = true ∧
      s.boot = 3 ∧
      s.serviceDown m.service = false) :=
  ⟨⟨posted up 0 1 [], 0, by decide +kernel⟩,
   ⟨up, 1, 3 + 2 ^ 16, (up.fn 1).mb.write 0 (toLe 8 (3 + 2 ^ 16)), by decide +kernel⟩⟩

theorem witness_ResponsesEchoTheirRequest :
    (∃ (p : Bytes),
      p.length < 2 ^ 16) :=
  ⟨[1, 2, 3, 4], by decide +kernel⟩

theorem witness_PresenceCommandsMoveTheAttachState :
    (∃ (s : State) (f k : Nat) (p : Bytes),
      s.performable f 0x0001 = true ∧
      (s.fn f).mb.payload = p ∧
      u64 p 0 ≠ 0 ∧
      (s.fn f).attach = .detached ∧
      (s.fn f).baseSpoke = none ∧
      Map.lowestFree s.host.spokes 2048 = some k ∧
      (s.host.spokes.filter fun x => x.2.fn == f).length < s.spokeLimit f) ∧
    (∃ (s : State) (f k : Nat) (p : Bytes),
      s.performable f 0x0001 = true ∧
      (s.fn f).mb.payload = p ∧
      u64 p 0 ≠ 0 ∧
      (s.fn f).attach = .detached ∧
      (s.fn f).baseSpoke = some k) ∧
    (∃ (s : State) (f : Nat) (p : Bytes),
      s.performable f 0x0001 = true ∧
      (s.fn f).mb.payload = p ∧
      u64 p 0 ≠ 0 ∧
      (s.fn f).attach = .attached) ∧
    (∃ (s : State) (f : Nat) (p : Bytes),
      s.performable f 0x0001 = true ∧
      (s.fn f).mb.payload = p ∧
      u64 p 0 ≠ 0 ∧
      (s.fn f).attach = .freewheel) ∧
    (∃ (s : State) (f : Nat) (p : Bytes),
      s.performable f 0x0001 = true ∧
      (s.fn f).mb.payload = p ∧
      u64 p 0 = 0) ∧
    (∃ (s : State) (f : Nat) (p : Bytes),
      s.performable f 0x0002 = true ∧
      (s.fn f).mb.payload = p) ∧
    (∃ (s : State) (f : Nat),
      (s.fn f).attach = .attached ∧
      (s.fn f).d3hot = false) ∧
    (∃ (s : State) (f : Nat),
      ((s.fn f).attach ≠ .attached ∨ (s.fn f).d3hot = true)) :=
  ⟨⟨posted ({ up with host.fns := [], host.spokes := [] }) 1 0x0001 ([1, 0, 0, 0, 0, 0, 0, 0]), 1, 0, [1, 0, 0, 0, 0, 0, 0, 0], by decide +kernel⟩,
   ⟨posted ((up.setFn 1 { baseSpoke := some 5 })) 1 0x0001 ([1, 0, 0, 0, 0, 0, 0, 0]), 1, 5, [1, 0, 0, 0, 0, 0, 0, 0], by decide +kernel⟩,
   ⟨posted (up) 1 0x0001 ([1, 0, 0, 0, 0, 0, 0, 0]), 1, [1, 0, 0, 0, 0, 0, 0, 0], by decide +kernel⟩,
   ⟨posted ((up.setFn 1 { attach := .freewheel, driver := 9 })) 1 0x0001 ([1, 0, 0, 0, 0, 0, 0, 0]), 1, [1, 0, 0, 0, 0, 0, 0, 0], by decide +kernel⟩,
   ⟨posted (up) 1 0x0001 ([0, 0, 0, 0, 0, 0, 0, 0]), 1, [0, 0, 0, 0, 0, 0, 0, 0], by decide +kernel⟩,
   ⟨posted ({ up with host.queues := [(3, { kind := .copy, spoke := 5, state := .active })] }) 0 0x0002 ([]), 0, [], by decide +kernel⟩,
   ⟨{ up with host.queues := [(3, { kind := .copy, spoke := 5, state := .active })] }, 0, by decide +kernel⟩,
   ⟨State.reset, 0, by decide +kernel⟩⟩

theorem witness_SpokesAreMadeChangedAndDestroyed :
    (∃ (s : State) (f k : Nat) (p : Bytes),
      s.performable f 0x0101 = true ∧
      (s.fn f).mb.payload = p ∧
      (spokeArgs p).bad = false ∧
      s.pasidTaken (f / 4 * 4 + (spokeArgs p).pf) (spokeArgs p).pasid = false ∧
      s.rootBad (spokeArgs p).ptRoot = false ∧
      (f % 4 = 0 ∨ f / 4 * 4 + (spokeArgs p).pf = f) ∧
      (s.fn (f / 4 * 4 + (spokeArgs p).pf)).pasidEn = true ∧
      (s.host.spokes.filter fun x => x.2.fn == f / 4 * 4 + (spokeArgs p).pf).length < s.spokeLimit (f / 4 * 4 + (spokeArgs p).pf) ∧
      Map.lowestFree s.host.spokes 2048 = some k) ∧
    (∃ (s : State) (f : Nat) (p : Bytes) (x : Spoke),
      s.performable f 0x0103 = true ∧
      (s.fn f).mb.payload = p ∧
      s.spoke (u16 p 0) = some x ∧
      (spokeArgs (p.drop 8)).bad = false ∧
      (spokeArgs (p.drop 8)).pf = x.fn % 4 ∧
      (spokeArgs (p.drop 8)).pasid = x.pasid ∧
      (spokeArgs (p.drop 8)).ptRoot = x.ptRoot ∧
      (x.base = true ∨ s.rootBad x.ptRoot = false) ∧
      s.mayNameSpoke f (u16 p 0) = true ∧
      s.queuesHeld (u16 p 0) ≤ (spokeArgs (p.drop 8)).queueQuota ∧
      s.countersHeld (u16 p 0) ≤ (spokeArgs (p.drop 8)).counterQuota) ∧
    (∃ (s : State) (f : Nat) (p : Bytes) (x : Spoke),
      s.performable f 0x0102 = true ∧
      (s.fn f).mb.payload = p ∧
      s.canonical = true ∧
      s.spoke (u16 p 0) = some x ∧
      x.base = false ∧
      s.mayNameSpoke f (u16 p 0) = true ∧
      s.xpt.conns = []) ∧
    (∃ (s : State) (f : Nat) (p : Bytes) (x : Spoke),
      s.performable f 0x0102 = true ∧
      (s.fn f).mb.payload = p ∧
      s.spoke (u16 p 0) = some x ∧
      (x.base = true ∨ s.mayNameSpoke f (u16 p 0) = false)) :=
  ⟨⟨posted ((up.modFn 1 fun x => { x with pasidEn := true })) 1 0x0101 ([1, 0, 0, 0, 9, 0, 0, 0, 8, 0, 0, 0, 8, 0, 0, 0, 0, 0, 0, 0x20, 1, 0, 0, 0, 1, 0, 1, 0, 0, 0, 0, 0, 0, 0, 0, 0, 0, 0, 0, 0, 0, 0, 0, 0, 0, 0, 0, 0]), 1, 0, [1, 0, 0, 0, 9, 0, 0, 0, 8, 0, 0, 0, 8, 0, 0, 0, 0, 0, 0, 0x20, 1, 0, 0, 0, 1, 0, 1, 0, 0, 0, 0, 0, 0, 0, 0, 0, 0, 0, 0, 0, 0, 0, 0, 0, 0, 0, 0, 0], by decide +kernel⟩,
   ⟨posted (up) 0 0x0103 ([5, 0, 0, 0, 0, 0, 0, 0, 0, 0, 0, 0, 0, 0, 0, 0, 8, 0, 0, 0, 8, 0, 0, 0, 0, 0, 0, 0, 0, 0, 0, 0, 1, 0, 1, 0, 0, 0, 0, 0, 0, 0, 0, 0, 0, 0, 0, 0, 0, 0, 0, 0, 0, 0, 0, 0]), 0, [5, 0, 0, 0, 0, 0, 0, 0, 0, 0, 0, 0, 0, 0, 0, 0, 8, 0, 0, 0, 8, 0, 0, 0, 0, 0, 0, 0, 0, 0, 0, 0, 1, 0, 1, 0, 0, 0, 0, 0, 0, 0, 0, 0, 0, 0, 0, 0, 0, 0, 0, 0, 0, 0, 0, 0], { fn := 0, base := true }, by decide +kernel⟩,
   ⟨posted ({ up with host.queues := [(3, { kind := .copy, spoke := 6, state := .active })], trg.counters := [(4, { spoke := 6 })] }) 0 0x0102 ([6, 0, 0, 0, 0, 0, 0, 0]), 0, [6, 0, 0, 0, 0, 0, 0, 0], { fn := 0, pasid := 1 }, by decide +kernel⟩,
   ⟨posted (up) 0 0x0102 ([5, 0, 0, 0, 0, 0, 0, 0]), 0, [5, 0, 0, 0, 0, 0, 0, 0], { fn := 0, base := true }, by decide +kernel⟩⟩

theorem witness_QueueCommandsMoveTheQueue :
    (∃ (s : State) (f n : Nat) (p : Bytes) (k : QKind),
      s.performable f 0x0110 = true ∧
      (s.fn f).mb.payload = p ∧
      QKind.ofCode (u8 p 0) = some k ∧
      s.queueCreateBad p k = false ∧
      s.mayNameSpoke f (u16 p 2) = true ∧
      (kindFns k).contains (f % 4) = true ∧
      (bit (u16 p 24) 15 = true → (Map.get s.trg.counters (bits (u16 p 24) 13 0)).map Counter.spoke = some (u16 p 2)) ∧
      s.queuesHeld (u16 p 2) < ((s.spoke (u16 p 2)).map Spoke.queueQuota).getD 0 ∧
      Map.lowestFree s.host.queues 131072 = some n) ∧
    (∃ (s : State) (f : Nat) (p : Bytes) (q : Queue),
      s.performable f 0x0111 = true ∧
      (s.fn f).mb.payload = p ∧
      s.canonical = true ∧
      s.queue (u32 p 0) = some q ∧
      q.kind ≠ .nvme ∧
      s.mayNameSpoke f q.spoke = true ∧
      (q.kind = .completion → s.ringNamed (u32 p 0) = false)) ∧
    (∃ (s : State) (f : Nat) (p : Bytes) (q : Queue),
      s.performable f 0x0112 = true ∧
      (s.fn f).mb.payload = p ∧
      s.queue (u32 p 0) = some q ∧
      q.kind ≠ .nvme ∧
      s.mayNameSpoke f q.spoke = true ∧
      (q.state = .stopped ∨ q.state = .frozen) ∧
      (s.fn (s.spokeFn q.spoke)).attach = .attached ∧
      (s.fn (s.spokeFn q.spoke)).bme = true ∧
      q.cq = none ∧
      q.kind.isRing = false) ∧
    (∃ (s : State) (f : Nat) (p : Bytes) (q : Queue),
      s.performable f 0x0113 = true ∧
      (s.fn f).mb.payload = p ∧
      s.queue (u32 p 0) = some q ∧
      q.kind ≠ .nvme ∧
      q.kind.isRing = false ∧
      s.mayNameSpoke f q.spoke = true ∧
      q.state = .active) ∧
    (∃ (s : State) (f off v : Nat) (sp : Spoke) (q : Queue),
      off < 0x800000 ∧
      f < 8 ∧
      off % 8 = 0 ∧
      s.spoke (off / 4096) = some sp ∧
      sp.fn = f ∧
      s.queue (bits v 16 0) = some q ∧
      q.spoke = off / 4096 ∧
      bits v 31 17 = 0 ∧
      q.state ≠ .error ∧
      q.kind.isRing = false ∧
      q.kind ≠ .nvme) ∧
    (∃ (s : State) (f off v : Nat),
      off < 0x800000 ∧
      f < 8 ∧
      (s.spoke (off / 4096) = none ∨ s.queue (bits v 16 0) = none)) :=
  ⟨⟨posted (up) 0 0x0110 ([1, 0, 5, 0, 4, 0, 0, 0, 0, 0, 0, 0, 0, 0, 0, 0, 0xFF, 0xFF, 3, 0, 0, 0, 0, 0, 0, 0, 0, 0, 0, 0, 0, 0, 0, 0, 0, 0, 0, 0, 0, 0, 0, 0, 0, 0, 0, 0, 0, 0, 0, 0, 0, 0, 0, 0, 0, 0, 0, 0, 0, 0, 0, 0, 0, 0]), 0, 0, [1, 0, 5, 0, 4, 0, 0, 0, 0, 0, 0, 0, 0, 0, 0, 0, 0xFF, 0xFF, 3, 0, 0, 0, 0, 0, 0, 0, 0, 0, 0, 0, 0, 0, 0, 0, 0, 0, 0, 0, 0, 0, 0, 0, 0, 0, 0, 0, 0, 0, 0, 0, 0, 0, 0, 0, 0, 0, 0, 0, 0, 0, 0, 0, 0, 0], .completion, by decide +kernel⟩,
   ⟨posted ({ up with host.queues := [(3, { kind := .copy, spoke := 6, state := .active })], host.ops := [(2, { queue := 3, index := 0, consumer := 1, desc := [] })] }) 0 0x0111 ([3, 0, 0, 0]), 0, [3, 0, 0, 0], { kind := .copy, spoke := 6, state := .active }, by decide +kernel⟩,
   ⟨posted ({ up with host.queues := [(3, { kind := .copy, spoke := 6 })] }) 0 0x0112 ([3, 0, 0, 0]), 0, [3, 0, 0, 0], { kind := .copy, spoke := 6 }, by decide +kernel⟩,
   ⟨posted ({ up with host.queues := [(3, { kind := .copy, spoke := 6, state := .active })] }) 0 0x0113 ([3, 0, 0, 0]), 0, [3, 0, 0, 0], { kind := .copy, spoke := 6, state := .active }, by decide +kernel⟩,
   ⟨{ up with host.queues := [(3, { kind := .copy, spoke := 6, state := .active })] }, 0, 6 * 4096, 3 + 2 ^ 33, { fn := 0, pasid := 1 }, { kind := .copy, spoke := 6, state := .active }, by decide +kernel⟩,
   ⟨up, 0, 4096, 0, by decide +kernel⟩⟩

theorem witness_DescriptorsBecomeOperationsAndLeave :
    (∃ (s u : State) (qi : Nat) (q : Queue) (r : AccRes) (ans : HostAns),
      s.queue qi = some q ∧
      s.mayFetch qi q = true ∧
      s.waitState q = .go ∧
      s.spokeRead q.spoke (q.base + 64 * (q.consumer % q.size)) 64 ans = (u, r) ∧
      r.status = .success ∧
      r.poisoned = false ∧
      r.medium = false ∧
      Map.has u.trg.entries (trigKey q.spoke (dTrigger r.data)) = false) ∧
    (∃ (s u : State) (qi : Nat) (q : Queue) (r : AccRes) (ans : HostAns),
      s.queue qi = some q ∧
      s.mayFetch qi q = true ∧
      s.waitState q = .go ∧
      s.spokeRead q.spoke (q.base + 64 * (q.consumer % q.size)) 64 ans = (u, r) ∧
      (r.status ≠ .success ∨ r.poisoned = true ∨ r.medium = true) ∧
      u.pages q.spoke r = false) ∧
    (∃ (s : State) (o ri : Nat) (x : Op) (q r : Queue) (sp : Spoke),
      s.canonical = true ∧
      s.op o = some x ∧
      x.phase = .done ∧
      s.queue x.queue = some q ∧
      q.cq = some ri ∧
      (dSignal x.desc = true ∨ x.status ≠ .success) ∧
      s.queue ri = some r ∧
      r.kind = .completion ∧
      r.state = .active ∧
      r.due = [] ∧
      r.used < r.size ∧
      q.state ≠ .frozen ∧
      s.spoke r.spoke = some sp ∧
      sp.base = true ∧
      s.canMaster sp.fn = true ∧
      s.rimDown = false ∧
      (r.base + 32 * (r.pi % r.size)) % 32 = 0) ∧
    (∃ (s : State) (f : Nat) (p : Bytes),
      s.performable f 0x0010 = true ∧
      (s.fn f).mb.payload = p ∧
      u64 p 16 = 0 ∧
      u32 p 8 % 8 = 0 ∧
      64 ≤ u32 p 8 ∧
      (bit (u8 p 12) 0 = true → f % 4 = 0) ∧
      s.canMaster f = true ∧
      s.rimDown = false ∧
      ((s.summary fun g => if bit (u8 p 12) 0 then g / 4 == f / 4 else g == f).map List.length).sum ≤ u32 p 8) :=
  ⟨⟨{ up with host.queues := [(3, { kind := .copy, spoke := 5, state := .active, pi := 1 })] }, { up with host.queues := [(3, { kind := .copy, spoke := 5, state := .active, pi := 1 })] }, 3, { kind := .copy, spoke := 5, state := .active, pi := 1 }, { done := 64, data := zeros 64 }, .ok (zeros 64) false, by decide +kernel⟩,
   ⟨{ up with host.queues := [(3, { kind := .copy, spoke := 5, state := .active, pi := 1 })] }, { up with host.queues := [(3, { kind := .copy, spoke := 5, state := .active, pi := 1 })] }, 3, { kind := .copy, spoke := 5, state := .active, pi := 1 }, { status := .timeout }, .fail .timeout, by decide +kernel⟩,
   ⟨{ up with host.queues := [(1, { kind := .completion, spoke := 5, state := .active, base := 4096 }), (3, { kind := .copy, spoke := 5, state := .active, cq := some 1 })], host.ops := [(2, { queue := 3, index := 0, consumer := 1, desc := [1, 1], phase := .done })] }, 2, 1, { queue := 3, index := 0, consumer := 1, desc := [1, 1], phase := .done }, { kind := .copy, spoke := 5, state := .active, cq := some 1 }, { kind := .completion, spoke := 5, state := .active, base := 4096 }, { fn := 0, base := true }, by decide +kernel⟩,
   ⟨posted (up) 0 0x0010 ([0, 0, 1, 0, 0, 0, 0, 0, 0, 16, 0, 0, 1, 0, 0, 0, 0, 0, 0, 0, 0, 0, 0, 0]), 0, [0, 0, 1, 0, 0, 0, 0, 0, 0, 16, 0, 0, 1, 0, 0, 0, 0, 0, 0, 0, 0, 0, 0, 0], by decide +kernel⟩⟩

theorem witness_RegionsAreSetZeroedAndTested :
    (∃ (s : State) (f : Nat) (p : Bytes),
      s.performable f 0x0201 = true ∧
      (s.fn f).mb.payload = p ∧
      f % 4 = 0 ∧
      u8 p 0 < 64 ∧
      s.regionBad (u8 p 0) (regionArg p) = false ∧
      s.hbmRegion (u8 p 0) = none ∧
      (regionArg p).valid = true ∧
      (regionArg p).use ≠ useFirmware ∧
      s.rangeBusy (regionArg p) = false ∧
      s.mem.absent = false ∧
      s.jRoom p.length = true) ∧
    (∃ (s : State) (f : Nat) (p : Bytes) (x : Region),
      s.performable f 0x0201 = true ∧
      (s.fn f).mb.payload = p ∧
      f % 4 = 0 ∧
      u8 p 0 < 64 ∧
      s.regionBad (u8 p 0) (regionArg p) = false ∧
      s.hbmRegion (u8 p 0) = some x ∧
      x.use ≠ useFirmware ∧
      s.regionBusy x = false ∧
      (regionArg p).valid = false ∧
      x ≠ regionArg p ∧
      s.mem.absent = false ∧
      s.jRoom p.length = true) ∧
    (∃ (s : State) (f : Nat) (p : Bytes),
      s.performable f 0x0201 = true ∧
      (s.fn f).mb.payload = p ∧
      s.regionBad (u8 p 0) (regionArg p) = true) ∧
    (∃ (s : State) (i : Nat) (r : Region),
      Map.get s.mem.regions i = some r ∧
      r.zeroing = true ∧
      (s.fwm.jpend.any fun w => w.type == 0x0201 && w.key == i) = false) ∧
    (∃ (s : State) (i : Nat) (r : Region),
      Map.get s.mem.regions i = some r ∧
      r.zeroing = true ∧
      s.fwm.jpend.any (fun w => w.type == 0x0201 && w.key == i) = false ∧
      s.host.asyncs.any (fun a => (a.opcode == 0x0201 || a.opcode == 0x0210) && a.arg == i) = false ∧
      s.canonical = true) ∧
    (∃ (s : State) (f : Nat) (p : Bytes) (r : Region),
      s.performable f 0x0210 = true ∧
      (s.fn f).mb.payload = p ∧
      u8 p 0 < 64 ∧
      f % 4 = 0 ∧
      s.hbmRegion (u8 p 0) = some r ∧
      bit (u8 p 1) 0 = true ∧
      r.use ≠ useFirmware ∧
      s.regionBusy r = false ∧
      s.mem.regions.any (fun x => x.2.test) = false) ∧
    (∃ (s : State) (f : Nat) (p : Bytes) (r : Region),
      s.performable f 0x0210 = true ∧
      (s.fn f).mb.payload = p ∧
      u8 p 0 < 64 ∧
      f % 4 = 0 ∧
      s.hbmRegion (u8 p 0) = some r ∧
      bit (u8 p 1) 0 = false ∧
      r.test = true ∧
      r.zeroing = false) :=
  ⟨⟨posted ({ up with mem.regions := [] }) 0 0x0201 ([9, 1, 0, 0, 8, 0, 0, 0, 2, 0, 0, 0]), 0, [9, 1, 0, 0, 8, 0, 0, 0, 2, 0, 0, 0], by decide +kernel⟩,
   ⟨posted ({ up with mem.regions := [(9, { strong := false, use := 5, base := 8, size := 2 })] }) 0 0x0201 ([9, 0, 0, 0, 0, 0, 0, 0, 0, 0, 0, 0]), 0, [9, 0, 0, 0, 0, 0, 0, 0, 0, 0, 0, 0], { strong := false, use := 5, base := 8, size := 2 }, by decide +kernel⟩,
   ⟨posted (up) 0 0x0201 ([9, 1, 0, 0, 0, 0, 0, 0, 0, 0, 0, 0]), 0, [9, 1, 0, 0, 0, 0, 0, 0, 0, 0, 0, 0], by decide +kernel⟩,
   ⟨{ up with mem.regions := [(9, { strong := false, use := 5, base := 0, size := 2, zeroing := true })] }, 9, { strong := false, use := 5, base := 0, size := 2, zeroing := true }, by decide +kernel⟩,
   ⟨{ up with mem.regions := [(9, { strong := false, use := 5, base := 0, size := 2, zeroing := true })], mem.hbm := [(5, 7)] }, 9, { strong := false, use := 5, base := 0, size := 2, zeroing := true }, by decide +kernel⟩,
   ⟨posted ({ up with mem.regions := [(9, { strong := false, use := 5, base := 8, size := 2 })] }) 0 0x0210 ([9, 1, 0, 0]), 0, [9, 1, 0, 0], { strong := false, use := 5, base := 8, size := 2 }, by decide +kernel⟩,
   ⟨posted ({ up with mem.regions := [(9, { strong := false, use := 5, base := 0, size := 2, test := true })] }) 0 0x0210 ([9, 0, 0, 0]), 0, [9, 0, 0, 0], { strong := false, use := 5, base := 0, size := 2, test := true }, by decide +kernel⟩⟩

theorem witness_MemoryServiceCommandsComplete :
    (∃ (s : State) (f : Nat) (p : Bytes),
      s.performable f 0x0220 = true ∧
      (s.fn f).mb.payload = p ∧
      (s.spoke (u16 p 0)).isSome = true ∧
      s.mayNameSpoke f (u16 p 0) = true ∧
      s.host.reqs = []) ∧
    (∃ (s : State) (f : Nat) (p : Bytes),
      s.performable f 0x0230 = true ∧
      (s.fn f).mb.payload = p) ∧
    (∃ (s : State) (fixed : Bool) (b c : Nat),
      s.rfield aScrub 0 0 = 1 ∧
      s.mem.refresh = false ∧
      s.mem.absent = false ∧
      s.scrubFrom s.mem.scrubPos = some b ∧
      s.scrubFrom (b + 1) = some c ∧
      s.mem.poison.contains b = false ∧
      s.mem.uncorr = [] ∧
      fixed = false) ∧
    (∃ (s : State) (b c : Nat),
      s.rfield aScrub 0 0 = 1 ∧
      s.mem.refresh = false ∧
      s.mem.absent = false ∧
      s.scrubFrom s.mem.scrubPos = some b ∧
      s.scrubFrom (b + 1) = some c ∧
      s.mem.poison.contains b = false ∧
      s.mem.uncorr = [] ∧
      s.rfield aRetire 15 0 = 65535) ∧
    (∃ (s : State) (r : Region),
      s.rawRegion = some r) ∧
    (∃ (s : State) (r : Region),
      s.rawRegion = some r) ∧
    (∃ (s : State) (r : Region),
      s.rawRegion = some r ∧
      s.mem.uncorr.contains (s.rfield aRawAddr 47 6) = false ∧
      Map.get s.mem.rawCheck (s.rfield aRawAddr 47 6) = none ∧
      s.mem.poison.contains (s.rfield aRawAddr 47 6) = false) ∧
    (∃ (s : State),
      s.rawRegion = none) :=
  ⟨⟨posted ({ up with host.atc := [{ spoke := 6, page := 4096, size := 4096, leaf := .hbm 0, rd := true, wr := true }] }) 0 0x0220 ([6, 0, 0, 0, 0, 0, 0, 0, 0, 16, 0, 0, 0, 0, 0, 0, 0, 16]), 0, [6, 0, 0, 0, 0, 0, 0, 0, 0, 16, 0, 0, 0, 0, 0, 0, 0, 16], by decide +kernel⟩,
   ⟨posted ({ up with mem.repairs := [{ lane := false, stack := 1, channel := 2, pseudo := 0, bank := 3, row := 4 }] }) 0 0x0230 ([0, 0, 0, 0]), 0, [0, 0, 0, 0], by decide +kernel⟩,
   ⟨{ up with regs := Map.put up.regs aScrub 1, mem.regions := [(9, { strong := false, use := 5, base := 0, size := 2 })] }, false, 0, 1, by decide +kernel⟩,
   ⟨{ up with regs := Map.put (Map.put up.regs aScrub 1) aRetire 65535, mem.regions := [(9, { strong := false, use := 5, base := 0, size := 2 })] }, 0, 1, by decide +kernel⟩,
   ⟨{ up with mem.regions := [(9, { strong := false, use := 5, base := 0, size := 2, test := true })] }, { strong := false, use := 5, base := 0, size := 2, test := true }, by decide +kernel⟩,
   ⟨{ up with mem.regions := [(9, { strong := false, use := 5, base := 0, size := 2, test := true })] }, { strong := false, use := 5, base := 0, size := 2, test := true }, by decide +kernel⟩,
   ⟨{ up with mem.regions := [(9, { strong := false, use := 5, base := 0, size := 2, test := true })] }, { strong := false, use := 5, base := 0, size := 2, test := true }, by decide +kernel⟩,
   ⟨up, by decide +kernel⟩⟩

theorem witness_CopyAndFillMoveTheirBytes :
    (∃ (s : State) (o : Nat) (x : Op) (q : Queue),
      s.running o .copy = some (x, q) ∧
      dOpcode x.desc = 1 ∧
      x.reading = false ∧
      x.bytes = 0 ∧
      x.buf = none ∧
      x.poisoned = false ∧
      x.medium = false ∧
      s.devRefused x.desc q.spoke = false ∧
      0 < cLen x.desc ∧
      cSrcDev x.desc = true ∧
      cDstDev x.desc = true ∧
      cSrc x.desc % 4096 + cLen x.desc ≤ 4096 ∧
      cDst x.desc % 4096 + cLen x.desc ≤ 4096 ∧
      (cSrc x.desc + cLen x.desc ≤ cDst x.desc ∨ cDst x.desc + cLen x.desc ≤ cSrc x.desc) ∧
      s.inUse devUses (cSrc x.desc) (cLen x.desc) = true ∧
      s.inUse devUses (cDst x.desc) (cLen x.desc) = true ∧
      s.mem.poison = [] ∧
      s.mem.uncorr = [] ∧
      s.mem.fresh = [] ∧
      s.mem.prot = []) ∧
    (∃ (s : State) (o : Nat) (x : Op) (q : Queue),
      s.running o .copy = some (x, q) ∧
      dOpcode x.desc = 2 ∧
      x.bytes = 0 ∧
      x.poisoned = false ∧
      x.medium = false ∧
      s.devRefused x.desc q.spoke = false ∧
      0 < cLen x.desc ∧
      cDstDev x.desc = true ∧
      cDst x.desc % 4096 + cLen x.desc ≤ 4096 ∧
      s.inUse devUses (cDst x.desc) (cLen x.desc) = true ∧
      s.mem.prot = []) ∧
    (∃ (s : State) (o : Nat) (x : Op) (q : Queue),
      s.running o .copy = some (x, q) ∧
      x.reading = false ∧
      s.devRefused x.desc q.spoke = true ∧
      s.mem.fresh = []) ∧
    (∃ (s : State) (o : Nat) (x : Op) (q : Queue),
      s.running o .copy = some (x, q) ∧
      x.reading = false ∧
      x.bytes = 0 ∧
      s.devRefused x.desc q.spoke = false ∧
      cLen x.desc = 0 ∧
      s.mem.fresh = []) :=
  ⟨⟨cpy (toLe 8 (1 + 2 ^ 32 * 3) ++ toLe 8 0 ++ toLe 8 0x100 ++ toLe 8 0x200 ++ toLe 8 9), 4, { queue := 3, index := 0, consumer := 1, desc := toLe 8 (1 + 2 ^ 32 * 3) ++ toLe 8 0 ++ toLe 8 0x100 ++ toLe 8 0x200 ++ toLe 8 9 }, { kind := .copy, spoke := 5, state := .active }, by decide +kernel⟩,
   ⟨cpy (toLe 8 (2 + 2 ^ 32 * 2) ++ toLe 8 0 ++ toLe 8 0x100 ++ toLe 8 0x200 ++ toLe 8 9), 4, { queue := 3, index := 0, consumer := 1, desc := toLe 8 (2 + 2 ^ 32 * 2) ++ toLe 8 0 ++ toLe 8 0x100 ++ toLe 8 0x200 ++ toLe 8 9 }, { kind := .copy, spoke := 5, state := .active }, by decide +kernel⟩,
   ⟨{ cpy (toLe 8 (1 + 2 ^ 32 * 3)) with host.fns := [] }, 4, { queue := 3, index := 0, consumer := 1, desc := toLe 8 (1 + 2 ^ 32 * 3) }, { kind := .copy, spoke := 5, state := .active }, by decide +kernel⟩,
   ⟨cpy (toLe 8 2), 4, { queue := 3, index := 0, consumer := 1, desc := toLe 8 2 }, { kind := .copy, spoke := 5, state := .active }, by decide +kernel⟩⟩

theorem witness_FramesAreTakenHeldOrDropped :
    (∃ (s : State) (sub : Nat),
      s.linkUp sub = false) ∧
    (∃ (s : State) (sub : Nat) (ok : Bool),
      s.linkUp sub = true ∧
      s.loopback (sub / 4) ≠ 2 ∧
      ok = false) ∧
    (∃ (s : State) (sub : Nat) (b : Bytes),
      s.linkUp sub = true ∧
      s.loopback (sub / 4) ≠ 2 ∧
      (b.length < 60 ∨ s.maxFrame (sub / 4) < b.length + 4)) ∧
    (∃ (s : State) (sub : Nat) (b : Bytes),
      s.linkUp sub = true ∧
      s.loopback (sub / 4) ≠ 2 ∧
      60 ≤ b.length ∧
      b.length + 4 ≤ s.maxFrame (sub / 4) ∧
      fldBe b 12 2 = 0x8808 ∧
      fldBe b 14 2 = 1 ∧
      s.fcMode sub = 1 ∧
      fldBe b 16 2 ≠ 0) ∧
    (∃ (s : State) (sub : Nat) (b : Bytes),
      s.linkUp sub = true ∧
      s.loopback (sub / 4) ≠ 2 ∧
      60 ≤ b.length ∧
      b.length + 4 ≤ s.maxFrame (sub / 4) ∧
      fldBe b 12 2 ≠ 0x8808 ∧
      s.secyOn sub = false ∧
      (parse b sub 0).drop = false ∧
      (parse b sub 0).slow = false ∧
      s.net.cache = []) ∧
    (∃ (s : State) (sub : Nat) (b : Bytes),
      (parse b sub 0).drop = false ∧
      (parse b sub 0).slow = false ∧
      s.net.cache = []) ∧
    (∃ (s : State) (x : Lookup) (i : Nat),
      s.net.lookups = [x] ∧
      s.ingressAction x.pkt.tag x.pkt.sub x.pkt.parsed = some i ∧
      aVerdict (s.action i) = 0 ∧
      aMeterEn (s.action i) = false ∧
      aMirror (s.action i) = false ∧
      Map.get s.tel.sampleN x.pkt.sub = none) ∧
    (∃ (s : State) (i : Nat) (d : Decrypt),
      Map.get s.net.decrypts i = some d ∧
      s.net.cache = [] ∧
      s.canonical = true ∧
      Map.get s.tel.sampleN d.pkt.sub = none) ∧
    (∃ (s : State) (sub prio u : Nat),
      Map.get s.net.paused (sub * 8 + prio) = some u) ∧
    (∃ (s : State) (sub prio : Nat),
      (sub * 8 + prio) ∈ s.net.xoff ∧
      s.xonAt sub ≤ s.occupancy sub prio) :=
  ⟨⟨netUp, 1, by decide +kernel⟩,
   ⟨netUp, 0, false, by decide +kernel⟩,
   ⟨netUp, 0, zeros 59, by decide +kernel⟩,
   ⟨netUp.rput (aFcCfg 0) 1, 0, zeros 12 ++ [0x88, 8, 0, 1, 0, 7] ++ zeros 42, by decide +kernel⟩,
   ⟨netUp, 0, zeros 12 ++ [0x86, 0xDD, 0x60, 0, 0, 0, 0, 0, 59] ++ zeros 39, by decide +kernel⟩,
   ⟨netUp, 0, zeros 12 ++ [0x86, 0xDD, 0x60, 0, 0, 0, 0, 0, 59] ++ zeros 39, by decide +kernel⟩,
   ⟨{ netUp with net.lookups := [{ pkt := { sub := 0, data := zeros 60, line := 64, tag := 1 }, profile := 0, key := [] }], net.vers := [(0, { number := 1, inFlight := 1, rules := { defaults := [(0, 3)] } })] }, { pkt := { sub := 0, data := zeros 60, line := 64, tag := 1 }, profile := 0, key := [] }, 3, by decide +kernel⟩,
   ⟨{ netUp with net.decrypts := [(4, { pkt := { sub := 0, data := zeros 60, line := 64, tag := 1 }, sa := 2 })] }, 4, { pkt := { sub := 0, data := zeros 60, line := 64, tag := 1 }, sa := 2 }, by decide +kernel⟩,
   ⟨{ netUp with net.paused := [(3, 900)] }, 0, 3, 900, by decide +kernel⟩,
   ⟨{ (netUp.rput (aFcCfg 0) 2) with net.xoff := [3] }, 0, 3, by decide +kernel⟩⟩

theorem witness_LinksAndPortCommitMoveTheirSubports :
    (∃ (s : State) (i : Nat),
      i < 8 ∧
      (bits (s.rget (aPortCfg i)) 21 8 < 1518 ∨ 9216 < bits (s.rget (aPortCfg i)) 21 8)) ∧
    (∃ (s : State) (i : Nat),
      i < 8 ∧
      1518 ≤ bits (s.rget (aPortCfg i)) 21 8 ∧
      bits (s.rget (aPortCfg i)) 21 8 ≤ 9216 ∧
      s.host.queues = [] ∧
      s.xpt.conns = []) ∧
    (∃ (s : State) (sub : Nat),
      sub ∈ s.net.up ∧
      s.xpt.conns = []) ∧
    (∃ (s : State) (sub : Nat),
      s.mayRise sub = true ∧
      s.xpt.conns = []) ∧
    (∃ (s : State) (sub : Nat),
      s.mayRise sub = false) :=
  ⟨⟨netUp.rput (aPortCfg 0) 0, 0, by decide +kernel⟩,
   ⟨netUp, 0, by decide +kernel⟩,
   ⟨sendUp, 0, by decide +kernel⟩,
   ⟨netUp, 0, by decide +kernel⟩,
   ⟨netUp, 31, by decide +kernel⟩⟩

theorem witness_SentAndPostedDescriptorsComplete :
    (∃ (s u : State) (o : Nat) (x : Op) (q : Queue) (ans : HostAns) (r : AccRes),
      s.running o .packetSend = some (x, q) ∧
      x.posted = false ∧
      14 ≤ bits (u32 x.desc 24) 13 0 ∧
      bits (u32 x.desc 24) 13 0 + 4 ≤ s.maxFrame (q.sub / 4) ∧
      s.linkUp q.sub = true ∧
      s.spokeRead q.spoke (u64 x.desc 16) (bits (u32 x.desc 24) 13 0) ans = (u, r) ∧
      r.status = .success ∧
      r.poisoned = false ∧
      r.medium = false ∧
      bit (dKindWord x.desc) 1 = false) ∧
    (∃ (s : State) (o : Nat) (x : Op) (q : Queue),
      s.running o .packetSend = some (x, q) ∧
      x.posted = false ∧
      ((0 < bits (u32 x.desc 24) 13 0 ∧ bits (u32 x.desc 24) 13 0 < 14) ∨ s.maxFrame (q.sub / 4) < bits (u32 x.desc 24) 13 0 + 4)) ∧
    (∃ (s : State) (o : Nat) (x : Op) (q : Queue),
      s.running o .packetSend = some (x, q) ∧
      x.posted = false ∧
      14 ≤ bits (u32 x.desc 24) 13 0 ∧
      bits (u32 x.desc 24) 13 0 + 4 ≤ s.maxFrame (q.sub / 4) ∧
      s.linkUp q.sub = false) ∧
    (∃ (s : State) (o : Nat) (x : Op) (q : Queue),
      s.running o .packetReceive = some (x, q) ∧
      x.posted = false ∧
      64 ≤ bufSize x ∧
      bufSize x ≤ 16384 ∧
      bufSize x % 64 = 0 ∧
      s.net.held = []) ∧
    (∃ (s : State) (o : Nat) (x : Op) (q : Queue),
      s.running o .packetReceive = some (x, q) ∧
      x.posted = false ∧
      (bufSize x < 64 ∨ 16384 < bufSize x ∨ bufSize x % 64 ≠ 0)) ∧
    (∃ (s u : State) (sub o : Nat) (c : Cand) (x : Op),
      s.linkUp sub = true ∧
      s.select sub = (u, some c) ∧
      c.head.op = some o ∧
      c.head.tel = false ∧
      c.head.conn = none ∧
      u.op o = some x ∧
      x.phase = .started ∧
      ((u.dequeue sub c).egress sub c.head.data).out = true ∧
      ((u.dequeue sub c).egress sub c.head.data).copy = none) :=
  ⟨⟨{ sendUp with host.ops := [(4, { queue := 3, index := 0, consumer := 1, desc := toLe 8 1 ++ toLe 8 0 ++ toLe 8 0x1000 ++ toLe 8 20 })] }, { sendUp with host.ops := [(4, { queue := 3, index := 0, consumer := 1, desc := toLe 8 1 ++ toLe 8 0 ++ toLe 8 0x1000 ++ toLe 8 20 })] }, 4, { queue := 3, index := 0, consumer := 1, desc := toLe 8 1 ++ toLe 8 0 ++ toLe 8 0x1000 ++ toLe 8 20 }, { kind := .packetSend, spoke := 5, state := .active }, .ok [1, 2, 3] false, { done := 20, data := padTo 20 [1, 2, 3] }, by decide +kernel⟩,
   ⟨{ sendUp with host.ops := [(4, { queue := 3, index := 0, consumer := 1, desc := toLe 8 1 ++ toLe 8 0 ++ toLe 8 0x1000 ++ toLe 8 13 })] }, 4, { queue := 3, index := 0, consumer := 1, desc := toLe 8 1 ++ toLe 8 0 ++ toLe 8 0x1000 ++ toLe 8 13 }, { kind := .packetSend, spoke := 5, state := .active }, by decide +kernel⟩,
   ⟨{ sendUp with net.up := [], host.ops := [(4, { queue := 3, index := 0, consumer := 1, desc := toLe 8 1 ++ toLe 8 0 ++ toLe 8 0x1000 ++ toLe 8 20 })] }, 4, { queue := 3, index := 0, consumer := 1, desc := toLe 8 1 ++ toLe 8 0 ++ toLe 8 0x1000 ++ toLe 8 20 }, { kind := .packetSend, spoke := 5, state := .active }, by decide +kernel⟩,
   ⟨{ netUp with host.queues := [(3, { kind := .packetReceive, spoke := 5, state := .active })], host.ops := [(4, { queue := 3, index := 0, consumer := 1, desc := toLe 8 1 ++ toLe 8 0 ++ toLe 8 0x1000 ++ toLe 8 128 })] }, 4, { queue := 3, index := 0, consumer := 1, desc := toLe 8 1 ++ toLe 8 0 ++ toLe 8 0x1000 ++ toLe 8 128 }, { kind := .packetReceive, spoke := 5, state := .active }, by decide +kernel⟩,
   ⟨{ netUp with host.queues := [(3, { kind := .packetReceive, spoke := 5, state := .active })], host.ops := [(4, { queue := 3, index := 0, consumer := 1, desc := toLe 8 1 ++ toLe 8 0 ++ toLe 8 0x1000 ++ toLe 8 100 })] }, 4, { queue := 3, index := 0, consumer := 1, desc := toLe 8 1 ++ toLe 8 0 ++ toLe 8 0x1000 ++ toLe 8 100 }, { kind := .packetReceive, spoke := 5, state := .active }, by decide +kernel⟩,
   ⟨sendUp, (sendUp.select 0).1, 0, 4, { spoke := 5, cls := 0, member := 3, head := { op := some 4, data := zeros 60, cls := 0 }, len := 64 }, { queue := 3, index := 0, consumer := 1, desc := toLe 8 1 ++ toLe 8 0 ++ toLe 8 0x1000 ++ toLe 8 60, posted := true }, by decide +kernel⟩⟩

theorem witness_RuleCommandsStageAndShiftVersions :
    (∃ (s : State) (f : Nat) (p : Bytes),
      s.performable f 0x0301 = true ∧
      (s.fn f).mb.payload = p ∧
      s.heldNew 1 = false ∧
      s.net.staging = none) ∧
    (∃ (s : State) (f : Nat) (p : Bytes) (g : Staging) (k : Nat),
      s.performable f 0x0302 = true ∧
      (s.fn f).mb.payload = p ∧
      s.net.staging = some g ∧
      g.fn = f ∧
      Map.lowestFree s.net.vers 4 = some k) ∧
    (∃ (s : State) (f : Nat) (p : Bytes),
      s.performable f 0x0303 = true ∧
      (s.fn f).mb.payload = p ∧
      s.holdsLock f = true) ∧
    (∃ (s : State) (f : Nat) (p : Bytes),
      s.performable f 0x0310 = true ∧
      (s.fn f).mb.payload = p ∧
      u8 p 0 ≤ 31 ∧
      u32 p 4 ≤ 524287 ∧
      s.holdsLock f = true ∧
      f % 4 = 0 ∧
      s.net.em = []) ∧
    (∃ (s : State) (f : Nat) (p : Bytes) (e : EmEntry),
      s.performable f 0x0311 = true ∧
      (s.fn f).mb.payload = p ∧
      u8 p 0 ≤ 31 ∧
      u32 p 4 = 0 ∧
      s.holdsLock f = true ∧
      f % 4 = 0 ∧
      s.net.em = [e] ∧
      e.profile = u8 p 0 ∧
      e.key = slice p 8 48 ∧
      e.opn = true) ∧
    (∃ (s : State) (f : Nat) (p : Bytes),
      s.performable f 0x0320 = true ∧
      (s.fn f).mb.payload = p ∧
      u32 p 0 ≤ 65535 ∧
      u32 p 4 ≤ 524287 ∧
      u8 p 11 ≤ 31 ∧
      s.holdsLock f = true ∧
      f % 4 = 0 ∧
      Map.has s.net.acl (u32 p 0) = false) ∧
    (∃ (s : State) (f : Nat) (p : Bytes) (e : AclEntry),
      s.performable f 0x0321 = true ∧
      (s.fn f).mb.payload = p ∧
      Map.get s.net.acl (u32 p 0) = some e ∧
      e.opn = true ∧
      s.holdsLock f = true ∧
      f % 4 = 0) ∧
    (∃ (s : State) (f : Nat) (p : Bytes),
      s.performable f 0x0330 = true ∧
      (s.fn f).mb.payload = p ∧
      u32 p 0 ≤ 524287 ∧
      actionBad (slice p 8 64) = false ∧
      s.holdsLock f = true ∧
      s.actionUsed (u32 p 0) = false ∧
      f % 4 = 0) ∧
    (∃ (s : State) (f : Nat) (p : Bytes) (g : Staging),
      s.performable f 0x0331 = true ∧
      (s.fn f).mb.payload = p ∧
      u8 p 0 ≤ 31 ∧
      u32 p 4 ≤ 524287 ∧
      f % 4 = 0 ∧
      s.net.staging = some g ∧
      g.fn = f) ∧
    (∃ (s : State) (f : Nat) (p : Bytes) (g : Staging),
      s.performable f 0x0332 = true ∧
      (s.fn f).mb.payload = p ∧
      u8 p 0 ≤ 13 ∧
      u8 p 1 ≤ 31 ∧
      u8 p 2 ≤ 31 ∧
      u8 p 3 ≤ 31 ∧
      f % 4 = 0 ∧
      s.net.staging = some g ∧
      g.fn = f) ∧
    (∃ (s : State) (k : Nat) (x : Version),
      s.version s.oldestVersion = some (k, x) ∧
      s.oldestVersion ≠ s.net.current ∧
      x.inFlight = 0) ∧
    (∃ (s : State) (f : Nat) (p : Bytes),
      s.performable f 0x0340 = true ∧
      (s.fn f).mb.payload = p ∧
      u8 p 0 ≤ 31 ∧
      u64 p 8 < 2 ^ 22 ∧
      profileBytes (u64 p 8) ≤ 48 ∧
      f % 4 = 0 ∧
      s.net.em.any (fun e => e.profile == u8 p 0) = false ∧
      s.net.acl.any (fun x => x.2.profile == u8 p 0) = false) ∧
    (∃ (s : State) (f : Nat) (p : Bytes),
      s.performable f 0x0350 = true ∧
      (s.fn f).mb.payload = p ∧
      u8 p 0 ≤ 31 ∧
      u16 p 2 ≤ 31 ∧
      (bit (u8 p 1) 3 = true ∨ u64 p 24 = 0) ∧
      f % 4 = 0 ∧
      s.keyCheck (u32 p 4) [3] (s.baseOf f) = .success) ∧
    (∃ (s : State) (f : Nat) (p : Bytes),
      s.performable f 0x0360 = true ∧
      (s.fn f).mb.payload = p ∧
      u16 p 0 ≤ 16383 ∧
      f % 4 = 0 ∧
      s.keyCheck (u32 p 8) [4] (s.baseOf f) = .success) ∧
    (∃ (s : State) (f : Nat) (p : Bytes),
      s.performable f 0x0370 = true ∧
      (s.fn f).mb.payload = p ∧
      (s.spoke (u16 p 0)).isSome = true ∧
      u16 p 4 ≠ 0 ∧
      (u64 p 16 = 0 ∨ u64 p 8 ≤ u64 p 16) ∧
      f % 4 = 0 ∧
      s.mayNameSpoke f (u16 p 0) = true) :=
  ⟨⟨posted (up) 0 0x0301 ([]), 0, [], by decide +kernel⟩,
   ⟨posted ({ up with net.staging := some { fn := 0, rules := {} } }) 0 0x0302 ([]), 0, [], { fn := 0, rules := {} }, 1, by decide +kernel⟩,
   ⟨posted ({ up with net.staging := some { fn := 0, rules := {} } }) 0 0x0303 ([]), 0, [], by decide +kernel⟩,
   ⟨posted ({ up with net.staging := some { fn := 0, rules := {} } }) 0 0x0310 (zeros 56), 0, zeros 56, by decide +kernel⟩,
   ⟨posted ({ up with net.staging := some { fn := 0, rules := {} }, net.em := [{ profile := 0, key := zeros 48, lo := 1, action := 2, bucket := 0 }] }) 0 0x0311 (zeros 56), 0, zeros 56, { profile := 0, key := zeros 48, lo := 1, action := 2, bucket := 0 }, by decide +kernel⟩,
   ⟨posted ({ up with net.staging := some { fn := 0, rules := {} } }) 0 0x0320 ([1]), 0, [1], by decide +kernel⟩,
   ⟨posted ({ up with net.staging := some { fn := 0, rules := {} }, net.acl := [(1, { profile := 0, key := [], mask := [], prio := 0, overrides := false, egress := false, lo := 1, action := 0 })] }) 0 0x0321 ([1]), 0, [1], { profile := 0, key := [], mask := [], prio := 0, overrides := false, egress := false, lo := 1, action := 0 }, by decide +kernel⟩,
   ⟨posted ({ up with net.staging := some { fn := 0, rules := {} } }) 0 0x0330 ([1, 0, 0, 0, 0, 0, 0, 0, 1] ++ zeros 63), 0, [1, 0, 0, 0, 0, 0, 0, 0, 1] ++ zeros 63, by decide +kernel⟩,
   ⟨posted ({ up with net.staging := some { fn := 0, rules := {} } }) 0 0x0331 ([1]), 0, [1], { fn := 0, rules := {} }, by decide +kernel⟩,
   ⟨posted ({ up with net.staging := some { fn := 0, rules := {} } }) 0 0x0332 ([1]), 0, [1], { fn := 0, rules := {} }, by decide +kernel⟩,
   ⟨{ up with net.current := 2, net.vers := [(0, { number := 1 }), (1, { number := 2 })] }, 0, { number := 1 }, by decide +kernel⟩,
   ⟨posted (up) 0 0x0340 ([1, 0, 0, 0, 0, 0, 0, 0, 1]), 0, [1, 0, 0, 0, 0, 0, 0, 0, 1], by decide +kernel⟩,
   ⟨posted (keyUp) 0 0x0350 ([1, 1, 0, 0, 3, 0, 3, 0] ++ zeros 24), 0, [1, 1, 0, 0, 3, 0, 3, 0] ++ zeros 24, by decide +kernel⟩,
   ⟨posted (keyUp) 0 0x0360 ([1, 0, 1, 0, 0, 0, 0, 0, 4, 0, 4, 0] ++ zeros 12), 0, [1, 0, 1, 0, 0, 0, 0, 0, 4, 0, 4, 0] ++ zeros 12, by decide +kernel⟩,
   ⟨posted (up) 0 0x0370 ([6, 0, 1, 0, 9, 0, 0, 0] ++ zeros 16), 0, [6, 0, 1, 0, 9, 0, 0, 0] ++ zeros 16, by decide +kernel⟩⟩

theorem witness_MetersAndBucketsHoldTheirBytes :
    (∃ (s : State) (f : Nat) (p : Bytes),
      s.performable f 0x0380 = true ∧
      (s.fn f).mb.payload = p ∧
      meterBad p = false ∧
      f % 4 = 0 ∧
      bit (u8 p 4) 3 = false) ∧
    (∃ (s : State) (f : Nat) (p : Bytes),
      s.performable f 0x0380 = true ∧
      (s.fn f).mb.payload = p ∧
      meterBad p = false ∧
      f % 4 = 0 ∧
      bit (u8 p 4) 3 = true ∧
      s.jRoom 40 = true) ∧
    (∃ (s : State) (f : Nat) (p : Bytes),
      s.performable f 0x0380 = true ∧
      (s.fn f).mb.payload = p ∧
      meterBad p = true) ∧
    (∃ (s : State) (f : Nat) (p : Bytes) (x : Meter),
      s.performable f 0x0381 = true ∧
      (s.fn f).mb.payload = p ∧
      u32 p 0 ≤ 131071 ∧
      (s.meter (u32 p 0)).refill s.now = x) ∧
    (∃ (sub : Nat),
      sub < 32) :=
  ⟨⟨posted (up) 0 0x0380 ([7, 0, 0, 0, 1, 0, 0, 0, 100, 0, 0, 0, 0, 0, 0, 0, 100, 0, 0, 0, 0, 0, 0, 0, 9, 0, 0, 0, 9]), 0, [7, 0, 0, 0, 1, 0, 0, 0, 100, 0, 0, 0, 0, 0, 0, 0, 100, 0, 0, 0, 0, 0, 0, 0, 9, 0, 0, 0, 9], by decide +kernel⟩,
   ⟨posted (up) 0 0x0380 ([7, 0, 0, 0, 9, 0, 0, 0, 100, 0, 0, 0, 0, 0, 0, 0, 100, 0, 0, 0, 0, 0, 0, 0, 9, 0, 0, 0, 9]), 0, [7, 0, 0, 0, 9, 0, 0, 0, 100, 0, 0, 0, 0, 0, 0, 0, 100, 0, 0, 0, 0, 0, 0, 0, 9, 0, 0, 0, 9], by decide +kernel⟩,
   ⟨posted (up) 0 0x0380 ([]), 0, [], by decide +kernel⟩,
   ⟨posted (up) 0 0x0381 ([7]), 0, [7], {}, by decide +kernel⟩,
   ⟨0, by decide +kernel⟩⟩

theorem witness_GateCommandsDriveTheCassette :
    (∃ (s : State) (i : Nat),
      i < 8 ∧
      s.armReason i = 0) ∧
    (∃ (s : State) (i : Nat),
      i < 8 ∧
      s.armReason i ≠ 0) ∧
    (∃ (s : State) (i : Nat),
      i < 8 ∧
      s.gateArmed i = true ∧
      s.ptp i < s.rget (aGateTime i)) ∧
    (∃ (i : Nat),
      i < 8) ∧
    (∃ (s : State) (i : Nat),
      i < 8 ∧
      s.gateArmed i = true) ∧
    (∃ (s : State) (i : Nat),
      i < 8 ∧
      s.gateArmed i = false) ∧
    (∃ (s : State) (i v : Nat),
      i < 8 ∧
      s.gateArmed i = true ∧
      s.rget (aGateTime i) ≤ v ∧
      v < 2 ^ 64) ∧
    (∃ (s : State) (i : Nat),
      i < 8 ∧
      s.gateOn i = true ∧
      s.actCount i ≠ 0 ∧
      cycleOf (s.gateList i (s.gateBank i) (s.actCount i)) ≠ 0) :=
  ⟨⟨gateUp, 0, by decide +kernel⟩,
   ⟨up, 0, by decide +kernel⟩,
   ⟨gateUp.rset (aGateCtl 0) 2 2 1, 0, by decide +kernel⟩,
   ⟨0, by decide +kernel⟩,
   ⟨gateUp.rset (aGateCtl 0) 2 2 1, 0, by decide +kernel⟩,
   ⟨gateUp, 0, by decide +kernel⟩,
   ⟨gateUp.rset (aGateCtl 0) 2 2 1, 0, 100000, by decide +kernel⟩,
   ⟨gateUp, 0, by decide +kernel⟩⟩

theorem witness_ConnectionsAreMadeOpenedAndEnded :
    (∃ (s : State) (f c : Nat) (p : Bytes),
      s.performable f 0x0401 = true ∧
      (s.fn f).mb.payload = p ∧
      (s.spoke (u16 p 0)).isSome = true ∧
      s.mayNameSpoke f (u16 p 0) = true ∧
      s.xpt.conns.length < 65536 ∧
      s.freeConn = some c) ∧
    (∃ (s : State) (f : Nat) (p : Bytes) (k : Conn),
      s.performable f 0x0402 = true ∧
      (s.fn f).mb.payload = p ∧
      s.conn (u32 p 0 % 2 ^ 24) = some k ∧
      s.connectBad k p = false ∧
      s.mayNameSpoke f k.spoke = true ∧
      k.phase = .init ∧
      k.dying = none) ∧
    (∃ (s : State) (f : Nat) (p : Bytes) (k : Conn),
      s.performable f 0x0403 = true ∧
      (s.fn f).mb.payload = p ∧
      s.conn (u32 p 0 % 2 ^ 24) = some k ∧
      s.mayNameSpoke f k.spoke = true ∧
      k.dying = none) ∧
    (∃ (s : State) (f : Nat) (p : Bytes) (k : Conn),
      s.performable f 0x0404 = true ∧
      (s.fn f).mb.payload = p ∧
      s.conn (u32 p 0 % 2 ^ 24) = some k ∧
      k.dying = none ∧
      s.mayNameSpoke f k.spoke = true ∧
      k.phase = .active) ∧
    (∃ (s : State) (f : Nat) (p : Bytes),
      s.performable f 0x0404 = true ∧
      (s.fn f).mb.payload = p ∧
      s.conn (u32 p 0 % 2 ^ 24) = none) ∧
    (∃ (s : State) (c f q : Nat) (k : Conn),
      s.conn c = some k ∧
      k.dying = some (some (f, q)) ∧
      (s.fn f).mb.outstanding = true ∧
      (s.fn f).mb.seq = q ∧
      Map.wf s.xpt.conns = true ∧
      (∀ x ∈ s.xpt.conns, x.1 ≠ c → x.2.dying ≠ some (some (f, q)))) ∧
    (∃ (s : State) (f : Nat) (p : Bytes),
      s.performable f 0x0410 = true ∧
      (s.fn f).mb.payload = p ∧
      (s.spoke (u16 p 0)).isSome = true ∧
      u64 p 16 ≠ 0 ∧
      u64 p 8 + u64 p 16 ≤ 2 ^ 48 ∧
      0 < u32 p 4 ∧
      u32 p 4 ≤ 1048575 ∧
      s.mayNameSpoke f (u16 p 0) = true ∧
      Map.get s.xpt.keys (u32 p 4) = none) ∧
    (∃ (s : State) (f : Nat) (p : Bytes) (x : RegionKey),
      s.performable f 0x0411 = true ∧
      (s.fn f).mb.payload = p ∧
      Map.get s.xpt.keys (u32 p 0) = some x ∧
      (s.spoke (u16 p 4)).isSome = true ∧
      s.mayNameSpoke f (u16 p 4) = true ∧
      x.spoke = u16 p 4 ∧
      x.phase = .active) ∧
    (∃ (s : State) (i f : Nat) (x : RegionKey),
      Map.get s.xpt.keys i = some x ∧
      x.phase = .revoking [f]) :=
  ⟨⟨posted (up) 0 0x0401 ([5, 0, 0, 0]), 0, 2, [5, 0, 0, 0], by decide +kernel⟩,
   ⟨posted ({ up with xpt.conns := [(2, { spoke := 5, roce := false, epoch := 1 })] }) 0 0x0402 (conPay), 0, conPay, { spoke := 5, roce := false, epoch := 1 }, by decide +kernel⟩,
   ⟨posted ({ up with xpt.conns := [(2, { spoke := 5, roce := false, epoch := 1 })] }) 0 0x0403 ([2, 0, 0, 0]), 0, [2, 0, 0, 0], { spoke := 5, roce := false, epoch := 1 }, by decide +kernel⟩,
   ⟨posted ({ up with xpt.conns := [(2, { spoke := 5, roce := false, epoch := 1, phase := .active })] }) 0 0x0404 ([2, 0, 0, 0]), 0, [2, 0, 0, 0], { spoke := 5, roce := false, epoch := 1, phase := .active }, by decide +kernel⟩,
   ⟨posted (up) 0 0x0404 ([2, 0, 0, 0]), 0, [2, 0, 0, 0], by decide +kernel⟩,
   ⟨posted { up with xpt.conns := [(2, { spoke := 5, roce := false, epoch := 1, dying := some (some (0, 0)) })] } 0 0x0403 [2, 0, 0, 0], 2, 0, 0, { spoke := 5, roce := false, epoch := 1, dying := some (some (0, 0)) }, by decide +kernel⟩,
   ⟨posted (up) 0 0x0410 ([5, 0, 3, 0, 9, 0, 0, 0, 0, 16, 0, 0, 0, 0, 0, 0, 64]), 0, [5, 0, 3, 0, 9, 0, 0, 0, 0, 16, 0, 0, 0, 0, 0, 0, 64], by decide +kernel⟩,
   ⟨posted ({ up with xpt.keys := [(9, { spoke := 5 })] }) 0 0x0411 ([9, 0, 0, 0, 5, 0, 0, 0]), 0, [9, 0, 0, 0, 5, 0, 0, 0], { spoke := 5 }, by decide +kernel⟩,
   ⟨{ up with xpt.keys := [(9, { spoke := 5, phase := .revoking [1] })] }, 9, 1, { spoke := 5, phase := .revoking [1] }, by decide +kernel⟩⟩

theorem witness_WorkRequestsJoinTheirConnection :
    (∃ (s u : State) (o : Nat) (x : Op) (q : Queue) (k : Conn) (l : List (Bytes × Bool)) (st : Status) (ans : HostAns),
      s.running o .transport = some (x, q) ∧
      x.posted = false ∧
      s.workCheck x q = .success ∧
      s.conn (tConn x.desc) = some k ∧
      k.roce = false ∧
      k.phase = .active ∧
      s.readLocal o x q (2 ^ k.par.log2) ans = (u, some (l, st)) ∧
      l ≠ []) ∧
    (∃ (s : State) (o : Nat) (x : Op) (q : Queue) (k : Conn),
      s.running o .transport = some (x, q) ∧
      x.posted = false ∧
      s.workCheck x q = .success ∧
      s.conn (tConn x.desc) = some k ∧
      k.roce = false ∧
      k.phase = .active ∧
      dOpcode x.desc = 3) ∧
    (∃ (s u : State) (o : Nat) (x : Op) (q : Queue) (k : Conn) (l : List (Bytes × Bool)) (st : Status) (ans : HostAns),
      s.running o .transport = some (x, q) ∧
      x.posted = false ∧
      s.workCheck x q = .success ∧
      s.conn (tConn x.desc) = some k ∧
      k.roce = true ∧
      k.phase = .active ∧
      s.readLocal o x q (2 ^ k.par.log2) ans = (u, some (l, st)) ∧
      l ≠ [] ∧
      l.any Prod.snd = false) ∧
    (∃ (s : State) (o : Nat) (x : Op) (q : Queue),
      s.running o .transport = some (x, q) ∧
      x.posted = false ∧
      s.workCheck x q = .success ∧
      dOpcode x.desc = 0x20) ∧
    (∃ (s : State) (o : Nat) (x : Op) (q : Queue),
      s.running o .transport = some (x, q) ∧
      x.posted = false ∧
      s.workCheck x q ≠ .success) :=
  ⟨⟨xptUp 1 false 0, xptUp 1 false 0, 4, xptOp 1, { kind := .transport, spoke := 5, state := .active }, xptConn false, [([], false)], .success, .ok [] false, by decide +kernel⟩,
   ⟨xptUp 3 false 0, 4, xptOp 3, { kind := .transport, spoke := 5, state := .active }, xptConn false, by decide +kernel⟩,
   ⟨xptUp 4 true 0, xptUp 4 true 0, 4, xptOp 4, { kind := .transport, spoke := 5, state := .active }, xptConn true, [([], false)], .success, .ok [] false, by decide +kernel⟩,
   ⟨xptUp 0x20 true 1, 4, xptOp 0x20, { kind := .transport, spoke := 5, state := .active, kindWord := 1 }, by decide +kernel⟩,
   ⟨xptUp 4 false 0, 4, xptOp 4, { kind := .transport, spoke := 5, state := .active }, by decide +kernel⟩⟩

theorem witness_ArrivingPacketsArePlacedAndAcknowledged :
    (∃ (s : State) (i : Nat) (x : RxPkt) (p : YPkt) (k : Conn) (r : RegionKey) (sp : Spoke),
      Map.get s.xpt.rx i = some x ∧
      x.yekel = some p ∧
      s.conn p.conn = some k ∧
      k.roce = false ∧
      k.phase = .active ∧
      k.dying = none ∧
      p.epoch = k.epoch ∧
      p.payload.length ≤ 2 ^ k.par.log2 ∧
      p.psn = k.e ∧
      p.psn ∉ k.got ∧
      k.nak = [] ∧
      p.ordered = false ∧
      p.payload ≠ [] ∧
      s.keyCheckY k.spoke p.key p.keyGen p.offset p.payload.length true false = .success ∧
      Map.get s.xpt.keys p.key = some r ∧
      s.spoke k.spoke = some sp ∧
      sp.base = true ∧
      s.destLater k.spoke = false ∧
      s.rimDown = false ∧
      (r.addr + p.offset) % 4096 + p.payload.length ≤ 4096) ∧
    (∃ (s : State) (i : Nat) (x : RxPkt) (p : YPkt) (k : Conn) (sp : Spoke),
      Map.get s.xpt.rx i = some x ∧
      x.yekel = some p ∧
      p.opcode = 3 ∧
      s.conn p.conn = some k ∧
      k.roce = false ∧
      k.phase = .active ∧
      k.dying = none ∧
      p.epoch = k.epoch ∧
      p.payload.length ≤ 2 ^ k.par.log2 ∧
      p.psn = k.e ∧
      p.psn ∉ k.got ∧
      k.nak = [] ∧
      k.msgs = [] ∧
      k.stored = [] ∧
      p.ordered = false ∧
      0 < u32 p.payload 0 ∧
      u32 p.payload 0 ≤ 2 ^ k.par.log2 ∧
      s.keyCheckY k.spoke p.key p.keyGen p.offset (u32 p.payload 0) false false = .success ∧
      s.spoke k.spoke = some sp ∧
      sp.base = true ∧
      s.destLater k.spoke = false ∧
      s.rimDown = false ∧
      ((s.region p.key).addr + p.offset) % 4096 + u32 p.payload 0 ≤ 4096) ∧
    (∃ (s : State) (i : Nat) (x : RxPkt) (p : YPkt) (k : Conn) (w : Work) (sp : Spoke),
      Map.get s.xpt.rx i = some x ∧
      x.yekel = some p ∧
      p.opcode = 4 ∧
      s.conn p.conn = some k ∧
      k.roce = false ∧
      k.phase = .active ∧
      k.dying = none ∧
      p.epoch = k.epoch ∧
      p.payload.length ≤ 2 ^ k.par.log2 ∧
      p.psn = k.e ∧
      p.psn ∉ k.got ∧
      k.nak = [] ∧
      p.payload ≠ [] ∧
      k.works.find? (fun w => w.read && w.ordered == p.ordered && w.msg == p.msg) = some w ∧
      s.spoke k.spoke = some sp ∧
      sp.base = true ∧
      s.destLater k.spoke = false ∧
      s.rimDown = false ∧
      (w.local_ + p.offset) % 4096 + p.payload.length ≤ 4096) ∧
    (∃ (s : State) (i : Nat) (x : RxPkt) (p : YPkt) (k : Conn) (q : OutPkt),
      Map.get s.xpt.rx i = some x ∧
      x.yekel = some p ∧
      p.opcode = 0x11 ∧
      s.conn p.conn = some k ∧
      k.roce = false ∧
      k.phase = .active ∧
      k.dying = none ∧
      p.epoch = k.epoch ∧
      p.payload.length ≤ 2 ^ k.par.log2 ∧
      p.psn = k.e ∧
      p.psn ∉ k.got ∧
      k.nak = [] ∧
      k.msgs = [] ∧
      k.stored = [] ∧
      k.out.find? (fun q => q.psn == u32 p.payload 0) = some q) ∧
    (∃ (s : State) (i : Nat) (x : RxPkt) (p : YPkt) (k : Conn),
      Map.get s.xpt.rx i = some x ∧
      x.yekel = some p ∧
      p.opcode = 0x10 ∧
      s.conn p.conn = some k ∧
      k.roce = false ∧
      k.phase = .active ∧
      k.dying = none ∧
      p.epoch = k.epoch ∧
      p.payload.length ≤ 2 ^ k.par.log2 ∧
      k.txq = [] ∧
      (∀ q ∈ k.out, q.nakFor = none)) ∧
    (∃ (s : State) (i : Nat) (x : RxPkt) (p : YPkt) (k : Conn),
      Map.get s.xpt.rx i = some x ∧
      x.yekel = some p ∧
      p.opcode = 0x12 ∧
      s.conn p.conn = some k ∧
      k.roce = false ∧
      k.phase = .active ∧
      k.dying = none ∧
      p.epoch = k.epoch ∧
      p.payload.length ≤ 2 ^ k.par.log2) :=
  ⟨⟨rxUp { opcode := 1, last := true, ackReq := true, first := true, conn := 2, epoch := 1, key := 9, payload := [1, 2, 3] }, 0, rxPkt { opcode := 1, last := true, ackReq := true, first := true, conn := 2, epoch := 1, key := 9, payload := [1, 2, 3] }, { opcode := 1, last := true, ackReq := true, first := true, conn := 2, epoch := 1, key := 9, payload := [1, 2, 3] }, xptConn false, { spoke := 5, read := true, write := true, addr := 4096, length := 100 }, { fn := 0, base := true }, by decide +kernel⟩,
   ⟨rxUp { opcode := 3, last := true, ackReq := true, first := true, conn := 2, epoch := 1, key := 9, payload := [3, 0, 0, 0, 0, 0, 0, 0] }, 0, rxPkt { opcode := 3, last := true, ackReq := true, first := true, conn := 2, epoch := 1, key := 9, payload := [3, 0, 0, 0, 0, 0, 0, 0] }, { opcode := 3, last := true, ackReq := true, first := true, conn := 2, epoch := 1, key := 9, payload := [3, 0, 0, 0, 0, 0, 0, 0] }, xptConn false, { fn := 0, base := true }, by decide +kernel⟩,
   ⟨rxUp { opcode := 4, last := true, ackReq := true, first := true, conn := 2, epoch := 1, payload := [1, 2, 3] }, 0, rxPkt { opcode := 4, last := true, ackReq := true, first := true, conn := 2, epoch := 1, payload := [1, 2, 3] }, { opcode := 4, last := true, ackReq := true, first := true, conn := 2, epoch := 1, payload := [1, 2, 3] }, xptConn false, { op := 4, msg := 0, ordered := false, read := true, length := 3, local_ := 8192, first := 0, count := 1 }, { fn := 0, base := true }, by decide +kernel⟩,
   ⟨rxUp { opcode := 0x11, last := true, conn := 2, epoch := 1, payload := [7, 0, 0, 0, 2, 0, 0, 0] }, 0, rxPkt { opcode := 0x11, last := true, conn := 2, epoch := 1, payload := [7, 0, 0, 0, 2, 0, 0, 0] }, { opcode := 0x11, last := true, conn := 2, epoch := 1, payload := [7, 0, 0, 0, 2, 0, 0, 0] }, xptConn false, { wire := .y { opcode := 1 }, psn := 7, wr := some 4 }, by decide +kernel⟩,
   ⟨rxUp { opcode := 0x10, conn := 2, epoch := 1, psn := 8, payload := zeros 32 }, 0, rxPkt { opcode := 0x10, conn := 2, epoch := 1, psn := 8, payload := zeros 32 }, { opcode := 0x10, conn := 2, epoch := 1, psn := 8, payload := zeros 32 }, xptConn false, by decide +kernel⟩,
   ⟨rxUp { opcode := 0x12, conn := 2, epoch := 1, psn := 7 }, 0, rxPkt { opcode := 0x12, conn := 2, epoch := 1, psn := 7 }, { opcode := 0x12, conn := 2, epoch := 1, psn := 7 }, xptConn false, by decide +kernel⟩⟩

theorem witness_YekelTimersActOnTheirPacket :
    (∃ (s : State) (c u : Nat) (k : Conn),
      s.conn c = some k ∧
      k.oldestAt = some u) ∧
    (∃ (s : State) (c n : Nat) (k : Conn) (p : OutPkt),
      s.outPkt c n = some (k, p) ∧
      p.retryAt = none ∧
      p.tries < k.par.retryLimit ∧
      k.halvedAt = none) ∧
    (∃ (s : State) (c n : Nat) (k : Conn) (p : OutPkt),
      s.outPkt c n = some (k, p) ∧
      p.retryAt = none ∧
      p.tries = k.par.retryLimit) ∧
    (∃ (s : State) (c x : Nat) (k : Conn) (y : PathState),
      s.conn c = some k ∧
      Map.get k.pathSt x = some y ∧
      y.suspectUntil ≠ 0) ∧
    (∃ (s : State) (c n u : Nat) (k : Conn) (p : OutPkt),
      s.outPkt c n = some (k, p) ∧
      p.retryAt = some u) ∧
    (∃ (s : State) (c n u : Nat) (k : Conn) (p : OutPkt),
      s.outPkt c n = some (k, p) ∧
      p.retryFrom = some u) ∧
    (∃ (s : State) (c : Nat) (k : Conn),
      s.conn c = some k ∧
      k.roce = false ∧
      k.phase = .active ∧
      k.dying = none ∧
      k.fellAt = none ∧
      k.halvedAt = none) :=
  ⟨⟨{ up with xpt.conns := [(2, { xptConn false with oldestAt := some 5 })] }, 2, 5, { xptConn false with oldestAt := some 5 }, by decide +kernel⟩,
   ⟨{ up with xpt.conns := [(2, { xptConn false with phase := .active })] }, 2, 7, xptConn false, { wire := .y { opcode := 1 }, psn := 7, wr := some 4 }, by decide +kernel⟩,
   ⟨{ up with xpt.conns := [(2, { xptConn false with par := { (xptConn false).par with retryLimit := 0 } })] }, 2, 7, { xptConn false with par := { (xptConn false).par with retryLimit := 0 } }, { wire := .y { opcode := 1 }, psn := 7, wr := some 4 }, by decide +kernel⟩,
   ⟨{ up with xpt.conns := [(2, { xptConn false with pathSt := [(0, { suspectUntil := 9 })] })] }, 2, 0, { xptConn false with pathSt := [(0, { suspectUntil := 9 })] }, { suspectUntil := 9 }, by decide +kernel⟩,
   ⟨{ up with xpt.conns := [(2, { xptConn false with out := [{ wire := .y { opcode := 1 }, psn := 7, wr := some 4, retryAt := some 6 }] })] }, 2, 7, 6, { xptConn false with out := [{ wire := .y { opcode := 1 }, psn := 7, wr := some 4, retryAt := some 6 }] }, { wire := .y { opcode := 1 }, psn := 7, wr := some 4, retryAt := some 6 }, by decide +kernel⟩,
   ⟨{ up with xpt.conns := [(2, { xptConn false with out := [{ wire := .y { opcode := 1 }, psn := 7, wr := some 4, retryFrom := some 6 }] })] }, 2, 7, 6, { xptConn false with out := [{ wire := .y { opcode := 1 }, psn := 7, wr := some 4, retryFrom := some 6 }] }, { wire := .y { opcode := 1 }, psn := 7, wr := some 4, retryFrom := some 6 }, by decide +kernel⟩,
   ⟨{ up with xpt.conns := [(2, { xptConn false with cwnd := 9 })] }, 2, { xptConn false with cwnd := 9 }, by decide +kernel⟩⟩

theorem witness_RocePacketsAndTimersActOnTheirConnection :
    (∃ (s : State) (i : Nat) (x : RxPkt) (p : RPkt) (k : Conn) (sp : Spoke),
      Map.get s.xpt.rx i = some x ∧
      x.dport = 4791 ∧
      x.roce = some p ∧
      s.conn p.qp = some k ∧
      k.roce = true ∧
      k.phase = .active ∧
      k.dying = none ∧
      p.pkey = k.par.pkey ∧
      p.ce = false ∧
      p.opcode = 0xA ∧
      p.psn = k.rc.expected ∧
      k.rc.writeLeft = 0 ∧
      k.rc.recv = none ∧
      p.payload ≠ [] ∧
      p.payload.length = p.dmaLen ∧
      p.payload.length ≤ 2 ^ k.par.log2 ∧
      s.roceKey k.spoke p.rkey p.va p.dmaLen true = (.success, p.va - (s.region (p.rkey % 2 ^ 20)).addr) ∧
      s.spoke k.spoke = some sp ∧
      sp.base = true ∧
      s.destLater k.spoke = false ∧
      s.rimDown = false ∧
      p.va % 4096 + p.payload.length ≤ 4096) ∧
    (∃ (s : State) (i : Nat) (x : RxPkt) (p : RPkt) (k : Conn),
      Map.get s.xpt.rx i = some x ∧
      x.dport = 4791 ∧
      x.roce = some p ∧
      s.conn p.qp = some k ∧
      k.roce = true ∧
      k.phase = .active ∧
      k.dying = none ∧
      p.pkey = k.par.pkey ∧
      p.opcode = 0x81 ∧
      k.rc.cnpGot = none) ∧
    (∃ (s : State) (i : Nat) (x : RxPkt),
      Map.get s.xpt.rx i = some x ∧
      x.dport = 4791 ∧
      x.roce = none) ∧
    (∃ (s : State) (c n : Nat) (k : Conn) (p : OutPkt),
      s.conn c = some k ∧
      k.out.find? (fun p => p.psn == n) = some p ∧
      k.roce = true ∧
      k.rc.rnrAt = none ∧
      p.tries < k.par.retryLimit) ∧
    (∃ (s : State) (c n : Nat) (k : Conn) (p : OutPkt),
      s.conn c = some k ∧
      k.out.find? (fun p => p.psn == n) = some p ∧
      k.roce = true ∧
      k.rc.rnrAt = none ∧
      k.par.retryLimit ≤ p.tries ∧
      k.phase = .active ∧
      k.dying = none) ∧
    (∃ (s : State) (c n u : Nat) (k : Conn),
      s.conn c = some k ∧
      k.rc.rnrAt = some (n, u)) ∧
    (∃ (s : State) (c : Nat) (k : Conn),
      s.conn c = some k ∧
      k.roce = true ∧
      k.rc.rate ≠ 0) :=
  ⟨⟨rrxUp { opcode := 0xA, qp := 2, va := 4100, rkey := 9, dmaLen := 4, payload := [1, 2, 3, 4] }, 0, rrxPkt { opcode := 0xA, qp := 2, va := 4100, rkey := 9, dmaLen := 4, payload := [1, 2, 3, 4] }, { opcode := 0xA, qp := 2, va := 4100, rkey := 9, dmaLen := 4, payload := [1, 2, 3, 4] }, { xptConn true with rc := {} }, { fn := 0, base := true }, by decide +kernel⟩,
   ⟨rrxUp { opcode := 0x81, qp := 2, payload := zeros 16 }, 0, rrxPkt { opcode := 0x81, qp := 2, payload := zeros 16 }, { opcode := 0x81, qp := 2, payload := zeros 16 }, { xptConn true with rc := {} }, by decide +kernel⟩,
   ⟨{ up with xpt.rx := [(0, ⟨0, [0, 0] ++ toBe 2 4791, { ip := some 0, l4 := some 0 }⟩)] }, 0, ⟨0, [0, 0] ++ toBe 2 4791, { ip := some 0, l4 := some 0 }⟩, by decide +kernel⟩,
   ⟨{ up with xpt.conns := [(2, xptConn true)] }, 2, 7, xptConn true, { wire := .y { opcode := 1 }, psn := 7, wr := some 4 }, by decide +kernel⟩,
   ⟨{ up with xpt.conns := [(2, { xptConn true with par := {} , out := [{ wire := .y { opcode := 1 }, psn := 7, tries := 1 }] })] }, 2, 7, { xptConn true with par := {} , out := [{ wire := .y { opcode := 1 }, psn := 7, tries := 1 }] }, { wire := .y { opcode := 1 }, psn := 7, tries := 1 }, by decide +kernel⟩,
   ⟨{ up with xpt.conns := [(2, { xptConn true with rc := { rnrAt := some (7, 9) } })] }, 2, 7, 9, { xptConn true with rc := { rnrAt := some (7, 9) } }, by decide +kernel⟩,
   ⟨{ up with xpt.conns := [(2, { xptConn true with rc := { rate := 5 } })] }, 2, { xptConn true with rc := { rate := 5 } }, by decide +kernel⟩⟩

theorem witness_CounterCommandsActOnTheirCounter :
    (∃ (s : State) (f c : Nat) (p : Bytes) (sp : Spoke),
      s.performable f 0x0120 = true ∧
      (s.fn f).mb.payload = p ∧
      s.spoke (u16 p 0) = some sp ∧
      s.mayNameSpoke f (u16 p 0) = true ∧
      (s.trg.counters.filter fun x => x.2.spoke == u16 p 0).length < sp.counterQuota ∧
      Map.lowestFree s.trg.counters 16384 = some c) ∧
    (∃ (s : State) (f : Nat) (p : Bytes) (x : Counter),
      s.performable f 0x0121 = true ∧
      (s.fn f).mb.payload = p ∧
      Map.get s.trg.counters (u16 p 0) = some x ∧
      s.mayNameSpoke f x.spoke = true ∧
      s.counterNamed (u16 p 0) = false) ∧
    (∃ (s : State) (f : Nat) (p : Bytes) (x : Counter),
      s.performable f 0x0122 = true ∧
      (s.fn f).mb.payload = p ∧
      Map.get s.trg.counters (u16 p 0) = some x ∧
      s.mayNameSpoke f x.spoke = true ∧
      (bit (u8 p 2) 3 = true → u64 p 24 % 8 = 0)) ∧
    (∃ (s : State) (f : Nat) (p : Bytes) (x : Counter),
      s.performable f 0x0123 = true ∧
      (s.fn f).mb.payload = p ∧
      Map.get s.trg.counters (u16 p 0) = some x ∧
      s.mayNameSpoke f x.spoke = true ∧
      0 < u64 p 8) ∧
    (∃ (s : State) (f : Nat) (p : Bytes) (x : Counter),
      s.performable f 0x0124 = true ∧
      (s.fn f).mb.payload = p ∧
      Map.get s.trg.counters (u16 p 0) = some x ∧
      s.mayNameSpoke f x.spoke = true) :=
  ⟨⟨posted (up) 0 0x0120 ([6, 0, 0, 0]), 0, 0, [6, 0, 0, 0], { fn := 0, pasid := 1 }, by decide +kernel⟩,
   ⟨posted ({ up with trg.counters := [(7, { spoke := 5 })] }) 0 0x0121 ([7, 0, 0, 0]), 0, [7, 0, 0, 0], { spoke := 5 }, by decide +kernel⟩,
   ⟨posted ({ up with trg.counters := [(7, { spoke := 5 })] }) 0 0x0122 ([7, 0, 5, 0, 3, 0, 0, 0, 9, 0, 0, 0, 0, 0, 0, 0, 8]), 0, [7, 0, 5, 0, 3, 0, 0, 0, 9, 0, 0, 0, 0, 0, 0, 0, 8], { spoke := 5 }, by decide +kernel⟩,
   ⟨posted ({ up with trg.counters := [(7, { spoke := 5 })] }) 0 0x0123 ([7, 0, 0, 0, 0, 0, 0, 0, 2]), 0, [7, 0, 0, 0, 0, 0, 0, 0, 2], { spoke := 5 }, by decide +kernel⟩,
   ⟨posted ({ up with trg.counters := [(7, { spoke := 5 })] }) 0 0x0124 ([7, 0, 0, 0]), 0, [7, 0, 0, 0], { spoke := 5 }, by decide +kernel⟩⟩

theorem witness_TriggerCommandsActOnTheirEntry :
    (∃ (s : State) (f : Nat) (p : Bytes),
      s.performable f 0x0130 = true ∧
      (s.fn f).mb.payload = p ∧
      (s.spoke (u16 p 0)).isSome = true ∧
      s.mayNameSpoke f (u16 p 0) = true ∧
      u32 p 4 ≠ 0 ∧
      (bit (u8 p 2) 0 && bit (u8 p 2) 1) = false ∧
      ((bit (u8 p 2) 0 || bit (u8 p 2) 1) = false → u16 p 8 = 0) ∧
      ((bit (u8 p 2) 0 || bit (u8 p 2) 1) = true → (Map.get s.trg.counters (u16 p 8)).map Counter.spoke = some (u16 p 0)) ∧
      Map.has s.trg.entries (trigKey (u16 p 0) (u32 p 4)) = false ∧
      s.trg.entries.length < 32768) ∧
    (∃ (s : State) (f : Nat) (p : Bytes) (e : TrigEntry),
      s.performable f 0x0131 = true ∧
      (s.fn f).mb.payload = p ∧
      Map.get s.trg.entries (trigKey (u16 p 0) (u32 p 4)) = some e ∧
      s.mayNameSpoke f (u16 p 0) = true) ∧
    (∃ (s : State) (f : Nat) (p : Bytes) (e : TrigEntry),
      s.performable f 0x0132 = true ∧
      (s.fn f).mb.payload = p ∧
      Map.get s.trg.entries (trigKey (u16 p 0) (u32 p 4)) = some e ∧
      s.mayNameSpoke f (u16 p 0) = true) :=
  ⟨⟨posted ({ up with trg.counters := [(7, { spoke := 5 })] }) 0 0x0130 ([5, 0, 2, 0, 9, 0, 0, 0, 7, 0, 0, 0]), 0, [5, 0, 2, 0, 9, 0, 0, 0, 7, 0, 0, 0], by decide +kernel⟩,
   ⟨posted ({ up with trg.entries := [(5 * 2 ^ 32 + 9, { spoke := 5, value := 9 })] }) 0 0x0131 ([5, 0, 0, 0, 9, 0, 0, 0]), 0, [5, 0, 0, 0, 9, 0, 0, 0], { spoke := 5, value := 9 }, by decide +kernel⟩,
   ⟨posted ({ up with trg.entries := [(5 * 2 ^ 32 + 9, { spoke := 5, value := 9 })] }) 0 0x0132 ([5, 0, 0, 0, 9, 0, 0, 0]), 0, [5, 0, 0, 0, 9, 0, 0, 0], { spoke := 5, value := 9 }, by decide +kernel⟩⟩

theorem witness_CounterUpdatesAreAppliedInOrder :
    (∃ (s : State) (u : CntUpdate) (l : List CntUpdate),
      s.trg.updates = u :: l ∧
      (Map.get s.trg.counters u.counter).map Counter.spoke ≠ some u.spoke) ∧
    (∃ (s : State) (u : CntUpdate) (l : List CntUpdate) (x : Counter) (st : Status),
      s.trg.updates = u :: l ∧
      Map.get s.trg.counters u.counter = some x ∧
      x.spoke = u.spoke ∧
      u.fail = some st) ∧
    (∃ (s : State) (u : CntUpdate) (l : List CntUpdate) (x : Counter),
      s.trg.updates = u :: l ∧
      Map.get s.trg.counters u.counter = some x ∧
      x.spoke = u.spoke ∧
      u.fail = none) ∧
    (∃ (s : State) (c : Nat) (x : Counter),
      Map.get s.trg.counters c = some x ∧
      x.mirrorEn = true) :=
  ⟨⟨{ up with trg.updates := [{ counter := 7, spoke := 5, amount := 1 }] }, { counter := 7, spoke := 5, amount := 1 }, [], by decide +kernel⟩,
   ⟨{ up with trg.counters := [(7, { spoke := 5 })], trg.updates := [{ counter := 7, spoke := 5, fail := some .timeout }] }, { counter := 7, spoke := 5, fail := some .timeout }, [], { spoke := 5 }, .timeout, by decide +kernel⟩,
   ⟨{ up with trg.counters := [(7, { spoke := 5 })], trg.updates := [{ counter := 7, spoke := 5, amount := 1 }] }, { counter := 7, spoke := 5, amount := 1 }, [], { spoke := 5 }, by decide +kernel⟩,
   ⟨{ up with trg.counters := [(7, { spoke := 5, mirrorEn := true })] }, 7, { spoke := 5, mirrorEn := true }, by decide +kernel⟩⟩

theorem witness_JobsAreTakenInBoundAndPreempted :
    (∃ (s u v : State) (o : Nat) (x : Op) (q : Queue) (sp : Spoke) (gs : List Stage) (cs : List Chan) (ans : HostAns),
      s.running o .streamJob = some (x, q) ∧
      x.posted = false ∧
      s.serves 3 = true ∧
      s.str.jobs.length < 4096 ∧
      s.spoke q.spoke = some sp ∧
      sp.tileLimit ≠ 0 ∧
      rMcode x.desc = false ∧
      s.readPipe q.spoke x.desc ans = (u, .ok gs cs) ∧
      gs.length ≤ u.usable ∧
      u.ctxCheck q.spoke (rCtxUnits x.desc * 65536 / 4096 + 1) (rCtx x.desc) (rCtxUnits x.desc * 65536) = (v, .success)) ∧
    (∃ (s : State) (o : Nat) (x : Op) (q : Queue) (sp : Spoke),
      s.running o .streamJob = some (x, q) ∧
      x.posted = false ∧
      s.serves 3 = true ∧
      s.str.jobs.length < 4096 ∧
      s.spoke q.spoke = some sp ∧
      sp.tileLimit = 0) ∧
    (∃ (s : State) (j : Nat) (x : Job) (tiles : List Nat) (ans : List HostAns),
      s.serves 3 = true ∧
      s.job j = some x ∧
      s.account.bindable j x = true ∧
      s.account.tilesOk x tiles = true ∧
      x.stages.all (fun g => g.saved.isNone) = true ∧
      (s.account.loadStages j x ans (x.live.zip tiles)).2.2 = (none, false)) ∧
    (∃ (s : State) (j : Nat) (x : Job) (tiles : List Nat),
      s.serves 3 = true ∧
      s.job j = some x ∧
      s.account.bindable j x = true ∧
      s.account.tilesOk x tiles = true ∧
      x.stages.all (fun g => g.saved.isNone) = false) ∧
    (∃ (s : State) (j : Nat) (x : Job),
      s.serves 3 = true ∧
      s.str.jobs = [(j, x)] ∧
      x.phase = .bound ∧
      x.stages ≠ [] ∧
      x.stages.all (fun g => !g.ended) = true ∧
      (Map.get s.account.str.bucket x.spoke).getD 0 ≤ 0) ∧
    (∃ (s : State) (i : Nat),
      s.tileFree i = true ∧
      (s.tile i).gated = false ∧
      s.rfield aLowPwr 31 16 ≠ 0) :=
  ⟨⟨strUp, strUp, strUp, 4, runOp, { kind := .streamJob, spoke := 6, state := .active }, { fn := 0, pasid := 1 }, [{ program := 0, programLen := 64, units := 1 }], [], .ok [] false, by decide +kernel⟩,
   ⟨{ strUp with host.spokes := [(6, { fn := 0, pasid := 1, tileLimit := 0 })] }, 4, runOp, { kind := .streamJob, spoke := 6, state := .active }, { fn := 0, pasid := 1, tileLimit := 0 }, by decide +kernel⟩,
   ⟨jobUp .waiting none .free, 7, strJob .waiting none none, [9], [], by decide +kernel⟩,
   ⟨jobUp .waiting (some {}) .free, 7, strJob .waiting (some {}) none, [9], by decide +kernel⟩,
   ⟨{ jobUp .bound none .running with str.bucket := [(6, -5)] }, 7, strJob .bound none (some 9), by decide +kernel⟩,
   ⟨up.rput aLowPwr (2 ^ 16 * 500), 3, by decide +kernel⟩⟩

theorem witness_JobsAreSavedRestoredAndEnd :
    (∃ (s u : State) (i : Nat) (x : Job) (g : Stage),
      (s.tile i).phase = .saving ∧
      s.job (s.tile i).job = some x ∧
      x.stages[(s.tile i).stage]? = some g ∧
      s.ctxCheck x.spoke ((131072 + g.units * 65536) / 4096 + 1) (slotAddr x.ctx x.stages (s.tile i).stage) (131072 + g.units * 65536) = (u, .success) ∧
      s.str.retiring = [] ∧
      (∀ y ∈ s.str.jobs, y.2.stages.length ≤ s.usable)) ∧
    (∃ (s : State) (i : Nat) (x : Job) (g : Stage) (keep : Tile),
      (s.tile i).phase = .restoring ∧
      s.job (s.tile i).job = some x ∧
      x.stages[(s.tile i).stage]? = some g ∧
      g.saved = some keep ∧
      (s.spokeRead x.spoke (slotAddr x.ctx x.stages (s.tile i).stage) 131072 (.ok [] false)).2.status = .success ∧
      (s.spokeRead x.spoke (slotAddr x.ctx x.stages (s.tile i).stage) 131072 (.ok [] false)).2.medium = false ∧
      ((s.spokeRead x.spoke (slotAddr x.ctx x.stages (s.tile i).stage) 131072 (.ok [] false)).1.readContext x.spoke
      (slotAddr x.ctx x.stages (s.tile i).stage + 131072) (g.units * 1024)).2.2 = .success) ∧
    (∃ (s : State) (i : Nat) (x : Job) (g : Stage) (l : List SlotOut),
      (s.tile i).phase = .running ∧
      (s.tile i).cnts = [] ∧
      s.job (s.tile i).job = some x ∧
      x.chans = [] ∧
      x.stages[(s.tile i).stage]? = some g ∧
      g.ended = false ∧
      (s.tile i).pc + 64 ≤ g.units * 65536 ∧
      Map.get (s.tile i).icache (s.tile i).pc = some (Memory.readBytes (s.tile i).sram (s.tile i).pc 64) ∧
      runBundle (s.tile i) (s.env x i (g.units * 65536)) (Memory.readBytes (s.tile i).sram (s.tile i).pc 64) = .issued l) ∧
    (∃ (s : State) (i c : Nat) (x : Job) (g : Stage) (o : Op),
      (s.tile i).phase = .running ∧
      (s.tile i).cnts = [] ∧
      s.job (s.tile i).job = some x ∧
      x.chans = [] ∧
      x.stages[(s.tile i).stage]? = some g ∧
      g.ended = false ∧
      (s.tile i).pc + 64 ≤ g.units * 65536 ∧
      Map.get (s.tile i).icache (s.tile i).pc = some (Memory.readBytes (s.tile i).sram (s.tile i).pc 64) ∧
      runBundle (s.tile i) (s.env x i (g.units * 65536)) (Memory.readBytes (s.tile i).sram (s.tile i).pc 64) = .except c ∧
      s.op x.op = some o ∧
      o.phase ≠ .done ∧
      Map.wf s.str.jobs = true ∧
      s.str.retiring = []) ∧
    (∃ (s : State) (j : Nat) (x : Job) (o : Op),
      s.job j = some x ∧
      x.phase = .bound ∧
      x.stages.all Stage.ended = true ∧
      x.chans = [] ∧
      x.marked = none ∧
      s.op x.op = some o ∧
      o.phase ≠ .done ∧
      Map.wf s.str.jobs = true ∧
      s.str.retiring = []) ∧
    (∃ (s : State) (j : Nat) (x : Job) (o : Op),
      s.job j = some x ∧
      x.phase = .bound ∧
      s.op x.op = some o ∧
      o.phase ≠ .done ∧
      Map.wf s.str.jobs = true ∧
      s.str.retiring = []) ∧
    (∃ (s : State) (f : Nat) (p : Bytes),
      s.performable f 0x0501 = true ∧
      (s.fn f).mb.payload = p ∧
      f % 4 = 0 ∧
      bit (u8 p 1) 0 = false ∧
      bits (u8 p 0) 5 0 ∈ s.str.retired) ∧
    (∃ (s : State) (f : Nat) (p : Bytes),
      s.performable f 0x0501 = true ∧
      (s.fn f).mb.payload = p ∧
      f % 4 = 0 ∧
      bit (u8 p 1) 0 = false ∧
      bits (u8 p 0) 5 0 ∉ s.str.retired ∧
      s.str.retiring.all (fun r => r.tile != bits (u8 p 0) 5 0) = true ∧
      (s.tile (bits (u8 p 0) 5 0)).phase = .free ∧
      (∀ y ∈ s.str.jobs, y.2.stages.length < s.usable)) ∧
    (∃ (s : State) (f : Nat) (p : Bytes),
      s.performable f 0x0501 = true ∧
      (s.fn f).mb.payload = p ∧
      f % 4 = 0 ∧
      bit (u8 p 1) 0 = true ∧
      (s.jGet 0x0501 (bits (u8 p 0) 5 0)).isSome = true) :=
  ⟨⟨jobUp .saving none .saving, jobUp .saving none .saving, 9, strJob .saving none (some 9), strStage none (some 9), by decide +kernel⟩,
   ⟨{ jobUp .bound (some {}) .restoring with str.jobs := [(7, { strJob .bound (some {}) (some 9) with stages := [{ strStage (some {}) (some 9) with units := 0 }] })] }, 9, { strJob .bound (some {}) (some 9) with stages := [{ strStage (some {}) (some 9) with units := 0 }] }, { strStage (some {}) (some 9) with units := 0 }, {}, by decide +kernel⟩,
   ⟨jobUp .bound none .running, 9, strJob .bound none (some 9), strStage none (some 9), runSlots ((jobUp .bound none .running).tile 9) ((jobUp .bound none .running).env (strJob .bound none (some 9)) 9 65536) (Memory.readBytes ((jobUp .bound none .running).tile 9).sram 0 64), by decide +kernel⟩,
   ⟨(jobUp .bound none .running).setTile 9 { phase := .running, job := 7, icache := [(0, zeros 64)] }, 9, 1, strJob .bound none (some 9), strStage none (some 9), runOp, by decide +kernel⟩,
   ⟨{ jobUp .bound none .running with str.jobs := [(7, { strJob .bound none (some 9) with stages := [{ strStage none (some 9) with ended := true }] })] }, 7, { strJob .bound none (some 9) with stages := [{ strStage none (some 9) with ended := true }] }, runOp, by decide +kernel⟩,
   ⟨jobUp .bound none .running, 7, strJob .bound none (some 9), runOp, by decide +kernel⟩,
   ⟨posted ({ up with str.retired := [4] }) 0 0x0501 ([4, 0, 0, 0]), 0, [4, 0, 0, 0], by decide +kernel⟩,
   ⟨posted (up) 0 0x0501 ([4, 0, 0, 0]), 0, [4, 0, 0, 0], by decide +kernel⟩,
   ⟨posted ({ up with fwm.slots := [.record 0x0501 4 1 1 0 1 false [4, 0, 0, 0]] }) 0 0x0501 ([4, 1, 0, 0]), 0, [4, 1, 0, 0], by decide +kernel⟩⟩

theorem witness_ControllersFollowTheirRegistersAndQueues :
    (∃ (s : State) (h : Nat) (x : Ctrl),
      h < 2 ∧
      s.theCtrl h = some x ∧
      bit x.cc 0 = false) ∧
    (∃ (s : State) (h : Nat) (x : Ctrl),
      h < 2 ∧
      s.theCtrl h = some x ∧
      bit x.cc 0 = true ∧
      x.rdy = false ∧
      x.cfs = false) ∧
    (∃ (s : State) (h : Nat) (x : Ctrl),
      h < 2 ∧
      s.theCtrl h = some x ∧
      bit x.cc 0 = true) ∧
    (∃ (s : State) (h shn : Nat) (x : Ctrl),
      h < 2 ∧
      (shn = 1 ∨ shn = 2) ∧
      s.theCtrl h = some x ∧
      s.nvme.cmds = [] ∧
      s.nvme.spaces = []) ∧
    (∃ (s : State) (h shn : Nat) (x : Ctrl),
      h < 2 ∧
      (shn = 1 ∨ shn = 2) ∧
      s.theCtrl h = some x ∧
      s.nvme.cmds.any (fun p => p.2.ctrl == h) = true ∧
      s.nvme.spaces = []) ∧
    (∃ (s : State) (c q tail : Nat) (x : Ctrl) (sq : NvQueue),
      s.theCtrl c = some x ∧
      x.rdy = true ∧
      Map.get s.nvme.sqs (nvKey c q) = some sq ∧
      tail < sq.size) ∧
    (∃ (s : State) (c q head : Nat) (x : Ctrl) (k : NvQueue),
      s.theCtrl c = some x ∧
      x.rdy = true ∧
      Map.get s.nvme.cqs (nvKey c q) = some k ∧
      head < k.size ∧
      (head + k.size - k.head) % k.size ≤ (k.tail + k.size - k.head) % k.size ∧
      k.due = []) ∧
    (∃ (s : State) (c q head : Nat) (x : Ctrl) (k : NvQueue),
      s.theCtrl c = some x ∧
      x.rdy = true ∧
      x.aers = [] ∧
      x.events = [] ∧
      Map.get s.nvme.cqs (nvKey c q) = some k ∧
      k.size ≤ head) ∧
    (∃ (s : State) (i : Nat) (k : NvCmd) (x : Ctrl),
      s.nvReady i 0x05 true = some (k, x) ∧
      x.spoke = none ∧
      x.qidBad (u16 k.sqe 40) = false ∧
      Map.get s.nvme.cqs (nvKey k.ctrl (u16 k.sqe 40)) = none ∧
      ioQueues s.nvme.cqs < 8192 ∧
      1 ≤ u16 k.sqe 42 ∧
      bit (u32 k.sqe 44) 0 = true ∧
      bits (u32 k.sqe 44) 31 16 < 2048 ∧
      u64 k.sqe 24 % x.pageBytes = 0) ∧
    (∃ (s : State) (i : Nat) (k : NvCmd) (x : Ctrl),
      s.nvReady i 0x01 true = some (k, x) ∧
      x.spoke = none ∧
      x.qidBad (u16 k.sqe 40) = false ∧
      Map.get s.nvme.sqs (nvKey k.ctrl (u16 k.sqe 40)) = none ∧
      ioQueues s.nvme.sqs < 8192 ∧
      1 ≤ u16 k.sqe 42 ∧
      bits (u32 k.sqe 44) 31 16 ≠ 0 ∧
      (Map.get s.nvme.cqs (nvKey k.ctrl (bits (u32 k.sqe 44) 31 16))).isSome = true ∧
      bit (u32 k.sqe 44) 0 = true ∧
      u64 k.sqe 24 % x.pageBytes = 0) ∧
    (∃ (s : State) (i : Nat) (k : NvCmd) (x : Ctrl) (sq : NvQueue),
      s.nvReady i 0x00 true = some (k, x) ∧
      Map.get s.nvme.sqs (nvKey k.ctrl (u16 k.sqe 40)) = some sq ∧
      u16 k.sqe 40 ≠ 0 ∧
      sq.number = none ∧
      s.nvme.cmds.all (fun p => !(p.2.ctrl == k.ctrl && p.2.sq == u16 k.sqe 40)) = true) ∧
    (∃ (s : State) (i : Nat) (k : NvCmd) (x : Ctrl) (cq : NvQueue),
      s.nvReady i 0x04 true = some (k, x) ∧
      Map.get s.nvme.cqs (nvKey k.ctrl (u16 k.sqe 40)) = some cq ∧
      u16 k.sqe 40 ≠ 0 ∧
      cq.number = none) ∧
    (∃ (s u : State) (i : Nat) (k : NvCmd) (x : Ctrl) (d : Bytes) (l : List (Nat × Nat)) (lists ans : HostAns),
      s.nvReady i 0x02 true = some (k, x) ∧
      s.nvLog k.ctrl x (bits (u32 k.sqe 40) 7 0) = some d ∧
      bits (u32 k.sqe 40) 7 0 ≠ 2 ∧
      u64 k.sqe 48 % 4 = 0 ∧
      u64 k.sqe 48 ≤ d.length ∧
      bits (u32 k.sqe 44) 15 0 = 0 ∧
      s.dataPtr x k ((bits (u32 k.sqe 40) 31 16 + 1) * 4) lists = (u, .ok l) ∧
      (u.scatter x ans (padTo ((bits (u32 k.sqe 40) 31 16 + 1) * 4) (d.drop (u64 k.sqe 48))) l).2.status = .success) ∧
    (∃ (s u : State) (i : Nat) (k : NvCmd) (x : Ctrl) (l : List (Nat × Nat)) (lists ans : HostAns),
      s.nvReady i 0x06 true = some (k, x) ∧
      u8 k.sqe 40 = 2 ∧
      u32 k.sqe 4 < 0xFFFFFFFE ∧
      s.dataPtr x k 4096 lists = (u, .ok l) ∧
      (u.scatter x ans (padTo 4096 ((s.nvme.spaces.filter fun p => p.2.ctrls.contains k.ctrl && decide (u32 k.sqe 4 < p.1)).flatMap fun p => toLe 4 p.1)) l).2.status = .success ∧
      s.nvme.spaces.length ≤ 1024) ∧
    (∃ (s : State) (i j : Nat) (k y : NvCmd) (x : Ctrl),
      s.nvReady i 0x08 true = some (k, x) ∧
      (s.nvme.cmds.find? fun p => p.1 != i && p.2.ctrl == k.ctrl && p.2.sq == u16 k.sqe 40 && p.2.cid == u16 k.sqe 42 && !p.2.issued) = some (j, y)) ∧
    (∃ (s : State) (i : Nat) (k : NvCmd) (x : Ctrl),
      s.nvReady i 0x09 true = some (k, x) ∧
      bit (u32 k.sqe 40) 31 = false ∧
      u8 k.sqe 40 = 0x07 ∧
      bits (u32 k.sqe 44) 15 0 < 65535 ∧
      bits (u32 k.sqe 44) 31 16 < 65535 ∧
      ioQueuesOf s.nvme.sqs k.ctrl + ioQueuesOf s.nvme.cqs k.ctrl = 0 ∧
      max (ioQueues s.nvme.sqs) (ioQueues s.nvme.cqs) ≤ 7680) ∧
    (∃ (s : State) (i : Nat) (k : NvCmd) (x : Ctrl),
      s.nvReady i 0x09 true = some (k, x) ∧
      bit (u32 k.sqe 40) 31 = false ∧
      u8 k.sqe 40 = 0x02) ∧
    (∃ (s : State) (i : Nat) (k : NvCmd) (x : Ctrl),
      s.nvReady i 0x0A true = some (k, x)) ∧
    (∃ (s : State) (i : Nat) (k : NvCmd) (x : Ctrl),
      s.nvReady i 0x0C true = some (k, x)) ∧
    (∃ (s : State) (i : Nat) (k : NvCmd) (x : Ctrl) (sq cq : NvQueue),
      s.nvme.cmds = [(i, k)] ∧
      s.theCtrl k.ctrl = some x ∧
      x.spoke = none ∧
      x.shst = 0 ∧
      s.nvUp x = true ∧
      s.rimDown = false ∧
      Map.get s.nvme.sqs (nvKey k.ctrl k.sq) = some sq ∧
      Map.get s.nvme.cqs (nvKey k.ctrl sq.cqid) = some cq ∧
      cq.due = []) :=
  ⟨⟨up, 0, { fn := 2 }, by decide +kernel⟩,
   ⟨{ up with nvme.ctrls := [(0, { fn := 2, cc := 0x460001, aqa := 0x1F001F, asq := 4096, acq := 8192 })] }, 0, { fn := 2, cc := 0x460001, aqa := 0x1F001F, asq := 4096, acq := 8192 }, by decide +kernel⟩,
   ⟨stoUp 0 (sqe 6 0 []), 0, { fn := 2, cc := 0x460001, rdy := true }, by decide +kernel⟩,
   ⟨up, 0, 1, { fn := 2 }, by decide +kernel⟩,
   ⟨{ stoUp 0 (sqe 6 0 []) with nvme.spaces := [] }, 0, 1, { fn := 2, cc := 0x460001, rdy := true }, by decide +kernel⟩,
   ⟨stoUp 0 (sqe 6 0 []), 0, 1, 2, { fn := 2, cc := 0x460001, rdy := true }, { base := 0x20000, size := 16, cqid := 1 }, by decide +kernel⟩,
   ⟨{ stoUp 0 (sqe 6 0 []) with nvme.cqs := [(0, { base := 0, size := 8, tail := 5 })] }, 0, 0, 4, { fn := 2, cc := 0x460001, rdy := true }, { base := 0, size := 8, tail := 5 }, by decide +kernel⟩,
   ⟨stoUp 0 (sqe 6 0 []), 0, 0, 16, { fn := 2, cc := 0x460001, rdy := true }, { base := 0x30000, size := 16 }, by decide +kernel⟩,
   ⟨stoUp 0 (sqe 5 0 [2, 0, 15, 0, 3, 0, 4, 0]), 7, nvk 0 (sqe 5 0 [2, 0, 15, 0, 3, 0, 4, 0]), { fn := 2, cc := 0x460001, rdy := true }, by decide +kernel⟩,
   ⟨stoUp 0 (sqe 1 0 [2, 0, 15, 0, 1, 0, 1, 0]), 7, nvk 0 (sqe 1 0 [2, 0, 15, 0, 1, 0, 1, 0]), { fn := 2, cc := 0x460001, rdy := true }, by decide +kernel⟩,
   ⟨stoUp 0 (sqe 0 0 [1, 0]), 7, nvk 0 (sqe 0 0 [1, 0]), { fn := 2, cc := 0x460001, rdy := true }, { base := 0x20000, size := 16, cqid := 1 }, by decide +kernel⟩,
   ⟨stoUp 0 (sqe 4 0 [1, 0]), 7, nvk 0 (sqe 4 0 [1, 0]), { fn := 2, cc := 0x460001, rdy := true }, { base := 0x40000, size := 16 }, by decide +kernel⟩,
   ⟨stoUp 0 (sqe 2 0 [0xC0, 0, 1, 0]), stoUp 0 (sqe 2 0 [0xC0, 0, 1, 0]), 7, nvk 0 (sqe 2 0 [0xC0, 0, 1, 0]), { fn := 2, cc := 0x460001, rdy := true }, zeros 2048, [(0x8000, 8)], .ok [] false, .ok [] false, by decide +kernel⟩,
   ⟨stoUp 0 (sqe 6 0 [2]), stoUp 0 (sqe 6 0 [2]), 7, nvk 0 (sqe 6 0 [2]), { fn := 2, cc := 0x460001, rdy := true }, [(0x8000, 4096)], .ok [] false, .ok [] false, by decide +kernel⟩,
   ⟨{ stoUp 0 (sqe 8 0 [1, 0, 5, 0]) with nvme.cmds := [(3, { nvk 1 (sqe 2 1 []) with cid := 5 }), (7, nvk 0 (sqe 8 0 [1, 0, 5, 0]))] }, 7, 3, nvk 0 (sqe 8 0 [1, 0, 5, 0]), { nvk 1 (sqe 2 1 []) with cid := 5 }, { fn := 2, cc := 0x460001, rdy := true }, by decide +kernel⟩,
   ⟨{ stoUp 0 (sqe 9 0 [7, 0, 0, 0, 3, 0, 5, 0]) with nvme.sqs := [], nvme.cqs := [] }, 7, nvk 0 (sqe 9 0 [7, 0, 0, 0, 3, 0, 5, 0]), { fn := 2, cc := 0x460001, rdy := true }, by decide +kernel⟩,
   ⟨stoUp 0 (sqe 9 0 [2, 0, 0, 0, 3]), 7, nvk 0 (sqe 9 0 [2, 0, 0, 0, 3]), { fn := 2, cc := 0x460001, rdy := true }, by decide +kernel⟩,
   ⟨stoUp 0 (sqe 10 0 [7]), 7, nvk 0 (sqe 10 0 [7]), { fn := 2, cc := 0x460001, rdy := true }, by decide +kernel⟩,
   ⟨stoUp 0 (sqe 12 0 []), 7, nvk 0 (sqe 12 0 []), { fn := 2, cc := 0x460001, rdy := true }, by decide +kernel⟩,
   ⟨stoUp 0 (sqe 12 0 []), 7, nvk 0 (sqe 12 0 []), { fn := 2, cc := 0x460001, rdy := true }, { base := 0x10000, size := 16 }, { base := 0x30000, size := 16 }, by decide +kernel⟩⟩

theorem witness_StorageCommandsReachTheirBackings :
    (∃ (s : State) (i : Nat) (k : NvCmd) (x : Ctrl) (n : Namespace) (b : Bool) (d : NsSide),
      s.nvReady i 0x02 false = some (k, x) ∧
      s.ioSpace k = some n ∧
      ioCheck n k.sqe true = 0 ∧
      n.reader = some (b, d)) ∧
    (∃ (s : State) (i : Nat) (k : NvCmd) (x : Ctrl),
      (s.nvReady i 0x02 false = some (k, x) ∨ s.nvReady i 0x08 false = some (k, x)) ∧
      s.ioSpace k = none) ∧
    (∃ (s u v : State) (i a m : Nat) (k : NvCmd) (x : Ctrl) (n : Namespace) (l : List (Nat × Nat)) (ra : AccRes) (bl : List (Bytes × Bytes)) (lists ans : HostAns),
      s.nvReady i 0x01 false = some (k, x) ∧
      s.ioSpace k = some n ∧
      n.b = none ∧
      n.a.failed = false ∧
      n.encrypt = false ∧
      ioCheck n k.sqe true = 0 ∧
      s.dataPtr x k (ioNlb k.sqe * lbaBytes n.lbaf) lists = (u, .ok l) ∧
      u.gather x ans 0 l = (v, ra) ∧
      ra.status = .success ∧
      ra.poisoned = false ∧
      ra.medium = false ∧
      lbaMeta n.lbaf = 0 ∧
      ioBlocks n k.sqe ra.data [] = .ok bl ∧
      cutRange (s.atomLbas n) (ioNlb k.sqe) (ioLba k.sqe) (ioNlb k.sqe) = [(a, m)] ∧
      s.nvme.cmds.all (fun p => p.1 == i || !(p.2.started && p.2.kind != .read && p.2.pieces.any fun y => !y.sent)) = true ∧
      Map.wf s.nvme.cmds = true) ∧
    (∃ (s : State) (i a m : Nat) (k : NvCmd) (x : Ctrl) (n : Namespace),
      s.nvReady i 0x08 false = some (k, x) ∧
      s.ioSpace k = some n ∧
      n.b = none ∧
      n.a.failed = false ∧
      ioCheck n k.sqe false = 0 ∧
      cutRange (s.atomLbas n) (ioNlb k.sqe) (ioLba k.sqe) (ioNlb k.sqe) = [(a, m)] ∧
      s.nvme.cmds.all (fun p => p.1 == i || !(p.2.started && p.2.kind != .read && p.2.pieces.any fun y => !y.sent)) = true ∧
      Map.wf s.nvme.cmds = true) ∧
    (∃ (s u v : State) (i : Nat) (k : NvCmd) (x : Ctrl) (n : Namespace) (l : List (Nat × Nat)) (ra : AccRes) (lists ans : HostAns),
      s.nvReady i 0x09 false = some (k, x) ∧
      s.ioSpace k = some n ∧
      s.dataPtr x k (16 * (u8 k.sqe 40 + 1)) lists = (u, .ok l) ∧
      u.gather x ans 0 l = (v, ra) ∧
      ra.status = .success ∧
      ra.poisoned = false ∧
      u8 k.sqe 40 = 0 ∧
      fld ra.data 8 8 + fld ra.data 4 4 ≤ n.nsze) ∧
    (∃ (s : State) (i : Nat) (k : NvCmd) (x : Ctrl) (n : Namespace),
      s.nvReady i 0x00 false = some (k, x) ∧
      s.ioSpace k = some n ∧
      u32 k.sqe 4 ≠ 0xFFFFFFFF) ∧
    (∃ (s : State) (id i : Nat) (r : NvReq) (k : NvCmd) (p : NvPiece) (b : Backing),
      Map.get s.nvme.reqs id = some r ∧
      r.kind = .write ∧
      r.cmd = some i ∧
      r.piece = 0 ∧
      Map.get s.nvme.backings r.backing = some b ∧
      b.lostAt = none ∧
      s.nvCmd i = some k ∧
      k.started = true ∧
      k.kind = .write ∧
      u8 k.sqe 0 = 1 ∧
      k.pieces = [p] ∧
      p.sent = true ∧
      p.left = 1 ∧
      Map.wf s.nvme.cmds = true ∧
      Map.wf s.nvme.reqs = true ∧
      id < s.nvme.nextReq) ∧
    (∃ (s : State) (b : Nat) (x : Backing),
      Map.get s.nvme.backings b = some x) ∧
    (∃ (s : State) (b tl : Nat) (x : Backing),
      Map.get s.nvme.backings b = some x ∧
      x.lostAt = some tl) ∧
    (∃ (s : State) (ns tl : Nat) (sideB : Bool) (n : Namespace) (d : NsSide) (b : Backing),
      s.space ns = some n ∧
      n.side sideB = some d ∧
      d.failed = false ∧
      n.b.isSome = true ∧
      Map.get s.nvme.backings d.backing = some b ∧
      b.lostAt = some tl) ∧
    (∃ (s : State) (ns u : Nat) (n : Namespace) (b : NsSide),
      s.space ns = some n ∧
      n.b = some b ∧
      n.a.failed = false ∧
      b.failed = false ∧
      (u ∈ n.a.bits ∨ u ∈ b.bits) ∧
      u ∉ n.waiting ∧
      u ∉ n.clearing ∧
      s.nvme.reqs = []) ∧
    (∃ (s : State) (ns : Nat) (n : Namespace) (sideB : Bool) (l : List Nat) (d o : NsSide),
      s.space ns = some n ∧
      n.resync = some (sideB, l) ∧
      n.side sideB = some d ∧
      n.side (!sideB) = some o ∧
      o.failed = false) :=
  ⟨⟨stoUp 1 (sqe 2 1 [3]), 7, nvk 1 (sqe 2 1 [3]), { fn := 2, cc := 0x460001, rdy := true }, nsp none, false, { backing := 0, start := 0 }, by decide +kernel⟩,
   ⟨stoUp 1 (sqe 2 9 [3]), 7, nvk 1 (sqe 2 9 [3]), { fn := 2, cc := 0x460001, rdy := true }, by decide +kernel⟩,
   ⟨{ stoUp 1 (sqe 1 1 [3]) with nvme.spaces := [(1, nsp none)] }, stoUp 1 (sqe 1 1 [3]), stoUp 1 (sqe 1 1 [3]), 7, 3, 1, nvk 1 (sqe 1 1 [3]), { fn := 2, cc := 0x460001, rdy := true }, nsp none, [(0x8000, 512)], { data := zeros 512 }, [(zeros 512, [])], .ok [] false, .ok [] false, by decide +kernel⟩,
   ⟨stoUp 1 (sqe 8 1 [3]), 7, 3, 1, nvk 1 (sqe 8 1 [3]), { fn := 2, cc := 0x460001, rdy := true }, nsp none, by decide +kernel⟩,
   ⟨stoUp 1 (sqe 9 1 [0, 0, 0, 0, 4]), stoUp 1 (sqe 9 1 [0, 0, 0, 0, 4]), stoUp 1 (sqe 9 1 [0, 0, 0, 0, 4]), 7, nvk 1 (sqe 9 1 [0, 0, 0, 0, 4]), { fn := 2, cc := 0x460001, rdy := true }, nsp none, [(0x8000, 16)], { data := [0, 0, 0, 0, 2, 0, 0, 0, 5] ++ zeros 7 }, .ok [] false, .ok [0, 0, 0, 0, 2, 0, 0, 0, 5] false, by decide +kernel⟩,
   ⟨stoUp 1 (sqe 0 1 []), 7, nvk 1 (sqe 0 1 []), { fn := 2, cc := 0x460001, rdy := true }, nsp none, by decide +kernel⟩,
   ⟨{ stoUp 1 (sqe 1 1 [3]) with nvme.reqs := [(2, { backing := 0, ns := 1, sideB := false, kind := .write, slba := 3, nlb := 1, cmd := some 7 })], nvme.nextReq := 3, nvme.cmds := [(7, { nvk 1 (sqe 1 1 [3]) with started := true, kind := .write, ns := 1, pieces := [{ slba := 3, nlb := 1, sent := true, left := 1 }] })] }, 2, 7, { backing := 0, ns := 1, sideB := false, kind := .write, slba := 3, nlb := 1, cmd := some 7 }, { nvk 1 (sqe 1 1 [3]) with started := true, kind := .write, ns := 1, pieces := [{ slba := 3, nlb := 1, sent := true, left := 1 }] }, { slba := 3, nlb := 1, sent := true, left := 1 }, back none, by decide +kernel⟩,
   ⟨stoUp 1 (sqe 1 1 [3]), 0, back none, by decide +kernel⟩,
   ⟨{ stoUp 1 (sqe 1 1 [3]) with nvme.backings := [(0, back (some 5))] }, 0, 5, back (some 5), by decide +kernel⟩,
   ⟨{ stoUp 1 (sqe 1 1 [3]) with nvme.backings := [(0, back none), (1, back (some 5))], nvme.spaces := [(1, nsp (some { backing := 1, start := 0 }))] }, 1, 5, true, nsp (some { backing := 1, start := 0 }), { backing := 1, start := 0 }, back (some 5), by decide +kernel⟩,
   ⟨{ stoUp 1 (sqe 1 1 [3]) with nvme.spaces := [(1, nsp (some { backing := 1, start := 0, bits := [4] }))] }, 1, 4, nsp (some { backing := 1, start := 0, bits := [4] }), { backing := 1, start := 0, bits := [4] }, by decide +kernel⟩,
   ⟨{ stoUp 1 (sqe 1 1 [3]) with nvme.spaces := [(1, { nsp (some { backing := 1, start := 0, failed := true }) with resync := some (true, [2]) })] }, 1, { nsp (some { backing := 1, start := 0, failed := true }) with resync := some (true, [2]) }, true, [2], { backing := 1, start := 0, failed := true }, { backing := 0, start := 0 }, by decide +kernel⟩⟩

theorem witness_StorageMailboxCommandsWriteTheirRecords :
    (∃ (s : State) (f b : Nat) (p : Bytes),
      s.performable f 0x0601 = true ∧
      (s.fn f).mb.payload = p ∧
      s.backingBad p = false ∧
      f % 4 = 0 ∧
      Map.lowestFree s.nvme.backings 256 = some b) ∧
    (∃ (s : State) (f : Nat) (st : Status) (p : Bytes),
      s.performable f 0x0601 = true ∧
      (s.fn f).mb.payload = p ∧
      s.backingBad p = false ∧
      f % 4 = 0 ∧
      (Map.lowestFree s.nvme.backings 256).isSome = true ∧
      st ≠ .success) ∧
    (∃ (s : State) (f : Nat) (p : Bytes),
      s.performable f 0x0602 = true ∧
      (s.fn f).mb.payload = p ∧
      (Map.get s.nvme.backings (u8 p 0)).isSome = true ∧
      f % 4 = 0 ∧
      s.nvme.spaces.all (fun n => n.2.sides.all fun d => d.2.backing != u8 p 0) = true) ∧
    (∃ (s : State) (f nsid : Nat) (p : Bytes),
      s.performable f 0x0610 = true ∧
      (s.fn f).mb.payload = p ∧
      bit (u8 p 3) 2 = false ∧
      s.nsBad p (nsOf p 0) = false ∧
      f % 4 = 0 ∧
      s.nsOverlap (nsOf p 0) = false ∧
      (u16 p 0 = nsid ∨ u16 p 0 = 0xFFFF ∧ lowestWhere (fun i => i != 0 && !Map.has s.nvme.spaces i) 1025 = some nsid) ∧
      nsid ≠ 0xFFFF ∧
      s.space nsid = none ∧
      s.nvme.spaces.length < 1024) ∧
    (∃ (s : State) (f : Nat) (p : Bytes) (n : Namespace),
      s.performable f 0x0611 = true ∧
      (s.fn f).mb.payload = p ∧
      s.space (u16 p 0) = some n ∧
      f % 4 = 0 ∧
      n.ctrls = [] ∧
      n.encrypt = false) ∧
    (∃ (s : State) (f : Nat) (p : Bytes) (n : Namespace) (x : Ctrl),
      s.performable f 0x0612 = true ∧
      (s.fn f).mb.payload = p ∧
      s.space (u16 p 0) = some n ∧
      s.theCtrl (u16 p 2) = some x ∧
      f % 4 = 0) ∧
    (∃ (s : State) (f c q : Nat) (p : Bytes) (sp : Spoke),
      s.performable f 0x0620 = true ∧
      (s.fn f).mb.payload = p ∧
      s.spoke (u16 p 0) = some sp ∧
      u16 p 4 ≠ 0 ∧
      u16 p 4 ≤ 4095 ∧
      u16 p 6 ≠ 0 ∧
      u16 p 6 ≤ 4095 ∧
      u64 p 8 % 4096 = 0 ∧
      u64 p 16 % 4096 = 0 ∧
      sp.base = false ∧
      sp.fn % 4 = 2 ∧
      f % 4 = 0 ∧
      s.nvme.ctrls.all (fun x => x.2.spoke != some (u16 p 0)) = true ∧
      s.host.queues.foldl (fun a x => a + b2n (x.2.spoke == u16 p 0)) 0 + 2 ≤ sp.queueQuota ∧
      lowestWhere (fun c => decide (2 ≤ c) && !Map.has s.nvme.ctrls c) 256 = some c ∧
      s.freePair = some q) ∧
    (∃ (s : State) (f : Nat) (p : Bytes) (x : Ctrl),
      s.performable f 0x0621 = true ∧
      (s.fn f).mb.payload = p ∧
      s.ctrl (u16 p 0) = some x ∧
      x.spoke.isSome = true ∧
      f % 4 = 0) ∧
    (∃ (s : State) (f : Nat) (p : Bytes) (n : Namespace) (d o e : NsSide) (b : Backing),
      s.performable f 0x0630 = true ∧
      (s.fn f).mb.payload = p ∧
      s.space (u16 p 0) = some n ∧
      u8 p 2 ≤ 1 ∧
      n.side (u8 p 2 == 1) = some d ∧
      n.side (!(u8 p 2 == 1)) = some o ∧
      n.b = some e ∧
      u8 p 4 = 0xFF ∧
      u64 p 8 = 0 ∧
      Map.get s.nvme.backings d.backing = some b ∧
      b.lbaf = n.lbaf ∧
      (n.range d).2 ≤ b.nsze ∧
      s.heldNew 4 = false ∧
      f % 4 = 0 ∧
      d.failed = true ∧
      o.failed = false ∧
      n.resync = none) :=
  ⟨⟨posted (up) 0 0x0601 ([1, 0, 5, 0, 0, 0, 0, 0, 0, 0, 0, 0, 4, 0, 64, 0] ++ zeros 304), 0, 0, [1, 0, 5, 0, 0, 0, 0, 0, 0, 0, 0, 0, 4, 0, 64, 0] ++ zeros 304, by decide +kernel⟩,
   ⟨posted (up) 0 0x0601 ([1, 0, 5, 0, 0, 0, 0, 0, 0, 0, 0, 0, 4, 0, 64, 0] ++ zeros 304), 0, .timeout, [1, 0, 5, 0, 0, 0, 0, 0, 0, 0, 0, 0, 4, 0, 64, 0] ++ zeros 304, by decide +kernel⟩,
   ⟨posted ({ stoUp 0 (sqe 6 0 []) with nvme.spaces := [] }) 0 0x0602 ([0, 0, 0, 0]), 0, [0, 0, 0, 0], by decide +kernel⟩,
   ⟨posted ({ stoUp 0 (sqe 6 0 []) with nvme.spaces := [] }) 0 0x0610 ([0xFF, 0xFF, 0, 0, 0, 0, 0, 0, 100, 0, 0, 0, 0, 0, 0, 0] ++ zeros 32), 0, 1, [0xFF, 0xFF, 0, 0, 0, 0, 0, 0, 100, 0, 0, 0, 0, 0, 0, 0] ++ zeros 32, by decide +kernel⟩,
   ⟨posted ({ stoUp 0 (sqe 6 0 []) with nvme.spaces := [(1, { nsp none with ctrls := [] })] }) 0 0x0611 ([1, 0, 0, 0]), 0, [1, 0, 0, 0], { nsp none with ctrls := [] }, by decide +kernel⟩,
   ⟨posted (stoUp 0 (sqe 6 0 [])) 0 0x0612 ([1, 0, 1, 0, 0, 0, 0, 0]), 0, [1, 0, 1, 0, 0, 0, 0, 0], nsp none, { fn := 6 }, by decide +kernel⟩,
   ⟨posted ({ up with host.spokes := [(6, { fn := 2, pasid := 1 })] }) 0 0x0620 ([6, 0, 0, 0, 15, 0, 15, 0] ++ zeros 16), 0, 2, 0, [6, 0, 0, 0, 15, 0, 15, 0] ++ zeros 16, { fn := 2, pasid := 1 }, by decide +kernel⟩,
   ⟨posted ({ up with nvme.ctrls := [(4, { fn := 2, spoke := some 6 })] }) 0 0x0621 ([4, 0, 0, 0]), 0, [4, 0, 0, 0], { fn := 2, spoke := some 6 }, by decide +kernel⟩,
   ⟨posted ({ stoUp 0 (sqe 6 0 []) with nvme.backings := [(0, back none), (1, back none)], nvme.spaces := [(1, nsp (some { backing := 1, start := 0, failed := true, bits := [3] }))] }) 0 0x0630 ([1, 0, 1, 0, 255] ++ zeros 11), 0, [1, 0, 1, 0, 255] ++ zeros 11, nsp (some { backing := 1, start := 0, failed := true, bits := [3] }), { backing := 1, start := 0, failed := true, bits := [3] }, { backing := 0, start := 0 }, { backing := 1, start := 0, failed := true, bits := [3] }, back none, by decide +kernel⟩⟩

theorem witness_CheckpointSessionsCaptureDrainAndRestore :
    (∃ (s u : State) (f i : Nat) (p : Bytes) (r : AccRes) (shards : List Shard) (table : HostAns) (slots : List HostAns),
      s.performable f 0x0701 = true ∧
      (s.fn f).mb.payload = p ∧
      s.openBad p = false ∧
      s.spokeRead (u16 p 0) (u64 p 24) (64 * u16 p 2) table = (u, r) ∧
      r.status = .success ∧
      r.poisoned = false ∧
      r.medium = false ∧
      (List.range (u16 p 2)).map (shardEntry r.data) = shards.map some ∧
      s.keyCheck (u32 p 64) [6] (u16 p 0) = .success ∧
      s.mayNameSpoke f (u16 p 0) = true ∧
      (shards.all (fun x => !x.device) = true ∨ ((s.spoke (u16 p 0)).any fun sp => sp.base && sp.fn % 4 == 0) = true) ∧
      (List.range 8).all (fun m => !bit (u16 p (48 + 2 * m)) 15) = true ∧
      s.ckp.sessions.all (fun x => x.2.nsid != u32 p 4) = true ∧
      s.ckp.sessions.length < 64 ∧
      s.ckp.sessions.foldl (fun a x => a + x.2.quota) 0 + u8 p 40 * 2 ^ 30 ≤ s.pannierBytes ∧
      64 * pagesOf shards ≤ u8 p 40 * 2 ^ 30 ∧
      (List.range 64).all (fun i => match slots.getD i (.fail .mediumError) with
      | .ok _ false => true
      | _ => false) = true ∧
      Map.lowestFree s.ckp.sessions 64 = some i) ∧
    (∃ (s : State) (f : Nat) (p : Bytes) (x : Session),
      s.performable f 0x0702 = true ∧
      (s.fn f).mb.payload = p ∧
      s.session (u8 p 0) = some x ∧
      s.mayNameSpoke f x.spoke = true ∧
      x.ckpts = [] ∧
      x.restore = none) ∧
    (∃ (s : State) (f : Nat) (p : Bytes) (x : Session),
      s.performable f 0x0703 = true ∧
      (s.fn f).mb.payload = p ∧
      s.session (u8 p 0) = some x ∧
      u16 p 2 ≠ 0 ∧
      u16 p 4 ≠ 0 ∧
      u16 p 4 ≤ 400 ∧
      s.mayNameSpoke f x.spoke = true) ∧
    (∃ (s : State) (f : Nat) (p : Bytes) (x : Session),
      s.performable f 0x0704 = true ∧
      (s.fn f).mb.payload = p ∧
      s.session (u8 p 0) = some x ∧
      s.mayNameSpoke f x.spoke = true) ∧
    (∃ (s : State) (o : Nat) (op : Op) (q : Queue) (x : Session),
      s.running o .checkpoint = some (op, q) ∧
      dOpcode op.desc = 1 ∧
      op.posted = false ∧
      s.heldNew 5 = false ∧
      s.session (bits (u8 op.desc 16) 5 0) = some x ∧
      1 ≤ u32 op.desc 20 ∧
      u32 op.desc 20 ≤ 600000 ∧
      bit (u8 op.desc 17) 2 = false ∧
      x.spoke = q.spoke ∧
      (x.step = none ∨ x.step.getD 0 < u64 op.desc 24) ∧
      x.ckpts = [] ∧
      x.restore = none ∧
      x.shards.all (fun h => !h.overlap) = true) ∧
    (∃ (s : State) (k lane pg i : Nat) (x : Session) (c : Ckpt) (h : Shard) (ans : HostAns),
      s.session k = some x ∧
      x.inCapture = some c ∧
      c.op = none ∧
      c.full = true ∧
      lane < 8 ∧
      nextPage x.shards c.seen c.skip lane = some pg ∧
      shardOf x.shards pg = some (h, i) ∧
      h.cls = 0 ∧
      s.frozenFn (s.spokeFn x.spoke) = false ∧
      (s.pageRead x.spoke k h pg i ans).2.status = .success ∧
      (s.pageRead x.spoke k h pg i ans).2.poisoned = false ∧
      (s.pageRead x.spoke k h pg i ans).2.medium = false ∧
      (s.pageRead x.spoke k h pg i ans).2.noAccess = false ∧
      x.pannier + 65536 ≤ x.quota) ∧
    (∃ (s : State) (k pg : Nat) (x : Session) (c : Ckpt),
      s.session k = some x ∧
      x.inCapture = some c ∧
      (s.mem.prot.any fun p => p.session == k && p.page == pg && p.hit) = true ∧
      pg ∉ c.seen ∧
      pg ∉ c.skip) ∧
    (∃ (s : State) (k o : Nat) (x : Session) (c : Ckpt) (z : Op),
      s.session k = some x ∧
      x.inCapture = some c ∧
      c.op = some o ∧
      s.op o = some z ∧
      z.phase ≠ .done) ∧
    (∃ (s : State) (k a : Nat) (x : Session) (c : Ckpt) (l : List Ckpt) (kp : KeptPage),
      s.session k = some x ∧
      x.ckpts = c :: l ∧
      x.nextObj c = .page kp ∧
      x.place (ceilDiv kp.data.length 4096) = some a ∧
      c.maps.length < x.shards.length) ∧
    (∃ (s : State) (k o : Nat) (x : Session) (c : Ckpt) (l : List Ckpt) (m : Bytes) (z : Op),
      s.session k = some x ∧
      x.ckpts = c :: l ∧
      c.manifest = some m ∧
      c.op = some o ∧
      s.op o = some z ∧
      z.phase ≠ .done) ∧
    (∃ (s : State) (o : Nat) (op : Op) (q : Queue) (x : Session),
      s.running o .checkpoint = some (op, q) ∧
      dOpcode op.desc = 2 ∧
      op.posted = false ∧
      s.heldNew 5 = false ∧
      s.session (bits (u8 op.desc 16) 5 0) = some x ∧
      x.spoke = q.spoke ∧
      x.ckpts = [] ∧
      x.restore = none ∧
      bit (u8 op.desc 17) 0 = false) ∧
    (∃ (s : State) (k pg a n i : Nat) (hash : Bytes) (x : Session) (r : Restore) (z : Op) (l : List (Nat × Nat × Nat × Bytes)) (h : Shard),
      s.session k = some x ∧
      x.restore = some r ∧
      s.op r.op = some z ∧
      z.phase ≠ .parked ∧
      r.plan = (pg, a, n, hash) :: l ∧
      shardOf x.shards pg = some (h, i)) :=
  ⟨⟨posted ({ ckpUp [] with ckp.sessions := [] }) 0 0x0701 (ckpPay), posted { ckpUp [] with ckp.sessions := [] } 0 0x0701 ckpPay, 0, 0, ckpPay, { done := 64, data := [1, 0, 0, 0, 0, 0, 0, 0] ++ zeros 10 ++ [1] ++ zeros 45 }, [ckpShard], .ok ([1, 0, 0, 0, 0, 0, 0, 0] ++ zeros 10 ++ [1]) false, List.replicate 64 (.ok [] false), by decide +kernel⟩,
   ⟨posted (ckpUp []) 0 0x0702 ([2, 0, 0, 0]), 0, [2, 0, 0, 0], ckpSess [], by decide +kernel⟩,
   ⟨posted (ckpUp []) 0 0x0703 ([2, 0, 5, 0, 9, 0, 0, 0]), 0, [2, 0, 5, 0, 9, 0, 0, 0], ckpSess [], by decide +kernel⟩,
   ⟨posted (ckpUp []) 0 0x0704 ([2, 0, 0, 0]), 0, [2, 0, 0, 0], ckpSess [], by decide +kernel⟩,
   ⟨ckpUp [], 4, ckpOp 1, { kind := .checkpoint, spoke := 5, state := .active }, ckpSess [], by decide +kernel⟩,
   ⟨ckpUp [{ op := none, ckpt := 1, step := 1, full := true, base := 0, depth := 0, cutAt := 0, limitMs := 5, noStall := false }], 2, 0, 0, 0, ckpSess [{ op := none, ckpt := 1, step := 1, full := true, base := 0, depth := 0, cutAt := 0, limitMs := 5, noStall := false }], { op := none, ckpt := 1, step := 1, full := true, base := 0, depth := 0, cutAt := 0, limitMs := 5, noStall := false }, ckpShard, .ok [] false, by decide +kernel⟩,
   ⟨{ ckpUp [{ op := none, ckpt := 1, step := 1, full := true, base := 0, depth := 0, cutAt := 0, limitMs := 5, noStall := false }] with mem.prot := [{ session := 2, page := 0, part := 0, host := none, addr := 0, hit := true }] }, 2, 0, ckpSess [{ op := none, ckpt := 1, step := 1, full := true, base := 0, depth := 0, cutAt := 0, limitMs := 5, noStall := false }], { op := none, ckpt := 1, step := 1, full := true, base := 0, depth := 0, cutAt := 0, limitMs := 5, noStall := false }, by decide +kernel⟩,
   ⟨ckpUp [{ op := some 4, ckpt := 1, step := 1, full := true, base := 0, depth := 0, cutAt := 0, limitMs := 5, noStall := false }], 2, 4, ckpSess [{ op := some 4, ckpt := 1, step := 1, full := true, base := 0, depth := 0, cutAt := 0, limitMs := 5, noStall := false }], { op := some 4, ckpt := 1, step := 1, full := true, base := 0, depth := 0, cutAt := 0, limitMs := 5, noStall := false }, ckpOp 1, by decide +kernel⟩,
   ⟨ckpUp [{ op := some 4, ckpt := 1, step := 1, full := true, base := 0, depth := 0, cutAt := 0, limitMs := 5, noStall := false, seen := [0], kept := [{ page := 0, data := zeros 100 }] }], 2, 0, ckpSess [{ op := some 4, ckpt := 1, step := 1, full := true, base := 0, depth := 0, cutAt := 0, limitMs := 5, noStall := false, seen := [0], kept := [{ page := 0, data := zeros 100 }] }], { op := some 4, ckpt := 1, step := 1, full := true, base := 0, depth := 0, cutAt := 0, limitMs := 5, noStall := false, seen := [0], kept := [{ page := 0, data := zeros 100 }] }, [], { page := 0, data := zeros 100 }, by decide +kernel⟩,
   ⟨ckpUp [{ op := some 4, ckpt := 1, step := 1, full := true, base := 0, depth := 0, cutAt := 0, limitMs := 5, noStall := false, capturing := false, manifest := some [] }], 2, 4, ckpSess [{ op := some 4, ckpt := 1, step := 1, full := true, base := 0, depth := 0, cutAt := 0, limitMs := 5, noStall := false, capturing := false, manifest := some [] }], { op := some 4, ckpt := 1, step := 1, full := true, base := 0, depth := 0, cutAt := 0, limitMs := 5, noStall := false, capturing := false, manifest := some [] }, [], [], ckpOp 1, by decide +kernel⟩,
   ⟨{ ckpUp [] with host.ops := [(4, ckpOp 2)] }, 4, ckpOp 2, { kind := .checkpoint, spoke := 5, state := .active }, ckpSess [], by decide +kernel⟩,
   ⟨{ ckpUp [] with ckp.sessions := [(2, { ckpSess [] with restore := some { op := 4, slots := [], maps := [], cands := [], cur := 1, plan := [(0, 0, 65536, [])] } })] }, 2, 0, 0, 65536, 0, [], { ckpSess [] with restore := some { op := 4, slots := [], maps := [], cands := [], cur := 1, plan := [(0, 0, 65536, [])] } }, { op := 4, slots := [], maps := [], cands := [], cur := 1, plan := [(0, 0, 65536, [])] }, ckpOp 1, [], ckpShard, by decide +kernel⟩⟩

theorem witness_KeysFusesAndContextsFollowTheirCommands :
    (∃ (s : State) (f i : Nat) (p : Bytes),
      s.performable f 0x0801 = true ∧
      (s.fn f).mb.payload = p ∧
      s.keyFields f p = .success ∧
      u8 p 0 ≠ 6 ∧
      u8 p 0 ≠ 2 ∧
      bit (u8 p 2) 0 = false ∧
      s.freeKey (u8 p 0) = some i) ∧
    (∃ (s : State) (f i : Nat) (p : Bytes),
      s.performable f 0x0801 = true ∧
      (s.fn f).mb.payload = p ∧
      s.keyFields f p = .success ∧
      u8 p 0 ≠ 6 ∧
      bit (u8 p 2) 0 = true ∧
      s.freeKey (u8 p 0) = some i) ∧
    (∃ (s : State) (f i : Nat) (p kek : Bytes),
      s.performable f 0x0802 = true ∧
      (s.fn f).mb.payload = p ∧
      s.keyFields f p = .success ∧
      u8 p 0 ≠ 6 ∧
      u8 p 0 ≠ 5 ∧
      u8 p 0 ≠ 2 ∧
      bit (u8 p 2) 0 = false ∧
      s.keyCheck (u32 p 8) [5] ((s.pf0Base (f / 4)).getD 4096) = .success ∧
      s.keyBytes (u32 p 8) = some kek ∧
      (p.drop (16 + (algBytes (u8 p 1) + 8))).all (· == 0) = true ∧
      s.freeKey (u8 p 0) = some i) ∧
    (∃ (s : State) (f : Nat) (p : Bytes) (k : KeySlot),
      s.performable f 0x0803 = true ∧
      (s.fn f).mb.payload = p ∧
      s.keyAny f (u32 p 0) [1, 2, 3, 4, 5, 6] = .success ∧
      s.keyUsed (u32 p 0) = false ∧
      s.keyOf (u32 p 0) = some k ∧
      k.persist = false) ∧
    (∃ (s : State) (f : Nat) (p : Bytes) (k : KeySlot),
      s.performable f 0x0804 = true ∧
      (s.fn f).mb.payload = p ∧
      s.keyOf (u32 p 0) = some k ∧
      (s.keyAny f (u32 p 0) [1, 2, 3, 4, 5, 6] = .success ∨ s.keyAny f (u32 p 0) [1, 2, 3, 4, 5, 6] = .keyFailed)) ∧
    (∃ (s : State) (f : Nat) (p k kek : Bytes),
      s.performable f 0x0805 = true ∧
      (s.fn f).mb.payload = p ∧
      s.keyAny f (u32 p 0) [1, 2, 3, 4, 5] = .success ∧
      s.keyCheck (u32 p 4) [5] ((s.pf0Base (f / 4)).getD 4096) = .success ∧
      s.keyBytes (u32 p 0) = some k ∧
      s.keyBytes (u32 p 4) = some kek) ∧
    (∃ (s : State) (f g : Nat) (p : Bytes),
      s.performable f 0x0810 = true ∧
      (s.fn f).mb.payload = p ∧
      g = f / 4 * 4 + u8 p 0 ∧
      u8 p 0 ≤ 3 ∧
      f % 4 = 0 ∧
      bit (u8 p 1) 0 = false ∧
      slice p 4 48 ∉ s.enrolled g ∧
      (s.enrolled g).length < 16) ∧
    (∃ (s : State) (f v : Nat) (p : Bytes),
      s.performable f 0x0850 = true ∧
      (s.fn f).mb.payload = p ∧
      1 ≤ u8 p 0 ∧
      u8 p 0 ≤ 3 ∧
      f % 4 = 0 ∧
      s.svnFloor (u8 p 0) < 64 ∧
      s.runningSvn (u8 p 0) = some v) ∧
    (∃ (s : State) (f : Nat) (p : Bytes),
      s.performable f 0x0851 = true ∧
      (s.fn f).mb.payload = p ∧
      f % 4 = 0 ∧
      s.debugLevel = 0) ∧
    (∃ (s : State) (f c : Nat) (p : Bytes) (k : KeySlot),
      s.performable f 0x0820 = true ∧
      (s.fn f).mb.payload = p ∧
      s.keyOf (u32 p 0) = some k ∧
      s.keyCheck (u32 p 0) [1] (s.cipherOwner f) = .success ∧
      f % 4 = 0 ∧
      1 ≤ u8 p 4 ∧
      u8 p 4 ≤ 6 ∧
      (if u8 p 4 ≤ 4 then decide (k.alg ≤ 1) else k.alg == 2) = true ∧
      k.busy = false ∧
      Map.lowestFree s.sec.ctxs 1024 = some c) ∧
    (∃ (s u : State) (f : Nat) (p c key : Bytes) (r : AccRes) (rd : HostAns),
      s.performable f 0x0821 = true ∧
      (s.fn f).mb.payload = p ∧
      Map.get s.sec.ctxs (u16 p 0) = some c ∧
      bit (u8 p 2) 0 = false ∧
      ctxPhase c = 0 ∧
      u32 p 24 ≠ 0 ∧
      u32 p 24 ≤ 2 ^ 24 ∧
      ctxTooLong c false (u32 p 24) = false ∧
      f % 4 = 0 ∧
      s.keyBusy (ctxHandle c) = false ∧
      s.keyBytes (ctxHandle c) = some key ∧
      s.busRead f (u64 p 8) (u32 p 24) rd = (u, r) ∧
      r.status = .success ∧
      r.poisoned = false ∧
      r.medium = false) ∧
    (∃ (s u : State) (f : Nat) (p c key : Bytes) (r : AccRes) (rd wr : HostAns),
      s.performable f 0x0821 = true ∧
      (s.fn f).mb.payload = p ∧
      Map.get s.sec.ctxs (u16 p 0) = some c ∧
      bit (u8 p 2) 0 = true ∧
      ctxMode c ≠ 3 ∧
      ctxMode c ≠ 4 ∧
      u32 p 24 ≠ 0 ∧
      u32 p 24 ≤ 2 ^ 24 ∧
      ctxTooLong c true (u32 p 24) = false ∧
      f % 4 = 0 ∧
      s.keyBusy (ctxHandle c) = false ∧
      s.keyBytes (ctxHandle c) = some key ∧
      s.busRead f (u64 p 8) (u32 p 24) rd = (u, r) ∧
      r.status = .success ∧
      r.poisoned = false ∧
      r.medium = false ∧
      (u.busWrite f (u64 p 16) (ctxRun key c true r.data).2 wr).2.status = .success) ∧
    (∃ (s : State) (f : Nat) (p c key : Bytes),
      s.performable f 0x0822 = true ∧
      (s.fn f).mb.payload = p ∧
      Map.get s.sec.ctxs (u16 p 0) = some c ∧
      f % 4 = 0 ∧
      s.keyBusy (ctxHandle c) = false ∧
      s.keyBytes (ctxHandle c) = some key) ∧
    (∃ (s : State) (f : Nat) (p c : Bytes) (wr : HostAns),
      s.performable f 0x0823 = true ∧
      (s.fn f).mb.payload = p ∧
      Map.get s.sec.ctxs (u16 p 0) = some c ∧
      u32 p 4 = 0 ∧
      f % 4 = 0 ∧
      (modeOut (ctxMode c) = false ∨ s.sec.serials.length < 4096) ∧
      (s.busWrite f (u64 p 8) (toLe 4 0x58544344 ++ toLe 4 s.ctxEpoch ++ toLe 8 s.sec.serial ++ padTo 104 (Config.aesKwWrap s.ctxKek (c.take 80 ++ toLe 8 s.sec.serial ++ toLe 4 s.ctxEpoch ++ zeros 4))) wr).2.status = .success) ∧
    (∃ (s u : State) (f i : Nat) (p : Bytes) (r : AccRes) (rd : HostAns),
      s.performable f 0x0824 = true ∧
      (s.fn f).mb.payload = p ∧
      u32 p 0 = 0 ∧
      f % 4 = 0 ∧
      s.busRead f (u64 p 8) 120 rd = (u, r) ∧
      r.status = .success ∧
      r.poisoned = false ∧
      r.medium = false ∧
      Map.lowestFree u.sec.ctxs 1024 = some i) ∧
    (∃ (s : State) (engine h : Nat) (k : KeySlot),
      s.keyOf h = some k ∧
      engine ≤ 31 ∧
      s.sec.faults = [] ∧
      s.sec.quarantined.length < 256 ∧
      k.failed = false) ∧
    (∃ (s : State) (h : Nat) (k : KeySlot),
      s.keyOf h = some k ∧
      s.sec.quarantined.length < 256) :=
  ⟨⟨posted (keyUp) 0 0x0801 ([1, 0, 0, 0, 5, 0, 0, 0]), 0, 0, [1, 0, 0, 0, 5, 0, 0, 0], by decide +kernel⟩,
   ⟨posted (keyUp) 0 0x0801 ([1, 0, 1, 0, 5, 0, 0, 0]), 0, 0, [1, 0, 1, 0, 5, 0, 0, 0], by decide +kernel⟩,
   ⟨posted (wrapUp) 0 0x0802 ([1, 0, 0, 0, 5, 0, 0, 0, 5, 0, 5, 0, 0, 0, 0, 0] ++ zeros 40), 0, 0, [1, 0, 0, 0, 5, 0, 0, 0, 5, 0, 5, 0, 0, 0, 0, 0] ++ zeros 40, zeros 32, by decide +kernel⟩,
   ⟨posted (keyUp) 0 0x0803 ([2, 0, 2, 0]), 0, [2, 0, 2, 0], { cls := 2, gen := 0, alg := 0, owner := 5, value := zeros 32 }, by decide +kernel⟩,
   ⟨posted (keyUp) 0 0x0804 ([2, 0, 2, 0]), 0, [2, 0, 2, 0], { cls := 2, gen := 0, alg := 0, owner := 5, value := zeros 32 }, by decide +kernel⟩,
   ⟨posted (wrapUp) 0 0x0805 ([2, 0, 2, 0, 5, 0, 5, 0]), 0, [2, 0, 2, 0, 5, 0, 5, 0], zeros 32, zeros 32, by decide +kernel⟩,
   ⟨posted (up) 0 0x0810 (zeros 52), 0, 0, zeros 52, by decide +kernel⟩,
   ⟨posted ({ up with fwm.services := [(0, { state := .running, image := some { version := 1, svn := 4, digest := [] } })], brd.standbyImage := true }) 0 0x0850 ([3, 0, 0, 0]), 0, 4, [3, 0, 0, 0], by decide +kernel⟩,
   ⟨posted (up) 0 0x0851 ([0, 0, 0, 0] ++ List.replicate 48 7), 0, [0, 0, 0, 0] ++ List.replicate 48 7, by decide +kernel⟩,
   ⟨posted (keyUp) 0 0x0820 ([1, 0, 1, 0, 1] ++ zeros 15), 0, 0, [1, 0, 1, 0, 1] ++ zeros 15, { cls := 1, gen := 0, alg := 0, owner := 5, value := zeros 32 }, by decide +kernel⟩,
   ⟨posted (ctxUp 1) 0 0x0821 (zeros 24 ++ [3, 0, 0, 0] ++ zeros 4), posted (ctxUp 1) 0 0x0821 (zeros 24 ++ [3, 0, 0, 0] ++ zeros 4), 0, zeros 24 ++ [3, 0, 0, 0] ++ zeros 4, [1, 0, 1, 0, 1] ++ zeros 91, zeros 32, { done := 3, data := [7, 8, 9] }, .ok [7, 8, 9] false, by decide +kernel⟩,
   ⟨posted (ctxUp 1) 0 0x0821 ([0, 0, 1] ++ zeros 21 ++ [3, 0, 0, 0] ++ zeros 4), posted (ctxUp 1) 0 0x0821 ([0, 0, 1] ++ zeros 21 ++ [3, 0, 0, 0] ++ zeros 4), 0, [0, 0, 1] ++ zeros 21 ++ [3, 0, 0, 0] ++ zeros 4, [1, 0, 1, 0, 1] ++ zeros 91, zeros 32, { done := 3, data := [7, 8, 9] }, .ok [7, 8, 9] false, .ok [] false, by decide +kernel⟩,
   ⟨posted (ctxUp 1) 0 0x0822 (zeros 20), 0, zeros 20, [1, 0, 1, 0, 1] ++ zeros 91, zeros 32, by decide +kernel⟩,
   ⟨posted (ctxUp 1) 0 0x0823 (zeros 16), 0, zeros 16, [1, 0, 1, 0, 1] ++ zeros 91, .ok [] false, by decide +kernel⟩,
   ⟨posted (keyUp) 0 0x0824 (zeros 16), posted keyUp 0 0x0824 (zeros 16), 0, 0, zeros 16, { done := 120, data := zeros 120 }, .ok [] false, by decide +kernel⟩,
   ⟨keyUp, 3, 131074, { cls := 2, gen := 0, alg := 0, owner := 5, value := zeros 32 }, by decide +kernel⟩,
   ⟨keyUp, 131074, { cls := 2, gen := 0, alg := 0, owner := 5, value := zeros 32 }, by decide +kernel⟩⟩

theorem witness_DebugLockAndAttestationAnswer :
    (∃ (s : State) (f : Nat) (p : Bytes),
      s.performable f 0x0830 = true ∧
      (s.fn f).mb.payload = p ∧
      f % 4 = 0) ∧
    (∃ (s : State),
      s.scRuns = true) ∧
    (∃ (s : State) (f : Nat) (p : Bytes),
      s.performable f 0x0831 = true ∧
      (s.fn f).mb.payload = p ∧
      f % 4 = 0 ∧
      p.length = 36 ∧
      (slice p 1 3).all (· == 0) = true ∧
      s.lockedOut = false) ∧
    (∃ (s : State) (f : Nat) (p b : Bytes),
      s.performable f 0x0831 = true ∧
      (s.fn f).mb.payload = p ∧
      f % 4 = 0 ∧
      p.length = 16 ∧
      (slice p 1 7).all (· == 0) = true ∧
      s.lockedOut = false ∧
      s.canMaster f = true ∧
      s.rimDown = false ∧
      u8 (padTo 5364 b) 0 = u8 p 0 ∧
      u8 p 0 < 3) ∧
    (∃ (s : State) (f : Nat) (p : Bytes),
      s.performable f 0x0832 = true ∧
      (s.fn f).mb.payload = p ∧
      f % 4 = 0 ∧
      u8 p 0 ≤ s.debugLevel) ∧
    (∃ (s : State) (b : Bytes),
      s.scRuns = true ∧
      b.length = 36 ∧
      s.lockedOut = false) ∧
    (∃ (s : State) (tr : Nat),
      s.spdmUp tr = true ∧
      2 ≤ s.boot) ∧
    (∃ (s : State) (tr slot : Nat),
      s.spdmUp tr = true ∧
      2 ≤ s.boot ∧
      3 ≤ s.sec.spdmState ∧
      slot ≤ 1) ∧
    (∃ (s : State) (tr : Nat),
      s.spdmUp tr = true ∧
      2 ≤ s.boot ∧
      3 ≤ s.sec.spdmState) ∧
    (∃ (s : State) (tr sid : Nat) (x : SpdmSession),
      s.spdmUp tr = true ∧
      2 ≤ s.boot ∧
      3 ≤ s.sec.spdmState ∧
      (s.sec.sessions.find? fun x => x.id == sid) = some x) ∧
    (∃ (s : State) (tr sid i k : Nat) (key : Bytes) (x : SpdmSession),
      s.spdmUp tr = true ∧
      2 ≤ s.boot ∧
      3 ≤ s.sec.spdmState ∧
      (s.sec.sessions.find? fun x => x.id == sid) = some x ∧
      x.finished = true ∧
      s.pf0Base (if tr = 1 then 1 else 0) = some k ∧
      k < 65536 ∧
      key.length = 32 ∧
      s.freeKey 5 = some i) :=
  ⟨⟨posted (up) 0 0x0830 ([]), 0, [], by decide +kernel⟩,
   ⟨up, by decide +kernel⟩,
   ⟨posted (up) 0 0x0831 (zeros 36), 0, zeros 36, by decide +kernel⟩,
   ⟨posted (up) 0 0x0831 ([1] ++ zeros 15), 0, [1] ++ zeros 15, [1], by decide +kernel⟩,
   ⟨posted ({ up with regs := Map.put up.regs 0x900000 0x1B }) 0 0x0832 ([1]), 0, [1], by decide +kernel⟩,
   ⟨up, zeros 36, by decide +kernel⟩,
   ⟨winUp, 0, by decide +kernel⟩,
   ⟨spdmLive [], 0, 0, by decide +kernel⟩,
   ⟨spdmLive [], 0, by decide +kernel⟩,
   ⟨spdmLive [{ id := 2 }], 0, 2, { id := 2 }, by decide +kernel⟩,
   ⟨spdmLive [{ id := 2, finished := true }], 0, 2, 0, 5, zeros 32, { id := 2, finished := true }, by decide +kernel⟩⟩

theorem witness_ServicesStartUpdateAndRestart :
    (∃ (s : State) (f : Nat) (p h b : Bytes) (heads : List Bytes) (e0 : Nat × Nat) (rest : List (Nat × Nat)) (hdr a0 : HostAns) (fields more : List HostAns),
      s.performable f 0x0901 = true ∧
      (s.fn f).mb.payload = p ∧
      s.fwm.bundleTaken = false ∧
      s.fnRead f (min (u32 p 8) 208) hdr = .ok h ∧
      bundleEntries h = e0 :: rest ∧
      s.fnReads f ((((bundleEntries h).zip fields).filter fun e => decide (16 ≤ e.1.2)).map fun e => (16, e.2)) = .ok heads ∧
      heads.length = (bundleEntries h).length ∧
      more.length = rest.length ∧
      bundleBad (u32 p 8) h heads = false ∧
      s.fnRead f e0.2 a0 = .ok b) ∧
    (∃ (s : State) (f : Nat) (p : Bytes),
      s.performable f 0x0902 = true ∧
      (s.fn f).mb.payload = p) ∧
    (∃ (s : State) (f : Nat) (p : Bytes) (i : Image),
      s.performable f 0x0903 = true ∧
      (s.fn f).mb.payload = p ∧
      u32 p 0 ∈ coreServices ∧
      1 ≤ u32 p 20 ∧
      u32 p 20 ≤ 600000 ∧
      bit (u8 p 4) 1 = true ∧
      u64 p 8 = 0 ∧
      u32 p 16 = 0 ∧
      (s.service (u32 p 0)).staged = none ∧
      (s.service (u32 p 0)).prev = some i ∧
      s.svnFloor 3 ≤ i.svn) ∧
    (∃ (s : State) (f : Nat) (p b : Bytes) (ans : HostAns),
      s.performable f 0x0903 = true ∧
      (s.fn f).mb.payload = p ∧
      u32 p 0 ∈ coreServices ∧
      1 ≤ u32 p 20 ∧
      u32 p 20 ≤ 600000 ∧
      bit (u8 p 4) 1 = false ∧
      (s.service (u32 p 0)).staged = none ∧
      s.fnRead f (u32 p 16) ans = .ok b ∧
      imgService b = u32 p 0) ∧
    (∃ (s : State) (f : Nat) (p : Bytes),
      s.performable f 0x0904 = true ∧
      (s.fn f).mb.payload = p ∧
      (s.service (u32 p 0)).staged.isSome = true) ∧
    (∃ (s : State) (v : Nat) (g : Staged),
      (s.service v).staged = some g) ∧
    (∃ (s : State) (v : Nat) (g : Staged),
      (s.service v).staged = some g ∧
      s.brd.scan = false ∧
      (s.service v).state = .staged) ∧
    (∃ (s : State) (core : Nat),
      core < 16 ∧
      (s.service (svcOfGroup (groupOf core))).state = .running) ∧
    (∃ (s : State) (f : Nat) (p : Bytes),
      s.performable f 0x0905 = true ∧
      (s.fn f).mb.payload = p ∧
      u32 p 0 ∈ coreServices ∧
      f % 4 = 0 ∧
      (s.service (u32 p 0)).state = .running) ∧
    (∃ (s : State) (v : Nat),
      v ∈ coreServices ∧
      (s.service v).state = .restarting ∧
      (s.service v).cause = 3) :=
  ⟨⟨posted (up) 0 0x0901 (zeros 8 ++ toLe 4 8208 ++ zeros 4), 0, zeros 8 ++ toLe 4 8208 ++ zeros 4, bunHdr, zeros 16, [[0, 0, 0, 0, 0, 0, 2] ++ zeros 9, [0, 0, 0, 0, 0, 0, 3] ++ zeros 9], (4096, 16), [(8192, 16)], .ok bunHdr false, .ok [] false, [.ok [0, 0, 0, 0, 0, 0, 2] false, .ok [0, 0, 0, 0, 0, 0, 3] false], [.ok [] false], by decide +kernel⟩,
   ⟨posted (up) 0 0x0902 ([]), 0, [], by decide +kernel⟩,
   ⟨posted (svcUp none (some { svn := 3, version := 1, digest := [] })) 0 0x0903 ([1, 0, 0, 0, 2] ++ zeros 15 ++ [9, 0, 0, 0]), 0, [1, 0, 0, 0, 2] ++ zeros 15 ++ [9, 0, 0, 0], { svn := 3, version := 1, digest := [] }, by decide +kernel⟩,
   ⟨posted (up) 0 0x0903 ([1, 0, 0, 0, 0] ++ zeros 11 ++ [16, 0, 0, 0, 9, 0, 0, 0]), 0, [1, 0, 0, 0, 0] ++ zeros 11 ++ [16, 0, 0, 0, 9, 0, 0, 0], zeros 12 ++ [1, 0, 0, 0], .ok (zeros 12 ++ [1, 0, 0, 0]) false, by decide +kernel⟩,
   ⟨posted (svcUp (some stg) none) 0 0x0904 ([1, 0, 0, 0]), 0, [1, 0, 0, 0], by decide +kernel⟩,
   ⟨svcUp (some stg) none, 1, stg, by decide +kernel⟩,
   ⟨svcUp (some stg) none, 1, stg, by decide +kernel⟩,
   ⟨up, 5, by decide +kernel⟩,
   ⟨posted (up) 0 0x0905 ([1, 0, 0, 0]), 0, [1, 0, 0, 0], by decide +kernel⟩,
   ⟨{ up with fwm.services := [(1, { state := .restarting, cause := 3 })] }, 1, by decide +kernel⟩⟩

theorem witness_ConfigurationLogsAndJournalFollowTheirCommands :
    (∃ (s : State) (f : Nat) (p : Bytes),
      s.performable f 0x0910 = true ∧
      (s.fn f).mb.payload = p ∧
      itemOk (u16 p 0) (u64 p 8) = some true ∧
      u16 p 0 ≠ 0x0500 ∧
      f % 4 = 0 ∧
      s.jRoom 16 = true) ∧
    (∃ (s : State) (f : Nat) (p : Bytes),
      s.performable f 0x0911 = true ∧
      (s.fn f).mb.payload = p ∧
      (itemOk (u16 p 0) 0).isSome = true ∧
      f % 4 = 0) ∧
    (∃ (s : State) (f : Nat) (p q : Bytes) (l : List (Nat × Nat × Bool × Bytes)),
      s.performable f 0x0920 = true ∧
      (s.fn f).mb.payload = p ∧
      s.persist f p = .ok (q, l) ∧
      l ≠ []) ∧
    (∃ (s : State) (f : Nat) (p : Bytes),
      s.performable f 0x0940 = true ∧
      (s.fn f).mb.payload = p ∧
      f % 4 = 0 ∧
      s.cleared (u32 p 0) ≠ [] ∧
      s.jRoom (208 * (s.cleared (u32 p 0)).length) = true) ∧
    (∃ (s : State) (f : Nat) (p : Bytes),
      s.performable f 0x0930 = true ∧
      (s.fn f).mb.payload = p ∧
      f % 4 = 0) ∧
    (∃ (s : State) (f : Nat) (p : Bytes),
      s.performable f 0x0931 = true ∧
      (s.fn f).mb.payload = p ∧
      0 < u16 p 2 ∧
      u16 p 0 + u16 p 2 ≤ 4096 ∧
      f % 4 = 0) ∧
    (∃ (p core : Nat),
      p < 4096 ∧
      core < 16 ∧
      groupOf core = p / 512) ∧
    (∃ (s : State) (w : JWrite) (l : List JWrite),
      s.fwm.jpend = w :: l ∧
      s.brd.aon = true ∧
      s.brd.resetN = true ∧
      s.jUsed < jBankSlots) ∧
    (∃ (s : State) (w : JWrite) (l : List JWrite) (f : Nat) (st : Status) (q : Bytes),
      s.fwm.jpend = w :: l ∧
      s.brd.aon = true ∧
      s.brd.resetN = true ∧
      s.jUsed < jBankSlots ∧
      w.wait = some ⟨f, st, q, none, none⟩ ∧
      f < 8 ∧
      (s.fn f).mb.outstanding = true) ∧
    (∃ (s : State),
      196608 < s.jUsed) ∧
    (∃ (s : State),
      s.jUsed ≤ 196608) :=
  ⟨⟨posted (up) 0 0x0910 ([0x10, 1] ++ zeros 6 ++ [32] ++ zeros 7), 0, [0x10, 1] ++ zeros 6 ++ [32] ++ zeros 7, by decide +kernel⟩,
   ⟨posted (up) 0 0x0911 ([0x10, 1, 0, 0]), 0, [0x10, 1, 0, 0], by decide +kernel⟩,
   ⟨posted (up) 0 0x0920 ([8, 0, 0, 0]), 0, [8, 0, 0, 0], [0, 0, 0, 0], [(0x0392, 0, false, zeros 8)], by decide +kernel⟩,
   ⟨posted ({ up with fwm.slots := [.record 2 0x0110 1 1 0 1 false (zeros 16)] }) 0 0x0940 ([1, 0, 0, 0]), 0, [1, 0, 0, 0], by decide +kernel⟩,
   ⟨posted (up) 0 0x0930 (zeros 8 ++ [6, 1, 7, 0] ++ zeros 12), 0, zeros 8 ++ [6, 1, 7, 0] ++ zeros 12, by decide +kernel⟩,
   ⟨posted (up) 0 0x0931 ([3, 0, 2, 0, 1, 0, 0, 0]), 0, [3, 0, 2, 0, 1, 0, 0, 0], by decide +kernel⟩,
   ⟨2, 0, by decide +kernel⟩,
   ⟨{ up with fwm.jpend := [{ type := 2, key := 1, parts := [[7]] }] }, { type := 2, key := 1, parts := [[7]] }, [], by decide +kernel⟩,
   ⟨posted { up with fwm.jpend := [{ type := 2, key := 1, parts := [[7]], wait := some ⟨0, .success, [], none, none⟩ }] } 0 0x0910 [], { type := 2, key := 1, parts := [[7]], wait := some ⟨0, .success, [], none, none⟩ }, [], 0, .success, [], by decide +kernel⟩,
   ⟨{ up with fwm.slots := List.replicate 200000 .torn }, by (show 196608 < (List.replicate 200000 JSlot.torn).length; rw [List.length_replicate]; decide)⟩,
   ⟨up, by decide +kernel⟩⟩

theorem witness_WheelsFollowTheirRequestsLimiterDroopAndHeat :
    (∃ (d : Nat),
      d < 4) ∧
    (∃ (s : State) (raw tile stor k : Nat),
      980 * (s.capW : Int) < s.predicted raw stor ∧
      leastSkip (s.predicted raw stor) tile (s.kEff 0) s.capW (s.kBudget 0) 57 = some k) ∧
    (∃ (s : State) (raw tile stor : Nat),
      980 * (s.capW : Int) < s.predicted raw stor ∧
      leastSkip (s.predicted raw stor) tile (s.kEff 0) s.capW (s.kBudget 0) 57 = none) ∧
    (∃ (s : State) (raw tile stor : Nat),
      s.predicted raw stor < 950 * (s.capW : Int) ∧
      0 < s.kBudget 1 ∧
      withinCap (s.predicted raw stor) tile (s.kEff 0) (s.kBudget 0) s.capW = true) ∧
    (∃ (s : State) (raw stor : Nat),
      s.predicted raw stor ≤ 980 * (s.capW : Int) ∧
      950 * (s.capW : Int) ≤ s.predicted raw stor) ∧
    (∃ (s : State),
      s.serves 7 = true) ∧
    (∃ (s : State) (m e : Nat) (missing : Bool),
      s.serves 7 = true ∧
      s.rfield aPwrStat 24 24 = 0 ∧
      (missing = true ∨ 15 * (1000 * s.capW) < 100 * ((m - e) + (e - m)))) ∧
    (∃ (s : State) (m e : Nat),
      s.serves 7 = true ∧
      s.rfield aPwrStat 24 24 = 1 ∧
      100 * ((m - e) + (e - m)) ≤ 10 * (1000 * s.capW)) ∧
    (∃ (s : State) (f : Nat) (p : Bytes),
      s.performable f 0x0A01 = true ∧
      (s.fn f).mb.payload = p ∧
      250 ≤ u16 p 0 ∧
      u16 p 0 ≤ 750 ∧
      f % 4 = 0) ∧
    (∃ (s : State),
      s.rfield aPwrStat 26 26 = 1) ∧
    (∃ (c : Nat),
      104 ≤ c) ∧
    (∃ (c : Nat),
      c < 104) :=
  ⟨⟨0, by decide +kernel⟩,
   ⟨up.rput aPwrCap 600, 640000, 400000, 0, 9, by decide +kernel⟩,
   ⟨up.rput aPwrCap 600, 700000, 10000, 0, by decide +kernel⟩,
   ⟨(up.rput aPwrCap 600).setBudget 1 7, 100000, 10000, 0, by decide +kernel⟩,
   ⟨up.rput aPwrCap 600, 580000, 0, by decide +kernel⟩,
   ⟨up, by decide +kernel⟩,
   ⟨{ up with pwr.overRun := 7 }, 500000, 100000, false, by decide +kernel⟩,
   ⟨({ up with pwr.okRun := 99 }).rset aPwrStat 24 24 1, 500000, 500000, by decide +kernel⟩,
   ⟨posted (up) 0 0x0A01 (toLe 2 400 ++ zeros 6), 0, toLe 2 400 ++ zeros 6, by decide +kernel⟩,
   ⟨up.rset aPwrStat 26 26 1, by decide +kernel⟩,
   ⟨104, by decide +kernel⟩,
   ⟨101, by decide +kernel⟩⟩

theorem witness_PelotonMembersShareACadence :
    (∃ (s : State) (f : Nat) (p : Bytes),
      s.performable f 0x0A10 = true ∧
      (s.fn f).mb.payload = p ∧
      s.joinBad f p = false ∧
      f % 4 = 0 ∧
      s.pwr.peloton = none ∧
      s.mayNameSpoke f (u16 p 6) = true) ∧
    (∃ (s : State) (f : Nat) (p : Bytes),
      s.performable f 0x0A11 = true ∧
      (s.fn f).mb.payload = p ∧
      s.pwr.peloton ≠ none ∧
      f % 4 = 0) ∧
    (∃ (s : State) (g : Peloton),
      s.pwr.peloton = some g ∧
      s.serves 7 = true) ∧
    (∃ (s : State) (g : Peloton),
      s.pwr.peloton = some g) ∧
    (∃ (s : State) (i : Nat) (p : YPkt) (g : Peloton) (x : Peer),
      (s.takeY i 0x20).2 = some p ∧
      s.pwr.peloton = some g ∧
      s.serves 7 = true ∧
      (s.takeY i 0x20).1.cadenceOk g p = true ∧
      Map.get g.peers p.conn = some x) ∧
    (∃ (s : State) (i : Nat) (p : YPkt),
      (s.takeY i 0x20).2 = some p) :=
  ⟨⟨posted ((rxUp { opcode := 0x20 }).modFn 0 fun x => { x with baseSpoke := some 5 }) 0 0x0A10 (toLe 4 7 ++ [40, 1] ++ toLe 2 5 ++ toLe 2 64 ++ zeros 6 ++ toLe 4 2), 0, toLe 4 7 ++ [40, 1] ++ toLe 2 5 ++ toLe 2 64 ++ zeros 6 ++ toLe 4 2, by decide +kernel⟩,
   ⟨posted (pelUp { opcode := 0x20 }) 0 0x0A11 ([]), 0, [], by decide +kernel⟩,
   ⟨(pelUp { opcode := 0x20 }).rput aPeloton (2 ^ 8 * 60), { id := 7, kLimit := 40, accelW := 64, spoke := 5, peers := [(2, { lastC := 50 })] }, by decide +kernel⟩,
   ⟨{ up with pwr.peloton := some { id := 7, kLimit := 40, accelW := 64, spoke := 5, peers := [], posted := some 5, pending := true } }, { id := 7, kLimit := 40, accelW := 64, spoke := 5, peers := [], posted := some 5, pending := true }, by decide +kernel⟩,
   ⟨pelUp { opcode := 0x20, conn := 2, epoch := 1, msg := 7, offset := 3, key := 50 }, 0, { opcode := 0x20, conn := 2, epoch := 1, msg := 7, offset := 3, key := 50 }, { id := 7, kLimit := 40, accelW := 64, spoke := 5, peers := [(2, { lastC := 50 })] }, { lastC := 50 }, by decide +kernel⟩,
   ⟨rxUp { opcode := 0x20, conn := 2, epoch := 1, msg := 7, offset := 3, key := 50 }, 0, { opcode := 0x20, conn := 2, epoch := 1, msg := 7, offset := 3, key := 50 }, by decide +kernel⟩⟩

theorem witness_ChainringMembersCountShareAndReport :
    (∃ (s : State) (ttl : Nat) (body : Bytes),
      s.crOpen = true ∧
      body.length ≤ 1024 ∧
      1 < ttl) ∧
    (∃ (s : State) (ttl src seq epoch : Nat) (body : Bytes),
      s.crOpen = true ∧
      body.length ≤ 1024 ∧
      1 < ttl ∧
      s.crOwn crBudget src epoch body = false ∧
      s.crNumbered = true ∧
      epoch = s.crEpoch ∧
      s.crPos ≤ u16 body 0 ∧
      1 ≤ (seq + 65536 - s.rfield aCrStat 47 32) % 65536 ∧
      (seq + 65536 - s.rfield aCrStat 47 32) % 65536 ≤ 32767) ∧
    (∃ (s : State) (ttl src epoch : Nat) (body : Bytes),
      s.crOpen = true ∧
      body.length ≤ 1024 ∧
      1 < ttl ∧
      s.crOwn crBudget src epoch body = false) ∧
    (∃ (s : State) (ttl src epoch : Nat) (body : Bytes),
      s.crOpen = true ∧
      body.length ≤ 1024 ∧
      1 < ttl ∧
      s.crOwn crAck src epoch body = false ∧
      s.crOwn crFaultType src epoch body = false) ∧
    (∃ (s : State) (seq : Nat) (x : CrFault),
      s.pwr.crFaults.find? (fun x => x.seq == seq) = some x ∧
      s.crOpen = true) ∧
    (∃ (s : State),
      s.crNumbered = true ∧
      s.rfield aPwrStat 28 28 = 0) ∧
    (∃ (s : State),
      s.pwr.crPhase = .settling) ∧
    (∃ (s : State),
      s.crOpen = true ∧
      s.crNumbered = false) ∧
    (∃ (s : State) (n : Nat),
      s.pwr.crPhase = .leaving n) ∧
    (∃ (s : State) (f : Nat) (p : Bytes),
      s.performable f 0x0A20 = true ∧
      (s.fn f).mb.payload = p ∧
      250 ≤ u16 p 0 ∧
      u16 p 0 ≤ 750 ∧
      100 ≤ u16 p 2 ∧
      u16 p 2 ≤ 60000 ∧
      s.rfield aStrap 19 19 = 1 ∧
      f % 4 = 0) :=
  ⟨⟨ringUp false, 9, [2, 0], by decide +kernel⟩,
   ⟨ringUp true, 9, 0, 1, 3, [4, 0, 0, 0] ++ toLe 2 300 ++ zeros 6, by decide +kernel⟩,
   ⟨ringUp true, 9, 0, 3, zeros 6, by decide +kernel⟩,
   ⟨ringUp true, 9, 0, 3, [1, 0, 4, 0, 4] ++ zeros 12, by decide +kernel⟩,
   ⟨ringUp true, 4, ⟨4, 0x10, 0⟩, by decide +kernel⟩,
   ⟨ringUp true, by decide +kernel⟩,
   ⟨{ up with pwr.crPhase := .settling }, by decide +kernel⟩,
   ⟨ringUp false, by decide +kernel⟩,
   ⟨{ up with pwr.crPhase := .leaving 4 }, 4, by decide +kernel⟩,
   ⟨posted (up.rset aStrap 19 19 1) 0 0x0A20 (toLe 2 400 ++ toLe 2 500 ++ [4, 0, 0, 0]), 0, toLe 2 400 ++ toLe 2 500 ++ [4, 0, 0, 0], by decide +kernel⟩⟩

theorem witness_FlowsAreSampledExportedAndEnded :
    (∃ (s : State) (f : Nat) (p : Bytes),
      s.performable f 0x0B20 = true ∧
      (s.fn f).mb.payload = p ∧
      u8 p 0 < 7 ∧
      f % 4 = 0) ∧
    (∃ (s : State) (f : Nat) (p : Bytes),
      s.performable f 0x0B30 = true ∧
      (s.fn f).mb.payload = p ∧
      1 ≤ u16 p 6 ∧
      u16 p 6 ≤ 3600 ∧
      1 ≤ u16 p 8 ∧
      u16 p 8 ≤ 600 ∧
      f % 4 = 0 ∧
      Map.wf s.tel.sampleN = true) ∧
    (∃ (s : State) (f : Nat) (p : Bytes),
      s.performable f 0x0B31 = true ∧
      (s.fn f).mb.payload = p ∧
      s.subExists (u8 p 1) = true ∧
      u16 p 4 ≤ 4095 ∧
      (bit (u8 p 0) 1 = true ∨ ((slice p 20 12).all (· == 0) = true ∧ (slice p 36 12).all (· == 0) = true)) ∧
      f % 4 = 0) ∧
    (∃ (s : State) (f : Nat) (p : Bytes),
      s.performable f 0x0B32 = true ∧
      (s.fn f).mb.payload = p ∧
      f % 4 = 0) ∧
    (∃ (s : State) (f : Nat) (p : Bytes),
      s.performable f 0x0B40 = true ∧
      (s.fn f).mb.payload = p ∧
      f % 4 = 0) ∧
    (∃ (s : State) (i : Nat) (x : Flow),
      s.tel.flows[i]? = some x) ∧
    (∃ (s : State) (i : Nat) (x : Flow),
      s.tel.flows[i]? = some x) :=
  ⟨⟨posted (up.rput (aHist 3 4) 9) 0 0x0B20 ([3, 1, 0, 0]), 0, [3, 1, 0, 0], by decide +kernel⟩,
   ⟨posted (flowUp) 0 0x0B30 ([3, 0, 0, 0, 0, 0, 10, 0, 20, 0, 0, 0]), 0, [3, 0, 0, 0, 0, 0, 10, 0, 20, 0, 0, 0], by decide +kernel⟩,
   ⟨posted (up) 0 0x0B31 ([1] ++ zeros 59), 0, [1] ++ zeros 59, by decide +kernel⟩,
   ⟨posted (flowUp) 0 0x0B32 ([]), 0, [], by decide +kernel⟩,
   ⟨posted (up) 0 0x0B40 (zeros 8 ++ [6, 0, 5, 0] ++ zeros 4), 0, zeros 8 ++ [6, 0, 5, 0] ++ zeros 4, by decide +kernel⟩,
   ⟨flowUp, 0, aFlow, by decide +kernel⟩,
   ⟨flowUp, 0, aFlow, by decide +kernel⟩⟩

theorem witness_ManagementMessagesAreAnsweredWithTheFacts :
    (∃ (s : State) (dst : Nat),
      s.mgmtUp = true ∧
      (dst = 0 ∨ dst = s.tel.eid)) ∧
    (∃ (s : State),
      s.mgmtUp = true) ∧
    (∃ (s : State),
      s.mgmtUp = true) ∧
    (∃ (s : State),
      s.mgmtUp = true) ∧
    (∃ (s : State),
      s.updateUp = true) ∧
    (∃ (s : State),
      s.updateUp = true) ∧
    (∃ (s : State) (n : Nat) (d : Bytes),
      s.updateUp = true ∧
      s.tel.fwUpdate = .download n ∧
      d.length = min s.tel.fwChunk (n - s.tel.fwData.length)) :=
  ⟨⟨mgtUp .idle, 9, by decide +kernel⟩,
   ⟨mgtUp .idle, by decide +kernel⟩,
   ⟨mgtUp .idle, by decide +kernel⟩,
   ⟨mgtUp .idle, by decide +kernel⟩,
   ⟨up, by decide +kernel⟩,
   ⟨mgtUp .ready, by decide +kernel⟩,
   ⟨mgtUp (.download 600), 600, zeros 256, by decide +kernel⟩⟩

theorem witness_PowerOnLeavesNothingButTheTablesValues :
    (∃ (off : Nat),
      (∀ n, n < 8 → off ≠ aCtlCfg (n + 2))) :=
  ⟨0, by (intro n h; unfold aCtlCfg; omega)⟩

theorem witness_EveryStepKeepsTheCanonicalForms :
    (∃ (s t : State),
      s.canonical = true ∧
      step s = .next t) :=
  ⟨{ up with pending := [.cadenceChanged] }, up, by exact ⟨by decide +kernel, rfl⟩⟩

theorem witness_NoCommandTakesBackAFuse :
    (∃ (s t : State),
      step s = .next t) :=
  ⟨{ up with pending := [.cadenceChanged] }, up, by rfl⟩

theorem witness_TimeAndWhatWasSentNeverGoBack :
    (∃ (s t : State),
      step s = .next t) :=
  ⟨{ up with pending := [.cadenceChanged] }, up, by rfl⟩

end Sys2Proof.Tests
end

section
/-! PROOFS. Bit fields of a word, and the words that the register table's access codes make (R9). -/

namespace Sys2Proof

theorem Map.get_eq_none {β : Type} {m : List (Nat × β)} {k : Nat} (h : ∀ x ∈ m, x.1 ≠ k) : Map.get m k = none := by
  induction m with
  | nil => rfl
  | cons x t ih => simp [Map.get, h x List.mem_cons_self, ih fun y hy => h y (List.mem_cons_of_mem x hy)]

end Sys2Proof

namespace Sys2Proof.Machine
open Sys2Proof

/-! ### Bit fields -/

theorem testBit_bits (v hi lo i : Nat) :
    (bits v hi lo).testBit i = (decide (i < hi + 1 - lo) && v.testBit (lo + i)) := by
  rw [bits, Nat.testBit_mod_two_pow, Nat.testBit_div_two_pow, Nat.add_comm i lo]

theorem testBit_setBits (v x i : Nat) {hi lo : Nat} (h : lo ≤ hi) :
    (setBits v hi lo x).testBit i = if lo ≤ i ∧ i ≤ hi then x.testBit (i - lo) else v.testBit i := by
  have hp : 2 ^ (hi + 1) = 2 ^ lo * 2 ^ (hi + 1 - lo) := by rw [← Nat.pow_add]; congr 1; omega
  have e : setBits v hi lo x =
      2 ^ lo * (2 ^ (hi + 1 - lo) * (v / 2 ^ (hi + 1)) + x % 2 ^ (hi + 1 - lo)) + v % 2 ^ lo := by
    simp only [setBits, hp]
    ring
  rw [e, Nat.testBit_two_pow_mul_add _ (Nat.mod_lt _ (by positivity)),
    Nat.testBit_two_pow_mul_add _ (Nat.mod_lt _ (by positivity)), Nat.testBit_mod_two_pow, Nat.testBit_mod_two_pow,
    Nat.testBit_div_two_pow]
  by_cases h1 : i < lo
  · rw [if_pos h1, if_neg (by omega), decide_eq_true h1, Bool.true_and]
  · by_cases h2 : i ≤ hi
    · rw [if_neg h1, if_pos (by omega), if_pos (by omega), decide_eq_true (by omega), Bool.true_and]
    · rw [if_neg h1, if_neg (by omega), if_neg (by omega), show i - lo - (hi + 1 - lo) + (hi + 1) = i by omega]

theorem bits_lt (v hi lo : Nat) : bits v hi lo < 2 ^ (hi + 1 - lo) := Nat.mod_lt _ (by positivity)

theorem bits_setBits_self (v x : Nat) {hi lo : Nat} (h : lo ≤ hi) :
    bits (setBits v hi lo x) hi lo = x % 2 ^ (hi + 1 - lo) := by
  refine Nat.eq_of_testBit_eq fun i => ?_
  rw [testBit_bits, testBit_setBits _ _ _ h, Nat.testBit_mod_two_pow, Nat.add_sub_cancel_left]
  by_cases hi' : i < hi + 1 - lo
  · rw [if_pos (by omega)]
  · simp [hi']

/-- A field keeps its bits when a field apart from it is set. -/
theorem bits_setBits_apart (v x : Nat) {hi lo a b : Nat} (h : lo ≤ hi) (hab : a < lo ∨ hi < b) :
    bits (setBits v hi lo x) a b = bits v a b := by
  refine Nat.eq_of_testBit_eq fun i => ?_
  rw [testBit_bits, testBit_bits, testBit_setBits _ _ _ h]
  by_cases hi' : i < a + 1 - b
  · rw [if_neg (by omega)]
  · simp [hi']

theorem bits_mod_two_pow (v : Nat) {n hi lo : Nat} (h : hi < n) : bits (v % 2 ^ n) hi lo = bits v hi lo := by
  refine Nat.eq_of_testBit_eq fun i => ?_
  rw [testBit_bits, testBit_bits, Nat.testBit_mod_two_pow]
  by_cases hi' : i < hi + 1 - lo
  · rw [decide_eq_true (show lo + i < n by omega), Bool.true_and]
  · simp [hi']

theorem bits_two_pow_sub_one {n hi lo : Nat} (h : hi < n) : bits (2 ^ n - 1) hi lo = 2 ^ (hi + 1 - lo) - 1 := by
  refine Nat.eq_of_testBit_eq fun i => ?_
  rw [testBit_bits, Nat.testBit_two_pow_sub_one, Nat.testBit_two_pow_sub_one]
  by_cases hi' : i < hi + 1 - lo
  · rw [decide_eq_true (show lo + i < n by omega), Bool.and_true]
  · simp [hi']

/-! ### Fields of a register -/

/-- Two fields without a common bit. -/
abbrev RegField.apart (x y : RegField) : Prop := x.hi < y.lo ∨ y.hi < x.lo

/-- The fields of a register lie in its 64 bits and no two share a bit. -/
def RegDef.fieldsApart (d : RegDef) : Prop :=
  (∀ x ∈ d.fields, x.lo ≤ x.hi ∧ x.hi < 64) ∧ d.fields.Pairwise RegField.apart

theorem regTable_fieldsApart : ∀ d ∈ regTable, d.fieldsApart := by
  unfold RegDef.fieldsApart
  decide

theorem findReg_mem {off : Nat} {d : RegDef} {ix : List Nat} (h : findReg off = some (d, ix)) : d ∈ regTable := by
  obtain ⟨e, he, hd⟩ := List.exists_of_findSome?_eq_some h
  split at hd
  · cases hd
  · obtain ⟨i, -, hi⟩ := Option.map_eq_some_iff.1 hd
    cases hi
    exact he

/-- Setting fields apart from a given one leaves its bits. -/
theorem bits_foldl_setBits_apart (g : RegField → Nat) {a b : Nat} (l : List RegField) (w : Nat)
    (hl : ∀ y ∈ l, y.lo ≤ y.hi ∧ (a < y.lo ∨ y.hi < b)) :
    bits (l.foldl (fun w y => setBits w y.hi y.lo (g y)) w) a b = bits w a b :=
  List.foldlRecOn l _ (motive := fun r => bits r a b = bits w a b) rfl fun r hr y hy => by
    obtain ⟨hlo, hab⟩ := hl y hy
    rw [bits_setBits_apart _ _ hlo hab, hr]

/-- Setting each field of a register gives each field its own value. -/
theorem bits_foldl_setBits (g : RegField → Nat) (l : List RegField) (w : Nat) {x : RegField} (hx : x ∈ l)
    (hw : ∀ y ∈ l, y.lo ≤ y.hi) (hp : l.Pairwise RegField.apart) :
    bits (l.foldl (fun w y => setBits w y.hi y.lo (g y)) w) x.hi x.lo = g x % 2 ^ (x.hi + 1 - x.lo) := by
  induction l generalizing w with
  | nil => cases hx
  | cons y t ih =>
    obtain ⟨hy, ht⟩ := List.pairwise_cons.1 hp
    rw [List.foldl_cons]
    rcases List.mem_cons.1 hx with rfl | hx
    · rw [bits_foldl_setBits_apart g t _ fun z hz => ⟨hw z (List.mem_cons_of_mem _ hz), hy z hz⟩,
        bits_setBits_self _ _ (hw x List.mem_cons_self)]
    · exact ih _ hx (fun z hz => hw z (List.mem_cons_of_mem _ hz)) ht

/-- What a write of a whole register makes of a field (R9). -/
def RegField.writtenWhole (x : RegField) (old v : Nat) : Nat :=
  if x.acc = .rw ∨ x.acc = .rwc then bits v x.hi x.lo
  else if x.acc = .w1c then bits old x.hi x.lo &&& (2 ^ (x.hi + 1 - x.lo) - 1 - bits v x.hi x.lo)
  else bits old x.hi x.lo

theorem RegField.writtenWhole_lt (x : RegField) (old v : Nat) : x.writtenWhole old v < 2 ^ (x.hi + 1 - x.lo) := by
  unfold RegField.writtenWhole
  split
  · exact bits_lt _ _ _
  · split
    · exact Nat.and_le_left.trans_lt (bits_lt _ _ _)
    · exact bits_lt _ _ _

/-- A write of all 64 bits reaches every bit of a field. -/
theorem RegField.written_whole (x : RegField) (old v : Nat) (h : x.hi < 64) :
    x.written old (v % 2 ^ 64) (2 ^ 64 - 1) = x.writtenWhole old v := by
  have hn := Nat.and_two_pow_sub_one_of_lt_two_pow (bits_lt v x.hi x.lo)
  unfold RegField.written RegField.writtenWhole
  rw [bits_mod_two_pow v h, bits_two_pow_sub_one h]
  cases x.acc <;> simp [hn]

/-- Each field of a register after a write of all 64 bits. -/
theorem RegDef.bits_written_whole {d : RegDef} (hd : d ∈ regTable) {x : RegField} (hx : x ∈ d.fields) (old v : Nat) :
    bits (d.written old (v % 2 ^ 64) (2 ^ 64 - 1)) x.hi x.lo = x.writtenWhole old v := by
  obtain ⟨hin, hp⟩ := regTable_fieldsApart d hd
  rw [RegDef.written, bits_foldl_setBits _ _ _ hx (fun y hy => (hin y hy).1) hp, x.written_whole old v (hin x hx).2,
    Nat.mod_eq_of_lt (x.writtenWhole_lt old v)]

/-! ### REGISTER_WRITE -/

/-- The registers with a field whose write starts an action, and the gate entries, which a gate in use shuts (R272). -/
def actionRegs : List RegName := [.glbTimeSnap, .pciWinCtl, .memRawCmd, .pktPortCfg, .schGateCtl, .schGateEntry]

/-- A write to a register without actions only stores its word. -/
theorem State.regWrite_plain (s : State) (f v mask : Nat) {off : Nat} {d : RegDef} {ix : List Nat}
    (h : findReg off = some (d, ix)) (hd : d.name ∉ actionRegs) :
    s.regWrite f off v mask = s.rput off (d.written (s.rget off) v mask) := by
  have hname : ∀ n ∈ actionRegs, d.name ≠ n := fun n hn he => hd (he ▸ hn)
  have he : (d.name == .schGateEntry) = false := beq_eq_false_iff_ne.2 (hname _ (by decide))
  have ha : ∀ u : State, u.regAction f d (ix.headD 0) v mask = u := by
    intro u
    unfold State.regAction
    split
    iterate 5 next hn => exact absurd hn (hname _ (by decide))
    rfl
  simp only [State.regWrite, h, he, Bool.false_and, ha]
  rfl

theorem exec_registerWrite {f off : Nat} (width v : Nat) (s : State) (hf : f < 8) (ho : off < 0x4000000) :
    exec (.registerWrite f off width v) s = .next (s.bar0Write f off width v) := by
  show Host.Outcome.next _ = _
  rw [if_pos ⟨hf, ho⟩]

theorem State.bar0Write_soft {s : State} {x : Bool} (f off n v : Nat) (h : s.brd.soft = some x) :
    s.bar0Write f off n v = s := by
  simp [State.bar0Write, h]

section
variable {s : State} {f off n : Nat} (v : Nat) (hs : s.brd.soft = none)
include hs

theorem State.bar0Write_misaligned (h : (n ≠ 4 ∧ n ≠ 8) ∨ off % n ≠ 0) :
    s.bar0Write f off n v = s.badAccess 1 f := by
  simp only [State.bar0Write, hs, Option.isSome_none, Bool.false_eq_true, if_false, if_pos h]

variable (h : ¬((n ≠ 4 ∧ n ≠ 8) ∨ off % n ≠ 0))
include h

theorem State.bar0Write_empty (hp : s.place0 f (off / 8 * 8) = .none) :
    s.bar0Write f off n v = s.badAccess 2 f := by
  simp only [State.bar0Write, hs, Option.isSome_none, Bool.false_eq_true, if_false, if_neg h, hp]

theorem State.bar0Write_response {o : Nat} (hp : s.place0 f (off / 8 * 8) = .response o) :
    s.bar0Write f off n v = s.badAccess 4 f := by
  simp only [State.bar0Write, hs, Option.isSome_none, Bool.false_eq_true, if_false, if_neg h, hp]

theorem State.bar0Write_reg {o : Nat} (hp : s.place0 f (off / 8 * 8) = .reg o) :
    s.bar0Write f off n v = s.regWrite f o (v * 2 ^ (8 * (off % 8)) % 2 ^ 64) (halfMask off n) := by
  simp only [State.bar0Write, hs, Option.isSome_none, Bool.false_eq_true, if_false, if_neg h, hp]

end

/-- Settles O15: a register's word is rebuilt field by field, each from its access code; what is not a register is
counted. -/
theorem registerWritesFollowTheAccessCodes : Obligations.RegisterWritesFollowTheAccessCodes := by
  unfold Obligations.RegisterWritesFollowTheAccessCodes
  refine ⟨?_, ?_, ?_, ?_, ?_⟩
  · intro s f off v d ix x hf _ ho ha hs hp hr hd hx
    have hw : s.bar0Write f off 8 v = s.rput off (d.written (s.rget off) (v % 2 ^ 64) (2 ^ 64 - 1)) := by
      rw [State.bar0Write_reg v hs (by omega) (by rwa [Nat.div_mul_cancel (Nat.dvd_of_mod_eq_zero ha)]), ha,
        State.regWrite_plain _ _ _ _ hr hd]
      simp [halfMask]
    refine ⟨_, exec_registerWrite 8 v s hf ho, ?_⟩
    rw [hw, State.rget_rput_self]
    exact ⟨RegDef.bits_written_whole (findReg_mem hr) hx _ v, fun o h => s.rget_rput_of_ne _ (Ne.symm h), rfl⟩
  · intro s f off width v hf ho hs hbad
    rw [exec_registerWrite width v s hf ho, State.bar0Write_misaligned v hs hbad]
  · intro s f off width v hf ho hs hn ha hp
    rw [exec_registerWrite width v s hf ho, State.bar0Write_empty v hs (by omega) hp]
  · intro s f off width v o hf ho hs hn ha hp
    rw [exec_registerWrite width v s hf ho, State.bar0Write_response v hs (by omega) hp]
  · intro s f off width v x hs
    show Host.Outcome.next _ = _
    rw [State.bar0Write_soft f off width v hs, ite_self]

/-! ### Mailbox responses -/

/-- The fields of a response's header (R14, R153, R154). -/
theorem Mailbox.answerWith_header (m : Mailbox) (st : Status) (a : Bool) {p : Bytes} (hp : p.length < 2 ^ 16) :
    bits (m.answerWith st p a).hdr0 7 0 = 3 ∧ bits (m.answerWith st p a).hdr0 15 8 = 1 ∧
    bits (m.answerWith st p a).hdr0 31 16 = m.opcode ∧ bits (m.answerWith st p a).hdr0 47 32 = p.length ∧
    bits (m.answerWith st p a).hdr0 63 48 = m.seq ∧ bits (m.answerWith st p a).hdr1 7 0 = st.code ∧
    bits (m.answerWith st p a).hdr1 15 8 = 0 ∧ bits (m.answerWith st p a).hdr1 63 32 = m.service := by
  have ho : m.opcode < 2 ^ 16 := bits_lt _ _ _
  have hq : m.seq < 2 ^ 16 := bits_lt _ _ _
  have hv : m.service < 2 ^ 32 := bits_lt _ _ _
  have hc := Status.code_lt st
  have hb : b2n a ≤ 1 := by cases a <;> decide
  simp only [Mailbox.answerWith, bits]
  generalize m.opcode = o, m.seq = q, m.service = v, st.code = c, b2n a = b, p.length = n at *
  omega

/-- Settles O20: `respond` writes the response and leaves the rest of the state alone; the response's header echoes the
request's. -/
theorem responsesEchoTheirRequest : Obligations.ResponsesEchoTheirRequest := by
  unfold Obligations.ResponsesEchoTheirRequest
  refine ⟨State.respond_answered, fun m st p async hp => ?_⟩
  obtain ⟨hmajor, hminor, hopcode, hlength, hseq, hstatus, hzero, hservice⟩ := m.answerWith_header st async hp
  exact ⟨hstatus, hzero, hmajor, hminor, hopcode, hlength, hseq, hservice⟩

/-! ### The state after power-on -/

/-- The only register words held right after power-on are those of PCI_CTL_CFG of P2 to P9. -/
theorem State.reset_rget {off : Nat} (h : ∀ n, n < 8 → off ≠ aCtlCfg (n + 2)) :
    State.reset.rget off = regReset off := by
  have hkeys : ∀ r ∈ defaultRoles, ∃ n, n < 8 ∧ r.1 = aCtlCfg (n + 2) := by decide
  have hnone : Map.get defaultRoles off = none := Map.get_eq_none fun r hr he => by
    obtain ⟨n, hn, ha⟩ := hkeys r hr
    exact h n hn (he.symm.trans ha)
  show (Map.get defaultRoles off).getD _ = _
  rw [hnone]
  rfl

/-- Settles O57, by evaluation of the reset state. -/
theorem powerOnLeavesNothingButTheTablesValues : Obligations.PowerOnLeavesNothingButTheTablesValues := by
  unfold Obligations.PowerOnLeavesNothingButTheTablesValues
  refine ⟨?_, fun f => ⟨rfl, rfl, rfl, rfl⟩, fun off h => State.reset_rget h, by decide⟩
  have hboot : State.reset.boot = 0 := by decide
  exact ⟨rfl, rfl, rfl, rfl, rfl, rfl, rfl, rfl, rfl, rfl, rfl, rfl, rfl, rfl, rfl, hboot⟩

end Sys2Proof.Machine
end

section
/-! PROOFS. Power-on and RESET_N (R10, R81, R85, R87): what a clearing of the package leaves, and what the start of the
standby image keeps. -/

namespace Sys2Proof.Machine
open Sys2Proof

/-! ### What the reloads of registers and defaults change -/

/-- The state `t` is the state `s` but for register words, rule tables, meters, free values, the epoch and the starts of
clocks and counters: all that the journal's defaults, the controllers' roles and a register reset touch (R10, R590). -/
structure State.Reloads (s t : State) : Prop where
  eq : t = { s with freeCtr := t.freeCtr, regs := t.regs, net := t.net, sch := t.sch, host.epoch := t.host.epoch
                    brd.unitStart := t.brd.unitStart, brd.clockOffset := t.brd.clockOffset }

theorem State.Reloads.refl (s : State) : s.Reloads s := ⟨rfl⟩

theorem State.Reloads.trans {s t u : State} (h : s.Reloads t) (h' : t.Reloads u) : s.Reloads u :=
  ⟨by rw [h'.eq, h.eq]⟩

theorem State.Reloads.foldl {α : Type} {op : State → α → State} (h : ∀ s a, State.Reloads s (op s a)) (l : List α)
    (s : State) : s.Reloads (l.foldl op s) :=
  List.foldlRecOn l op (.refl s) fun _ hb a _ => hb.trans (h _ a)

theorem State.rset_reloads (s : State) (off hi lo v : Nat) : s.Reloads (s.rset off hi lo v) := ⟨rfl⟩

theorem State.rreset_reloads (s : State) (doms : List Domain) : s.Reloads (s.rreset doms) := ⟨rfl⟩

theorem State.restartUnits_reloads (s : State) (l : List Nat) : s.Reloads (s.restartUnits l) := ⟨rfl⟩

theorem State.restartClocks_reloads (s : State) : s.Reloads s.restartClocks := ⟨rfl⟩

theorem State.setRoles_reloads (s : State) (l : List Nat) : s.Reloads (s.setRoles l) := .foldl (fun _ _ => ⟨rfl⟩) _ s

theorem State.capChanged_reloads (s : State) : s.Reloads s.capChanged := by
  unfold State.capChanged
  split <;> exact ⟨rfl⟩

/-- Placing an exact-match entry only draws free values (R236). -/
theorem emPlace_reloads (s : State) (em : List EmEntry) (e : EmEntry) (b n : Nat) :
    s.Reloads (emPlace s em e b n).1 := by
  induction n generalizing s em e b with
  | zero => exact .refl s
  | succ n ih =>
    have hdraw : s.Reloads (s.draw 2).2 := ⟨rfl⟩
    simp only [emPlace]
    split
    · exact .refl s
    · split
      · exact hdraw
      · exact hdraw.trans (ih ..)

theorem State.emInsert_reloads (s : State) (e : EmEntry) : s.Reloads (s.emInsert e).1 := by
  simp only [State.emInsert]
  split
  · exact .refl s
  · split
    · exact .refl s
    · exact emPlace_reloads ..

theorem State.loadRules_reloads (s : State) : s.Reloads s.loadRules := by
  refine .trans ⟨rfl⟩ (.foldl (fun u p => ?_) _ _)
  have hinsert := u.emInsert_reloads { profile := u8 p 0, key := slice p 8 48, lo := 1, action := u32 p 4, bucket := 0 }
  split
  · next h => rw [h] at hinsert; exact hinsert.trans ⟨rfl⟩
  · next h => rw [h] at hinsert; exact hinsert

theorem State.loadModes_reloads (s : State) : s.Reloads s.loadModes := .foldl (fun _ _ => ⟨rfl⟩) _ s

theorem State.resetMeters_reloads (s : State) : s.Reloads s.resetMeters := ⟨rfl⟩

theorem State.loadCassettes_reloads (s : State) (n i : Nat) (b : Bytes) : s.Reloads (s.loadCassettes n i b) := by
  induction n generalizing s i b with
  | zero => exact .refl s
  | succ n ih =>
    unfold State.loadCassettes
    split
    · exact .refl s
    · refine .trans ?_ (ih ..)
      refine .trans (.foldl (fun u e => ?_) (List.range (u32 b 12)) s) ⟨rfl⟩
      exact ⟨rfl⟩

theorem State.loadDefaults_reloads (s : State) : s.Reloads s.loadDefaults := by
  unfold State.loadDefaults
  refine .trans ?_ (State.rset_reloads ..)
  refine .trans ?_ (.foldl (fun _ _ => ⟨rfl⟩) _ _)
  refine .trans ?_ (State.loadCassettes_reloads ..)
  exact (s.loadRules_reloads.trans (State.loadModes_reloads _)).trans (State.resetMeters_reloads _)

/-! ### What a clearing of the package leaves -/

/-- The state `t` is left by a clearing of the package from the state `s`: the trigger tables and HBM are empty; the
fuses, the journal's bank and every slot already written stay, as does VDD_AON (R87, R490, R546). -/
structure State.Wiped (s t : State) : Prop where
  trg : t.trg = {}
  hbm : t.mem.hbm = []
  poison : t.mem.poison = []
  fuses : t.sec.fuses = s.sec.fuses
  bank : t.fwm.bank = s.fwm.bank
  slots : s.fwm.slots <+: t.fwm.slots
  pending : t.pending = s.pending
  aon : t.brd.aon = s.brd.aon

theorem State.Wiped.reloads {s t u : State} (h : s.Wiped t) (h' : t.Reloads u) : s.Wiped u := by
  rw [h'.eq]
  exact ⟨h.trg, h.hbm, h.poison, h.fuses, h.bank, h.slots, h.pending, h.aon⟩

/-- A clearing that starts from a state with the same fuses, journal, commands and VDD_AON. -/
theorem State.Wiped.of_kept {s t u : State} (h : t.Wiped u) (hfuses : t.sec.fuses = s.sec.fuses)
    (hbank : t.fwm.bank = s.fwm.bank) (hslots : s.fwm.slots <+: t.fwm.slots) (hpending : t.pending = s.pending)
    (haon : t.brd.aon = s.brd.aon) : s.Wiped u :=
  ⟨h.trg, h.hbm, h.poison, h.fuses.trans hfuses, h.bank.trans hbank, hslots.trans h.slots, h.pending.trans hpending,
   h.aon.trans haon⟩

theorem State.softClear_wiped (s : State) (who : Option Nat) : s.Wiped (s.softClear true who) := by
  unfold State.softClear
  refine .reloads ?_ (State.restartClocks_reloads _)
  refine .reloads ?_ (State.restartUnits_reloads ..)
  refine .reloads ?_ (State.loadDefaults_reloads _)
  refine .reloads ?_ (State.rset_reloads ..)
  exact ⟨rfl, rfl, rfl, rfl, rfl, List.prefix_rfl, rfl, rfl⟩

theorem State.mainClear_wiped (s : State) (std : Bool) : s.Wiped (s.mainClear std) := by
  have hsoft := s.softClear_wiped none
  unfold State.mainClear
  generalize s.softClear true none = u at hsoft
  refine .reloads ?_ (State.capChanged_reloads _)
  refine .reloads ?_ (State.loadDefaults_reloads _)
  refine .reloads ?_ (State.restartUnits_reloads ..)
  refine .reloads ?_ (.foldl (fun _ _ => ⟨rfl⟩) _ _)
  refine .reloads ?_ (State.setRoles_reloads ..)
  exact ⟨hsoft.trg, rfl, rfl, hsoft.fuses, hsoft.bank, hsoft.slots, hsoft.pending, hsoft.aon⟩

/-- The journal's slots stay; the record that MGB was programming may be left torn after them (R546). -/
theorem State.packageReset_wiped (s : State) : s.Wiped s.packageReset := by
  unfold State.packageReset
  split
  next n d hd =>
    obtain rfl : { s with freeCtr := s.freeCtr + 1 } = d := (Prod.ext_iff.1 hd).2
    extract_lets cut journal u m
    have hslots : s.fwm.slots <+: u.fwm.slots := by
      show _ <+: if cut then _ else _
      split
      · exact ⟨[.torn], rfl⟩
      · exact List.prefix_rfl
    have hm : s.Wiped m := (u.mainClear_wiped false).of_kept rfl rfl hslots rfl rfl
    clear_value m
    exact ⟨hm.trg, hm.hbm, hm.poison, hm.fuses, hm.bank, hm.slots, hm.pending, hm.aon⟩

/-- The pins that fall with the main rails leave commands, security state, firmware state and VDD_AON alone. -/
theorem State.railsOff_keeps (s : State) : s.railsOff.pending = s.pending ∧ s.railsOff.sec = s.sec ∧
    s.railsOff.fwm = s.fwm ∧ s.railsOff.brd.aon = s.brd.aon := by
  unfold State.railsOff
  extract_lets low t
  have ht : t.pending = s.pending ∧ t.sec = s.sec ∧ t.fwm = s.fwm ∧ t.brd.aon = s.brd.aon :=
    List.foldlRecOn low _
      (motive := fun t : State => t.pending = s.pending ∧ t.sec = s.sec ∧ t.fwm = s.fwm ∧ t.brd.aon = s.brd.aon)
      ⟨rfl, rfl, rfl, rfl⟩ fun _ h _ _ => h
  clear_value t
  split <;> exact ht

theorem State.railsOff_packageReset_wiped (s : State) : s.Wiped s.railsOff.packageReset := by
  obtain ⟨hpending, hsec, hfwm, haon⟩ := s.railsOff_keeps
  exact s.railsOff.packageReset_wiped.of_kept (by rw [hsec]) (by rw [hfwm]) (by rw [hfwm]) hpending haon

/-- A clearing that starts with a pin driven. -/
theorem State.Wiped.of_emit_if {s t : State} {c : Bool} {e : Emit} (h : (if c then s.emit e else s).Wiped t) :
    s.Wiped t := by
  split at h
  · exact h.of_kept rfl rfl List.prefix_rfl rfl rfl
  · exact h

/-! ### The start of the standby image -/

/-- The state `t` has what the start of the standby image stores before main power rises, as the state `s` has it: the
straps, the journal and SPI NOR, the security state, HBM, and the board but for the bypass switch and the causes due. -/
structure State.StartKept (s t : State) : Prop where
  strap : t.rget aStrap = s.rget aStrap
  fwm : t.fwm = s.fwm
  sec : t.sec = s.sec
  mem : t.mem = s.mem
  brd : t.brd = { s.brd with bypassHigh := t.brd.bypassHigh, retireDue := t.brd.retireDue }

theorem State.StartKept.refl (s : State) : s.StartKept s := ⟨rfl, rfl, rfl, rfl, rfl⟩

theorem State.StartKept.trans {s t u : State} (h : s.StartKept t) (h' : t.StartKept u) : s.StartKept u :=
  ⟨h'.strap.trans h.strap, h'.fwm.trans h.fwm, h'.sec.trans h.sec, h'.mem.trans h.mem, by rw [h'.brd, h.brd]⟩

theorem State.rput_startKept (s : State) {off : Nat} (v : Nat) (h : off ≠ aStrap) : s.StartKept (s.rput off v) :=
  ⟨s.rget_rput_of_ne v h, rfl, rfl, rfl, rfl⟩

theorem State.rset_startKept (s : State) {off : Nat} (hi lo v : Nat) (h : off ≠ aStrap) :
    s.StartKept (s.rset off hi lo v) := s.rput_startKept _ h

theorem State.setRoles_startKept (s : State) (l : List Nat) : s.StartKept (s.setRoles l) :=
  List.foldlRecOn l.zipIdx _ (.refl s) fun _ hb _ _ =>
    hb.trans (State.rput_startKept _ _ (by unfold aCtlCfg aStrap; omega))

theorem State.loadPower_startKept (s : State) : s.StartKept s.loadPower := by
  have hcap : ∀ (u : State) hi lo v, u.StartKept (u.rset 0xB00008 hi lo v) := fun u hi lo v =>
    u.rset_startKept hi lo v (by decide)
  unfold State.loadPower
  extract_lets u
  have hu : s.StartKept u := by
    simp only [u]
    split
    · exact hcap ..
    · exact .refl s
  clear_value u
  split
  · exact hu.trans ((hcap ..).trans (hcap ..))
  · exact hu

theorem State.capChanged_startKept (s : State) : s.StartKept s.capChanged := by
  unfold State.capChanged
  split
  · exact .refl s
  · exact (s.rset_startKept 9 0 s.capW (by decide : aPwrStat ≠ aStrap)).trans ⟨rfl, rfl, rfl, rfl, rfl⟩

theorem State.crJoin_startKept (s : State) : s.StartKept s.crJoin :=
  .trans ⟨rfl, rfl, rfl, rfl, rfl⟩ ((State.rset_startKept _ 1 0 1 (by decide : aCrStat ≠ aStrap)).trans
    ⟨rfl, rfl, rfl, rfl, rfl⟩)

theorem State.crFault_startKept (s : State) (code detail : Nat) : s.StartKept (s.crFault code detail) := by
  unfold State.crFault State.crSend
  dsimp only
  split <;> exact ⟨rfl, rfl, rfl, rfl, rfl⟩

theorem State.pldm_startKept (s : State) (sensor st : Nat) : s.StartKept (s.pldm sensor st) := by
  unfold State.pldm
  dsimp only
  split <;> exact ⟨rfl, rfl, rfl, rfl, rfl⟩

theorem State.reportCauses_startKept (s : State) : s.StartKept s.reportCauses := by
  unfold State.reportCauses
  dsimp only
  split
  · exact .refl s
  · refine .trans ?_ (State.pldm_startKept ..)
    refine .trans ?_ (State.crFault_startKept ..)
    exact ⟨rfl, rfl, rfl, rfl, rfl⟩

theorem State.raiseMain_frame (s : State) : ∃ now o en at',
    s.raiseMain = { s with now := now, out := o, brd.pwrEn := en, brd.pwrEnAt := at' } := by
  unfold State.raiseMain
  split
  · exact ⟨s.now, s.out, s.brd.pwrEn, s.brd.pwrEnAt, rfl⟩
  · extract_lets t
    clear_value t
    exact ⟨t, s.out ++ [.pin 0 true], true, t, rfl⟩

theorem State.raiseMain_pwrEn {s : State} (htrip : s.brd.thermTrip = false) (hpower : s.brd.noPower = false) :
    s.raiseMain.brd.pwrEn = true := by
  simp [State.raiseMain, htrip, hpower]

/-- The standby image's start is main power raised on a state that has the sampled straps and, but for what the image
reads from the journal, the state it started from. -/
theorem State.standbyStart_raises (s : State) (smp : Nat) : ∃ u : State, s.standbyStart smp = u.raiseMain ∧
    (∃ n, u.rget aStrap = smp + 2 ^ 16 * n) ∧ u.fwm = s.fwm ∧ u.sec = s.sec ∧ u.mem = s.mem ∧
    u.brd.resetN = s.brd.resetN ∧ u.brd.thermTrip = s.brd.thermTrip ∧ u.brd.noPower = s.brd.noPower ∧
    u.brd.standbyImage = true ∧ u.brd.testEn = bit smp 9 := by
  unfold State.standbyStart
  extract_lets safe up down cr test board
  split
  next words bad hwords =>
    extract_lets made hosts fresh straps roles power join causes faults
    have hstrap : straps.rget aStrap = smp + 2 ^ 16 * (up + 4 * down + 8 * cr) := by
      show State.rget (State.rput ..) _ = _
      rw [State.rget_rput_self]
      ring
    have hpower : straps.StartKept power :=
      (((straps.setRoles_startKept _).trans (State.loadPower_startKept _)).trans (State.capChanged_startKept _)).trans
        (State.rput_startKept _ _ (by decide : aRetire ≠ aStrap))
    have hjoin : power.StartKept join := by
      show power.StartKept (if cr = 1 then _ else _)
      split
      · exact power.crJoin_startKept
      · exact .refl power
    have hfaults : causes.StartKept faults := by
      show causes.StartKept (if up = 0 then _ else if bad then _ else _)
      split
      · exact (causes.crFault_startKept ..).trans (State.pldm_startKept ..)
      · split
        · exact causes.pldm_startKept ..
        · exact .refl causes
    have hkept : straps.StartKept faults := ((hpower.trans hjoin).trans join.reportCauses_startKept).trans hfaults
    clear_value faults
    refine ⟨faults, rfl, ⟨_, hkept.strap.trans hstrap⟩, hkept.fwm, hkept.sec, hkept.mem, ?_⟩
    rw [hkept.brd]
    exact ⟨rfl, rfl, rfl, rfl, rfl⟩

/-! ### The commands -/

section
variable {s : State} (straps : Nat) (haon : s.brd.aon = true) (hlow : s.brd.resetN = false)
include haon hlow

/-- RESET_N_RELEASE with no valid standby copy only samples the straps (R520). -/
theorem exec_resetNRelease_none (hcopy : s.pickCopy = none) :
    exec (.resetNRelease straps) s = .next (State.rput { s with brd.resetN := true } aStrap (straps % 1024)) := by
  show Host.Outcome.next (s.resetRelease straps) = _
  unfold State.resetRelease
  rw [if_neg (by simp [haon, hlow])]
  extract_lets smp board u
  have hu : u.pickCopy = none := hcopy
  rw [hu]

/-- RESET_N_RELEASE starts the standby copy that is picked (R520). -/
theorem exec_resetNRelease_some {b : Bool} (hcopy : s.pickCopy = some b) :
    exec (.resetNRelease straps) s =
      .next (State.standbyStart { s with brd.resetN := true, fwm.runB := b } (straps % 1024)) := by
  show Host.Outcome.next (s.resetRelease straps) = _
  unfold State.resetRelease
  rw [if_neg (by simp [haon, hlow])]
  extract_lets smp board u
  have hu : u.pickCopy = some b := hcopy
  rw [hu]

end

/-- Settles O4: the resets of the package are clearings of it (`Wiped`), and RESET_N_RELEASE is the start of the standby
image (`StartKept`). -/
theorem powerOnAndResetClearThePackage : Obligations.PowerOnAndResetClearThePackage := by
  unfold Obligations.PowerOnAndResetClearThePackage
  refine ⟨?_, ?_, ?_, ?_, ?_⟩
  · intro s
    have h := s.packageReset_wiped
    exact ⟨_, rfl, rfl, rfl, h.trg, h.hbm, h.poison, h.fuses, h.bank, h.slots, h.pending⟩
  · intro s haon
    refine ⟨s.aonRemoved, rfl, ?_⟩
    unfold State.aonRemoved
    rw [haon, if_neg (by decide)]
    extract_lets tripped opened
    have h : s.Wiped opened.railsOff.packageReset :=
      (State.Wiped.of_emit_if (s := tripped) opened.railsOff_packageReset_wiped).of_emit_if
    clear_value opened
    exact ⟨rfl, rfl, h.trg, h.hbm, h.poison, h.fuses, h.bank, h.slots⟩
  · intro s haon hreset
    refine ⟨s.resetAssert, rfl, ?_⟩
    unfold State.resetAssert
    rw [haon, hreset, if_neg (by decide)]
    extract_lets opened
    have h : s.Wiped opened.railsOff.packageReset := opened.railsOff_packageReset_wiped.of_emit_if
    clear_value opened
    refine ⟨h.aon.trans haon, rfl, rfl, rfl, rfl, h.trg, h.hbm, h.poison, ?_, h.fuses, h.bank, h.slots⟩
    show bits (State.rget (State.rput ..) _) 2 0 = 1
    rw [State.rget_rput_self, bits_setBits_self _ _ (by decide)]
    rfl
  · intro s straps b haon hlow hcopy
    obtain ⟨u, hu, ⟨n, hstrap⟩, hfwm, hsec, hmem, hresetN, htrip, hpower, himage, htest⟩ :=
      State.standbyStart_raises { s with brd.resetN := true, fwm.runB := b } (straps % 1024)
    have hpwr : s.brd.thermTrip = false → s.brd.noPower = false → u.raiseMain.brd.pwrEn = true := fun ht hp =>
      State.raiseMain_pwrEn (htrip.trans ht) (hpower.trans hp)
    obtain ⟨now, o, en, at', hraise⟩ := u.raiseMain_frame
    refine ⟨u.raiseMain, ?_, ?_⟩
    · exact (exec_resetNRelease_some straps haon hlow hcopy).trans (congrArg Host.Outcome.next hu)
    · rw [hraise] at hpwr ⊢
      refine ⟨hresetN, himage, by rw [hfwm], ?_, htest.trans ?_, hpwr, by rw [hsec], by rw [hfwm], hmem⟩
      · show bits (u.rget aStrap) 9 0 = _
        rw [hstrap, bits]
        omega
      · simp only [bit]
        congr 1
        omega
  · intro s straps haon hlow hcopy
    exact exec_resetNRelease_none straps haon hlow hcopy

end Sys2Proof.Machine
end

section
/-! PROOFS. Facts about tables, the operation table and single bits that several proofs below use. -/

namespace Sys2Proof

/-- Changing the entries and not the keys keeps the canonical form. -/
theorem Map.wf_map {β γ : Type} {m : List (Nat × β)} {f : Nat × β → Nat × γ} (h : Map.wf m = true)
    (hf : ∀ x, (f x).1 = x.1 := by intro; rfl) : Map.wf (m.map f) = true := by
  rw [Map.wf_iff] at h ⊢
  exact h.map _ fun x y hxy => by rwa [hf, hf]

theorem Map.get_modify {β : Type} (m : List (Nat × β)) (k j : Nat) (f : β → β) :
    Map.get (Map.modify m k f) j = if k = j then (Map.get m j).map f else Map.get m j := by
  unfold Map.modify
  by_cases e : k = j
  · subst e
    rw [if_pos rfl]
    cases hk : Map.get m k with
    | none => exact hk
    | some v => exact Map.get_put_self ..
  · rw [if_neg e]
    cases Map.get m k with
    | none => rfl
    | some v => exact Map.get_put_of_ne _ _ e

end Sys2Proof

namespace Sys2Proof.Machine
open Sys2Proof

theorem State.op_modOp (s : State) (o r : Nat) (g : Op → Op) :
    (s.modOp o g).op r = if o = r then (s.op r).map g else s.op r :=
  Map.get_modify ..

theorem bit_eq_testBit (v i : Nat) : bit v i = v.testBit i := by
  rw [bit, Nat.testBit_eq_decide_div_mod_eq, beq_eq_decide]

theorem bit_setBits_apart (v x : Nat) {hi lo i : Nat} (h : lo ≤ hi) (hi' : i < lo ∨ hi < i) :
    bit (setBits v hi lo x) i = bit v i := by
  rw [bit_eq_testBit, bit_eq_testBit, testBit_setBits _ _ _ h, if_neg (by omega)]

theorem bit_setBits_one (v i : Nat) : bit (setBits v i i 1) i = true := by
  rw [bit_eq_testBit, testBit_setBits _ _ _ le_rfl, if_pos ⟨le_rfl, le_rfl⟩, Nat.sub_self]
  rfl

end Sys2Proof.Machine
end

section
/-! PROOFS. Mesh and die-to-die errors (R21, R25, R26): what the events, the journal and the falling links that end a
die-to-die port's service leave as it was. -/

namespace Sys2Proof.Machine
open Sys2Proof

/-- What posting events, journalling and taking links down leave: the board, and the registers below those of HBM, among
them the die-to-die register. -/
structure State.KeepsBoard (s t : State) : Prop where
  low : ∀ off, off < 0x200000 → t.rget off = s.rget off := by exact fun _ _ => rfl
  brd : t.brd = s.brd := by rfl

theorem State.KeepsBoard.refl (s : State) : s.KeepsBoard s := {}

section
variable {s u v : State}

theorem State.KeepsBoard.trans (h : s.KeepsBoard u) (h' : u.KeepsBoard v) : s.KeepsBoard v :=
  ⟨fun off ho => (h'.low off ho).trans (h.low off ho), h'.brd.trans h.brd⟩

theorem State.KeepsBoard.either {c : Prop} {_ : Decidable c} (h : s.KeepsBoard u) (h' : s.KeepsBoard v) :
    s.KeepsBoard (if c then u else v) := by
  split <;> assumption

theorem State.KeepsBoard.either_fst {α : Type} {c : Prop} {_ : Decidable c} {p q : State × α}
    (h : s.KeepsBoard p.1) (h' : s.KeepsBoard q.1) : s.KeepsBoard (if c then p else q).1 := by
  split <;> assumption

theorem State.KeepsBoard.either_snd {α : Type} {c : Prop} {_ : Decidable c} {p q : α × State}
    (h : s.KeepsBoard p.2) (h' : s.KeepsBoard q.2) : s.KeepsBoard (if c then p else q).2 := by
  split <;> assumption

theorem State.KeepsBoard.fold {α : Type} {l : List α} {op : State → α → State} (h : s.KeepsBoard u)
    (hop : ∀ v a, s.KeepsBoard v → s.KeepsBoard (op v a)) : s.KeepsBoard (l.foldl op u) :=
  List.foldlRecOn l op h fun _ hv a _ => hop _ a hv

theorem State.KeepsBoard.fst_eq {α : Type} {p : State × α} {a : α} (h : s.KeepsBoard p.1) (e : p = (v, a)) :
    s.KeepsBoard v := by
  rw [e] at h
  exact h

theorem State.KeepsBoard.snd_eq {α : Type} {p : α × State} {a : α} (h : s.KeepsBoard p.2) (e : p = (a, v)) :
    s.KeepsBoard v := by
  rw [e] at h
  exact h

theorem State.KeepsBoard.emit {e : Emit} (h : s.KeepsBoard u) : s.KeepsBoard (u.emit e) :=
  h.trans {}

theorem State.KeepsBoard.bump (h : s.KeepsBoard u) : s.KeepsBoard u.bump :=
  h.trans {}

theorem State.KeepsBoard.setFn {f : Nat} {x : FnState} (h : s.KeepsBoard u) : s.KeepsBoard (u.setFn f x) :=
  h.trans {}

theorem State.KeepsBoard.modQueue {q : Nat} {g : Queue → Queue} (h : s.KeepsBoard u) : s.KeepsBoard (u.modQueue q g) :=
  h.trans {}

theorem State.KeepsBoard.modSpoke {k : Nat} {g : Spoke → Spoke} (h : s.KeepsBoard u) : s.KeepsBoard (u.modSpoke k g) :=
  h.trans {}

theorem State.KeepsBoard.modOp {o : Nat} {g : Op → Op} (h : s.KeepsBoard u) : s.KeepsBoard (u.modOp o g) :=
  h.trans {}

theorem State.KeepsBoard.setConn {c : Nat} {k : Conn} (h : s.KeepsBoard u) : s.KeepsBoard (u.setConn c k) :=
  h.trans {}

theorem State.KeepsBoard.rput {off v : Nat} (h : s.KeepsBoard u) (hoff : 0x200000 ≤ off) :
    s.KeepsBoard (u.rput off v) :=
  ⟨fun o ho => (State.rget_rput_of_ne _ _ (by omega)).trans (h.low o ho), h.brd⟩

theorem State.KeepsBoard.rsat {off hi lo n : Nat} (h : s.KeepsBoard u) (hoff : 0x200000 ≤ off) :
    s.KeepsBoard (u.rsat off hi lo n) :=
  h.rput hoff

theorem State.KeepsBoard.uncorrectable {blk : Nat} (h : s.KeepsBoard u) : s.KeepsBoard (u.uncorrectable blk) :=
  .rsat (h.trans {}) (Nat.le_trans (by decide) (Nat.le_add_right 0x200200 _))

theorem State.KeepsBoard.hbmRead {a n : Nat} (h : s.KeepsBoard u) : s.KeepsBoard (u.hbmRead a n).1 :=
  .fold (h.trans {}) fun _ _ hv => hv.uncorrectable

theorem State.KeepsBoard.hitProt {g : Option Nat} {a n : Nat} (h : s.KeepsBoard u) :
    s.KeepsBoard (u.hitProt g a n) := by
  refine .either h (.rsat (.trans (List.foldlRecOn _ _ (motive := fun p : State × List Prot => s.KeepsBoard p.1) h
    fun v hv p _ => ?_) {}) (by decide))
  refine .either_fst hv ?_
  split
  · exact hv
  · exact hv.hbmRead

theorem State.KeepsBoard.hbmWrite {a : Nat} {d : Bytes} {ep : Bool} (h : s.KeepsBoard u) :
    s.KeepsBoard (u.hbmWrite a d ep) :=
  .fold (h.hitProt.trans {}) fun _ _ hv =>
    .either (hv.trans {}) (.either (hv.trans {}) (.either (hv.trans {}).uncorrectable (hv.trans {})))

theorem State.KeepsBoard.walk {spoke fn va n tbl : Nat} (h : s.KeepsBoard u) :
    s.KeepsBoard (u.walk spoke fn va n tbl).2 := by
  induction n generalizing u tbl with
  | zero => exact h
  | succ n ih =>
    unfold State.walk
    dsimp only
    exact .either_snd h (.either_snd h.hbmRead (.either_snd h.hbmRead
      (.either_snd (.either_snd h.hbmRead (ih h.hbmRead))
        (.either_snd h.hbmRead (.either_snd h.hbmRead h.hbmRead)))))

theorem State.KeepsBoard.atcAdd {e : AtcEntry} (h : s.KeepsBoard u) : s.KeepsBoard (u.atcAdd e) :=
  .either (h.trans {}) (h.trans {})

theorem State.KeepsBoard.translate {k va : Nat} {write : Bool} (h : s.KeepsBoard u) :
    s.KeepsBoard (u.translate k va write).2 := by
  unfold State.translate
  dsimp only
  split
  · exact h
  · refine .either_snd h (.either_snd h ?_)
    split
    · exact h
    · split
      next heq => exact h.walk.snd_eq heq
      next heq => exact (h.walk.snd_eq heq).atcAdd

theorem State.KeepsBoard.leafWrite {sp : Spoke} {leaf : Leaf} {d : Bytes} {ep : Bool} {ans : HostAns}
    (h : s.KeepsBoard u) :
    s.KeepsBoard (u.leafWrite sp leaf d ep ans).1 := by
  unfold State.leafWrite
  split
  · exact h.hbmWrite
  · split
    · exact h
    · exact .either_fst h (.either_fst h h.emit)
  · refine .either_fst h (.either_fst h (.either_fst h ?_))
    split
    · exact h
    · exact h
    · exact h.hitProt.emit

theorem State.KeepsBoard.spokeWriteLoop {k n va : Nat} {ep : Bool} {ans : HostAns} {d : Bytes} (h : s.KeepsBoard u) :
    s.KeepsBoard (u.spokeWriteLoop k ep ans n va d).1 := by
  induction n generalizing u va d with
  | zero => exact h
  | succ n ih =>
    unfold State.spokeWriteLoop
    dsimp only
    refine .either_fst h ?_
    split
    · exact h
    · split
      next heq => exact h.translate.snd_eq heq
      next heq => exact .either_fst (h.translate.snd_eq heq).leafWrite (ih (h.translate.snd_eq heq).leafWrite)

theorem State.KeepsBoard.spokeWrite {k va : Nat} {d : Bytes} {ep : Bool} {ans : HostAns} (h : s.KeepsBoard u) :
    s.KeepsBoard (u.spokeWrite k va d ep ans).1 :=
  h.spokeWriteLoop

theorem State.KeepsBoard.pageRequest {f : Nat} {pasid : Option Nat} {page : Nat} {w : Waiter} (h : s.KeepsBoard u) :
    s.KeepsBoard (u.pageRequest f pasid page w) :=
  .either (h.trans {}) (.either (.emit (h.trans {})) (h.trans {}))

theorem State.KeepsBoard.pageFor {k : Nat} {r : AccRes} {w : Waiter} (h : s.KeepsBoard u) :
    s.KeepsBoard (u.pageFor k r w) :=
  h.pageRequest

theorem State.KeepsBoard.interrupt {f v : Nat} (h : s.KeepsBoard u) : s.KeepsBoard (u.interrupt f v) :=
  .either (.either h.emit h.setFn) (.either (.either h.emit h.setFn) h)

theorem State.KeepsBoard.sample {cls since : Nat} (h : s.KeepsBoard u) : s.KeepsBoard (u.sample cls since) :=
  h.rsat (Nat.le_trans (by decide) (Nat.le_add_right_of_le (Nat.le_add_right 0xD02000 _)))

theorem State.KeepsBoard.sampleKind {k : QKind} {since : Option Nat} (h : s.KeepsBoard u) :
    s.KeepsBoard (u.sampleKind k since) := by
  unfold State.sampleKind
  split
  · exact h.sample
  · exact h

theorem State.KeepsBoard.writeEntry {ri : Nat} {r : Queue} {d : Due} {ans : HostAns} (h : s.KeepsBoard u) :
    s.KeepsBoard (u.writeEntry ri r d ans).1 := by
  unfold State.writeEntry
  dsimp only
  refine .either_fst (.either_fst h.spokeWrite.pageFor h.spokeWrite) ?_
  split
  · exact .trans (.sampleKind (.either h.spokeWrite.emit.modQueue.interrupt h.spokeWrite.emit.modQueue)) {}
  · exact .sampleKind (.either h.spokeWrite.emit.modQueue.interrupt h.spokeWrite.emit.modQueue)

theorem State.KeepsBoard.flushList {ri : Nat} {ans : HostAns} {l : List Due} (h : s.KeepsBoard u) :
    s.KeepsBoard (u.flushList ri ans l).1 := by
  induction l generalizing u with
  | nil => exact h
  | cons d l ih =>
    unfold State.flushList
    dsimp only
    split
    · exact h
    · refine .either_fst (ih h) ?_
      split
      next heq => exact ih (h.writeEntry.fst_eq heq)
      next heq => exact h.writeEntry.fst_eq heq
      next heq => exact h.writeEntry.fst_eq heq

theorem State.KeepsBoard.flushRing {ri : Nat} {ans : HostAns} (h : s.KeepsBoard u) :
    s.KeepsBoard (u.flushRing ri ans).1 := by
  unfold State.flushRing
  dsimp only
  split
  · exact h
  · exact .either h.flushList.modQueue.bump h.flushList.modQueue

theorem State.KeepsBoard.dropEvent {k : Nat} (h : s.KeepsBoard u) : s.KeepsBoard (u.dropEvent k) :=
  h.modSpoke

theorem State.KeepsBoard.postEvent {k code a b : Nat} {st : Status} {queue : Nat} (h : s.KeepsBoard u) :
    s.KeepsBoard (u.postEvent k code a b st queue) := by
  unfold State.postEvent
  dsimp only
  split
  · exact h.dropEvent
  · split
    · exact h.dropEvent
    · exact .either h.dropEvent h.modQueue.flushRing

theorem State.KeepsBoard.postPf0 {hier code a b : Nat} {st : Status} {queue : Nat} (h : s.KeepsBoard u) :
    s.KeepsBoard (u.postPf0 hier code a b st queue) := by
  unfold State.postPf0
  split
  · exact h.postEvent
  · exact h

theorem State.KeepsBoard.postBoth {code a b : Nat} {st : Status} (h : s.KeepsBoard u) :
    s.KeepsBoard (u.postBoth code a b st) :=
  h.postPf0.postPf0

theorem State.KeepsBoard.journal {type key : Nat} {del : Bool} {body : Bytes} {wait : Option JWait}
    (h : s.KeepsBoard u) :
    s.KeepsBoard (u.journal type key del body wait) :=
  h.trans {}

theorem State.KeepsBoard.crFault {code detail : Nat} (h : s.KeepsBoard u) : s.KeepsBoard (u.crFault code detail) :=
  .either (h.trans {}) (h.trans {})

theorem State.KeepsBoard.pldm {sensor st : Nat} (h : s.KeepsBoard u) : s.KeepsBoard (u.pldm sensor st) :=
  .either (h.trans {}) (h.trans {})

theorem State.KeepsBoard.finish {o : Nat} {st : Status} {n detail : Nat} (h : s.KeepsBoard u) :
    s.KeepsBoard (u.finish o st n detail) :=
  h.modOp

theorem State.KeepsBoard.failSends {sub : Nat} (h : s.KeepsBoard u) : s.KeepsBoard (u.failSends sub) :=
  .fold h fun _ _ hv => hv.finish

theorem State.KeepsBoard.xcount {k : Nat} (h : s.KeepsBoard u) : s.KeepsBoard (u.xcount k) :=
  h.rsat (Nat.le_trans (by decide) (Nat.le_add_right 0x500000 _))

theorem State.KeepsBoard.wireY {c : Nat} {k : Conn} {p : YPkt} {path : Nat} {psn : Option Nat} {ctl : Bool}
    (h : s.KeepsBoard u) : s.KeepsBoard (u.wireY c k p path psn ctl) :=
  h.trans {}

theorem State.KeepsBoard.resend {c psn : Nat} {avoid : Option Nat} (h : s.KeepsBoard u) :
    s.KeepsBoard (u.resend c psn avoid) := by
  unfold State.resend
  dsimp only
  split
  · exact h
  · split
    · exact h
    · split
      · exact h.setConn.xcount.wireY
      · exact h.setConn

theorem State.KeepsBoard.movePaths {sub : Nat} (h : s.KeepsBoard u) : s.KeepsBoard (u.movePaths sub) :=
  .fold h fun _ _ hv => .either hv (.fold hv fun _ _ hv1 => hv1.resend)

theorem State.KeepsBoard.linkDown {sub : Nat} (h : s.KeepsBoard u) : s.KeepsBoard (u.linkDown sub) :=
  .either h (.movePaths (.failSends (h.trans {})))

theorem State.KeepsBoard.holdPairDown {i : Nat} (h : s.KeepsBoard u) : s.KeepsBoard (u.holdPairDown i) :=
  .fold h fun _ _ hv => hv.linkDown

end

/-! ### A die-to-die port -/

theorem State.retireTray_rget (s : State) (cause : Nat) : (s.retireTray cause).rget aD2d = s.rget aD2d := by
  unfold State.retireTray
  extract_lets old new v w
  have h : (s.rput aRetire new).KeepsBoard (((w.crFault 0x0030 new).pldm 32 2).bump) :=
    (State.KeepsBoard.refl _).journal.postBoth.crFault.pldm.bump
  rw [apply_ite (State.rget · aD2d), h.low _ (by decide), State.rget_rput_of_ne _ _ (by decide), ite_self]

theorem State.retireTray_brd (s : State) (cause : Nat) : (s.retireTray cause).brd = s.brd := by
  unfold State.retireTray
  extract_lets old new v w
  have h : (s.rput aRetire new).KeepsBoard (((w.crFault 0x0030 new).pldm 32 2).bump) :=
    (State.KeepsBoard.refl _).journal.postBoth.crFault.pldm.bump
  rw [apply_ite State.brd, h.brd]
  exact ite_self _

/-- A port that goes out of service sets its bit of the die-to-die register and no other. -/
theorem State.d2dFail_rget (s : State) (link port : Nat) :
    (s.d2dFail link port).rget aD2d = setBits (s.rget aD2d) (8 * link + port) (8 * link + port) 1 := by
  unfold State.d2dFail
  extract_lets v
  have hv : v.rget aD2d = setBits (s.rget aD2d) (8 * link + port) (8 * link + port) 1 :=
    (State.retireTray_rget ..).trans (State.rget_rput_self ..)
  rw [apply_ite (State.rget · aD2d), (State.KeepsBoard.refl v).holdPairDown.low _ (by decide), ite_self, hv]

theorem State.d2dFail_brd (s : State) (link port : Nat) : (s.d2dFail link port).brd = s.brd := by
  unfold State.d2dFail
  extract_lets v
  have hv : v.brd = s.brd := State.retireTray_brd ..
  rw [apply_ite State.brd, (State.KeepsBoard.refl v).holdPairDown.brd, ite_self, hv]

section
variable {s : State} {link port : Nat}

theorem State.d2dReplay_down {failed : Bool} (h : s.d2dDown link port = true) : s.d2dReplay link port failed = s :=
  if_pos (.inr (.inr h))

/-- R25: the state after a replay on a port in service has counted it. -/
def State.replayed (s : State) (fails : Map Nat) : State := { s.rsat aD2d 47 16 1 with brd.d2dFails := fails }

theorem State.d2dReplay_success (hlink : link < 2) (hport : port < 8) (h : s.d2dDown link port = false) :
    s.d2dReplay link port false = s.replayed (Map.erase s.brd.d2dFails (8 * link + port)) :=
  if_neg (by simp [h]; omega)

theorem State.d2dReplay_failure (hlink : link < 2) (hport : port < 8) (h : s.d2dDown link port = false) :
    s.d2dReplay link port true =
      let n := (Map.get s.brd.d2dFails (8 * link + port)).getD 0 + 1
      let u := s.replayed (Map.put s.brd.d2dFails (8 * link + port) n)
      if 8 ≤ n then u.d2dFail link port else u :=
  if_neg (by simp [h]; omega)

theorem State.replayed_rget (fails : Map Nat) :
    (s.replayed fails).rget aD2d = setBits (s.rget aD2d) 47 16 (satAdd 32 (s.rfield aD2d 47 16) 1) :=
  State.rget_rput_self ..

theorem State.replayed_count (fails : Map Nat) :
    (s.replayed fails).rfield aD2d 47 16 = min (s.rfield aD2d 47 16 + 1) (2 ^ 32 - 1) := by
  rw [State.rfield, State.replayed_rget, bits_setBits_self _ _ (by decide), satAdd]
  exact Nat.mod_eq_of_lt (Nat.lt_of_le_of_lt (Nat.min_le_right ..) (by decide))

theorem State.replayed_d2dDown (hlink : link < 2) (hport : port < 8) (fails : Map Nat) :
    (s.replayed fails).d2dDown link port = s.d2dDown link port := by
  rw [State.d2dDown, State.replayed_rget, bit_setBits_apart _ _ (by decide) (by omega), ← State.d2dDown]

theorem State.d2dFail_count (hlink : link < 2) (hport : port < 8) :
    (s.d2dFail link port).rfield aD2d 47 16 = s.rfield aD2d 47 16 := by
  rw [State.rfield, State.d2dFail_rget, bits_setBits_apart _ _ le_rfl (by omega), ← State.rfield]

theorem State.d2dFail_d2dDown : (s.d2dFail link port).d2dDown link port = true := by
  rw [State.d2dDown, State.d2dFail_rget, bit_setBits_one]

end

/-- Settles O2: the die-to-die register and the count of failures after a replay are the ones `replayed` counts,
and what else ends a port's service keeps the board and the low registers (`KeepsBoard`). -/
theorem laneAndReplayErrorsAreCounted : Obligations.LaneAndReplayErrorsAreCounted := by
  unfold Obligations.LaneAndReplayErrorsAreCounted
  refine ⟨fun s o => rfl, ?_, ?_, ?_⟩
  · intro s o x hx hphase
    refine ⟨_, rfl, rfl, ?_, fun r hr => ?_, rfl⟩
    · refine (State.op_modOp ..).trans ((if_pos rfl).trans ?_)
      show Option.map _ (s.op o) = _
      rw [hx, Option.map_some, if_neg (by simpa using hphase)]
    · exact (State.op_modOp ..).trans (if_neg hr.symm)
  · intro s link port failed hlink hport hdown
    refine ⟨_, rfl, ?_⟩
    cases failed with
    | false =>
      rw [State.d2dReplay_success hlink hport hdown]
      exact ⟨State.replayed_count _, fun _ => rfl, nofun, (State.replayed_d2dDown hlink hport _).trans hdown⟩
    | true =>
      rw [State.d2dReplay_failure hlink hport hdown]
      extract_lets n u
      have hcount : u.rfield aD2d 47 16 = min (s.rfield aD2d 47 16 + 1) (2 ^ 32 - 1) := State.replayed_count _
      have hfails : Map.get u.brd.d2dFails (8 * link + port) = some n := Map.get_put_self ..
      rw [Bool.true_and]
      split
      next hn =>
        exact ⟨(State.d2dFail_count hlink hport).trans hcount, nofun, fun _ => by rw [State.d2dFail_brd, hfails],
          State.d2dFail_d2dDown.trans (decide_eq_true (Nat.le_of_succ_le_succ hn)).symm⟩
      next hn =>
        exact ⟨hcount, nofun, fun _ => hfails, ((State.replayed_d2dDown hlink hport _).trans hdown).trans
          (decide_eq_false fun h7 => hn (Nat.succ_le_succ h7)).symm⟩
  · intro s link port failed hdown
    exact congrArg Host.Outcome.next (State.d2dReplay_down hdown)

end Sys2Proof.Machine
end

section
/-! PROOFS. Snapshots (R33 to R36): what a launch records of every unit, and what it leaves. -/

namespace Sys2Proof.Machine
open Sys2Proof

theorem State.record_frame (s : State) (i : Nat) :
    s.record i = { s with regs := (s.record i).regs, freeCtr := (s.record i).freeCtr } := by
  unfold State.record
  split
  · rfl
  · split <;> rfl

theorem State.record_rget_of_ne (s : State) {i off : Nat} (h : aTimeRec + 8 * i ≠ off) :
    (s.record i).rget off = s.rget off := by
  unfold State.record
  split
  · rfl
  · split
    · exact State.rget_rput_of_ne _ _ h
    · exact State.rget_rput_of_ne _ _ h

theorem State.record_rget_of_dark {s : State} {i : Nat} (hi : i < 116) (h : s.unitDark i = true) :
    (s.record i).rget (aTimeRec + 8 * i) = 2 ^ 64 - 1 := by
  unfold State.record
  rw [if_neg (by omega), if_pos h]
  exact State.rget_rput_self ..

theorem State.record_rget_lt (s : State) {i : Nat} (hi : i < 116) :
    (s.record i).rget (aTimeRec + 8 * i) < 2 ^ 64 := by
  unfold State.record
  rw [if_neg (by omega)]
  split
  · rw [State.rget_rput_self]
    decide
  · dsimp only
    rw [State.rget_rput_self]
    exact Nat.mod_lt _ (by decide)

/-- What the records of the first `n` units leave and hold. -/
structure State.Recorded (s : State) (n : Nat) (t : State) : Prop where
  frame : t = { s with regs := t.regs, freeCtr := t.freeCtr }
  apart : ∀ off, off < aTimeRec ∨ aTimeRec + 8 * n ≤ off → t.rget off = s.rget off
  dark : ∀ i, i < n → i < 116 → s.unitDark i = true → t.rget (aTimeRec + 8 * i) = 2 ^ 64 - 1
  bound : ∀ i, i < n → i < 116 → t.rget (aTimeRec + 8 * i) < 2 ^ 64

/-- Whether a unit is dark rests on nothing that a record changes. -/
theorem State.Recorded.unitDark {s t : State} {n : Nat} (h : s.Recorded n t) (hn : n ≤ 128) (i : Nat) :
    t.unitDark i = s.unitDark i := by
  have hrole : ∀ q, t.portRole q = s.portRole q := fun q => by
    rw [State.portRole, State.rfield, h.apart _ (.inr (by unfold aTimeRec aCtlCfg; omega)), ← State.rfield,
      ← State.portRole]
  rw [State.unitDark, hrole, h.frame]
  rfl

theorem State.recorded (s : State) {n : Nat} (hn : n ≤ 128) : s.Recorded n ((List.range n).foldl State.record s) := by
  induction n with
  | zero => exact ⟨rfl, fun _ _ => rfl, nofun, nofun⟩
  | succ n ih =>
    have h := ih (by omega)
    rw [List.range_succ, List.foldl_append, List.foldl_cons, List.foldl_nil]
    generalize (List.range n).foldl State.record s = t at h
    refine ⟨?_, fun off hoff => ?_, fun i hi hu hdark => ?_, fun i hi hu => ?_⟩
    · refine (t.record_frame n).trans ?_
      rw [h.frame]
    · exact (State.record_rget_of_ne _ (by omega)).trans (h.apart off (by omega))
    · rcases Nat.lt_succ_iff_lt_or_eq.1 hi with hlt | rfl
      · exact (State.record_rget_of_ne _ (by omega)).trans (h.dark i hlt hu hdark)
      · exact State.record_rget_of_dark hu ((h.unitDark (by omega) i).trans hdark)
    · rcases Nat.lt_succ_iff_lt_or_eq.1 hi with hlt | rfl
      · rw [State.record_rget_of_ne _ (by omega)]
        exact h.bound i hlt hu
      · exact State.record_rget_lt _ hu

/-- The end of a launch and of a snapshot: SEQ rises by one and BUSY is set or cleared. -/
theorem State.snapNext_rset_rget (s : State) (b : Nat) : (s.snapNext.rset aTimeSnap 1 1 b).rget aTimeSnap =
    setBits (setBits (s.rget aTimeSnap) 63 32 (s.rfield aTimeSnap 63 32 + 1)) 1 1 b := by
  rw [State.rset, State.rget_rput_self, State.snapNext, State.rset, State.rget_rput_self]

theorem State.snapNext_rset_busy (s : State) {b : Nat} (hb : b < 2) :
    (s.snapNext.rset aTimeSnap 1 1 b).rfield aTimeSnap 1 1 = b := by
  rw [State.rfield, State.snapNext_rset_rget, bits_setBits_self _ _ le_rfl]
  exact Nat.mod_eq_of_lt hb

theorem State.snapNext_rset_seq (s : State) (b : Nat) : (s.snapNext.rset aTimeSnap 1 1 b).rfield aTimeSnap 63 32 =
    (s.rfield aTimeSnap 63 32 + 1) % 2 ^ 32 := by
  rw [State.rfield, State.snapNext_rset_rget, bits_setBits_apart _ _ le_rfl (by decide),
    bits_setBits_self _ _ (by decide)]

theorem State.snapNext_rset_rget_of_ne (s : State) (b : Nat) {off : Nat} (h : off ≠ aTimeSnap) :
    (s.snapNext.rset aTimeSnap 1 1 b).rget off = s.rget off :=
  (State.rget_rput_of_ne _ _ h.symm).trans (State.rget_rput_of_ne _ _ h.symm)

/-- The launch of a snapshot, when none is in progress. -/
theorem State.snapshot_launches {s : State} (h : s.rfield aTimeSnap 1 1 ≠ 1) :
    ∃ t, ({ s with brd.snapLaunch := s.now } : State).Recorded 128 t ∧
      s.snapshot = t.snapNext.rset aTimeSnap 1 1 1 :=
  ⟨_, State.recorded _ le_rfl, if_neg h⟩

/-- Settles O3: a launch is the records of all units, each in a register of its own (`Recorded`), and the rise of
SEQ. -/
theorem snapshotsRecordEveryUnit : Obligations.SnapshotsRecordEveryUnit := by
  unfold Obligations.SnapshotsRecordEveryUnit
  refine ⟨?_, ?_, ?_, ?_, ?_, ?_⟩
  · intro s hidle
    obtain ⟨t, ht, hlaunch⟩ := State.snapshot_launches (s := s) (by omega)
    refine ⟨s.snapshot, rfl, ?_⟩
    rw [hlaunch]
    have hother : ∀ i, (t.snapNext.rset aTimeSnap 1 1 1).rget (aTimeRec + 8 * i) = t.rget (aTimeRec + 8 * i) :=
      fun _ => t.snapNext_rset_rget_of_ne 1 (by unfold aTimeRec aTimeSnap; omega)
    refine ⟨t.snapNext_rset_busy (by decide), ?_, fun i hi hdark => ?_, fun i hi => ?_, ?_, ?_⟩
    · rw [t.snapNext_rset_seq, State.rfield, ht.apart _ (.inl (by decide))]
      rfl
    · exact (hother i).trans (ht.dark i (by omega) hi hdark)
    · exact (hother i).symm ▸ ht.bound i (by omega) hi
    · rw [ht.frame]
      rfl
    · rw [ht.frame]
      rfl
  · intro s hbusy
    exact congrArg Host.Outcome.next (if_pos hbusy)
  · intro s hon hperiod
    exact congrArg Host.Outcome.next (if_pos ⟨hon, hperiod⟩)
  · intro s hon hperiod
    refine ⟨s.snapshot, congrArg Host.Outcome.next (if_pos ⟨hon, hperiod⟩), ?_⟩
    split
    next hbusy => exact if_pos hbusy
    next hidle =>
      obtain ⟨t, _, hlaunch⟩ := State.snapshot_launches hidle
      rw [hlaunch]
      exact t.snapNext_rset_busy (by decide)
  · intro s hoff
    exact congrArg Host.Outcome.next (if_neg fun ⟨hon, hperiod⟩ => hoff.elim (by omega) hperiod)
  · intro s hbusy
    exact ⟨_, congrArg Host.Outcome.next (if_pos hbusy), s.snapNext_rset_busy (by decide), s.snapNext_rset_seq 0,
      fun off h => s.snapNext_rset_rget_of_ne 0 h, rfl⟩

end Sys2Proof.Machine
end

section
/-! PROOFS. Ethernet links (R26, R210, R214, R215): what a falling link and a port's COMMIT leave, and how the sends of
a fallen link end. -/

namespace Sys2Proof

theorem Map.mem_of_get {β : Type} {m : List (Nat × β)} {k : Nat} {v : β} (h : Map.get m k = some v) : (k, v) ∈ m := by
  induction m with
  | nil => cases h
  | cons x t ih =>
    rw [Map.get] at h
    split at h
    next e =>
      cases h
      exact List.mem_cons.2 (.inl (by rw [← e]))
    next => exact List.mem_cons_of_mem _ (ih h)

theorem mem_setDel {l : List Nat} {k u : Nat} : u ∈ setDel l k ↔ u ∈ l ∧ u ≠ k := by
  simp [setDel]

theorem setDel_of_not_mem {l : List Nat} {k : Nat} (h : k ∉ l) : setDel l k = l :=
  List.filter_eq_self.2 fun u hu => by simpa using ne_of_mem_of_not_mem hu h

end Sys2Proof

namespace Sys2Proof.Machine
open Sys2Proof

/-! ### The sends of a fallen link -/

theorem State.op_finish (s : State) (o r : Nat) (st : Status) (n detail : Nat) :
    (s.finish o st n detail).op r = if o = r then (s.op r).map fun x => if x.phase == .done then x else
      { x with phase := .done, status := st, bytes := n, detail := detail } else s.op r :=
  State.op_modOp ..

/-- R215: how an operation ends whose link went down. -/
def Op.retriedLater (x : Op) : Prop := x.phase = .done ∧ x.status = .retryLater ∧ x.bytes = 0

/-- The operations that wait for a link, ended. -/
def State.retryLater (s : State) (l : List (Nat × Op)) : State := l.foldl (fun s x => s.finish x.1 .retryLater 0 0) s

theorem State.retryLater_keeps {l : List (Nat × Op)} {s : State} {o : Nat} {x : Op} (hx : s.op o = some x)
    (hdone : x.phase = .done) : (s.retryLater l).op o = some x :=
  List.foldlRecOn l _ (motive := fun s : State => s.op o = some x) hx fun t ht a _ => by
    rw [State.op_finish, ht, Option.map_some, hdone]
    exact ite_self _

/-- An operation among those that wait ends as the first of them with its key does. -/
theorem State.retryLater_ends {l : List (Nat × Op)} {s : State} {o : Nat} {x : Op} (hx : s.op o = some x)
    (hphase : x.phase ≠ .done) (hmem : o ∈ l.map Prod.fst) : ∃ y, (s.retryLater l).op o = some y ∧ y.retriedLater := by
  induction l generalizing s with
  | nil => cases hmem
  | cons a l ih =>
    show ∃ y, ((s.finish a.1 .retryLater 0 0).retryLater l).op o = some y ∧ y.retriedLater
    have hop := s.op_finish a.1 o .retryLater 0 0
    by_cases e : a.1 = o
    · rw [if_pos e, hx, Option.map_some, if_neg (by simpa using hphase)] at hop
      exact ⟨_, State.retryLater_keeps hop rfl, rfl, rfl, rfl⟩
    · rw [if_neg e] at hop
      exact ih (hop.trans hx) ((List.mem_cons.1 hmem).resolve_left fun h => e h.symm)

theorem State.retryLater_frame (s : State) (l : List (Nat × Op)) :
    s.retryLater l = { s with host.ops := (s.retryLater l).host.ops } :=
  List.foldlRecOn l _ (motive := fun t : State => t = { s with host.ops := t.host.ops }) rfl fun t ht a _ => by
    rw [ht]
    rfl

/-! ### A falling link -/

/-- What links going down change: the operations that waited, the links that are up and the frames that wait. -/
structure State.LinksFell (s t : State) : Prop where
  eq : t = { s with host.ops := t.host.ops, net.up := t.net.up, sch.xpt := t.sch.xpt }

theorem State.movePaths_of_no_conns {s : State} (sub : Nat) (h : s.xpt.conns = []) : s.movePaths sub = s := by
  rw [State.movePaths, h, List.foldl_nil]

/-- Without connections, a link that goes down ends the sends that wait for it. -/
theorem State.linkDown_of_no_conns {s : State} {sub : Nat} (hup : sub ∈ s.net.up) (h : s.xpt.conns = []) :
    ∃ t, s.linkDown sub = State.failSends { s with net.up := setDel s.net.up sub, sch.xpt := t } sub := by
  refine ⟨_, (if_neg (by simpa using hup)).trans (State.movePaths_of_no_conns _ ?_)⟩
  rw [State.failSends, ← State.retryLater, State.retryLater_frame]
  exact h

theorem State.linkDown_fell {s : State} (sub : Nat) (h : s.xpt.conns = []) :
    s.LinksFell (s.linkDown sub) ∧ (s.linkDown sub).net.up = setDel s.net.up sub := by
  by_cases hup : sub ∈ s.net.up
  · obtain ⟨t, ht⟩ := State.linkDown_of_no_conns hup h
    rw [ht, State.failSends, ← State.retryLater, State.retryLater_frame]
    exact ⟨⟨rfl⟩, rfl⟩
  · have hs : s.linkDown sub = s := if_pos (by simpa using hup)
    rw [hs, setDel_of_not_mem hup]
    exact ⟨⟨rfl⟩, rfl⟩

theorem State.linksDown_fell {s : State} (f : Nat → Nat) (l : List Nat) (h : s.xpt.conns = []) :
    s.LinksFell (l.foldl (fun s j => s.linkDown (f j)) s) ∧
      ∀ u, u ∈ (l.foldl (fun s j => s.linkDown (f j)) s).net.up ↔ u ∈ s.net.up ∧ ∀ j ∈ l, u ≠ f j := by
  induction l generalizing s with
  | nil => exact ⟨⟨rfl⟩, fun u => ⟨fun hu => ⟨hu, nofun⟩, And.left⟩⟩
  | cons j l ih =>
    obtain ⟨⟨hs⟩, hup⟩ := s.linkDown_fell (f j) h
    obtain ⟨⟨ht⟩, hmem⟩ := ih (s := s.linkDown (f j)) (by rw [hs]; exact h)
    refine ⟨⟨?_⟩, fun u => ?_⟩
    · rw [List.foldl_cons]
      refine ht.trans ?_
      rw [hs]
    · rw [List.foldl_cons, hmem, hup, mem_setDel, List.forall_mem_cons, and_assoc]

/-! ### COMMIT of a port -/

/-- What clearing the buffers of a port leaves: the links and the configuration of port `i`. -/
structure State.KeepsPort (i : Nat) (s t : State) : Prop where
  up : t.net.up = s.net.up := by rfl
  cfg : t.rget (aPortCfg i) = s.rget (aPortCfg i) := by rfl

section
variable {i : Nat} {s u v : State}

theorem State.KeepsPort.trans (h : State.KeepsPort i s u) (h' : State.KeepsPort i u v) : State.KeepsPort i s v :=
  ⟨h'.up.trans h.up, h'.cfg.trans h.cfg⟩

theorem State.KeepsPort.fold {α : Type} {l : List α} {op : State → α → State} (h : State.KeepsPort i s u)
    (hop : ∀ v a, State.KeepsPort i s v → State.KeepsPort i s (op v a)) : State.KeepsPort i s (l.foldl op u) :=
  List.foldlRecOn l op h fun _ hv a _ => hop _ a hv

/-- The drop counters lie beyond the port registers. -/
theorem State.KeepsPort.dropCount {sub k : Nat} (hi : i < 8) (h : State.KeepsPort i s u) :
    State.KeepsPort i s (u.dropCount sub k) :=
  h.trans { cfg := State.rget_rsat_of_ne _ _ _ _ (by unfold aDrop aPortCfg; omega) }

theorem State.KeepsPort.discardPort {j : Nat} (hi : i < 8) (h : State.KeepsPort i s u) :
    State.KeepsPort i s (u.discardPort j) := by
  unfold State.discardPort
  extract_lets mine a v w ours fw x
  have hx : State.KeepsPort i s x := .fold (.fold (.fold h fun v k hv => .dropCount hi (hv.trans {}))
    fun _ _ hv => hv.dropCount hi) fun _ _ hv => .fold hv fun _ _ hw => hw.dropCount hi
  clear_value x
  exact hx.trans {}

theorem State.KeepsPort.restartUnits {l : List Nat} (h : State.KeepsPort i s u) :
    State.KeepsPort i s (u.restartUnits l) :=
  h.trans {}

end

theorem State.foldl_emit {α : Type} (s : State) (f : α → Emit) (l : List α) :
    l.foldl (fun s a => s.emit (f a)) s = { s with out := s.out ++ l.map f } := by
  induction l generalizing s with
  | nil => rw [List.foldl_nil, List.map_nil, List.append_nil]
  | cons a l ih => rw [List.foldl_cons, ih, List.map_cons, State.emit, List.append_assoc, List.singleton_append]

/-- R214: an accepted COMMIT of port `i`. -/
theorem State.portCommit_accepted {s : State} {i : Nat} (hi : i < 8) (hlow : 1518 ≤ bits (s.rget (aPortCfg i)) 21 8)
    (hhigh : bits (s.rget (aPortCfg i)) 21 8 ≤ 9216) (hqueues : s.host.queues = []) (hconns : s.xpt.conns = []) :
    Map.get (s.portCommit i).net.mode i = some (setBits (setBits (s.rget (aPortCfg i)) 6 6 0) 63 22 0) ∧
      (∀ u, u ∈ (s.portCommit i).net.up ↔ u ∈ s.net.up ∧ u / 4 ≠ i) ∧
      (∀ j, j < modeSubports (bits (s.rget (aPortCfg i)) 1 0) → .trained (4 * i + j) ∈ (s.portCommit i).out) ∧
      (s.portCommit i).rget (aPortCfg i) = s.rget (aPortCfg i) := by
  unfold State.portCommit
  extract_lets v mode gone w x _ y
  have hgone : gone = false := by
    unfold gone
    rw [hqueues, List.any_nil]
  rw [if_neg (not_or.2 ⟨Nat.not_lt.2 hlow, not_or.2 ⟨Nat.not_lt.2 hhigh, by rw [hgone]; decide⟩⟩), State.foldl_emit]
  obtain ⟨⟨hw⟩, hmem⟩ : s.LinksFell w ∧ ∀ u, u ∈ w.net.up ↔ u ∈ s.net.up ∧ ∀ j ∈ List.range 4, u ≠ 4 * i + j :=
    State.linksDown_fell (4 * i + ·) (List.range 4) hconns
  have hcfg : w.rget (aPortCfg i) = s.rget (aPortCfg i) := by
    rw [hw]
    rfl
  have hx : State.KeepsPort i w x := .restartUnits (.discardPort hi {})
  clear_value x
  refine ⟨Map.get_put_self x.net.mode i _, fun u => ?_, fun j hj => ?_, hx.cfg.trans hcfg⟩
  · show u ∈ x.net.up ↔ _
    rw [hx.up]
    refine (hmem u).trans (and_congr_right fun _ => ⟨fun h e => ?_, fun h j hj => ?_⟩)
    · exact h (u % 4) (List.mem_range.2 (Nat.mod_lt _ (by decide))) (by omega)
    · have := List.mem_range.1 hj
      omega
  · exact List.mem_append_right _ (List.mem_map.2 ⟨j, List.mem_range.2 hj, rfl⟩)

/-- Settles O29: links that fall change only the operations, the links that are up and the frames that wait
(`State.LinksFell`); a COMMIT adds the mode and the trained links (`State.portCommit_accepted`), and each send that
waited for the link ends as `State.retryLater_ends` says. -/
theorem linksAndPortCommitMoveTheirSubports : Obligations.LinksAndPortCommitMoveTheirSubports := by
  unfold Obligations.LinksAndPortCommitMoveTheirSubports
  refine ⟨?_, ?_, ?_, ?_, ?_⟩
  · intro s i hi hframe
    refine congrArg Host.Outcome.next ?_
    rw [Nat.mod_eq_of_lt hi]
    exact if_pos (hframe.imp_right .inl)
  · intro s i hi hlow hhigh hqueues hconns
    refine ⟨s.portCommit i, congrArg (Host.Outcome.next ∘ s.portCommit) (Nat.mod_eq_of_lt hi), ?_⟩
    obtain ⟨hmode, hup, hout, hcfg⟩ := State.portCommit_accepted hi hlow hhigh hqueues hconns
    refine ⟨hmode, fun j hj hmem => ?_, fun u hu hne => (hup u).2 ⟨hu, hne⟩, hout, hcfg⟩
    exact ((hup _).1 hmem).2 (by omega)
  · intro s sub hup hconns
    obtain ⟨xpt, hfall⟩ := State.linkDown_of_no_conns hup hconns
    refine ⟨_, congrArg Host.Outcome.next hfall, ?_⟩
    rw [State.failSends, ← State.retryLater]
    refine ⟨?_, fun o x q hx hposted hphase hq hkind hsub => ?_, ?_, ?_, ?_⟩
    · rw [State.retryLater_frame]
    · refine State.retryLater_ends hx (by rw [hphase]; decide) (List.mem_map.2 ⟨(o, x), ?_, rfl⟩)
      refine List.mem_filter.2 ⟨Map.mem_of_get hx, ?_⟩
      have hq' : State.queue { s with net.up := setDel s.net.up sub, sch.xpt := xpt } x.queue = some q := hq
      simp [hposted, hphase, hq', hkind, hsub]
    · rw [State.retryLater_frame]
    · rw [State.retryLater_frame]
    · rw [State.retryLater_frame]
  · intro s sub hrise hconns
    refine congrArg Host.Outcome.next ?_
    unfold State.linkRise
    rw [hrise, if_neg (by decide)]
    dsimp only
    rw [hconns]
    rfl
  · intro s sub hrise
    exact congrArg Host.Outcome.next (if_pos (by rw [hrise]; rfl))

end Sys2Proof.Machine
end

section
/-! PROOFS. What every step keeps: each operation of the model takes a state to one that it may become. -/

namespace Sys2Proof.Machine
open Sys2Proof

-- One lemma after another: so many short ones, each in a thread of its own, outgrow the memory of a check.
set_option Elab.async false

/-- A change of the fuses is told by what it touches; what it leaves is kept. -/
theorem Fuses.kept_of {a b : Fuses} (hserial : b.serial = a.serial := by rfl)
    (hanchor : b.fwAnchor = a.fwAnchor := by rfl) (hrevoke : b.fwRevoke = a.fwRevoke := by rfl)
    (hstandby : a.svnStandby ≤ b.svnStandby := by exact Nat.le_refl _)
    (hroot : a.svnRoot ≤ b.svnRoot := by exact Nat.le_refl _)
    (hservice : a.svnService ≤ b.svnService := by exact Nat.le_refl _)
    (hdebug : ∀ i, bit a.dbgRevoke i = true → bit b.dbgRevoke i = true := by exact fun _ h => h)
    (hdisable : a.pwdDisable = true → b.pwdDisable = true := by exact fun h => h)
    (hlock : a.customerLock = true → b.customerLock = true := by exact fun h => h)
    (hhash : a.pwdHash.any (· != 0) = true → b.pwdHash = a.pwdHash := by exact fun _ => rfl)
    (hanchors : ∀ i x, Map.get a.dbgAnchor i = some x → x.any (· != 0) = true → Map.get b.dbgAnchor i = some x :=
      by exact fun _ _ h _ => h) : a.kept b :=
  ⟨hserial, hanchor, hrevoke, hstandby, hroot, hservice, hdebug, hdisable, hlock, hhash, hanchors⟩

theorem Fuses.kept_refl (a : Fuses) : a.kept a := kept_of

theorem Fuses.kept.trans {a b c : Fuses} (h : a.kept b) (h' : b.kept c) : a.kept c := by
  obtain ⟨hserial, hanchor, hrevoke, hstandby, hroot, hservice, hdebug, hdisable, hlock, hhash, hanchors⟩ := h
  obtain ⟨hserial', hanchor', hrevoke', hstandby', hroot', hservice', hdebug', hdisable', hlock', hhash',
    hanchors'⟩ := h'
  refine ⟨hserial'.trans hserial, hanchor'.trans hanchor, hrevoke'.trans hrevoke, hstandby.trans hstandby',
    hroot.trans hroot', hservice.trans hservice', fun i hi => hdebug' i (hdebug i hi), hdisable' ∘ hdisable,
    hlock' ∘ hlock, fun hset => ?_, fun i x hx hset => hanchors' i x (hanchors i x hx hset) hset⟩
  rw [← hhash hset]
  exact hhash' (by rwa [hhash hset])

theorem Fuses.kept_setAnchor {a : Fuses} {i : Nat} {v : Bytes}
    (h : ((Map.get a.dbgAnchor i).getD []).any (· != 0) = false) :
    a.kept { a with dbgAnchor := Map.put a.dbgAnchor i v } := by
  refine kept_of (hanchors := fun j x hx hset => ?_)
  have hne : i ≠ j := by
    rintro rfl
    rw [hx, Option.getD_some, hset] at h
    cases h
  exact (Map.get_put_of_ne _ _ hne).trans hx

theorem Fuses.kept_setHash {a : Fuses} {v : Bytes} (h : a.pwdHash.any (· != 0) = false) :
    a.kept { a with pwdHash := v } :=
  kept_of (hhash := fun hset => (Bool.false_ne_true (h.symm.trans hset)).elim)

theorem Fuses.kept_revoke {a : Fuses} {m : Nat} : a.kept { a with dbgRevoke := a.dbgRevoke ||| m } := by
  refine kept_of (hdebug := fun i hi => ?_)
  rw [bit_eq_testBit] at hi ⊢
  rw [Nat.testBit_or, hi, Bool.true_or]

/-- What every operation of the model keeps on the way from `s` to `t`: the commands that wait, the time that has passed
(R30) and what was sent (log entry 1, DESIGN CHOICE), what the fuses hold (R491, R492), and the canonical form of the
sparse tables and of HBM.  Each lemma below carries it over one operation: `h.rput.emit` reaches
`(u.rput off v).emit e` from a proof `h` that reaches `u`. -/
structure State.Evolves (s t : State) : Prop where
  pending : t.pending = s.pending := by rfl
  now : s.now ≤ t.now := by exact Nat.le_refl _
  out : s.out <+: t.out := by exact List.prefix_rfl
  fuses : s.sec.fuses.kept t.sec.fuses := by exact Fuses.kept_refl _
  hbm : Memory.wf s.mem.hbm → Memory.wf t.mem.hbm := by exact fun w => w
  regs : Map.wf s.regs → Map.wf t.regs := by exact fun w => w
  fns : Map.wf s.host.fns → Map.wf t.host.fns := by exact fun w => w
  ports : Map.wf s.host.ports → Map.wf t.host.ports := by exact fun w => w
  spokes : Map.wf s.host.spokes → Map.wf t.host.spokes := by exact fun w => w
  queues : Map.wf s.host.queues → Map.wf t.host.queues := by exact fun w => w
  ops : Map.wf s.host.ops → Map.wf t.host.ops := by exact fun w => w
  reqs : Map.wf s.host.reqs → Map.wf t.host.reqs := by exact fun w => w
  counters : Map.wf s.trg.counters → Map.wf t.trg.counters := by exact fun w => w
  entries : Map.wf s.trg.entries → Map.wf t.trg.entries := by exact fun w => w

theorem State.Evolves.refl (s : State) : s.Evolves s := {}

section
variable {s u v t : State}
theorem State.Evolves.trans (h : s.Evolves u) (h' : u.Evolves v) : s.Evolves v where
  pending := h'.pending.trans h.pending
  now := h.now.trans h'.now
  out := h.out.trans h'.out
  fuses := h.fuses.trans h'.fuses
  hbm := h'.hbm ∘ h.hbm
  regs := h'.regs ∘ h.regs
  fns := h'.fns ∘ h.fns
  ports := h'.ports ∘ h.ports
  spokes := h'.spokes ∘ h.spokes
  queues := h'.queues ∘ h.queues
  ops := h'.ops ∘ h.ops
  reqs := h'.reqs ∘ h.reqs
  counters := h'.counters ∘ h.counters
  entries := h'.entries ∘ h.entries

theorem State.Evolves.either {c : Prop} {_ : Decidable c} (h : s.Evolves u) (h' : s.Evolves v) :
    s.Evolves (if c then u else v) := by
  split <;> assumption

theorem State.Evolves.either_fst {α : Type} {c : Prop} {_ : Decidable c} {p q : State × α}
    (h : s.Evolves p.1) (h' : s.Evolves q.1) :
    s.Evolves (if c then p else q).1 := by
  split <;> assumption

theorem State.Evolves.either_snd {α : Type} {c : Prop} {_ : Decidable c} {p q : α × State}
    (h : s.Evolves p.2) (h' : s.Evolves q.2) :
    s.Evolves (if c then p else q).2 := by
  split <;> assumption

theorem State.Evolves.either_st {c : Prop} {_ : Decidable c} {p q : Reply}
    (h : s.Evolves p.st) (h' : s.Evolves q.st) :
    s.Evolves (if c then p else q).st := by
  split <;> assumption

theorem State.Evolves.fold {α : Type} {l : List α} {op : State → α → State} (h : s.Evolves u)
    (hop : ∀ v a, s.Evolves v → s.Evolves (op v a)) : s.Evolves (l.foldl op u) :=
  List.foldlRecOn l op h fun _ hv a _ => hop _ a hv

theorem State.Evolves.fold_fst {α β : Type} {l : List α} {op : State × β → α → State × β} {b : β}
    (h : s.Evolves u) (hop : ∀ v a, s.Evolves v.1 → s.Evolves (op v a).1) :
    s.Evolves (l.foldl op (u, b)).1 :=
  List.foldlRecOn l op (motive := fun p => s.Evolves p.1) h fun _ hv a _ => hop _ a hv

theorem State.Evolves.fst_eq {α : Type} {p : State × α} {a : α} (h : s.Evolves p.1) (e : p = (v, a)) :
    s.Evolves v := by
  rw [e] at h
  exact h

theorem State.Evolves.snd_eq {α : Type} {p : α × State} {a : α} (h : s.Evolves p.2) (e : p = (a, v)) :
    s.Evolves v := by
  rw [e] at h
  exact h

/-- Every state that an outcome goes on to is one that `s` may become. -/
def State.Leads (s : State) (o : Outcome) : Prop := ∀ t, o = .next t → s.Evolves t

theorem State.Leads.next (h : s.Evolves t) : s.Leads (.next t) := fun _ e => by
  cases e
  exact h

theorem State.Leads.either {c : Prop} {_ : Decidable c} {o p : Outcome} (h : s.Leads o) (h' : s.Leads p) :
    s.Leads (if c then o else p) := by
  split <;> assumption

theorem State.Evolves.withFreeCtr {x : Nat} (h : s.Evolves u) : s.Evolves { u with freeCtr := x } :=
  h.trans {}

theorem State.Evolves.withNet {x : NetState} (h : s.Evolves u) : s.Evolves { u with net := x } :=
  h.trans {}

theorem State.Evolves.withSch {x : SchState} (h : s.Evolves u) : s.Evolves { u with sch := x } :=
  h.trans {}

theorem State.Evolves.withXpt {x : XptState} (h : s.Evolves u) : s.Evolves { u with xpt := x } :=
  h.trans {}

theorem State.Evolves.withStr {x : StrState} (h : s.Evolves u) : s.Evolves { u with str := x } :=
  h.trans {}

theorem State.Evolves.withNvme {x : NvmeState} (h : s.Evolves u) : s.Evolves { u with nvme := x } :=
  h.trans {}

theorem State.Evolves.withCkp {x : CkpState} (h : s.Evolves u) : s.Evolves { u with ckp := x } :=
  h.trans {}

theorem State.Evolves.withFwm {x : FwmState} (h : s.Evolves u) : s.Evolves { u with fwm := x } :=
  h.trans {}

theorem State.Evolves.withPwr {x : PwrState} (h : s.Evolves u) : s.Evolves { u with pwr := x } :=
  h.trans {}

theorem State.Evolves.withBrd {x : Board} (h : s.Evolves u) : s.Evolves { u with brd := x } :=
  h.trans {}

theorem State.Evolves.withTel {x : TelState} (h : s.Evolves u) : s.Evolves { u with tel := x } :=
  h.trans {}

theorem State.Evolves.withMem {x : MemState} (h : s.Evolves u)
    (hx : Memory.wf u.mem.hbm → Memory.wf x.hbm := by exact fun w => w) : s.Evolves { u with mem := x } :=
  h.trans { hbm := hx }

theorem State.Evolves.withSec {x : SecState} (h : s.Evolves u)
    (hx : u.sec.fuses.kept x.fuses := by exact Fuses.kept_refl _) : s.Evolves { u with sec := x } :=
  h.trans { fuses := hx }

/-! ### Operations of the state and of HBM -/

theorem State.Evolves.emit {e : Emit} (h : s.Evolves u) : s.Evolves (u.emit e) :=
  h.trans { out := List.prefix_append .. }

theorem State.Evolves.emits {l : List Emit} (h : s.Evolves u) : s.Evolves (u.emits l) :=
  h.trans { out := List.prefix_append .. }

theorem State.Evolves.draw {w : Nat} (h : s.Evolves u) : s.Evolves (u.draw w).2 :=
  h.withFreeCtr

theorem State.Evolves.drawBytes {n : Nat} (h : s.Evolves u) : s.Evolves (u.drawBytes n).2 := by
  unfold State.drawBytes
  dsimp only
  exact h.draw

theorem State.Evolves.bump (h : s.Evolves u) : s.Evolves u.bump :=
  h.trans {}

theorem State.Evolves.rput {off v : Nat} (h : s.Evolves u) : s.Evolves (u.rput off v) :=
  h.trans { regs := Map.put_wf _ _ _ }

theorem State.Evolves.rset {off hi lo v : Nat} (h : s.Evolves u) : s.Evolves (u.rset off hi lo v) :=
  h.rput

theorem State.Evolves.rsat {off hi lo n : Nat} (h : s.Evolves u) : s.Evolves (u.rsat off hi lo n) :=
  h.rset

theorem State.Evolves.rreset {doms : List Domain} (h : s.Evolves u) : s.Evolves (u.rreset doms) :=
  h.trans { regs := Map.filter_wf _ _ }

theorem State.Evolves.sample {cls since : Nat} (h : s.Evolves u) : s.Evolves (u.sample cls since) :=
  h.rsat

theorem State.Evolves.badAccess {kind f : Nat} (h : s.Evolves u) : s.Evolves (u.badAccess kind f) :=
  h.rsat.rset.rset.rset

theorem State.Evolves.setFn {f : Nat} {x : FnState} (h : s.Evolves u) : s.Evolves (u.setFn f x) :=
  h.trans { fns := Map.put_wf _ _ _ }

theorem State.Evolves.modFn {f : Nat} {g : FnState → FnState} (h : s.Evolves u) : s.Evolves (u.modFn f g) :=
  h.setFn

theorem State.Evolves.setPort {q : Nat} {x : Port} (h : s.Evolves u) : s.Evolves (u.setPort q x) :=
  h.trans { ports := Map.put_wf _ _ _ }

theorem State.Evolves.modPort {q : Nat} {g : Port → Port} (h : s.Evolves u) : s.Evolves (u.modPort q g) :=
  h.setPort

theorem State.Evolves.modSpoke {k : Nat} {g : Spoke → Spoke} (h : s.Evolves u) : s.Evolves (u.modSpoke k g) :=
  h.trans { spokes := Map.modify_wf _ _ _ }

theorem State.Evolves.setQueue {q : Nat} {x : Queue} (h : s.Evolves u) : s.Evolves (u.setQueue q x) :=
  h.trans { queues := Map.put_wf _ _ _ }

theorem State.Evolves.modQueue {q : Nat} {g : Queue → Queue} (h : s.Evolves u) : s.Evolves (u.modQueue q g) :=
  h.trans { queues := Map.modify_wf _ _ _ }

theorem State.Evolves.modOp {o : Nat} {g : Op → Op} (h : s.Evolves u) : s.Evolves (u.modOp o g) :=
  h.trans { ops := Map.modify_wf _ _ _ }

theorem State.Evolves.uncorrectable {blk : Nat} (h : s.Evolves u) : s.Evolves (u.uncorrectable blk) :=
  h.withMem.rsat

theorem State.Evolves.hbmRead {a n : Nat} (h : s.Evolves u) : s.Evolves (u.hbmRead a n).1 :=
  .fold h.withMem fun _ _ hv => hv.uncorrectable

theorem State.Evolves.hitProt {g : Option Nat} {a n : Nat} (h : s.Evolves u) : s.Evolves (u.hitProt g a n) := by
  unfold State.hitProt
  refine .either h (.rsat ((fold_fst h fun v p hv => ?_).trans {}))
  dsimp only
  refine .either_fst hv ?_
  split
  · exact hv
  · exact hv.hbmRead

theorem State.Evolves.hbmWrite {a : Nat} {d : Bytes} {ep : Bool} (h : s.Evolves u) :
    s.Evolves (u.hbmWrite a d ep) := by
  unfold State.hbmWrite
  exact .fold (h.hitProt.trans { hbm := Memory.wf_writeBytes _ _ _ }) fun _ _ hv =>
    .either (hv.trans {}) (.either (hv.trans {}) (.either (hv.trans {}).uncorrectable (hv.trans {})))

theorem State.Evolves.walk {spoke fn va n tbl : Nat} (h : s.Evolves u) :
    s.Evolves (u.walk spoke fn va n tbl).2 := by
  induction n generalizing u tbl with
  | zero => exact h
  | succ n ih =>
    unfold State.walk
    dsimp only
    exact .either_snd h (.either_snd h.hbmRead (.either_snd h.hbmRead
      (.either_snd (.either_snd h.hbmRead (ih h.hbmRead))
        (.either_snd h.hbmRead (.either_snd h.hbmRead h.hbmRead)))))

theorem State.Evolves.atcAdd {e : AtcEntry} (h : s.Evolves u) : s.Evolves (u.atcAdd e) := by
  unfold State.atcAdd
  dsimp only
  exact .either (h.trans {}) (h.draw.trans {})

theorem State.Evolves.translate {k va : Nat} {write : Bool} (h : s.Evolves u) :
    s.Evolves (u.translate k va write).2 := by
  unfold State.translate
  dsimp only
  split
  · exact h
  · refine .either_snd h (.either_snd h ?_)
    split
    · exact h
    · split
      next heq => exact h.walk.snd_eq heq
      next heq => exact (h.walk.snd_eq heq).atcAdd

theorem State.Evolves.leafWrite {sp : Spoke} {leaf : Leaf} {d : Bytes} {ep : Bool} {ans : HostAns} (h : s.Evolves u) :
    s.Evolves (u.leafWrite sp leaf d ep ans).1 := by
  unfold State.leafWrite
  split
  · exact h.hbmWrite
  · split
    · exact h
    · exact .either_fst h (.either_fst h h.emit)
  · refine .either_fst h (.either_fst h (.either_fst h ?_))
    split
    · exact h
    · exact h
    · exact h.hitProt.emit

theorem State.Evolves.spokeWriteLoop {k n va : Nat} {ep : Bool} {ans : HostAns} {d : Bytes} (h : s.Evolves u) :
    s.Evolves (u.spokeWriteLoop k ep ans n va d).1 := by
  induction n generalizing u va d with
  | zero => exact h
  | succ n ih =>
    unfold State.spokeWriteLoop
    dsimp only
    refine .either_fst h ?_
    split
    · exact h
    · split
      next heq => exact h.translate.snd_eq heq
      next heq => exact .either_fst (h.translate.snd_eq heq).leafWrite (ih (h.translate.snd_eq heq).leafWrite)

theorem State.Evolves.spokeWrite {k va : Nat} {d : Bytes} {ep : Bool} {ans : HostAns} (h : s.Evolves u) :
    s.Evolves (u.spokeWrite k va d ep ans).1 :=
  h.spokeWriteLoop

theorem State.Evolves.leafRead {sp : Spoke} {leaf : Leaf} {n off : Nat} {ans : HostAns} (h : s.Evolves u) :
    s.Evolves (u.leafRead sp leaf n off ans).1 := by
  unfold State.leafRead
  dsimp only
  split
  · exact h.hbmRead
  · split
    · exact h
    · refine .either_fst h (.either_fst h ?_)
      split <;> exact h
  · refine .either_fst h (.either_fst h (.either_fst h ?_))
    split
    · exact h
    · exact .either_fst h h
    · exact h

theorem State.Evolves.spokeReadLoop {k fuel va n off : Nat} {ans : HostAns} (h : s.Evolves u) :
    s.Evolves (u.spokeReadLoop k ans fuel va n off).1 := by
  induction fuel generalizing u va n off with
  | zero => exact h
  | succ fuel ih =>
    unfold State.spokeReadLoop
    dsimp only
    refine .either_fst h ?_
    split
    · exact h
    · split
      next heq => exact h.translate.snd_eq heq
      next heq => exact .either_fst (h.translate.snd_eq heq).leafRead (ih (h.translate.snd_eq heq).leafRead)

theorem State.Evolves.spokeRead {k va n : Nat} {ans : HostAns} (h : s.Evolves u) :
    s.Evolves (u.spokeRead k va n ans).1 :=
  h.spokeReadLoop

theorem State.Evolves.pageRequest {f : Nat} {pasid : Option Nat} {page : Nat} {w : Waiter} (h : s.Evolves u) :
    s.Evolves (u.pageRequest f pasid page w) :=
  .either (h.trans {}) (.either (.emit (h.trans {})) (h.trans {}))

theorem State.Evolves.pageFor {k : Nat} {r : AccRes} {w : Waiter} (h : s.Evolves u) : s.Evolves (u.pageFor k r w) :=
  h.pageRequest

/-! ### Queues, entries and completions -/

theorem State.Evolves.interrupt {f v : Nat} (h : s.Evolves u) : s.Evolves (u.interrupt f v) :=
  .either (.either h.emit h.setFn) (.either (.either h.emit h.setFn) h)

theorem State.Evolves.sendHeld {f : Nat} (h : s.Evolves u) : s.Evolves (u.sendHeld f) :=
  .either h (.either h.setFn.emits (.either h.setFn.emits h))

theorem State.Evolves.sampleKind {k : QKind} {since : Option Nat} (h : s.Evolves u) :
    s.Evolves (u.sampleKind k since) := by
  unfold State.sampleKind
  split
  · exact h.sample
  · exact h

theorem State.Evolves.writeEntry {ri : Nat} {r : Queue} {d : Due} {ans : HostAns} (h : s.Evolves u) :
    s.Evolves (u.writeEntry ri r d ans).1 := by
  unfold State.writeEntry
  dsimp only
  refine .either_fst (.either_fst h.spokeWrite.pageFor h.spokeWrite) ?_
  split
  · exact .trans (.sampleKind (.either h.spokeWrite.emit.modQueue.interrupt h.spokeWrite.emit.modQueue)) {}
  · exact .sampleKind (.either h.spokeWrite.emit.modQueue.interrupt h.spokeWrite.emit.modQueue)

theorem State.Evolves.flushList {ri : Nat} {ans : HostAns} {l : List Due} (h : s.Evolves u) :
    s.Evolves (u.flushList ri ans l).1 := by
  induction l generalizing u with
  | nil => exact h
  | cons d l ih =>
    unfold State.flushList
    dsimp only
    split
    · exact h
    · refine .either_fst (ih h) ?_
      split
      next heq => exact ih (h.writeEntry.fst_eq heq)
      next heq => exact h.writeEntry.fst_eq heq
      next heq => exact h.writeEntry.fst_eq heq

theorem State.Evolves.flushRing {ri : Nat} {ans : HostAns} (h : s.Evolves u) : s.Evolves (u.flushRing ri ans).1 := by
  unfold State.flushRing
  dsimp only
  split
  · exact h
  · exact .either h.flushList.modQueue.bump h.flushList.modQueue

theorem State.Evolves.dropEvent {k : Nat} (h : s.Evolves u) : s.Evolves (u.dropEvent k) :=
  h.modSpoke

theorem State.Evolves.postEvent {k code a b : Nat} {st : Status} {queue : Nat} (h : s.Evolves u) :
    s.Evolves (u.postEvent k code a b st queue) := by
  unfold State.postEvent
  dsimp only
  split
  · exact h.dropEvent
  · split
    · exact h.dropEvent
    · exact .either h.dropEvent h.modQueue.flushRing

theorem State.Evolves.postPf0 {hier code a b : Nat} {st : Status} {queue : Nat} (h : s.Evolves u) :
    s.Evolves (u.postPf0 hier code a b st queue) := by
  unfold State.postPf0
  split
  · exact h.postEvent
  · exact h

theorem State.Evolves.postBoth {code a b : Nat} {st : Status} (h : s.Evolves u) : s.Evolves (u.postBoth code a b st) :=
  h.postPf0.postPf0

theorem State.Evolves.queueError {qi : Nat} {st : Status} {idx : Nat} (h : s.Evolves u) :
    s.Evolves (u.queueError qi st idx) := by
  unfold State.queueError
  dsimp only
  split
  · exact h
  · exact h.modQueue.bump.postEvent

theorem State.Evolves.flush {ri : Nat} {ans : HostAns} (h : s.Evolves u) : s.Evolves (u.flush ri ans) := by
  unfold State.flush
  split
  next heq => exact h.flushRing.fst_eq heq
  next v1 _ heq =>
    have hv1 : s.Evolves v1 := h.flushRing.fst_eq heq
    split
    · exact hv1.postEvent
    · exact hv1

theorem State.Evolves.flushFn {f : Nat} (h : s.Evolves u) : s.Evolves (u.flushFn f) :=
  .fold h fun _ _ hv => hv.flush

theorem State.Evolves.setCounter {c : Nat} {x : Counter} (h : s.Evolves u) : s.Evolves (u.setCounter c x) :=
  h.trans { counters := Map.put_wf _ _ _ }

theorem State.Evolves.setEntry {key : Nat} {e : TrigEntry} (h : s.Evolves u) : s.Evolves (u.setEntry key e) :=
  h.trans { entries := Map.put_wf _ _ _ }

theorem State.Evolves.mirrorWrite {c : Nat} {ans : HostAns} (h : s.Evolves u) : s.Evolves (u.mirrorWrite c ans) := by
  unfold State.mirrorWrite
  dsimp only
  split
  · exact h
  · exact .either h (.either h.setCounter (.either (.either h.spokeWrite.setCounter.interrupt h.spokeWrite.setCounter)
      (.postEvent (.either h.spokeWrite.setCounter.interrupt h.spokeWrite.setCounter))))

theorem State.Evolves.counterIrq {c : Nat} {ans : HostAns} (h : s.Evolves u) : s.Evolves (u.counterIrq c ans) := by
  unfold State.counterIrq
  dsimp only
  split
  · exact h
  · exact .either (.interrupt (.mirrorWrite (.either h.setCounter h))) (.mirrorWrite (.either h.setCounter h))

theorem State.Evolves.finish {o : Nat} {st : Status} {n detail : Nat} (h : s.Evolves u) :
    s.Evolves (u.finish o st n detail) :=
  h.modOp

theorem State.Evolves.release {key n : Nat} (h : s.Evolves u) : s.Evolves (u.release key n) := by
  induction n generalizing u with
  | zero => exact h
  | succ n ih =>
    unfold State.release
    dsimp only
    split
    · exact h
    · refine .either h ?_
      split
      · exact h
      · exact ih h.setEntry.modOp

theorem State.Evolves.entryFail {key : Nat} {st : Status} (h : s.Evolves u) : s.Evolves (u.entryFail key st) := by
  unfold State.entryFail
  dsimp only
  split
  · exact h
  · exact .either h (.postEvent (.fold h.setEntry fun _ _ hv => hv.finish))

theorem State.Evolves.addCredits {key n : Nat} (h : s.Evolves u) : s.Evolves (u.addCredits key n) := by
  unfold State.addCredits
  dsimp only
  split
  · exact h
  · exact h.setEntry.release

theorem State.Evolves.refuseUpdate (h : s.Evolves u) : s.Evolves u.refuseUpdate :=
  h.trans {}

theorem State.Evolves.counterFail {c : Nat} {st : Status} (h : s.Evolves u) : s.Evolves (u.counterFail c st) := by
  unfold State.counterFail
  dsimp only
  split
  · exact h
  · exact .either h (.fold h.setCounter.postEvent fun _ _ hv => hv.entryFail)

theorem State.Evolves.counterAdd {c n : Nat} {ans : HostAns} (h : s.Evolves u) : s.Evolves (u.counterAdd c n ans) := by
  unfold State.counterAdd
  dsimp only
  split
  · exact h
  · exact .counterIrq (.fold h.setCounter fun _ _ hv => hv.addCredits)

theorem State.Evolves.applyUpdate {u' : CntUpdate} {ans : HostAns} (h : s.Evolves u) :
    s.Evolves (u.applyUpdate u' ans) := by
  unfold State.applyUpdate
  split
  · exact h.refuseUpdate
  · refine .either h.refuseUpdate ?_
    split
    · exact h.counterFail.mirrorWrite
    · exact h.counterAdd

theorem State.Evolves.sendUpdate {u' : CntUpdate} (h : s.Evolves u) : s.Evolves (u.sendUpdate u') :=
  h.trans {}

theorem State.Evolves.thawMirrors {f : Nat} (h : s.Evolves u) : s.Evolves (u.thawMirrors f) :=
  .fold h fun _ _ hv => hv.mirrorWrite

theorem State.Evolves.startOp {o : Nat} (h : s.Evolves u) : s.Evolves (u.startOp o) := by
  unfold State.startOp
  dsimp only
  split
  · exact h
  · split
    · exact h
    · refine .either h.finish (.either ?_ h.modOp)
      split
      · exact h.finish
      · exact .either h.finish (.either h.finish (.either h.finish h.modOp.setEntry.release))

theorem State.Evolves.startFenced {q : Nat} (h : s.Evolves u) : s.Evolves (u.startFenced q) := by
  unfold State.startFenced
  split
  · split
    · exact .either h.startOp h
    · exact h
  · exact h

theorem State.Evolves.unhold {o : Nat} (h : s.Evolves u) : s.Evolves (u.unhold o) :=
  h.trans { entries := fun w => Map.wf_map w }

theorem State.Evolves.retire {o : Nat} {ans : HostAns} (h : s.Evolves u) : s.Evolves (u.retire o ans) := by
  unfold State.retire
  dsimp only
  split
  · exact h
  · refine .either h ?_
    split
    · exact h.trans { ops := Map.erase_wf _ _ }
    · refine .startFenced ?_
      split
      · exact .flush (.modQueue (h.trans { ops := Map.erase_wf _ _ }))
      · split
        · exact .sendUpdate (.sampleKind (h.trans { ops := Map.erase_wf _ _ }))
        · exact .sampleKind (h.trans { ops := Map.erase_wf _ _ })

theorem State.Evolves.parkOp {o va k : Nat} {r : AccRes} (h : s.Evolves u) : s.Evolves (u.parkOp o va k r) :=
  h.modOp.pageFor

theorem State.Evolves.abandonOp {o : Nat} (h : s.Evolves u) : s.Evolves (u.abandonOp o) := by
  refine h.unhold.trans { ops := Map.erase_wf _ _, reqs := fun w => Map.wf_map w fun x => ?_ }
  obtain ⟨t, r⟩ := x
  dsimp only
  split <;> rfl

theorem State.Evolves.pruneNodes (h : s.Evolves u) : s.Evolves u.pruneNodes :=
  h.withSch

theorem State.Evolves.destroyQueue {q : Nat} (h : s.Evolves u) : s.Evolves (u.destroyQueue q).1 := by
  have hops : s.Evolves ((u.opsOf q).foldl State.abandonOp u) := .fold h fun _ _ hv => hv.abandonOp
  exact (hops.trans { queues := fun w => Map.wf_map (Map.erase_wf _ _ w) }).pruneNodes.bump

theorem State.Evolves.freezeFn {f : Nat} (h : s.Evolves u) : s.Evolves (u.freezeFn f) := by
  refine .bump (h.trans { queues := fun w => Map.wf_map w fun x => ?_ })
  dsimp only
  split <;> rfl

/-! ### Counters, the journal and events -/

theorem State.Evolves.restartUnits {l : List Nat} (h : s.Evolves u) : s.Evolves (u.restartUnits l) :=
  h.withBrd

theorem State.Evolves.journal {type key : Nat} {del : Bool} {body : Bytes} {wait : Option JWait} (h : s.Evolves u) :
    s.Evolves (u.journal type key del body wait) :=
  h.withFwm

theorem State.Evolves.setAlert (h : s.Evolves u) : s.Evolves u.setAlert :=
  h.withTel

theorem State.Evolves.pldm {sensor st : Nat} (h : s.Evolves u) : s.Evolves (u.pldm sensor st) :=
  .either h.withTel.setAlert.emit h.withTel.setAlert

theorem State.Evolves.crSend {type seq : Nat} {body : Bytes} (h : s.Evolves u) : s.Evolves (u.crSend type seq body) :=
  .either h.emit h

theorem State.Evolves.crFault {code detail : Nat} (h : s.Evolves u) : s.Evolves (u.crFault code detail) :=
  h.withPwr.crSend

theorem State.Evolves.retireTray {cause : Nat} (h : s.Evolves u) : s.Evolves (u.retireTray cause) :=
  .either h h.rput.journal.postBoth.crFault.pldm.bump

theorem State.Evolves.addRepair {r : Repair} (h : s.Evolves u) : s.Evolves (u.addRepair r) :=
  .either h (.either h.rsat.retireTray h.withMem.journal)

theorem State.Evolves.hbmReport (h : s.Evolves u) : s.Evolves u.hbmReport := by
  unfold State.hbmReport
  dsimp only
  split
  · exact h
  · exact .either (.retireTray (.fold (h.trans {}) fun _ _ hv => hv.addRepair))
      (.fold (h.trans {}) fun _ _ hv => hv.addRepair)

theorem State.Evolves.logTo {h' src sev kind code : Nat} {args : List Nat} (h : s.Evolves u) :
    s.Evolves (u.logTo h' src sev kind code args) := by
  unfold State.logTo
  dsimp only
  split
  · exact h
  · exact .either h (.either h.rsat (.either h.emit.withFwm.rset.interrupt h.emit.withFwm.rset))

theorem State.Evolves.log {src sev kind code : Nat} {args : List Nat} (h : s.Evolves u) :
    s.Evolves (u.log src sev kind code args) :=
  h.logTo.logTo

theorem State.Evolves.excludePeer {c cause : Nat} (h : s.Evolves u) : s.Evolves (u.excludePeer c cause) := by
  unfold State.excludePeer
  dsimp only
  split
  · exact h
  · split
    · exact h
    · exact .either h h.withPwr.postEvent

theorem State.Evolves.measure {i type version svn : Nat} {d : Bytes} (h : s.Evolves u) :
    s.Evolves (u.measure i type version svn d) :=
  h.withSec

theorem State.Evolves.setService {v : Nat} {x : Service} (h : s.Evolves u) : s.Evolves (u.setService v x) :=
  h.withFwm

/-! ### The mailbox -/

theorem State.Evolves.respond {f : Nat} {st : Status} {payload : Bytes} {async : Bool} (h : s.Evolves u) :
    s.Evolves (u.respond f st payload async) :=
  .either h.setFn.sample.interrupt h.setFn.sample

theorem State.Evolves.answer {f : Nat} {st : Status} {p : Bytes} {async : Option Nat} (h : s.Evolves u) :
    s.Evolves (u.answer f st p async) := by
  unfold State.answer
  dsimp only
  refine .either h ?_
  split
  · exact h.respond
  · exact .respond (h.trans {})

theorem State.Evolves.journalAll {w : JWait} {l : List (Nat × Nat × Bool × Bytes)} (h : s.Evolves u) :
    s.Evolves (u.journalAll w l) := by
  induction l generalizing u with
  | nil => exact h
  | cons a l ih =>
    cases l with
    | nil => exact h.journal
    | cons b l => exact ih h.journal

theorem State.Evolves.perform {f opc : Nat} {body : Bytes → State → Reply} (h : s.Evolves u)
    (hbody : ∀ p v, s.Evolves v → s.Evolves (body p v).st) :
    s.Evolves (u.perform f opc body) :=
  .either h (.either (hbody _ _ h) (.either ((hbody _ _ h).journalAll) ((hbody _ _ h).answer)))

theorem State.Evolves.asyncDone {p : AsyncCmd → Bool} {st : Status} (h : s.Evolves u) :
    s.Evolves (u.asyncDone p st) := by
  unfold State.asyncDone
  dsimp only
  refine .fold (h.trans {}) fun v _ hv => ?_
  split
  · exact hv.postEvent
  · exact hv

/-! ### Counters and triggers -/

theorem State.Evolves.counterAlloc {f : Nat} {p : Bytes} (h : s.Evolves u) : s.Evolves (u.counterAlloc f p).st := by
  unfold State.counterAlloc
  dsimp only [Reply.ok, Reply.err]
  split
  · exact h
  · refine .either_st h (.either_st h ?_)
    split
    · exact h
    · exact h.setCounter

theorem State.Evolves.counterFree {f : Nat} {p : Bytes} (h : s.Evolves u) : s.Evolves (u.counterFree f p).st := by
  unfold State.counterFree
  dsimp only [Reply.ok, Reply.err]
  split
  · exact h
  · exact .either_st h (h.trans { counters := Map.erase_wf _ _ })

theorem State.Evolves.counterSet {f : Nat} {p : Bytes} (h : s.Evolves u) : s.Evolves (u.counterSet f p).st := by
  unfold State.counterSet
  dsimp only [Reply.ok, Reply.err]
  split
  · exact h
  · exact .either_st h (.either_st h (.counterIrq (.setCounter (.either h.interrupt h))))

theorem State.Evolves.counterAddCmd {f : Nat} {p : Bytes} (h : s.Evolves u) : s.Evolves (u.counterAddCmd f p).st := by
  unfold State.counterAddCmd
  dsimp only [Reply.ok, Reply.err]
  split
  · exact h
  · exact .either_st h (.either_st h h.counterAdd)

theorem State.Evolves.counterRead {f : Nat} {p : Bytes} (h : s.Evolves u) : s.Evolves (u.counterRead f p).st := by
  unfold State.counterRead
  dsimp only [Reply.ok, Reply.err]
  split
  · exact h
  · exact .either_st h h

theorem State.Evolves.counterUpdate {ans : HostAns} (h : s.Evolves u) : s.Evolves (u.counterUpdate ans) := by
  unfold State.counterUpdate
  split
  · exact h
  · exact .applyUpdate (h.trans {})

theorem State.Evolves.mirrorFailed {c : Nat} {st : Status} (h : s.Evolves u) : s.Evolves (u.mirrorFailed c st) := by
  unfold State.mirrorFailed
  dsimp only
  split
  · exact h
  · exact .either h (.postEvent (.either h.setCounter.interrupt h.setCounter))

theorem State.Evolves.triggerBind {f : Nat} {p : Bytes} (h : s.Evolves u) : s.Evolves (u.triggerBind f p).st := by
  unfold State.triggerBind
  dsimp only [Reply.ok, Reply.err]
  exact .either_st h (.either_st h (.either_st h h.setEntry))

theorem State.Evolves.unbind {key : Nat} (h : s.Evolves u) : s.Evolves (u.unbind key) := by
  unfold State.unbind
  dsimp only
  split
  · exact h
  · exact .fold (h.trans { entries := Map.erase_wf _ _ }) fun _ _ hv => hv.finish

theorem State.Evolves.triggerUnbind {f : Nat} {p : Bytes} (h : s.Evolves u) : s.Evolves (u.triggerUnbind f p).st := by
  unfold State.triggerUnbind
  dsimp only [Reply.ok, Reply.err]
  split
  · exact h
  · exact .either_st h h.unbind

theorem State.Evolves.triggerReset {f : Nat} {p : Bytes} (h : s.Evolves u) : s.Evolves (u.triggerReset f p).st := by
  unfold State.triggerReset
  dsimp only [Reply.ok, Reply.err]
  split
  · exact h
  · exact .either_st h h.setEntry

theorem State.Evolves.triggerMessage {spoke t : Nat} {st : Status} (h : s.Evolves u) :
    s.Evolves (u.triggerMessage spoke t st) := by
  unfold State.triggerMessage
  dsimp only
  split
  · exact h.trans {}
  · exact .either (.sendUpdate (.either h h.setEntry)) (.either h.addCredits h.entryFail)

theorem State.Evolves.freeTrg {k : Nat} (h : s.Evolves u) : s.Evolves (u.freeTrg k) :=
  .trans (.fold h fun _ _ hv => hv.unbind) { counters := Map.filter_wf _ _ }

end
end Sys2Proof.Machine
end

section
/-! PROOFS. What every step keeps: storage and checkpoints. -/

namespace Sys2Proof.Machine
open Sys2Proof

-- One lemma after another: so many short ones, each in a thread of its own, outgrow the memory of a check.
set_option Elab.async false

section
variable {s u : State}

/-! ### NVMe: controllers -/

theorem State.Evolves.setCtrl {c : Nat} {x : Ctrl} (h : s.Evolves u) : s.Evolves (u.setCtrl c x) :=
  h.withNvme

theorem State.Evolves.modCtrl {c : Nat} {g : Ctrl → Ctrl} (h : s.Evolves u) : s.Evolves (u.modCtrl c g) :=
  h.withNvme

theorem State.Evolves.setSpace {n : Nat} {x : Namespace} (h : s.Evolves u) : s.Evolves (u.setSpace n x) :=
  h.withNvme

theorem State.Evolves.modSpace {n : Nat} {g : Namespace → Namespace} (h : s.Evolves u) : s.Evolves (u.modSpace n g) :=
  h.withNvme

theorem State.Evolves.modCmd {i : Nat} {g : NvCmd → NvCmd} (h : s.Evolves u) : s.Evolves (u.modCmd i g) :=
  h.withNvme

theorem State.Evolves.nvWrite {x : Ctrl} {va : Nat} {d : Bytes} {ans : HostAns} (h : s.Evolves u) :
    s.Evolves (u.nvWrite x va d ans).1 := by
  unfold State.nvWrite
  split
  · exact h.spokeWrite
  · exact h.leafWrite

theorem State.Evolves.nvRead {x : Ctrl} {va n off : Nat} {ans : HostAns} (h : s.Evolves u) :
    s.Evolves (u.nvRead x va n off ans).1 := by
  unfold State.nvRead
  split
  · exact h.spokeReadLoop
  · exact h.leafRead

theorem State.Evolves.nvFlushLoop {c q n : Nat} {ans : HostAns} (h : s.Evolves u) :
    s.Evolves (u.nvFlushLoop c q ans n) := by
  induction n generalizing u with
  | zero => exact h
  | succ n ih =>
    unfold State.nvFlushLoop
    dsimp only
    split
    · split
      · exact h
      · exact .either h (.either h.nvWrite.modCtrl
          (ih (.either (.interrupt (h.nvWrite.trans {})) (h.nvWrite.trans {}))))
    · exact h

theorem State.Evolves.nvFlush {c q : Nat} {ans : HostAns} (h : s.Evolves u) : s.Evolves (u.nvFlush c q ans) := by
  unfold State.nvFlush
  split
  · exact h.nvFlushLoop
  · exact h

theorem State.Evolves.nvPost {c sq cid dw0 status : Nat} {ans : HostAns} (h : s.Evolves u) :
    s.Evolves (u.nvPost c sq cid dw0 status ans) := by
  unfold State.nvPost
  dsimp only
  split
  · exact h
  · exact h.withNvme.nvFlush

theorem State.Evolves.nvEvent {c type info log bitNo : Nat} (h : s.Evolves u) :
    s.Evolves (u.nvEvent c type info log bitNo) := by
  unfold State.nvEvent
  dsimp only
  split
  · exact h
  · refine .either h ?_
    split
    · exact h.modCtrl
    · exact h.modCtrl.nvPost

theorem State.Evolves.freeNumber {n : Option Nat} (h : s.Evolves u) : s.Evolves (u.freeNumber n) := by
  unfold State.freeNumber
  split
  · exact h.trans { queues := Map.erase_wf _ _ }
  · exact h

theorem State.Evolves.shutdownCheck {c : Nat} (h : s.Evolves u) : s.Evolves (u.shutdownCheck c) := by
  unfold State.shutdownCheck
  dsimp only
  split
  · exact h
  · exact .either h (.either h h.setCtrl)

theorem State.Evolves.nvLogError {k : NvCmd} {status code : Nat} (h : s.Evolves u) :
    s.Evolves (u.nvLogError k status code) :=
  h.modCtrl

theorem State.Evolves.flushDone {gone : Nat} (h : s.Evolves u) : s.Evolves (u.flushDone gone) :=
  .fold h.withNvme fun _ _ hv => hv.withNvme.nvPost

theorem State.Evolves.nvDone {i dw0 status code : Nat} {ans : HostAns} (h : s.Evolves u) :
    s.Evolves (u.nvDone i dw0 status code ans) := by
  unfold State.nvDone
  dsimp only
  split
  · exact h
  · exact .shutdownCheck (.flushDone (.nvPost (.withNvme (.either h h.nvLogError))))

theorem State.Evolves.nvFail {i : Nat} {st : Status} {write : Bool} (h : s.Evolves u) :
    s.Evolves (u.nvFail i st write) :=
  h.nvDone

theorem State.Evolves.nvAbandon {p : NvCmd → Bool} (h : s.Evolves u) : s.Evolves (u.nvAbandon p) :=
  .fold h.withNvme fun _ _ hv => hv.flushDone

theorem State.Evolves.prpList {x : Ctrl} {ans : HostAns} {fuel ptr left off : Nat} (h : s.Evolves u) :
    s.Evolves (u.prpList x ans fuel ptr left off).1 := by
  induction fuel generalizing u ptr left off with
  | zero => exact h
  | succ fuel ih =>
    unfold State.prpList
    dsimp only
    refine .either_fst h.nvRead (.either_fst h.nvRead (.either_fst h.nvRead ?_))
    split
    next heq => exact (ih h.nvRead).fst_eq heq
    next heq => exact (ih h.nvRead).fst_eq heq

theorem State.Evolves.prps {x : Ctrl} {sqe : Bytes} {len : Nat} {ans : HostAns} (h : s.Evolves u) :
    s.Evolves (u.prps x sqe len ans).1 := by
  unfold State.prps
  dsimp only
  refine .either_fst h (.either_fst h (.either_fst (.either_fst h h) (.either_fst h ?_)))
  split
  next heq => exact h.prpList.fst_eq heq
  next heq => exact h.prpList.fst_eq heq

theorem State.Evolves.sglSeg {x : Ctrl} {ans : HostAns} {fuel ptr n off : Nat} {last : Bool} (h : s.Evolves u) :
    s.Evolves (u.sglSeg x ans fuel ptr n last off).1 := by
  induction fuel generalizing u ptr n last off with
  | zero => exact h
  | succ fuel ih =>
    unfold State.sglSeg
    dsimp only
    refine .either_fst h.nvRead (.either_fst h.nvRead (.either_fst h.nvRead ?_))
    split
    · exact h.nvRead
    · refine .either_fst h.nvRead (.either_fst h.nvRead (.either_fst h.nvRead ?_))
      split
      next heq => exact (ih h.nvRead).fst_eq heq
      next heq => exact (ih h.nvRead).fst_eq heq

theorem State.Evolves.sgls {x : Ctrl} {sqe : Bytes} {len : Nat} {ans : HostAns} (h : s.Evolves u) :
    s.Evolves (u.sgls x sqe len ans).1 := by
  unfold State.sgls
  dsimp only
  refine .either_fst (.either_fst h (.either_fst h h)) (.either_fst h (.either_fst h ?_))
  split
  next heq => exact h.sglSeg.fst_eq heq
  next v1 _ heq =>
    have hv1 : s.Evolves v1 := h.sglSeg.fst_eq heq
    exact .either_fst hv1 hv1

theorem State.Evolves.dataPtr {x : Ctrl} {k : NvCmd} {len : Nat} {ans : HostAns} (h : s.Evolves u) :
    s.Evolves (u.dataPtr x k len ans).1 :=
  .either_fst h (.either_fst h.prps (.either_fst h.sgls h))

theorem State.Evolves.gather {x : Ctrl} {ans : HostAns} {off : Nat} {l : List (Nat × Nat)} (h : s.Evolves u) :
    s.Evolves (u.gather x ans off l).1 := by
  induction l generalizing u off with
  | nil => exact h
  | cons a l ih => exact .either_fst h.nvRead (ih h.nvRead)

theorem State.Evolves.scatter {x : Ctrl} {ans : HostAns} {d : Bytes} {l : List (Nat × Nat)} (h : s.Evolves u) :
    s.Evolves (u.scatter x ans d l).1 := by
  induction l generalizing u d with
  | nil => exact h
  | cons a l ih => exact .either_fst h.nvWrite (ih h.nvWrite)

theorem State.Evolves.nvPage {x : Ctrl} {i : Nat} {r : AccRes} {t : State} (h : s.Evolves u)
    (e : u.nvPage x i r = some t) : s.Evolves t := by
  obtain ⟨_, e⟩ := Option.ite_none_left_eq_some.1 e
  cases e
  exact h.pageRequest

theorem State.Evolves.nvAccess {x : Ctrl} {i : Nat} {r : AccRes} (h : s.Evolves u) : s.Evolves (u.nvAccess x i r) := by
  unfold State.nvAccess
  split
  next heq => exact h.nvPage heq
  · exact h.nvFail

theorem State.Evolves.nvReply {x : Ctrl} {i : Nat} {k : NvCmd} {d : Bytes} {lists ans : HostAns} (h : s.Evolves u) :
    s.Evolves (u.nvReply x i k d lists ans) := by
  unfold State.nvReply
  dsimp only
  split
  next heq => exact (h.dataPtr.fst_eq heq).nvDone
  next v1 _ heq =>
    have hv1 : s.Evolves v1 := h.dataPtr.fst_eq heq
    exact .either hv1.scatter.nvAccess hv1.scatter.nvDone

theorem State.Evolves.nvTake {c q : Nat} {sqe : Bytes} (h : s.Evolves u) : s.Evolves (u.nvTake c q sqe) :=
  .either h.withNvme.nvDone (.either h.withNvme.nvDone h.withNvme)

theorem State.Evolves.nvFetch {c q : Nat} {l : List HostAns} (h : s.Evolves u) : s.Evolves (u.nvFetch c q l) := by
  induction l generalizing u with
  | nil => exact h
  | cons a l ih =>
    unfold State.nvFetch
    dsimp only
    split
    · exact .either h (.either h.nvRead.modCtrl (ih (.nvTake (h.nvRead.trans {}))))
    · exact h

theorem State.Evolves.nvSqDoorbell {c q tail : Nat} {ans : List HostAns} (h : s.Evolves u) :
    s.Evolves (u.nvSqDoorbell c q tail ans) := by
  unfold State.nvSqDoorbell
  split
  · exact .either h (.either h.nvEvent h.withNvme.nvFetch)
  · exact .either h.nvEvent h
  · exact h

theorem State.Evolves.nvCqDoorbell {c q head : Nat} (h : s.Evolves u) : s.Evolves (u.nvCqDoorbell c q head) := by
  unfold State.nvCqDoorbell
  split
  · exact .either h (.either h.nvEvent h.withNvme.nvFlush)
  · exact .either h.nvEvent h
  · exact h

theorem State.Evolves.nvReset {c : Nat} (h : s.Evolves u) : s.Evolves (u.nvReset c) :=
  .modCtrl (.withNvme (.fold h.nvAbandon fun _ _ hv => hv.freeNumber))

theorem State.Evolves.nvRun {i opc : Nat} {admin : Bool} {f : NvCmd → Ctrl → State → State} (h : s.Evolves u)
    (hf : ∀ k x v, s.Evolves v → s.Evolves (f k x v)) :
    s.Evolves (u.nvRun i opc admin f) := by
  unfold State.nvRun
  split
  · exact hf _ _ _ h
  · exact h

/-! ### NVMe: the admin commands -/

theorem State.Evolves.takeNumber {x : Ctrl} {n : Option Nat} {t : State} (h : s.Evolves u)
    (e : u.takeNumber x = some (n, t)) : s.Evolves t := by
  unfold State.takeNumber at e
  split at e
  · cases e
    exact h
  · obtain ⟨_, e⟩ := Option.ite_none_left_eq_some.1 e
    split at e
    · cases e
    · cases e
      exact h.setQueue

theorem State.Evolves.nvCreateCq {i : Nat} {k : NvCmd} {x : Ctrl} (h : s.Evolves u) :
    s.Evolves (u.nvCreateCq i k x) := by
  unfold State.nvCreateCq
  dsimp only
  refine .either h.nvDone ?_
  split
  · exact h.nvDone
  next heq => exact (h.takeNumber heq).withNvme.nvDone

theorem State.Evolves.nvCreateSq {i : Nat} {k : NvCmd} {x : Ctrl} (h : s.Evolves u) :
    s.Evolves (u.nvCreateSq i k x) := by
  unfold State.nvCreateSq
  dsimp only
  refine .either h.nvDone ?_
  split
  · exact h.nvDone
  next heq => exact (h.takeNumber heq).withNvme.nvDone

theorem State.Evolves.nvDeleteSq {i : Nat} {k : NvCmd} (h : s.Evolves u) : s.Evolves (u.nvDeleteSq i k) := by
  unfold State.nvDeleteSq
  dsimp only
  split
  · exact h.nvDone
  · exact .either h.nvDone (.nvDone (.withNvme (.freeNumber (.fold h.nvAbandon fun _ _ hv => hv.nvPost))))

theorem State.Evolves.nvDeleteCq {i : Nat} {k : NvCmd} (h : s.Evolves u) : s.Evolves (u.nvDeleteCq i k) := by
  unfold State.nvDeleteCq
  dsimp only
  split
  · exact h.nvDone
  · exact .either h.nvDone (.either h.nvDone h.freeNumber.withNvme.nvDone)

theorem State.Evolves.nvGetLog {i : Nat} {k : NvCmd} {x : Ctrl} {lists ans : HostAns} (h : s.Evolves u) :
    s.Evolves (u.nvGetLog i k x lists ans) := by
  unfold State.nvGetLog
  dsimp only
  split
  · exact h.nvDone
  · exact .either h.nvDone (.either h.nvDone h.nvReply)

theorem State.Evolves.nvIdentify {i : Nat} {k : NvCmd} {x : Ctrl} {lists ans : HostAns} (h : s.Evolves u) :
    s.Evolves (u.nvIdentify i k x lists ans) := by
  unfold State.nvIdentify
  dsimp only
  split
  · refine .either h.nvDone ?_
    split <;> exact h.nvReply
  · exact h.nvReply
  · exact .either h.nvDone h.nvReply
  · exact .either h.nvDone h.nvReply
  · exact h.nvDone

theorem State.Evolves.nvAbort {i : Nat} {k : NvCmd} (h : s.Evolves u) : s.Evolves (u.nvAbort i k) := by
  unfold State.nvAbort
  dsimp only
  split
  · exact h.nvDone.nvDone
  · split
    · exact .either h.modCtrl.nvPost.nvDone h.nvDone
    · exact h.nvDone

theorem State.Evolves.nvSetFeature {i : Nat} {k : NvCmd} {x : Ctrl} (h : s.Evolves u) :
    s.Evolves (u.nvSetFeature i k x) := by
  unfold State.nvSetFeature
  dsimp only
  refine .either h.nvDone ?_
  split
  · exact .either h.nvDone h.modCtrl.nvDone
  · exact .either h.nvDone h.modCtrl.nvDone
  · exact h.modCtrl.nvDone
  · exact .either h.nvDone h.modCtrl.nvDone
  · exact .either h.nvDone (.either h.nvDone (.either h.nvDone h.modCtrl.nvDone))
  · exact h.modCtrl.nvDone
  · exact h.modCtrl.nvDone
  · exact h.modCtrl.nvDone
  · exact h.modCtrl.nvDone
  · exact h.nvDone

theorem State.Evolves.nvGetFeature {i : Nat} {k : NvCmd} {x : Ctrl} (h : s.Evolves u) :
    s.Evolves (u.nvGetFeature i k x) := by
  unfold State.nvGetFeature
  dsimp only
  split <;> exact h.nvDone

theorem State.Evolves.nvAer {i : Nat} {k : NvCmd} {x : Ctrl} (h : s.Evolves u) : s.Evolves (u.nvAer i k x) := by
  unfold State.nvAer
  dsimp only
  refine .either h.nvDone ?_
  split
  · exact h.modCtrl.nvDone
  · exact h.withNvme.modCtrl

/-! ### NVMe: reads and writes -/

theorem State.Evolves.emitReq {id : Nat} {r : NvReq} (h : s.Evolves u) : s.Evolves (u.emitReq id r) := by
  unfold State.emitReq
  dsimp only
  split
  · refine .either h ?_
    split
    · exact h
    · exact .emit (.either h.draw.emit h)
  · exact h

theorem State.Evolves.sendReq {r : NvReq} (h : s.Evolves u) : s.Evolves (u.sendReq r) :=
  h.withNvme.emitReq

theorem State.Evolves.intentBits {ns : Nat} {n : Namespace} {l : List Nat} (h : s.Evolves u) :
    s.Evolves (u.intentBits ns n l).1 :=
  .fold h.modSpace fun _ _ hv => .fold hv fun _ _ hv1 => hv1.sendReq

theorem State.Evolves.modPiece {i j : Nat} {g : NvPiece → NvPiece} (h : s.Evolves u) : s.Evolves (u.modPiece i j g) :=
  h.modCmd

theorem State.Evolves.trySend {i j : Nat} {k : NvCmd} {p : NvPiece} (h : s.Evolves u) :
    s.Evolves (u.trySend i j k p) := by
  unfold State.trySend
  dsimp only
  split
  · exact h
  · refine .either h.modPiece.modCmd (.either (.fold h.modPiece.modCmd fun _ _ hv => hv.sendReq) ?_)
    split
    next heq => exact h.intentBits.fst_eq heq
    next v2 heq =>
      have hv2 : s.Evolves v2 := h.intentBits.fst_eq heq
      exact .either hv2 (.fold hv2.modPiece.modCmd fun _ _ hv3 => hv3.sendReq)

theorem State.Evolves.settleWrite {i : Nat} (h : s.Evolves u) : s.Evolves (u.settleWrite i) := by
  unfold State.settleWrite
  split
  · exact h
  · exact .either (.either h h.nvDone) h

theorem State.Evolves.nvPump (h : s.Evolves u) : s.Evolves u.nvPump := by
  unfold State.nvPump
  dsimp only
  refine .fold h fun v _ hv => ?_
  split
  · exact hv
  · exact .settleWrite (.fold hv fun _ _ hv1 => .either hv1 hv1.trySend)

theorem State.Evolves.renewLimit {ns : Nat} (h : s.Evolves u) : s.Evolves (u.renewLimit ns) :=
  .either h h.journal

theorem State.Evolves.startWrite {i ns : Nat} {kind : NvKind} {ps : List NvPiece} (h : s.Evolves u) :
    s.Evolves (u.startWrite i ns kind ps) :=
  .either (.nvDone (.fold h.modCmd fun _ _ hv => hv.modSpace)) (.nvPump (.fold h.modCmd fun _ _ hv => hv.modSpace))

theorem State.Evolves.nvmeWrite {i : Nat} {k : NvCmd} {x : Ctrl} {lists ans : HostAns} (h : s.Evolves u) :
    s.Evolves (u.nvmeWrite i k x lists ans) := by
  unfold State.nvmeWrite
  split
  · exact h.nvDone
  · refine .either h.nvDone (.either h.renewLimit ?_)
    split
    next heq => exact (h.dataPtr.fst_eq heq).nvDone
    next heq =>
      have hl := h.dataPtr.fst_eq heq
      split
      next hg =>
        have hg := hl.gather.fst_eq hg
        split
        next v _ hm =>
          have hv : s.Evolves v := fst_eq (.either_fst hg hg.nvRead) hm
          refine .either hv.nvAccess (.either hv.nvAccess (.either hv.nvFail (.either hv.nvFail ?_)))
          split
          · exact hv.nvDone
          · split
            · exact hv.nvDone
            · exact .startWrite (.either (.either hv.modSpace.renewLimit hv.modSpace) hv)

theorem State.Evolves.writeZeroes {i : Nat} {k : NvCmd} (h : s.Evolves u) : s.Evolves (u.writeZeroes i k) := by
  unfold State.writeZeroes
  dsimp only
  split
  · exact h.nvDone
  · exact .either h.nvDone h.startWrite

theorem State.Evolves.dataset {i : Nat} {k : NvCmd} {x : Ctrl} {lists ans : HostAns} (h : s.Evolves u) :
    s.Evolves (u.dataset i k x lists ans) := by
  unfold State.dataset
  dsimp only
  split
  · exact h.nvDone
  · split
    next heq => exact (h.dataPtr.fst_eq heq).nvDone
    next v1 _ heq =>
      have hv1 : s.Evolves v1 := h.dataPtr.fst_eq heq
      exact .either hv1.gather.nvAccess (.either hv1.gather.nvFail (.either hv1.gather.nvDone
        (.either hv1.gather.nvDone hv1.gather.startWrite)))

theorem State.Evolves.nvFlushCmd {i : Nat} {k : NvCmd} (h : s.Evolves u) : s.Evolves (u.nvFlushCmd i k) :=
  .either h.nvDone (.either h.nvDone h.modCmd)

theorem State.Evolves.sendRead {i : Nat} {k : NvCmd} {p : NvPiece} (h : s.Evolves u) :
    s.Evolves (u.sendRead i k p) := by
  unfold State.sendRead
  split
  · exact h
  · split
    · exact h.nvFail
    · exact h.sendReq

theorem State.Evolves.nvmeRead {i : Nat} {k : NvCmd} (h : s.Evolves u) : s.Evolves (u.nvmeRead i k) := by
  unfold State.nvmeRead
  dsimp only
  split
  · exact h.nvDone
  · exact .either h.nvDone h.modCmd.sendRead

theorem State.Evolves.finishRead {i : Nat} {bl : List Bytes} {lists ans : HostAns} (h : s.Evolves u) :
    s.Evolves (u.finishRead i bl lists ans) := by
  unfold State.finishRead
  split
  · exact h
  · split
    · split
      · exact h.nvDone
      · extract_lets d
        split
        next heq => exact (h.dataPtr.fst_eq heq).nvDone
        next heq =>
          have hl := h.dataPtr.fst_eq heq
          split
          next hs =>
            have hs := hl.scatter.fst_eq hs
            split
            next v _ hm =>
              have hv : s.Evolves v := fst_eq (.either_fst hs hs.nvWrite) hm
              refine .either ?_ hv.nvDone
              split
              next hp => exact (hv.nvPage hp).modCmd
              · exact hv.nvFail
    · exact h

theorem State.Evolves.storageEvent {n : Namespace} {code a b : Nat} (h : s.Evolves u) :
    s.Evolves (u.storageEvent n code a b) := by
  unfold State.storageEvent
  refine .fold h fun v _ hv => ?_
  dsimp only
  split
  · exact hv.postEvent
  · exact hv

theorem State.Evolves.pieceDone {i j : Nat} {st : Status} {back : Nat} (h : s.Evolves u) :
    s.Evolves (u.pieceDone i j st back) := by
  unfold State.pieceDone
  dsimp only
  split
  · exact h.modPiece
  · split
    · exact h.modPiece
    · exact .settleWrite (.either h.modPiece.modCmd h.modPiece)

theorem State.Evolves.failSide {ns : Nat} {sideB : Bool} {st : Status} (h : s.Evolves u) :
    s.Evolves (u.failSide ns sideB st) := by
  unfold State.failSide
  dsimp only
  split
  · exact h
  · split
    · refine .either h (.nvPump (.fold (.storageEvent (.fold (.setSpace (h.trans {})) ?_)) ?_))
      · exact fun _ _ hv => hv.modCtrl.nvEvent
      · intro v p hv
        split
        · exact hv
        · refine .either ?_ (.either hv.pieceDone hv)
          split
          · split
            · exact hv.sendRead
            · exact hv
          · exact hv
    · exact h

theorem State.Evolves.bitDone {r : NvReq} {st : Status} (h : s.Evolves u) : s.Evolves (u.bitDone r st) := by
  unfold State.bitDone
  extract_lets v left w x y
  have hv : s.Evolves v := .either h.modSpace h
  have hw : s.Evolves w := .either hv hv.modSpace
  have hy : s.Evolves y := .nvPump (.either hw hw.failSide)
  split
  · exact .fold hy fun _ _ hv => hv.shutdownCheck
  · exact hy

theorem State.Evolves.readDone {i : Nat} {r : NvReq} {st : Status} {data : List Bytes} {lists ans : HostAns}
    (h : s.Evolves u) :
    s.Evolves (u.readDone i r st data lists ans) := by
  unfold State.readDone
  dsimp only
  split
  · split
    · exact .either h.modPiece.sendReq (.either (.finishRead (.either h.sendReq h)) h.modCmd.nvFail)
    · exact .either h.finishRead h.modCmd.nvFail
  · exact h

theorem State.Evolves.backingCompletion {id : Nat} {st : Status} {data : List Bytes} {lists ans : HostAns}
    (h : s.Evolves u) :
    s.Evolves (u.backingCompletion id st data lists ans) := by
  unfold State.backingCompletion
  dsimp only
  split
  · exact h
  · refine .either h ?_
    refine .either h.withNvme.bitDone (.either (.nvPump (.either h.withNvme h.withNvme.failSide)) ?_)
    split
    · exact .nvPump (.either h.withNvme.failSide h.withNvme)
    · exact .either h.withNvme.readDone (.nvPump (.either h.withNvme.pieceDone h.withNvme.pieceDone.failSide))

theorem State.Evolves.pathLoss {b : Nat} (h : s.Evolves u) : s.Evolves (u.pathLoss b) :=
  h.withNvme

theorem State.Evolves.reconnect {b : Nat} (h : s.Evolves u) : s.Evolves (u.reconnect b) := by
  unfold State.reconnect
  dsimp only
  split
  · exact h
  · exact .either h (.fold h.withNvme fun _ _ hv => hv.emitReq)

theorem State.Evolves.lossExpire {b : Nat} (h : s.Evolves u) : s.Evolves (u.lossExpire b) := by
  unfold State.lossExpire
  dsimp only
  split
  · exact h
  · split
    · exact h
    · refine .fold (h.trans { now := Nat.le_max_left .. }) fun v _ hv => ?_
      split
      · exact hv
      · exact .either hv.modCmd.nvFail hv.modCmd.pieceDone

theorem State.Evolves.mirrorTimeout {ns : Nat} {sideB : Bool} (h : s.Evolves u) :
    s.Evolves (u.mirrorTimeout ns sideB) := by
  unfold State.mirrorTimeout
  split
  · exact h
  · split
    · split
      · exact .failSide (h.trans { now := Nat.le_max_left .. })
      · exact h
    · exact h

theorem State.Evolves.clearIntent {ns u' wait : Nat} (h : s.Evolves u) : s.Evolves (u.clearIntent ns u' wait) := by
  unfold State.clearIntent
  dsimp only
  split
  · exact h
  · split
    · exact h
    · exact .either h (.fold (.modSpace (h.trans { now := Nat.le_max_left .. })) fun _ _ hv => hv.sendReq)

theorem State.Evolves.startResync {ns : Nat} {n : Namespace} {sideB whole : Bool} (h : s.Evolves u) :
    s.Evolves (u.startResync ns n sideB whole) := by
  unfold State.startResync
  dsimp only
  split
  · exact h.setSpace
  · exact h

theorem State.Evolves.resyncComplete {ns : Nat} (h : s.Evolves u) : s.Evolves (u.resyncComplete ns) := by
  unfold State.resyncComplete
  dsimp only
  split
  · exact h
  · split
    · exact h
    · split
      · exact .either h h.emits.setSpace.storageEvent.asyncDone
      · exact h

theorem State.Evolves.startSpaces (h : s.Evolves u) : s.Evolves u.startSpaces := by
  unfold State.startSpaces
  refine .fold h fun v _ hv => ?_
  dsimp only
  split
  · exact .either hv.modSpace.renewLimit hv
  · exact .either (.startResync (.either hv.modSpace.renewLimit hv)) (.either hv.modSpace.renewLimit hv)

/-! ### NVMe: namespaces and the backing stores -/

theorem State.Evolves.ctrlEnable {h' cc : Nat} (h : s.Evolves u) : s.Evolves (u.ctrlEnable h' cc) := by
  unfold State.ctrlEnable
  dsimp only
  split
  · exact h
  · exact .either h h.setCtrl

theorem State.Evolves.ctrlReady {c : Nat} (h : s.Evolves u) : s.Evolves (u.ctrlReady c) := by
  unfold State.ctrlReady
  dsimp only
  split
  · exact h
  · exact .either h (h.trans {})

theorem State.Evolves.ctrlReset {h' : Nat} (h : s.Evolves u) : s.Evolves (u.ctrlReset h') := by
  unfold State.ctrlReset
  split
  · exact h
  · exact .either h h.nvReset.modCtrl

theorem State.Evolves.ctrlShutdown {h' shn : Nat} (h : s.Evolves u) : s.Evolves (u.ctrlShutdown h' shn) := by
  unfold State.ctrlShutdown
  dsimp only
  split
  · exact h
  · exact .either h (.shutdownCheck (.fold h.setCtrl fun _ _ hv => .fold hv fun _ _ hv1 => hv1.clearIntent))

theorem State.Evolves.writeCc {h' v : Nat} (h : s.Evolves u) : s.Evolves (u.writeCc h' v) := by
  unfold State.writeCc
  split
  · exact h
  · exact .either h.ctrlEnable (.either h.ctrlReset.modCtrl (.either h.ctrlShutdown h.setCtrl))

theorem State.Evolves.nvRegWrite {h' off v : Nat} (h : s.Evolves u) : s.Evolves (u.nvRegWrite h' off v) := by
  unfold State.nvRegWrite
  dsimp only
  refine .either (.either h.nvSqDoorbell h.nvCqDoorbell) ?_
  split
  · exact h
  · split
    · exact h.setCtrl
    · exact h.setCtrl
    · exact h.writeCc
    · exact h.setCtrl
    · exact h.setCtrl
    · exact h.setCtrl
    · exact h.setCtrl
    · exact h.setCtrl
    · exact h

theorem State.Evolves.nvDoorbell {n : Nat} {ring : Bool} {index : Nat} (h : s.Evolves u) :
    s.Evolves (u.nvDoorbell n ring index) := by
  unfold State.nvDoorbell
  split
  · exact h
  · exact .either h.nvEvent (.either h.nvCqDoorbell h.nvSqDoorbell)

theorem State.Evolves.dropCtrl {c : Nat} (h : s.Evolves u) : s.Evolves (u.dropCtrl c) := by
  unfold State.dropCtrl
  extract_lets adm v w
  have hw : s.Evolves w := .nvReset (.fold h fun _ _ hv => hv.freeNumber)
  clear_value w
  exact hw.trans {}

theorem State.Evolves.nvSpokeGone {k : Nat} (h : s.Evolves u) : s.Evolves (u.nvSpokeGone k) :=
  .fold h fun _ _ hv => hv.dropCtrl

theorem State.Evolves.nvFuncReset {f : Nat} (h : s.Evolves u) : s.Evolves (u.nvFuncReset f) :=
  .either h h.nvReset.withNvme

theorem State.Evolves.nvBmeClear {f : Nat} (h : s.Evolves u) : s.Evolves (u.nvBmeClear f) :=
  .fold h.nvAbandon fun _ _ hv => hv.nvLogError.nvPost

theorem State.Evolves.nvResume {f : Nat} (h : s.Evolves u) : s.Evolves (u.nvResume f) :=
  .fold h fun _ _ hv => hv.nvFlush

theorem State.Evolves.backingAdd {f : Nat} {st : Status} {lbaf nawupf nabspf nsze : Nat} {zeroes : Bool} {p : Bytes}
    (h : s.Evolves u) :
    s.Evolves (u.backingAdd f st lbaf nawupf nabspf nsze zeroes p).st := by
  unfold State.backingAdd
  dsimp only [Reply.ok, Reply.err]
  refine .either_st h (.either_st h ?_)
  split
  · exact h
  · exact .either_st h h.withNvme

theorem State.Evolves.backingRemove {f : Nat} {p : Bytes} (h : s.Evolves u) : s.Evolves (u.backingRemove f p).st := by
  unfold State.backingRemove
  dsimp only [Reply.ok, Reply.err]
  exact .either_st h (.either_st h h.withNvme)

theorem State.Evolves.nsCreate {f : Nat} {p : Bytes} (h : s.Evolves u) : s.Evolves (u.nsCreate f p).st := by
  unfold State.nsCreate
  dsimp only [Reply.ok, Reply.err]
  refine .either_st h (.either_st h (.either_st h ?_))
  split
  · exact h
  · exact .either_st h h.draw.setSpace

theorem State.Evolves.nsDelete {f : Nat} {p : Bytes} (h : s.Evolves u) : s.Evolves (u.nsDelete f p).st := by
  unfold State.nsDelete
  dsimp only [Reply.ok, Reply.err]
  split
  · exact h
  · exact .either_st h h.withNvme

theorem State.Evolves.nsAttach {f : Nat} {p : Bytes} (h : s.Evolves u) : s.Evolves (u.nsAttach f p).st := by
  unfold State.nsAttach
  dsimp only [Reply.ok, Reply.err]
  split
  · exact .either_st h (.either_st h h.setSpace.nvEvent)
  · exact h

theorem State.Evolves.ctrlCreate {f : Nat} {p : Bytes} (h : s.Evolves u) : s.Evolves (u.ctrlCreate f p).st := by
  unfold State.ctrlCreate
  dsimp only [Reply.ok, Reply.err]
  split
  · exact h
  · refine .either_st h (.either_st h (.either_st h ?_))
    split
    · exact h.setQueue.setQueue.setCtrl.withNvme
    · exact h

theorem State.Evolves.ctrlDestroy {f : Nat} {p : Bytes} (h : s.Evolves u) : s.Evolves (u.ctrlDestroy f p).st := by
  unfold State.ctrlDestroy
  dsimp only [Reply.ok, Reply.err]
  split
  · exact h
  · exact .either_st h (.either_st h h.dropCtrl)

theorem State.Evolves.mirrorReattach {f : Nat} {p : Bytes} (h : s.Evolves u) : s.Evolves (u.mirrorReattach f p).st := by
  unfold State.mirrorReattach
  dsimp only [Reply.ok, Reply.err]
  split
  · exact h
  · split
    · exact .either_st h (.either_st h (.either_st h h.startResync))
    · exact h

/-! ### Checkpoints -/

theorem State.Evolves.setSession {k : Nat} {x : Session} (h : s.Evolves u) : s.Evolves (u.setSession k x) :=
  h.withCkp

theorem State.Evolves.modSession {k : Nat} {g : Session → Session} (h : s.Evolves u) : s.Evolves (u.modSession k g) :=
  h.withCkp

theorem State.Evolves.shardRead {k : Nat} {x : Shard} {a n off : Nat} {ans : HostAns} (h : s.Evolves u) :
    s.Evolves (u.shardRead k x a n off ans).1 := by
  unfold State.shardRead
  dsimp only
  exact .either_fst (.either_fst h.hbmRead h) h.spokeReadLoop

theorem State.Evolves.pageRead {k sess : Nat} {x : Shard} {page inShard : Nat} {ans : HostAns} (h : s.Evolves u) :
    s.Evolves (u.pageRead k sess x page inShard ans).1 := by
  unfold State.pageRead
  dsimp only
  refine .fold_fst h fun v _ hv => ?_
  refine .either_fst hv ?_
  split
  · exact hv
  · exact hv.shardRead

theorem State.Evolves.shardWrite {k : Nat} {x : Shard} {a : Nat} {d : Bytes} {ans : HostAns} (h : s.Evolves u) :
    s.Evolves (u.shardWrite k x a d ans).1 :=
  .either_fst (.either_fst h.hbmWrite h) h.spokeWrite

theorem State.Evolves.protect {k sess : Nat} {x : Shard} {first : Nat} (h : s.Evolves u) :
    s.Evolves (u.protect k sess x first).1 := by
  unfold State.protect
  refine .fold_fst h fun v _ hv => ?_
  dsimp only
  refine .either_fst hv (.either_fst hv.withMem ?_)
  split
  next heq => exact (hv.translate.snd_eq heq).withMem
  next heq => exact (hv.translate.snd_eq heq).withMem
  next heq => exact hv.translate.snd_eq heq
  next heq => exact hv.translate.snd_eq heq

theorem State.Evolves.unprotect {sess : Nat} {page : Option Nat} (h : s.Evolves u) :
    s.Evolves (u.unprotect sess page) :=
  h.withMem

theorem State.Evolves.sessionOpen {f : Nat} {table : HostAns} {slots : List HostAns} {p : Bytes} (h : s.Evolves u) :
    s.Evolves (u.sessionOpen f table slots p).st := by
  unfold State.sessionOpen
  dsimp only [Reply.ok, Reply.err]
  refine .either_st h ?_
  split
  · exact h
  · exact h.spokeRead.drawBytes.setSession

theorem State.Evolves.sessionClose {f : Nat} {p : Bytes} (h : s.Evolves u) : s.Evolves (u.sessionClose f p).st := by
  unfold State.sessionClose
  dsimp only [Reply.ok, Reply.err]
  split
  · exact h
  · exact .either_st h h.withCkp

theorem State.Evolves.drainSet {f : Nat} {p : Bytes} (h : s.Evolves u) : s.Evolves (u.drainSet f p).st := by
  unfold State.drainSet
  dsimp only [Reply.ok, Reply.err]
  split
  · exact h
  · exact .either_st h (.either_st h h.setSession)

theorem State.Evolves.ckpQuery {f : Nat} {p : Bytes} (h : s.Evolves u) : s.Evolves (u.ckpQuery f p).st := by
  unfold State.ckpQuery
  dsimp only [Reply.ok, Reply.err]
  split
  · exact h
  · exact .either_st h h

theorem State.Evolves.releaseMember {k : Nat} {x : Session} {ckpt m : Nat} (h : s.Evolves u) :
    s.Evolves (u.releaseMember k x ckpt m) :=
  .postEvent (.either h.sendUpdate h)

theorem State.Evolves.capAdvance {k n : Nat} (h : s.Evolves u) : s.Evolves (u.capAdvance k n) := by
  unfold State.capAdvance
  dsimp only
  split
  · exact h
  · split
    · exact h
    · exact .either h (.either (.postEvent (.unprotect (.modSession
        (.fold h.setSession fun _ _ hv => hv.releaseMember)))) (.fold h.setSession fun _ _ hv => hv.releaseMember))

theorem State.Evolves.dropCkpt {k n : Nat} (h : s.Evolves u) : s.Evolves (u.dropCkpt k n) := by
  unfold State.dropCkpt
  dsimp only
  split
  · exact h
  · split
    · exact h
    · exact .fold (.setSession (.either h.unprotect h)) fun _ _ hv => hv.releaseMember

theorem State.Evolves.failCkpt {k n : Nat} {st : Status} {m : Nat} (h : s.Evolves u) :
    s.Evolves (u.failCkpt k n st m) := by
  induction m generalizing u n with
  | zero => exact h
  | succ m ih =>
    unfold State.failCkpt
    split
    · exact h
    · split
      · exact h
      · extract_lets v w
        have hw : s.Evolves w := by
          unfold w
          split
          · exact h.dropCkpt.postEvent.finish
          · exact h.dropCkpt.postEvent
        exact .fold hw fun _ _ hv => ih hv

theorem State.Evolves.capture {o : Nat} {ans : HostAns} (h : s.Evolves u) : s.Evolves (u.capture o ans) := by
  unfold State.capture
  dsimp only
  split
  · exact h
  · refine .either h ?_
    split
    · exact h.finish
    · exact .either h.finish (.either h.finish (.either h.finish (.either (.parkOp (.either_fst h.spokeRead h))
        (.either (.failCkpt (.rsat (.modOp (.setSession (.either_fst h.spokeRead h)))))
        (.either (.failCkpt (.fold_fst (.rsat (.modOp (.setSession (.either_fst h.spokeRead h)))) fun _ _ hv =>
        .either_fst hv hv.protect)) (.capAdvance (.fold_fst (.rsat (.modOp (.setSession (.either_fst h.spokeRead h))))
        fun _ _ hv1 => .either_fst hv1 hv1.protect)))))))

theorem State.Evolves.capturePage {k : Nat} {x : Session} {c : Ckpt} {page : Nat} {ans : HostAns} (h : s.Evolves u) :
    s.Evolves (u.capturePage k x c page ans) := by
  unfold State.capturePage
  split
  · exact h
  · extract_lets parked size frozen
    refine .either h ?_
    split
    next v _ heq =>
      have hv : s.Evolves v := h.pageRead.fst_eq heq
      split
      · exact hv.parkOp
      · extract_lets st fp keep data v1 v2 v3
        have hv1 : s.Evolves v1 := .either (hv.trans {}) hv
        have hv3 : s.Evolves v3 := .either hv1.rsat.rsat hv1.rsat
        exact .either hv.failCkpt (.either (.either hv.failCkpt h) hv3.modSession.unprotect.capAdvance)

theorem State.Evolves.captureRead {k lane : Nat} {ans : HostAns} (h : s.Evolves u) :
    s.Evolves (u.captureRead k lane ans) := by
  unfold State.captureRead
  dsimp only
  split
  · exact h
  · split
    · exact h
    · split
      · exact .either h h.capturePage
      · exact h

theorem State.Evolves.protectedWrite {k page : Nat} {ans : HostAns} (h : s.Evolves u) :
    s.Evolves (u.protectedWrite k page ans) := by
  unfold State.protectedWrite
  split
  · exact h
  · split
    · exact h
    · exact .either h.capturePage h

theorem State.Evolves.captureTimeout {k : Nat} (h : s.Evolves u) : s.Evolves (u.captureTimeout k) := by
  unfold State.captureTimeout
  split
  · exact h
  · split
    · exact h
    · exact .failCkpt (h.trans { now := Nat.le_max_left .. })

theorem State.Evolves.sealCkpt {k n : Nat} (h : s.Evolves u) : s.Evolves (u.sealCkpt k n) := by
  unfold State.sealCkpt
  dsimp only
  split
  · exact h
  · split
    · exact h
    · refine .either h ?_
      split
      · exact h.failCkpt
      · exact h.draw.setSession.emit

/-- Each way a drain may go on keeps what its own step keeps. -/
theorem State.Evolves.drainObj {obj : DrainObj} {a : State} {b : KeptPage → State} {d : Nat → State}
    (ha : s.Evolves a) (hb : ∀ k, s.Evolves (b k)) (hd : ∀ i, s.Evolves (d i)) :
    s.Evolves (match obj with | .none => a | .page k => b k | .map i => d i) := by
  cases obj with
  | none => exact ha
  | page k => exact hb k
  | map i => exact hd i

theorem State.Evolves.drainWritten {k : Nat} {st : Status} (h : s.Evolves u) : s.Evolves (u.drainWritten k st) := by
  unfold State.drainWritten
  split
  · exact h
  · split
    · exact h
    · extract_lets go
      have hgo : ∀ b upd, s.Evolves (go b upd) := by
        intro b upd
        unfold go
        dsimp only
        split
        · exact h.failCkpt
        · exact .either h.emit.failCkpt h.emit.rsat.setSession.sealCkpt
      clear_value go
      exact .drainObj h (fun _ => hgo _ _) (fun _ => hgo _ _)

theorem State.Evolves.manifestWritten {k : Nat} {st : Status} (h : s.Evolves u) :
    s.Evolves (u.manifestWritten k st) := by
  unfold State.manifestWritten
  dsimp only
  split
  · exact h
  · split
    · exact h
    · split
      · exact h
      · refine .either h.failCkpt (.postEvent ?_)
        split
        · exact h.setSession.rsat.modOp.finish
        · exact h.setSession.rsat

theorem State.Evolves.tryCandidate {k : Nat} {x : Session} {r : Restore} {latest : Bool} {n : Nat}
    (h : s.Evolves u) : s.Evolves (u.tryCandidate k x r latest n) := by
  induction n generalizing u x r latest with
  | zero => exact h
  | succ n ih =>
    unfold State.tryCandidate
    dsimp only
    split
    · exact h.setSession.finish
    · split
      · exact h.setSession
      · exact ih (.either h.rsat h)

theorem State.Evolves.restoreStart {o : Nat} {slots : List HostAns} {maps : List (Nat × HostAns)} (h : s.Evolves u) :
    s.Evolves (u.restoreStart o slots maps) := by
  unfold State.restoreStart
  dsimp only
  split
  · exact h
  · refine .either h ?_
    split
    · exact h.finish
    · exact .either h.finish h.modOp.tryCandidate

theorem State.Evolves.candidateFails {k : Nat} {x : Session} {r : Restore} {st : Status} (h : s.Evolves u) :
    s.Evolves (u.candidateFails k x r st) :=
  .tryCandidate (.either h.rsat h)

theorem State.Evolves.restoreEnd {k : Nat} {x : Session} {r : Restore} (h : s.Evolves u) :
    s.Evolves (u.restoreEnd k x r) := by
  unfold State.restoreEnd
  dsimp only
  split
  · exact h.candidateFails
  · exact .either h.candidateFails h.setSession.rsat.modOp.finish

theorem State.Evolves.restorePage {k : Nat} {ans wr : HostAns} (h : s.Evolves u) :
    s.Evolves (u.restorePage k ans wr) := by
  unfold State.restorePage
  dsimp only
  split
  · exact h
  · split
    · exact h
    · refine .either h ?_
      split
      · exact h.restoreEnd
      · split
        · exact .either h.candidateFails (.either h.shardWrite.parkOp
            (.either h.shardWrite.candidateFails (.either h.shardWrite.setSession.restoreEnd h.shardWrite.setSession)))
        · exact h.candidateFails
        · exact h.candidateFails

theorem State.Evolves.reapCkp (h : s.Evolves u) : s.Evolves u.reapCkp := by
  unfold State.reapCkp
  extract_lets gone v dead w
  have hdrop : ∀ (l : List Ckpt) v k, s.Evolves v → s.Evolves (l.foldl (fun s c => s.dropCkpt k c.ckpt) v) :=
    fun _ _ _ hv => .fold hv fun _ _ hw => hw.dropCkpt
  have hv : s.Evolves v := by
    refine .fold h fun v p hv => ?_
    dsimp only
    split
    · exact .either (hdrop _ _ _ hv).modSession (hdrop _ _ _ hv)
    · exact hdrop _ _ _ hv
  have hw : s.Evolves w := .fold hv fun _ _ hw => (hdrop _ _ _ hw).unprotect
  exact hw.trans {}

theorem State.Evolves.ckpFail {p : Session → Bool} {st : Status} (h : s.Evolves u) : s.Evolves (u.ckpFail p st) := by
  unfold State.ckpFail
  refine .fold h fun v e hv => ?_
  extract_lets w
  have hw : s.Evolves w := by
    unfold w
    split
    · exact hv.failCkpt
    · exact hv
  split
  · exact hw.modSession.finish
  · exact hw

end
end Sys2Proof.Machine
end

section
/-! PROOFS. What every step keeps: packets, connections and links. -/

namespace Sys2Proof.Machine
open Sys2Proof

-- One lemma after another: so many short ones, each in a thread of its own, outgrow the memory of a check.
set_option Elab.async false

section
variable {s u : State}

/-! ### Telemetry and meters -/

theorem State.Evolves.setMeter {m : Nat} {x : Meter} (h : s.Evolves u) : s.Evolves (u.setMeter m x) :=
  h.withSch

theorem State.Evolves.meterPacket {m l : Nat} {dscp : Option Nat} (h : s.Evolves u) :
    s.Evolves (u.meterPacket m l dscp).1 :=
  h.setMeter

theorem State.Evolves.meterSet {f : Nat} {p : Bytes} (h : s.Evolves u) : s.Evolves (u.meterSet f p).st := by
  unfold State.meterSet
  dsimp only [Reply.ok, Reply.err]
  exact .either_st h (.either_st h (.either_st h (.either_st h.setMeter h.setMeter)))

theorem State.Evolves.meterRead {p : Bytes} (h : s.Evolves u) : s.Evolves (u.meterRead p).st := by
  unfold State.meterRead
  dsimp only [Reply.ok, Reply.err]
  exact .either_st h h

theorem State.Evolves.resetMeters (h : s.Evolves u) : s.Evolves u.resetMeters :=
  h.withSch

/-! ### Gates -/

theorem State.Evolves.takeover {i : Nat} (h : s.Evolves u) : s.Evolves (u.takeover i) :=
  h.rput.rput.rset.rset.rset.rset

theorem State.Evolves.armGate {i : Nat} (h : s.Evolves u) : s.Evolves (u.armGate i) :=
  .either h.rset h.rset.rset

theorem State.Evolves.disarmGate {i : Nat} (h : s.Evolves u) : s.Evolves (u.disarmGate i) :=
  .either h.rset h

theorem State.Evolves.disableGate {i : Nat} (h : s.Evolves u) : s.Evolves (u.disableGate i) :=
  h.rset.rset

theorem State.Evolves.gateTakeover {i : Nat} (h : s.Evolves u) : s.Evolves (u.gateTakeover i) :=
  .either (.takeover (h.trans { now := Nat.le_add_right .. })) h

theorem State.Evolves.clockStep {i v : Nat} (h : s.Evolves u) : s.Evolves (u.clockStep i v) :=
  .either h (.either h.withBrd.takeover h.withBrd)

theorem State.Evolves.gateEntryChange {i : Nat} (h : s.Evolves u) : s.Evolves (u.gateEntryChange i) :=
  .either h (.either h (h.trans { now := Nat.le_add_right .. }))

/-! ### Frames on a sub-port -/

theorem State.Evolves.enqueue {q : Nat} {x : TxFrame} (h : s.Evolves u) : s.Evolves (u.enqueue q x) :=
  h.withSch

theorem State.Evolves.telCount {domain recs : Nat} (h : s.Evolves u) : s.Evolves (u.telCount domain recs) :=
  h.withTel

theorem State.Evolves.ipfixMessage {c : Ipfix} {setId : Nat} {body : Bytes} {recs : Nat} (h : s.Evolves u) :
    s.Evolves (u.ipfixMessage c setId body recs) := by
  unfold State.ipfixMessage
  dsimp only
  exact h.draw.enqueue.telCount

theorem State.Evolves.sendTemplates (h : s.Evolves u) : s.Evolves u.sendTemplates := by
  unfold State.sendTemplates
  dsimp only
  split
  · exact .either h.withTel.ipfixMessage h.withTel.withTel
  · exact h

theorem State.Evolves.telRing {x : Flow} {rec : Bytes} (h : s.Evolves u) : s.Evolves (u.telRing x rec) := by
  unfold State.telRing
  dsimp only
  split
  · exact h
  · exact .either h.withTel (.either h.emit.withTel h.emit.withTel.interrupt)

theorem State.Evolves.exportNow {x : Flow} {n reason : Nat} (h : s.Evolves u) : s.Evolves (u.exportNow x n reason) := by
  unfold State.exportNow
  dsimp only
  split
  · exact h.telRing
  · exact .either h.telRing.withTel.telCount h.telRing.ipfixMessage

theorem State.Evolves.exportFlow {x : Flow} {reason : Nat} (h : s.Evolves u) : s.Evolves (u.exportFlow x reason) :=
  .either h.exportNow h.withTel

theorem State.Evolves.telResume (h : s.Evolves u) : s.Evolves u.telResume :=
  .either h (.fold (.either h.withTel.sendTemplates h.withTel) fun _ _ hv => hv.exportNow)

theorem State.Evolves.cacheFull (h : s.Evolves u) : s.Evolves u.cacheFull := by
  unfold State.cacheFull
  dsimp only
  refine .either h.rsat ?_
  split
  · exact .either h.rsat.draw.withTel.exportFlow h.rsat.draw
  · exact h.rsat.draw

theorem State.Evolves.flowSample {sub : Nat} {b : Bytes} {p : Parsed} (h : s.Evolves u) :
    s.Evolves (u.flowSample sub b p) := by
  unfold State.flowSample
  dsimp only
  exact .either h (.either h.draw (.either h.draw.cacheFull (.either h.draw.withTel.exportFlow h.draw.withTel)))

/-! ### The rules -/

theorem State.Evolves.inFlight {v : Nat} {up : Bool} (h : s.Evolves u) : s.Evolves (u.inFlight v up) :=
  h.withNet

theorem State.Evolves.abandonRules (h : s.Evolves u) : s.Evolves u.abandonRules :=
  h.withNet

theorem State.Evolves.releaseLock {f : Nat} (h : s.Evolves u) : s.Evolves (u.releaseLock f) :=
  .either h.abandonRules h

theorem State.Evolves.ruleBegin {f : Nat} (h : s.Evolves u) : s.Evolves (u.ruleBegin f).st := by
  unfold State.ruleBegin
  dsimp only [Reply.ok, Reply.err]
  refine .either_st h ?_
  split
  · exact .either_st h h
  · exact h.withNet

theorem State.Evolves.ruleShift {f : Nat} (h : s.Evolves u) : s.Evolves (u.ruleShift f).st := by
  unfold State.ruleShift
  dsimp only [Reply.ok, Reply.err]
  split
  · exact h
  · refine .either_st h ?_
    split
    · exact h
    · exact h.withNet.bump

theorem State.Evolves.emPlace {em : List EmEntry} {e : EmEntry} {b n : Nat} (h : s.Evolves u) :
    s.Evolves (emPlace u em e b n).1 := by
  induction n generalizing u em e b with
  | zero => exact h
  | succ n ih =>
    unfold Machine.emPlace
    dsimp only
    refine .either_fst h ?_
    split
    · exact h.draw (w := 2)
    · exact ih h.draw

theorem State.Evolves.emInsert {e : EmEntry} (h : s.Evolves u) : s.Evolves (u.emInsert e).1 :=
  .either_fst h (.either_fst h h.emPlace)

theorem State.Evolves.emAdd {f : Nat} {p : Bytes} (h : s.Evolves u) : s.Evolves (u.emAdd f p).st := by
  unfold State.emAdd
  dsimp only [Reply.ok, Reply.err]
  refine .either_st h (.either_st h ?_)
  split
  next heq => exact (h.emInsert.fst_eq heq).withNet
  next heq => exact h.emInsert.fst_eq heq

theorem State.Evolves.emDelete {f : Nat} {p : Bytes} (h : s.Evolves u) : s.Evolves (u.emDelete f p).st := by
  unfold State.emDelete
  dsimp only [Reply.ok, Reply.err]
  exact .either_st h (.either_st h h.withNet)

theorem State.Evolves.aclAdd {f : Nat} {p : Bytes} (h : s.Evolves u) : s.Evolves (u.aclAdd f p).st := by
  unfold State.aclAdd
  dsimp only [Reply.ok, Reply.err]
  exact .either_st h (.either_st h h.withNet)

theorem State.Evolves.aclDelete {f : Nat} {p : Bytes} (h : s.Evolves u) : s.Evolves (u.aclDelete f p).st := by
  unfold State.aclDelete
  dsimp only [Reply.ok, Reply.err]
  split
  · exact h
  · exact .either_st h (.either_st h h.withNet)

theorem State.Evolves.actionSet {f : Nat} {p : Bytes} (h : s.Evolves u) : s.Evolves (u.actionSet f p).st := by
  unfold State.actionSet
  dsimp only [Reply.ok, Reply.err]
  exact .either_st h (.either_st h h.withNet)

theorem State.Evolves.stage {g : RuleSet → RuleSet} (h : s.Evolves u) : s.Evolves (u.stage g) :=
  h.withNet

theorem State.Evolves.ok {p : Bytes} (h : s.Evolves u) : s.Evolves (Reply.ok u p).st :=
  h

theorem State.Evolves.defaultSet {f : Nat} {p : Bytes} (h : s.Evolves u) : s.Evolves (u.defaultSet f p).st :=
  .either_st h (.either_st h h.stage.ok)

theorem State.Evolves.classMapSet {f : Nat} {p : Bytes} (h : s.Evolves u) : s.Evolves (u.classMapSet f p).st :=
  .either_st h (.either_st h h.stage.ok)

theorem State.Evolves.profileSet {f : Nat} {p : Bytes} (h : s.Evolves u) : s.Evolves (u.profileSet f p).st := by
  unfold State.profileSet
  dsimp only [Reply.ok, Reply.err]
  exact .either_st h (.either_st h h.withNet)

theorem State.Evolves.macsecSet {f : Nat} {p : Bytes} (h : s.Evolves u) : s.Evolves (u.macsecSet f p).st := by
  unfold State.macsecSet
  dsimp only [Reply.ok, Reply.err]
  exact .either_st h (.either_st h (.either_st h (.either_st h h.withNet)))

theorem State.Evolves.ipsecSet {f : Nat} {p : Bytes} (h : s.Evolves u) : s.Evolves (u.ipsecSet f p).st := by
  unfold State.ipsecSet
  dsimp only [Reply.ok, Reply.err]
  exact .either_st h (.either_st h (.either_st h h.withNet))

theorem State.Evolves.reclaim (h : s.Evolves u) : s.Evolves u.reclaim :=
  h.withNet

theorem State.Evolves.versionRetire (h : s.Evolves u) : s.Evolves u.versionRetire := by
  unfold State.versionRetire
  dsimp only
  split
  · exact .either h h.withNet.reclaim
  · exact h

/-! ### Ingress -/

theorem State.Evolves.dropCount {sub k : Nat} (h : s.Evolves u) : s.Evolves (u.dropCount sub k) :=
  h.rsat

theorem State.Evolves.flowCheck {sub prio : Nat} (h : s.Evolves u) : s.Evolves (u.flowCheck sub prio) :=
  .either h (.either (.either h.withNet.emit h) (.either h.withNet.emit h))

theorem State.Evolves.setPause {sub prio quanta : Nat} (h : s.Evolves u) : s.Evolves (u.setPause sub prio quanta) :=
  .either h.withNet h.withNet

theorem State.Evolves.macControl {sub : Nat} {b : Bytes} {t : State} (h : s.Evolves u)
    (e : u.macControl sub b = some t) : s.Evolves t := by
  unfold State.macControl at e
  obtain ⟨_, e⟩ := Option.ite_none_left_eq_some.1 e
  split at e
  · cases e
    exact .fold h fun _ _ hv => hv.setPause
  · obtain ⟨_, e⟩ := Option.ite_none_right_eq_some.1 e
    cases e
    exact .fold h fun _ _ hv => .either hv.setPause hv

theorem State.Evolves.fillBuffers {spoke flags detail : Nat} {ans : HostAns} {l : List (Nat × Op)} {b : Bytes}
    (h : s.Evolves u) : s.Evolves (u.fillBuffers spoke flags detail ans l b) := by
  induction l generalizing u b with
  | nil => exact h
  | cons a l ih => exact .either h.spokeWrite.finish (ih h.spokeWrite.modOp.finish)

theorem State.Evolves.deliver {h' : HeldFrame} {ans : HostAns} (h : s.Evolves u) : s.Evolves (u.deliver h' ans) := by
  unfold State.deliver
  split
  · refine .either h.dropCount ?_
    split
    · exact h.fillBuffers
    · exact .either h.withNet h.dropCount
  · exact h.dropCount

theorem State.Evolves.retryHeld {q n : Nat} {ans : HostAns} (h : s.Evolves u) :
    s.Evolves (u.retryHeld q ans n) := by
  induction n generalizing u with
  | zero => exact h
  | succ n ih =>
    unfold State.retryHeld
    dsimp only
    split
    · exact h
    · split
      · exact h
      · exact ih (.flowCheck (.deliver (h.trans {})))

theorem State.Evolves.post {o : Nat} {ans : HostAns} (h : s.Evolves u) : s.Evolves (u.post o ans) := by
  unfold State.post
  dsimp only
  split
  · exact h
  · exact .either h (.either h.finish h.modOp.retryHeld)

theorem State.Evolves.slowPath {sub : Nat} {b : Bytes} (h : s.Evolves u) : s.Evolves (u.slowPath sub b) := by
  -- The length of the second is made a variable before the body is read: the kernel would count the number down.
  obtain ⟨second, hsecond⟩ : ∃ n, n = 1000000000 := ⟨_, rfl⟩
  have body : State.slowPath = State.slowPath := rfl
  conv_rhs at body => delta State.slowPath
  rw [body, ← hsecond]
  exact .either h.dropCount h.withNet.emit

theorem State.Evolves.leave {k : Pkt} (h : s.Evolves u) : s.Evolves (u.leave k) :=
  h.flowSample.inFlight

theorem State.Evolves.applyMeter {a : Bytes} {line : Nat} {dscp : Option Nat} (h : s.Evolves u) :
    s.Evolves (u.applyMeter a line dscp).1 := by
  unfold State.applyMeter
  dsimp only
  exact .either_fst h h.meterPacket

theorem State.Evolves.toTransport {k : Pkt} {b : Bytes} (h : s.Evolves u) : s.Evolves (u.toTransport k b) :=
  h.withXpt

theorem State.Evolves.act {k : Pkt} {ans : HostAns} (h : s.Evolves u) : s.Evolves (u.act k ans) := by
  unfold State.act
  dsimp only
  split
  · exact h.leave.dropCount
  · refine .either h.applyMeter.leave (.either h.applyMeter.withNet ?_)
    split
    · exact .deliver (.either h.applyMeter.leave.deliver h.applyMeter.leave)
    · exact .toTransport (.either h.applyMeter.leave.deliver h.applyMeter.leave)
    · split
      · exact .either (.enqueue (.either h.applyMeter.leave.deliver h.applyMeter.leave))
          (.dropCount (.either h.applyMeter.leave.deliver h.applyMeter.leave))
      · exact .dropCount (.either h.applyMeter.leave.deliver h.applyMeter.leave)
    · exact .slowPath (.either h.applyMeter.leave.deliver h.applyMeter.leave)
    · exact .dropCount (.either h.applyMeter.leave.deliver h.applyMeter.leave)

theorem State.Evolves.classify {k : Pkt} {ans : HostAns} (h : s.Evolves u) : s.Evolves (u.classify k ans) :=
  .either h.leave.dropCount (.either h.leave.slowPath (.either h.act h.withNet))

theorem State.Evolves.enter {sub : Nat} {b : Bytes} {line : Nat} {prot : Bool} {ans : HostAns} (h : s.Evolves u) :
    s.Evolves (u.enter sub b line prot ans) :=
  h.inFlight.classify.flowCheck

theorem State.Evolves.secyReceive {sub : Nat} {b : Bytes} (h : s.Evolves u) : s.Evolves (u.secyReceive sub b).1 := by
  unfold State.secyReceive
  dsimp only
  refine .either_fst h (.either_fst h (.either_fst h ?_))
  split
  · exact h
  · split
    · exact h
    · split
      · exact h
      · exact h.withNet

theorem State.Evolves.frameReceived {sub : Nat} {b : Bytes} {ok : Bool} {ans : HostAns} (h : s.Evolves u) :
    s.Evolves (u.frameReceived sub b ok ans) := by
  unfold State.frameReceived
  dsimp only
  refine .either h (.either h.emit (.either h.dropCount (.either h.dropCount ?_)))
  split
  next heq => exact h.macControl heq
  · split
    next heq => exact (h.secyReceive.fst_eq heq).dropCount
    next heq => exact (h.secyReceive.fst_eq heq).enter

theorem State.Evolves.cacheFill {profile : Nat} {key : Bytes} {ans : HostAns} (h : s.Evolves u) :
    s.Evolves (u.cacheFill profile key ans) :=
  .either h (.fold h.withNet fun _ _ hv => hv.act.flowCheck)

theorem State.Evolves.espOpen {d : Decrypt} (h : s.Evolves u) : s.Evolves (u.espOpen d).1 := by
  unfold State.espOpen
  dsimp only
  split
  · split
    · exact h
    · refine .either_fst h ?_
      split
      · exact h
      · exact h.withNet
  · exact h

theorem State.Evolves.decryptComplete {i : Nat} {ans : HostAns} (h : s.Evolves u) :
    s.Evolves (u.decryptComplete i ans) := by
  unfold State.decryptComplete
  dsimp only
  split
  · exact h
  · refine .flowCheck ?_
    split
    next heq => exact (h.withNet.espOpen.fst_eq heq).leave.dropCount
    next heq => exact (h.withNet.espOpen.fst_eq heq).classify

theorem State.Evolves.pauseExpire {sub prio : Nat} (h : s.Evolves u) : s.Evolves (u.pauseExpire sub prio) := by
  unfold State.pauseExpire
  dsimp only
  split
  · exact h
  · exact h.trans { now := Nat.le_max_left .. }

theorem State.Evolves.pfcRefresh {sub prio : Nat} (h : s.Evolves u) : s.Evolves (u.pfcRefresh sub prio) :=
  .either h.emit h

/-! ### Egress -/

theorem State.Evolves.bucketRefill {sub : Nat} (h : s.Evolves u) : s.Evolves (u.bucketRefill sub) :=
  h.withSch

theorem State.Evolves.serviceSet {f : Nat} {p : Bytes} (h : s.Evolves u) : s.Evolves (u.serviceSet f p).st := by
  unfold State.serviceSet
  dsimp only [Reply.ok, Reply.err]
  exact .either_st h (.either_st h h.withSch)

theorem State.Evolves.send {o : Nat} {ans : HostAns} (h : s.Evolves u) : s.Evolves (u.send o ans) := by
  unfold State.send
  dsimp only
  split
  · exact h
  · exact .either h (.either h.finish (.either h.finish (.either h.finish
      (.either (.either h.spokeRead.parkOp h.spokeRead.finish) (.either h.spokeRead.finish
      h.spokeRead.modOp.enqueue)))))

theorem State.Evolves.espSeal {sa : Nat} {b : Bytes} {p : Parsed} (h : s.Evolves u) :
    s.Evolves (u.espSeal sa b p).1 := by
  unfold State.espSeal
  dsimp only
  split
  · split
    · exact h
    · exact .either_fst h (.either_fst h.drawBytes.withNet h.drawBytes.withNet)
  · exact h

theorem State.Evolves.secySend {sub : Nat} {b : Bytes} (h : s.Evolves u) : s.Evolves (u.secySend sub b).1 := by
  unfold State.secySend
  dsimp only
  split
  · exact h
  · split
    · exact h
    · exact h.withNet

theorem State.Evolves.either_sent {c : Prop} {_ : Decidable c} {p q : Sent} (h : s.Evolves p.st)
    (h' : s.Evolves q.st) : s.Evolves (if c then p else q).st := by
  split <;> assumption

theorem State.Evolves.egress {sub : Nat} {b : Bytes} (h : s.Evolves u) : s.Evolves (u.egress sub b).st := by
  unfold State.egress
  dsimp only
  split
  · split
    next heq => exact h.secySend.fst_eq heq
    next heq => exact (h.secySend.fst_eq heq).dropCount
  · refine .either_sent h.applyMeter (.either_sent h.applyMeter.dropCount (.either_sent h.applyMeter.slowPath ?_))
    split
    next heq => exact ((either_fst h.applyMeter.espSeal h.applyMeter).fst_eq heq).dropCount
    next v _ heq =>
      have hv : s.Evolves v := (either_fst h.applyMeter.espSeal h.applyMeter).fst_eq heq
      split
      next heq => exact hv.secySend.fst_eq heq
      next heq => exact (hv.secySend.fst_eq heq).dropCount

theorem State.Evolves.telSent (h : s.Evolves u) : s.Evolves u.telSent :=
  h.withTel

theorem State.Evolves.svcKids {sub k : Nat} {l : List Cand} (h : s.Evolves u) : s.Evolves (u.svcKids sub k l).1 :=
  .fold h fun _ _ hv => .either hv hv.withSch

theorem State.Evolves.subKids {sub : Nat} {l : List Cand} (h : s.Evolves u) : s.Evolves (u.subKids sub l).1 :=
  .fold h fun _ _ hv => .either hv hv.withSch

theorem State.Evolves.pickSvc {sub k : Nat} {l : List Cand} (h : s.Evolves u) : s.Evolves (u.pickSvc sub k l).1 := by
  unfold State.pickSvc
  dsimp only
  split
  · exact h.svcKids.withSch
  · exact h.svcKids

theorem State.Evolves.select {sub : Nat} (h : s.Evolves u) : s.Evolves (u.select sub).1 := by
  unfold State.select
  dsimp only
  split
  · exact h.subKids.withSch.pickSvc
  · exact h.subKids

theorem State.Evolves.dequeue {sub : Nat} {c : Cand} (h : s.Evolves u) : s.Evolves (u.dequeue sub c) :=
  .either h.withSch h.withSch

theorem State.Evolves.charge {sub : Nat} {c : Cand} (h : s.Evolves u) : s.Evolves (u.charge sub c) :=
  h.withSch

theorem State.Evolves.xptSent {x : TxFrame} (h : s.Evolves u) : s.Evolves (u.xptSent x) := by
  unfold State.xptSent
  split
  · exact h
  · exact h.withXpt

theorem State.Evolves.schedulerSelect {sub : Nat} {ans : HostAns} (h : s.Evolves u) :
    s.Evolves (u.schedulerSelect sub ans) := by
  unfold State.schedulerSelect
  refine .either h ?_
  split
  · exact h
  next v c heq =>
    extract_lets v1 v2 r v3 v4 v5
    have hv2 : s.Evolves v2 := .either (h.select.fst_eq heq).dequeue.telSent (h.select.fst_eq heq).dequeue
    have hv3 : s.Evolves v3 := by
      unfold v3
      split
      · exact .deliver hv2.egress
      · exact hv2.egress
    have hv5 : s.Evolves v5 := .either (.xptSent (.either hv3.emit.charge hv3)) (.either hv3.emit.charge hv3)
    split
    · exact hv5
    · exact .either hv5.finish hv5.finish

/-! ### Connections: packets -/

theorem State.Evolves.setConn {c : Nat} {k : Conn} (h : s.Evolves u) : s.Evolves (u.setConn c k) :=
  h.withXpt

theorem State.Evolves.modConn {c : Nat} {g : Conn → Conn} (h : s.Evolves u) : s.Evolves (u.modConn c g) :=
  h.withXpt

theorem State.Evolves.xcount {k : Nat} (h : s.Evolves u) : s.Evolves (u.xcount k) :=
  h.rsat

theorem State.Evolves.touchCtx {c : Nat} {par : ConnParams} (h : s.Evolves u) : s.Evolves (u.touchCtx c par) := by
  unfold State.touchCtx
  dsimp only
  exact .either h (.withXpt (.either_snd h.xcount (h.xcount.draw (w := 10))))

theorem State.Evolves.joinMember {spoke sub : Nat} {x : TxFrame} (h : s.Evolves u) :
    s.Evolves (u.joinMember spoke sub x) :=
  h.withSch

theorem State.Evolves.wireY {c : Nat} {k : Conn} {p : YPkt} {path : Nat} {psn : Option Nat} {ctl : Bool}
    (h : s.Evolves u) :
    s.Evolves (u.wireY c k p path psn ctl) := by
  unfold State.wireY
  dsimp only
  exact h.draw.joinMember

theorem State.Evolves.admitPkts {c n : Nat} (h : s.Evolves u) : s.Evolves (u.admitPkts c n) := by
  induction n generalizing u with
  | zero => exact h
  | succ n ih =>
    unfold State.admitPkts
    split
    · exact h
    · refine .either h ?_
      split
      · split
        · exact ih h.setConn.wireY
        · exact h
      · exact h

theorem State.Evolves.stream {c : Nat} {l : List (YPkt × Option Nat × Option Nat)} (h : s.Evolves u) :
    s.Evolves (u.stream c l) := by
  unfold State.stream
  dsimp only
  split
  · exact h
  · exact h.setConn.admitPkts

theorem State.Evolves.sendCtl {c : Nat} {y : YPkt} (h : s.Evolves u) : s.Evolves (u.sendCtl c y) := by
  unfold State.sendCtl
  dsimp only
  split
  · exact h
  · split
    · exact h
    · exact h.wireY

theorem State.Evolves.sendAck {c : Nat} (h : s.Evolves u) : s.Evolves (u.sendAck c) := by
  unfold State.sendAck
  dsimp only
  split
  · exact h
  · exact h.draw.setConn.sendCtl

theorem State.Evolves.resend {c psn : Nat} {avoid : Option Nat} (h : s.Evolves u) :
    s.Evolves (u.resend c psn avoid) := by
  unfold State.resend
  dsimp only
  split
  · exact h
  · split
    · exact h
    · split
      · exact h.setConn.xcount.wireY
      · exact h.setConn

theorem State.Evolves.resumeConn {c : Nat} (h : s.Evolves u) : s.Evolves (u.resumeConn c) := by
  unfold State.resumeConn
  dsimp only
  split
  · exact h
  · exact .admitPkts (.fold h fun _ _ hv => hv.resend)

theorem State.Evolves.finishWork {c : Nat} {w : Work} {st : Status} (h : s.Evolves u) :
    s.Evolves (u.finishWork c w st) :=
  h.finish

theorem State.Evolves.completeWorks {c : Nat} (h : s.Evolves u) : s.Evolves (u.completeWorks c) := by
  unfold State.completeWorks
  dsimp only
  split
  · exact h
  · exact .fold h.setConn fun _ _ hv => hv.finishWork

theorem State.Evolves.flushConn {c : Nat} {k : Conn} {bad : Option Nat} {st : Status} (h : s.Evolves u) :
    s.Evolves (u.flushConn c k bad st) := by
  unfold State.flushConn
  dsimp only
  refine .fold (.fold h fun _ _ hv => .either hv.finishWork hv.finish) fun v1 _ hv1 => ?_
  split
  · exact .either hv1.unhold.finish (.either hv1 hv1.finish)
  · exact hv1

theorem State.Evolves.connErrorOp {c psn : Nat} {bad : Option Nat} {st : Status} (h : s.Evolves u) :
    s.Evolves (u.connErrorOp c psn bad st) := by
  unfold State.connErrorOp
  dsimp only
  split
  · exact h
  · exact .either h h.flushConn.setConn.withSch.postEvent.excludePeer

theorem State.Evolves.connError {c psn : Nat} {st : Status} (h : s.Evolves u) : s.Evolves (u.connError c psn st) := by
  unfold State.connError
  split
  · exact h
  · exact h.connErrorOp

theorem State.Evolves.placeFail {spoke : Nat} {r : AccRes} (h : s.Evolves u) : s.Evolves (u.placeFail spoke r).1 :=
  .either_fst (.either_fst h (.either_fst h.pageFor h)) (.either_fst h h)

theorem State.Evolves.placeBytes {spoke va : Nat} {b : Bytes} {ep : Bool} {ans : HostAns} (h : s.Evolves u) :
    s.Evolves (u.placeBytes spoke va b ep ans).1 := by
  unfold State.placeBytes
  dsimp only
  exact .either_fst h (.either_fst h.spokeWrite h.spokeWrite.placeFail)

theorem State.Evolves.readPackets {spoke va m n off len : Nat} {ans : HostAns} (h : s.Evolves u) :
    s.Evolves (u.readPackets spoke va m ans n off len).1 := by
  induction n generalizing u off with
  | zero => exact h
  | succ n ih => exact .either_fst h (.either_fst h.spokeRead (ih h.spokeRead))

/-! ### Connections: their states -/

theorem State.Evolves.connCreate {f : Nat} {p : Bytes} (h : s.Evolves u) : s.Evolves (u.connCreate f p).st := by
  unfold State.connCreate
  dsimp only [Reply.ok, Reply.err]
  refine .either_st h (.either_st h (.either_st h ?_))
  split
  · exact h
  · exact h.withXpt

theorem State.Evolves.connConnect {f : Nat} {p : Bytes} (h : s.Evolves u) : s.Evolves (u.connConnect f p).st := by
  unfold State.connConnect
  dsimp only [Reply.ok, Reply.err]
  split
  · exact h
  · exact .either_st h (.either_st h h.setConn)

theorem State.Evolves.killConn {c : Nat} {flush : Bool} {wait : Option (Nat × Nat)} (h : s.Evolves u) :
    s.Evolves (u.killConn c flush wait) := by
  unfold State.killConn
  dsimp only
  split
  · exact h
  · exact .either h (.excludePeer (.withSch (.setConn (.either h.flushConn h))))

theorem State.Evolves.connDestroy {f : Nat} {p : Bytes} (h : s.Evolves u) : s.Evolves (u.connDestroy f p).st := by
  unfold State.connDestroy
  dsimp only [Reply.ok, Reply.err]
  split
  · exact h
  · exact .either_st h (.either_st h h.killConn)

theorem State.Evolves.connQuery {f : Nat} {p : Bytes} (h : s.Evolves u) : s.Evolves (u.connQuery f p).st := by
  unfold State.connQuery
  dsimp only [Reply.ok, Reply.err]
  split
  · exact h
  · exact .either_st h (.either_st h h)

theorem State.Evolves.regionRegister {f : Nat} {p : Bytes} (h : s.Evolves u) : s.Evolves (u.regionRegister f p).st := by
  unfold State.regionRegister
  dsimp only [Reply.ok, Reply.err]
  refine .either_st h (.either_st h ?_)
  split
  · exact h
  · exact h.withXpt.bump

theorem State.Evolves.regionRevoke {f : Nat} {p : Bytes} (h : s.Evolves u) : s.Evolves (u.regionRevoke f p).st := by
  unfold State.regionRevoke
  dsimp only [Reply.ok, Reply.err]
  split
  · exact h
  · refine .either_st h (.either_st h ?_)
    split
    · exact h
    · exact h.withXpt
    · exact h.withXpt.bump

theorem State.Evolves.revokeComplete {i : Nat} (h : s.Evolves u) : s.Evolves (u.revokeComplete i) := by
  unfold State.revokeComplete
  split
  · exact h
  · split
    · exact .fold h.withXpt.bump fun _ _ hv => hv.respond
    · exact h

theorem State.Evolves.revokeSpoke {k : Nat} (h : s.Evolves u) : s.Evolves (u.revokeSpoke k) :=
  h.withXpt

/-! ### Connections: Yekel -/

theorem State.Evolves.takeY {i opc : Nat} (h : s.Evolves u) : s.Evolves (u.takeY i opc).1 := by
  unfold State.takeY
  dsimp only
  split
  · exact h
  · split
    · exact .either_fst h.withXpt h
    · exact .either_fst h.withXpt.xcount h

theorem State.Evolves.connFor {p : YPkt} (h : s.Evolves u) : s.Evolves (u.connFor p).1 := by
  unfold State.connFor
  split
  · exact h.xcount
  · exact .either_fst h.xcount (.either_fst h.xcount (.either_fst h.xcount h.touchCtx))

theorem State.Evolves.notify {c rxCq : Nat} {m : InMsg} {ans : HostAns} (h : s.Evolves u) :
    s.Evolves (u.notify c rxCq m ans) := by
  unfold State.notify
  dsimp only
  refine .either h ?_
  split
  · exact h
  · exact h.modQueue.flush

theorem State.Evolves.serveRead {c : Nat} {k : Conn} {p : YPkt} {ans : HostAns} (h : s.Evolves u) :
    s.Evolves (u.serveRead c k p ans).1 := by
  unfold State.serveRead
  dsimp only
  refine .either_fst h (.either_fst h.stream (.either_fst h (.either_fst h.readPackets.stream ?_)))
  split
  next heq => exact h.readPackets.placeFail.fst_eq heq
  next heq => exact h.readPackets.placeFail.fst_eq heq

theorem State.Evolves.serveWrite {k : Conn} {p : YPkt} {ans : HostAns} (h : s.Evolves u) :
    s.Evolves (u.serveWrite k p ans).1 := by
  unfold State.serveWrite
  dsimp only
  refine .either_fst h (.either_fst h ?_)
  split
  next heq => exact h.placeBytes.fst_eq heq
  next heq => exact h.placeBytes.fst_eq heq
  next heq => exact h.placeBytes.fst_eq heq

theorem State.Evolves.takeResponse {c : Nat} {k : Conn} {p : YPkt} {ans : HostAns} (h : s.Evolves u) :
    s.Evolves (u.takeResponse c k p ans).1 := by
  unfold State.takeResponse
  dsimp only
  split
  · exact h
  · refine .either_fst h.modConn ?_
    split
    next heq => exact (h.placeBytes.fst_eq heq).modConn
    next heq => exact h.placeBytes.fst_eq heq
    next heq => exact (h.placeBytes.fst_eq heq).modConn

theorem State.Evolves.takeNak {c : Nat} {k : Conn} {p : YPkt} (h : s.Evolves u) : s.Evolves (u.takeNak c k p) := by
  unfold State.takeNak
  dsimp only
  split
  · exact h.xcount
  · exact h.modConn

theorem State.Evolves.rejectY {c : Nat} {p : YPkt} {st : Status} (h : s.Evolves u) : s.Evolves (u.rejectY c p st) := by
  unfold State.rejectY
  dsimp only
  split
  · exact h
  · exact .either h.setConn.stream.postEvent h.setConn.stream

theorem State.Evolves.place {c : Nat} {k : Conn} {p : YPkt} {ans : HostAns} (h : s.Evolves u) :
    s.Evolves (u.place c k p ans).1 := by
  unfold State.place
  split
  next heq => exact ((either_fst h.serveRead h.serveWrite).fst_eq heq).modConn
  next heq => exact ((either_fst h.serveRead h.serveWrite).fst_eq heq).rejectY
  next heq => exact (either_fst h.serveRead h.serveWrite).fst_eq heq

theorem State.Evolves.accept {c : Nat} {k : Conn} {p : YPkt} {ans : HostAns} (h : s.Evolves u) :
    s.Evolves (u.accept c k p ans).1 :=
  .either_fst h.takeNak (.either_fst h.takeResponse (.either_fst (.either_fst h.xcount
    (.either h.modConn.rset h.modConn)) h.place))

theorem State.Evolves.drain {c : Nat} {ans : HostAns} {l : List YPkt} (h : s.Evolves u) :
    s.Evolves (u.drain c ans l) := by
  induction l generalizing u with
  | nil => exact h
  | cons p l ih =>
    unfold State.drain
    split
    · exact h
    · refine .either (ih h) ?_
      split
      next heq => exact ih (h.place.fst_eq heq)
      next heq => exact ih (h.place.fst_eq heq).modConn

theorem State.Evolves.settleLoop {c n : Nat} {ans : HostAns} (h : s.Evolves u) :
    s.Evolves (u.settleLoop c ans n) := by
  induction n generalizing u with
  | zero => exact h
  | succ n ih =>
    unfold State.settleLoop
    split
    · exact h
    · refine .either h ?_
      dsimp only
      split
      · exact h
      · exact .either (ih h.setConn.notify) (ih (.either (.drain (.either h.setConn.triggerMessage h.setConn))
          (.either h.setConn.triggerMessage h.setConn)))

theorem State.Evolves.settle {c : Nat} {ans : HostAns} (h : s.Evolves u) : s.Evolves (u.settle c ans) := by
  unfold State.settle
  dsimp only
  split
  · exact h
  · refine .either h ?_
    split
    · exact h.drain.settleLoop
    · exact .either h.drain.settleLoop.setConn h.drain.settleLoop

theorem State.Evolves.settleXpt {ans : HostAns} (h : s.Evolves u) : s.Evolves (u.settleXpt ans) :=
  .fold h fun _ _ hv => hv.settle

theorem State.Evolves.ackCount {c : Nat} {p : YPkt} (h : s.Evolves u) : s.Evolves (u.ackCount c p) := by
  unfold State.ackCount
  dsimp only
  split
  · exact h
  · exact .either h.setConn.sendAck h.setConn

theorem State.Evolves.onPacket {p : YPkt} {ans : HostAns} (h : s.Evolves u) : s.Evolves (u.onPacket p ans) := by
  unfold State.onPacket
  dsimp only
  split
  next heq => exact h.connFor.fst_eq heq
  next v1 _ heq =>
    have hv1 : s.Evolves v1 := h.connFor.fst_eq heq
    refine .either hv1.setConn.xcount.modConn.sendAck ?_
    refine .either hv1.setConn.xcount (.either (.either hv1.setConn.xcount.stream hv1.setConn.xcount) ?_)
    split
    next heq => exact (hv1.setConn.accept.fst_eq heq).xcount.sendCtl
    next heq => exact (hv1.setConn.accept.fst_eq heq).settle.ackCount
    next heq => exact (hv1.setConn.accept.fst_eq heq).modConn.settle.ackCount.completeWorks

theorem State.Evolves.rxReliable {i opc : Nat} {ans : HostAns} (h : s.Evolves u) :
    s.Evolves (u.rxReliable i opc ans) := by
  unfold State.rxReliable
  split
  next heq => exact (h.takeY.fst_eq heq).onPacket
  next heq => exact h.takeY.fst_eq heq

theorem State.Evolves.nakAcked {c : Nat} {rel : List OutPkt} {ans : HostAns} (h : s.Evolves u) :
    s.Evolves (u.nakAcked c rel ans) :=
  .either h h.modConn.modConn.settle

theorem State.Evolves.onAck {a : YPkt} {ans : HostAns} (h : s.Evolves u) : s.Evolves (u.onAck a ans) := by
  unfold State.onAck
  dsimp only
  split
  next heq => exact h.connFor.fst_eq heq
  next heq => exact .completeWorks (.admitPkts (.nakAcked (.fold (h.connFor.fst_eq heq).setConn fun _ _ hv2 =>
    hv2.resend)))

theorem State.Evolves.execAck {i : Nat} {ans : HostAns} (h : s.Evolves u) : s.Leads (execAck i ans u) := by
  unfold Machine.execAck
  split
  next heq => exact .next (h.takeY.fst_eq heq).onAck
  next heq => exact .next (h.takeY.fst_eq heq)

theorem State.Evolves.onNakRetry {a : YPkt} (h : s.Evolves u) : s.Evolves (u.onNakRetry a) := by
  unfold State.onNakRetry
  split
  next heq => exact h.connFor.fst_eq heq
  next heq => exact (h.connFor.fst_eq heq).modConn

theorem State.Evolves.execNakRetry {i : Nat} (h : s.Evolves u) : s.Leads (execNakRetry i u) := by
  unfold Machine.execNakRetry
  split
  next heq => exact .next (h.takeY.fst_eq heq).onNakRetry
  next heq => exact .next (h.takeY.fst_eq heq)

theorem State.Evolves.execAckTimer {c : Nat} (h : s.Evolves u) : s.Leads (execAckTimer c u) := by
  unfold Machine.execAckTimer
  split
  · exact .next h
  · split
    · exact .next h
    · exact .next (.sendAck (h.trans { now := Nat.le_max_left .. }))

theorem State.Evolves.rtoExpire {c psn : Nat} (h : s.Evolves u) : s.Evolves (u.rtoExpire c psn) := by
  unfold State.rtoExpire
  dsimp only
  split
  · exact h
  · exact .either h (.either (.connError (.xcount (h.trans { now := Nat.le_max_left .. })))
      (.resend (.setConn (.xcount (h.trans { now := Nat.le_max_left .. })))))

theorem State.Evolves.suspectExpire {c path : Nat} (h : s.Evolves u) : s.Evolves (u.suspectExpire c path) := by
  unfold State.suspectExpire
  split
  · exact h
  · split
    · exact h
    · exact .either h (.resumeConn (.setConn (h.trans { now := Nat.le_max_left .. })))

theorem State.Evolves.retryResend {c psn : Nat} (h : s.Evolves u) : s.Evolves (u.retryResend c psn) := by
  unfold State.retryResend
  dsimp only
  split
  · exact h
  · split
    · exact h
    · exact .resend (.setConn (h.trans { now := Nat.le_max_left .. }))

theorem State.Evolves.retryExpire {c psn : Nat} (h : s.Evolves u) : s.Evolves (u.retryExpire c psn) := by
  unfold State.retryExpire
  split
  · exact h
  · split
    · exact h
    · exact .connError (h.trans { now := Nat.le_max_left .. })

theorem State.Evolves.cwndRise {c : Nat} (h : s.Evolves u) : s.Evolves (u.cwndRise c) := by
  unfold State.cwndRise
  split
  · exact h
  · exact .either h (.admitPkts (.setConn (h.trans { now := Nat.le_max_left .. })))

theorem State.Evolves.connGone {c : Nat} (h : s.Evolves u) : s.Evolves (u.connGone c) := by
  unfold State.connGone
  dsimp only
  split
  · exact h
  · split
    · exact h
    · split
      · exact .either h.withXpt.respond h.withXpt
      · exact h.withXpt

/-! ### Connections: RoCE -/

theorem State.Evolves.wireR {c : Nat} {k : Conn} {p : RPkt} {psn : Option Nat} {ctl : Bool} (h : s.Evolves u) :
    s.Evolves (u.wireR c k p psn ctl) := by
  unfold State.wireR
  dsimp only
  exact h.draw.joinMember

theorem State.Evolves.admitR {c n : Nat} (h : s.Evolves u) : s.Evolves (u.admitR c n) := by
  induction n generalizing u with
  | zero => exact h
  | succ n ih =>
    unfold State.admitR
    split
    · exact h
    · refine .either h ?_
      split
      · exact h
      · split
        · exact h
        · exact .either h (ih h.setConn.wireR)

theorem State.Evolves.goBack {c psn : Nat} (h : s.Evolves u) : s.Evolves (u.goBack c psn) := by
  unfold State.goBack
  split
  · exact h
  · refine .either h.modConn (.fold h fun v _ hv => ?_)
    split
    · exact hv.xcount.wireR
    · exact hv

theorem State.Evolves.releaseR {c : Nat} {p : OutPkt → Bool} (h : s.Evolves u) : s.Evolves (u.releaseR c p) := by
  unfold State.releaseR
  dsimp only
  split
  · exact h
  · exact h.setConn.admitR.completeWorks

theorem State.Evolves.ackedTo {c psn : Nat} (h : s.Evolves u) : s.Evolves (u.ackedTo c psn) := by
  unfold State.ackedTo
  split
  · exact h
  · split
    · exact h.releaseR
    · exact h.releaseR.goBack

theorem State.Evolves.roceAck {c : Nat} {p : RPkt} (h : s.Evolves u) : s.Evolves (u.roceAck c p) := by
  unfold State.roceAck
  dsimp only
  refine .either h.ackedTo (.either ?_ (.either h.ackedTo.goBack (.either h.ackedTo.connError h)))
  split
  · exact h
  · exact .either h.connError h.ackedTo.modConn

theorem State.Evolves.roceResp {c : Nat} {p : RPkt} {ans : HostAns} (h : s.Evolves u) :
    s.Evolves (u.roceResp c p ans) := by
  unfold State.roceResp
  split
  · exact h
  · split
    · exact h
    · split
      · exact h
      · refine .either h ?_
        split
        next v _ heq =>
          have hv : s.Evolves v := by
            split at heq
            next hp => exact (h.placeBytes.fst_eq hp).fst_eq heq
            next hp => exact (h.placeBytes.fst_eq hp).fst_eq heq
            next hp => exact (h.placeBytes.fst_eq hp).fst_eq heq
          split
          · exact hv
          · exact .either hv.modConn.releaseR hv.modConn

theorem State.Evolves.roceSendAck {c psn synd : Nat} (h : s.Evolves u) : s.Evolves (u.roceSendAck c psn synd) := by
  unfold State.roceSendAck
  split
  · exact h
  · exact h.wireR

theorem State.Evolves.endRecv {c o : Nat} {st : Status} {n : Nat} {imm : Option Nat} {ans : HostAns} (h : s.Evolves u) :
    s.Evolves (u.endRecv c o st n imm ans) := by
  unfold State.endRecv
  dsimp only
  split
  · refine .startFenced ?_
    split
    · exact .flush (.modQueue (h.trans { ops := Map.erase_wf _ _ }))
    · split
      · exact .sendUpdate (h.trans { ops := Map.erase_wf _ _ })
      · exact h.trans { ops := Map.erase_wf _ _ }
  · exact h

theorem State.Evolves.roceFatal {c : Nat} {p : RPkt} {synd : Nat} {st : Status} {off : Nat} {ans : HostAns}
    (h : s.Evolves u) :
    s.Evolves (u.roceFatal c p synd st off ans) := by
  unfold State.roceFatal
  dsimp only
  split
  · exact h
  · refine .connErrorOp ?_
    split
    · exact h.roceSendAck.postEvent.endRecv
    · exact h.roceSendAck.postEvent

theorem State.Evolves.roceLater {c : Nat} {p : RPkt} (h : s.Evolves u) : s.Evolves (u.roceLater c p) :=
  h.xcount.roceSendAck

theorem State.Evolves.roceTaken {c : Nat} {p : RPkt} {n : Nat} {msgEnd : Bool} (h : s.Evolves u) :
    s.Evolves (u.roceTaken c p n msgEnd) :=
  .either h.modConn.roceSendAck h.modConn

theorem State.Evolves.roceSend {c : Nat} {k : Conn} {p : RPkt} {ans : HostAns} (h : s.Evolves u) :
    s.Evolves (u.roceSend c k p ans) := by
  unfold State.roceSend
  dsimp only
  refine .either h.roceFatal (.either h.roceLater ?_)
  split
  · exact h.roceSendAck
  · refine .either h.modConn.roceFatal ?_
    split
    next heq => exact (h.placeBytes.fst_eq heq).roceLater
    next heq => exact (h.placeBytes.fst_eq heq).modConn.roceFatal
    next v2 heq =>
      have hv2 : s.Evolves v2 := h.placeBytes.fst_eq heq
      exact .roceTaken (.either hv2.modConn.endRecv hv2.modConn)

theorem State.Evolves.roceWrite {c : Nat} {k : Conn} {p : RPkt} {ans : HostAns} (h : s.Evolves u) :
    s.Evolves (u.roceWrite c k p ans) := by
  unfold State.roceWrite
  dsimp only
  refine .either h.roceFatal (.either h.roceFatal (.either h.roceLater (.either h.roceSendAck ?_)))
  split
  next heq => exact ((either_fst h h.placeBytes).fst_eq heq).roceLater
  next heq => exact ((either_fst h h.placeBytes).fst_eq heq).roceFatal
  next v2 heq =>
    have hv2 : s.Evolves v2 := (either_fst h h.placeBytes).fst_eq heq
    refine .roceTaken ?_
    split
    · exact hv2.modConn.endRecv
    · exact hv2.modConn

theorem State.Evolves.roceRead {c : Nat} {k : Conn} {p : RPkt} {again : Bool} {ans : HostAns} (h : s.Evolves u) :
    s.Evolves (u.roceRead c k p again ans) := by
  unfold State.roceRead
  dsimp only
  refine .either h.roceFatal (.either h.roceLater (.either ?_ ?_))
  · split
    next heq => exact (h.readPackets.placeFail.fst_eq heq).roceFatal
    next heq => exact (h.readPackets.placeFail.fst_eq heq).roceLater
  · split
    · exact .either h.readPackets h.readPackets.roceTaken
    · exact .fold (.either h.readPackets h.readPackets.roceTaken) fun _ _ hv2 => hv2.wireR

theorem State.Evolves.roceRequest {c : Nat} {k : Conn} {p : RPkt} {ans : HostAns} (h : s.Evolves u) :
    s.Evolves (u.roceRequest c k p ans) :=
  .either (.either h.roceFatal (.either h.roceRead (.either h.roceSend h.roceWrite)))
    (.either (.either h h.setConn.xcount.roceSendAck) (.either h.roceRead h.roceSendAck))

theorem State.Evolves.roceCnp {c : Nat} {k : Conn} (h : s.Evolves u) : s.Evolves (u.roceCnp c k) := by
  unfold State.roceCnp
  split
  · exact .either h h.setConn
  · exact h.setConn

theorem State.Evolves.roceCe {c : Nat} {k : Conn} {p : RPkt} (h : s.Evolves u) : s.Evolves (u.roceCe c k p).1 :=
  .either_fst h.setConn.wireR h

theorem State.Evolves.roceReceived {i : Nat} {ans : HostAns} (h : s.Evolves u) : s.Evolves (u.roceReceived i ans) := by
  unfold State.roceReceived
  dsimp only
  split
  · exact h
  · refine .either h ?_
    split
    · exact h.withXpt.xcount
    · split
      · exact h.withXpt.xcount
      · exact .either h.withXpt.xcount (.either h.withXpt.touchCtx.roceCnp
          (.either h.withXpt.touchCtx.roceCe.roceAck (.either h.withXpt.touchCtx.roceCe.roceResp
          h.withXpt.touchCtx.roceCe.roceRequest)))

theorem State.Evolves.roceTimeout {c psn : Nat} (h : s.Evolves u) : s.Evolves (u.roceTimeout c psn) := by
  unfold State.roceTimeout
  dsimp only
  split
  · exact h
  · split
    · exact h
    · exact .either h (.either (.connError (.xcount (h.trans { now := Nat.le_max_left .. })))
        (.goBack (.setConn (.xcount (h.trans { now := Nat.le_max_left .. })))))

theorem State.Evolves.rnrTimer {c : Nat} (h : s.Evolves u) : s.Evolves (u.rnrTimer c) := by
  unfold State.rnrTimer
  dsimp only
  split
  · exact h
  · split
    · exact h
    · exact .admitR (.goBack (.setConn (h.trans { now := Nat.le_max_left .. })))

theorem State.Evolves.rateRecovery {c : Nat} (h : s.Evolves u) : s.Evolves (u.rateRecovery c) := by
  unfold State.rateRecovery
  dsimp only
  split
  · exact h
  · exact .either h h.setConn

/-! ### Connections: work requests -/

theorem State.Evolves.readLocal {o : Nat} {x : Op} {q : Queue} {m : Nat} {ans : HostAns} (h : s.Evolves u) :
    s.Evolves (u.readLocal o x q m ans).1 := by
  unfold State.readLocal
  dsimp only
  exact .either_fst h (.either_fst h.readPackets (.either_fst h.readPackets.parkOp h.readPackets.finish))

theorem State.Evolves.putWork {c o : Nat} {w : Work} {l : List (YPkt × Option Nat × Option Nat)} (h : s.Evolves u) :
    s.Evolves (u.putWork c o w l) :=
  h.modConn.modOp.stream

theorem State.Evolves.yWrite {o : Nat} {x : Op} {q : Queue} {k : Conn} {ans : HostAns} (h : s.Evolves u) :
    s.Evolves (u.yWrite o x q k ans) := by
  unfold State.yWrite
  dsimp only
  split
  next heq => exact h.readLocal.fst_eq heq
  next heq => exact (h.readLocal.fst_eq heq).setConn.touchCtx.putWork

theorem State.Evolves.yRead {o : Nat} {x : Op} {k : Conn} (h : s.Evolves u) : s.Evolves (u.yRead o x k) :=
  h.setConn.touchCtx.putWork

theorem State.Evolves.streamR {c op : Nat} {l : List (RPkt × Nat)} (h : s.Evolves u) :
    s.Evolves (u.streamR c op l) := by
  unfold State.streamR
  dsimp only
  split
  · exact h
  · exact h.setConn.admitR

theorem State.Evolves.rocePoison {c o msg : Nat} {st : Status} {l : List RPkt} (h : s.Evolves u) :
    s.Evolves (u.rocePoison c o msg st l) := by
  unfold State.rocePoison
  dsimp only
  split
  · exact h
  · exact .connErrorOp (.finish (.fold h fun _ _ hv => hv.wireR))

theorem State.Evolves.rSend {o : Nat} {x : Op} {q : Queue} {k : Conn} {ans : HostAns} (h : s.Evolves u) :
    s.Evolves (u.rSend o x q k ans) := by
  unfold State.rSend
  dsimp only
  split
  next heq => exact h.readLocal.fst_eq heq
  next v1 _ _ heq =>
    have hv1 : s.Evolves v1 := h.readLocal.fst_eq heq
    exact .either (.either hv1.setConn.touchCtx.finish hv1.setConn.touchCtx.rocePoison)
      hv1.setConn.touchCtx.modConn.modOp.streamR

theorem State.Evolves.rRead {o : Nat} {x : Op} {k : Conn} (h : s.Evolves u) : s.Evolves (u.rRead o x k) :=
  h.setConn.touchCtx.modConn.modOp.streamR

theorem State.Evolves.work {o opc : Nat} {ans : HostAns} (h : s.Evolves u) : s.Evolves (u.work o opc ans) := by
  unfold State.work
  dsimp only
  split
  · exact h
  · refine .either h (.either h.finish (.either h.modOp ?_))
    split
    · exact h
    · exact .either h (.either (.either h.rRead h.yRead) (.either h.rSend h.yWrite))

/-! ### Links -/

theorem State.Evolves.movePaths {sub : Nat} (h : s.Evolves u) : s.Evolves (u.movePaths sub) :=
  .fold h fun _ _ hv => .either hv (.fold hv fun _ _ hv1 => hv1.resend)

theorem State.Evolves.failSends {sub : Nat} (h : s.Evolves u) : s.Evolves (u.failSends sub) :=
  .fold h fun _ _ hv => hv.finish

theorem State.Evolves.linkDown {sub : Nat} (h : s.Evolves u) : s.Evolves (u.linkDown sub) :=
  .either h h.withNet.withSch.failSends.movePaths

theorem State.Evolves.resumeAll {c : Nat} (h : s.Evolves u) : s.Evolves (u.resumeAll c) := by
  unfold State.resumeAll
  dsimp only
  split
  · exact h
  · refine .either h.resumeConn ?_
    split
    · exact h.setConn.goBack.admitR
    · exact h.admitR

theorem State.Evolves.linkRise {sub : Nat} (h : s.Evolves u) : s.Evolves (u.linkRise sub) :=
  .either h (.fold h.withNet fun _ _ hv => hv.resumeAll)

theorem State.Evolves.discardPort {i : Nat} (h : s.Evolves u) : s.Evolves (u.discardPort i) := by
  unfold State.discardPort
  extract_lets mine a v w ours fw x
  have hx : s.Evolves x := .fold (.fold (.fold h fun _ _ hv => hv.inFlight.dropCount) fun _ _ hv => hv.dropCount)
    fun _ _ hv => .fold hv fun _ _ hw => hw.dropCount
  clear_value x
  exact hx.trans {}

theorem State.Evolves.portCommit {i : Nat} (h : s.Evolves u) : s.Evolves (u.portCommit i) :=
  .either h.rset (.fold (.withNet (.restartUnits (.discardPort (.fold h fun _ _ hv => hv.linkDown)))) fun _ _ hv2 =>
    hv2.emit)

theorem State.Evolves.holdPairDown {i : Nat} (h : s.Evolves u) : s.Evolves (u.holdPairDown i) :=
  .fold h fun _ _ hv => hv.linkDown

end
end Sys2Proof.Machine
end

section
/-! PROOFS. What every step keeps: jobs, copies, queues, PCIe and memory. -/

namespace Sys2Proof.Machine
open Sys2Proof

-- One lemma after another: so many short ones, each in a thread of its own, outgrow the memory of a check.
set_option Elab.async false

section
variable {s u : State}

/-! ### Jobs and tiles -/

theorem State.Evolves.setTile {t : Nat} {x : Tile} (h : s.Evolves u) : s.Evolves (u.setTile t x) :=
  h.withStr

theorem State.Evolves.setJob {j : Nat} {x : Job} (h : s.Evolves u) : s.Evolves (u.setJob j x) :=
  h.withStr

theorem State.Evolves.modJob {j : Nat} {g : Job → Job} (h : s.Evolves u) : s.Evolves (u.modJob j g) :=
  h.withStr

theorem State.Evolves.account (h : s.Evolves u) : s.Evolves u.account :=
  h.withStr

theorem State.Evolves.becomeBacklogged {k : Nat} (h : s.Evolves u) : s.Evolves (u.becomeBacklogged k) := by
  unfold State.becomeBacklogged
  dsimp only
  split
  · exact h
  · exact h.withStr

theorem State.Evolves.clearTile {t : Nat} (h : s.Evolves u) : s.Evolves (u.clearTile t) :=
  h.setTile.restartUnits

theorem State.Evolves.retireNow {t : Nat} {who : Option (Nat × Nat)} (h : s.Evolves u) :
    s.Evolves (u.retireNow t who) :=
  .either h.setTile.withStr.journal.retireTray h.setTile.withStr.journal

theorem State.Evolves.tileFreed {t : Nat} (h : s.Evolves u) : s.Evolves (u.tileFreed t) := by
  unfold State.tileFreed
  split
  · exact h.retireNow
  · exact h

theorem State.Evolves.freeJobTiles {l : List Nat} (h : s.Evolves u) : s.Evolves (u.freeJobTiles l) :=
  .fold h fun _ _ hv => hv.clearTile.tileFreed

theorem State.Evolves.dropJob {j : Nat} (h : s.Evolves u) : s.Evolves (u.dropJob j) := by
  unfold State.dropJob
  dsimp only
  split
  · exact h
  · exact h.account.withStr.freeJobTiles

theorem State.Evolves.failJob {j : Nat} {st : Status} {detail : Nat} (h : s.Evolves u) :
    s.Evolves (u.failJob j st detail) := by
  unfold State.failJob
  dsimp only
  split
  · exact h
  · exact h.modOp.dropJob.finish

theorem State.Evolves.reapJobs (h : s.Evolves u) : s.Evolves u.reapJobs :=
  .fold h fun _ _ hv => hv.dropJob

theorem State.Evolves.failTooBig (h : s.Evolves u) : s.Evolves u.failTooBig :=
  .fold h fun _ _ hv => hv.failJob

theorem State.Evolves.ctxCheck {k n va len : Nat} (h : s.Evolves u) : s.Evolves (u.ctxCheck k n va len).1 := by
  induction n generalizing u va len with
  | zero => exact h
  | succ n ih =>
    unfold State.ctxCheck
    refine .either_fst h ?_
    split
    next heq => exact h.translate.snd_eq heq
    next heq => exact .either_fst (ih (h.translate.snd_eq heq)) (h.translate.snd_eq heq)
    next heq => exact h.translate.snd_eq heq

theorem State.Evolves.mcodeCheck {f : Nat} {b : Bytes} (h : s.Evolves u) : s.Evolves (u.mcodeCheck f b).1 :=
  .either_fst h (.either_fst h (.either_fst h h.withSec))

theorem State.Evolves.readPipe {k : Nat} {d : Bytes} {ans : HostAns} (h : s.Evolves u) :
    s.Evolves (u.readPipe k d ans).1 := by
  unfold State.readPipe
  dsimp only
  exact .either_fst h.spokeRead (.either_fst h.spokeRead (.either_fst h.spokeRead.spokeRead
    (.either_fst h.spokeRead.spokeRead h.spokeRead.spokeRead)))

theorem State.Evolves.admitJob {o : Nat} {x : Op} {q : Queue} {ans mans : HostAns} (h : s.Evolves u) :
    s.Evolves (u.admitJob o x q ans mans) := by
  unfold State.admitJob
  dsimp only
  refine .either h.finish ?_
  split
  next heq => exact (h.readPipe.fst_eq heq).parkOp
  next heq => exact (h.readPipe.fst_eq heq).finish
  next v2 _ _ heq =>
    have hv2 : s.Evolves v2 := h.readPipe.fst_eq heq
    refine .either hv2.finish ?_
    split
    next v3 heq =>
      have hv3 : s.Evolves v3 := hv2.ctxCheck.fst_eq heq
      exact .either (.parkOp (.either_fst (.either_fst hv3.spokeRead hv3.spokeRead.mcodeCheck) hv3))
        (.either (.finish (.either_fst (.either_fst hv3.spokeRead hv3.spokeRead.mcodeCheck) hv3))
        (.withStr (.modOp (.either (.account (.either_fst (.either_fst hv3.spokeRead hv3.spokeRead.mcodeCheck) hv3))
        (.becomeBacklogged (.account (.either_fst (.either_fst hv3.spokeRead hv3.spokeRead.mcodeCheck) hv3)))))))
    next heq => exact (hv2.ctxCheck.fst_eq heq).finish

theorem State.Evolves.run {o : Nat} {ans mans : HostAns} (h : s.Evolves u) : s.Evolves (u.run o ans mans) := by
  unfold State.run
  split
  · exact h
  · exact .either h h.admitJob

theorem State.Evolves.preempt {j : Nat} (h : s.Evolves u) : s.Evolves (u.preempt j) := by
  unfold State.preempt
  dsimp only
  split
  · exact h
  · exact .either h (.freeJobTiles (.fold h.account.setJob.rsat fun _ _ hv => hv.setTile))

theorem State.Evolves.schedulerDecision (h : s.Evolves u) : s.Evolves u.schedulerDecision := by
  unfold State.schedulerDecision
  have hpreempt : ∀ {β : Type} {v} {l : List (Nat × β)}, s.Evolves v →
      s.Evolves (l.foldl (fun s p => s.preempt p.1) v) :=
    fun hv => .fold hv fun _ _ hv => hv.preempt
  refine .either h ?_
  extract_lets v dry w waits stalled x
  have hw : s.Evolves w := hpreempt h.account
  have hx : s.Evolves x := .either (hpreempt hw) hw
  split
  · exact hx
  · refine .either hx ?_
    split
    · exact .fold hx fun _ _ hv => hv.preempt
    · exact hx

theorem State.Evolves.loadStage {x : Job} {i : Nat} {g : Stage} {pa ia : HostAns} (h : s.Evolves u) :
    s.Evolves (u.loadStage x i g pa ia).1 := by
  unfold State.loadStage
  dsimp only
  exact .either_fst h.spokeRead (.either_fst h.spokeRead (.either_fst h.spokeRead.spokeRead h.spokeRead.spokeRead))

theorem State.Evolves.loadStages {j : Nat} {x : Job} {ans : List HostAns} {l : List (Nat × Nat)} (h : s.Evolves u) :
    s.Evolves (u.loadStages j x ans l).1 := by
  induction l generalizing u with
  | nil => exact h
  | cons p l ih =>
    unfold State.loadStages
    dsimp only
    split
    · exact h
    · split
      next heq => exact (h.loadStage.fst_eq heq).pageFor
      next heq => exact h.loadStage.fst_eq heq
      next heq => exact ih (h.loadStage.fst_eq heq)

theorem State.Evolves.jobBind {j : Nat} {tiles : List Nat} {ans : List HostAns} (h : s.Evolves u) :
    s.Evolves (u.jobBind j tiles ans) := by
  unfold State.jobBind
  dsimp only
  split
  · exact h.account
  · refine .either h.account ?_
    refine .either ?_ (.fold h.account.withStr.restartUnits.setJob fun _ _ hv4 => hv4.setTile)
    split
    next heq => exact (h.account.loadStages.fst_eq heq).failJob
    next heq => exact h.account.loadStages.fst_eq heq
    next heq => exact .fold (h.account.loadStages.fst_eq heq).withStr.restartUnits.setJob fun _ _ hv3 => hv3.setTile

theorem State.Evolves.contextSaved {t : Nat} (h : s.Evolves u) : s.Evolves (u.contextSaved t) := by
  -- The sizes of a unit and of the registers are made variables, for the kernel would count the numbers down.
  obtain ⟨unit, hunit⟩ : ∃ n, n = 65536 := ⟨_, rfl⟩
  obtain ⟨words, hwords⟩ : ∃ n, n = 98304 := ⟨_, rfl⟩
  have body : State.contextSaved = State.contextSaved := rfl
  conv_rhs at body => delta State.contextSaved
  rw [body, ← hunit, ← hwords]
  dsimp only
  split
  · exact h
  · split
    · split
      next v heq =>
        have hv : s.Evolves v := h.ctxCheck.fst_eq heq
        exact .tileFreed (.clearTile (.either (.becomeBacklogged (.account
          (.setJob (.fold hv.drawBytes.spokeWrite.spokeWrite fun _ _ hw => hw.spokeWrite))))
          (.setJob (.fold hv.drawBytes.spokeWrite.spokeWrite fun _ _ hw => hw.spokeWrite))))
      next heq => exact (h.ctxCheck.fst_eq heq).failJob
    · exact h

theorem State.Evolves.readContext {k va n : Nat} (h : s.Evolves u) : s.Evolves (u.readContext k va n).1 := by
  unfold State.readContext
  dsimp only
  refine .fold_fst h fun v _ hv => ?_
  exact hv.spokeRead

theorem State.Evolves.contextRestored {t : Nat} (h : s.Evolves u) : s.Evolves (u.contextRestored t) := by
  unfold State.contextRestored
  dsimp only
  split
  · exact h
  · split
    · exact .either h.spokeRead.failJob (.either h.spokeRead.failJob
        (.either h.spokeRead.readContext.failJob h.spokeRead.readContext.modJob.setTile))
    · exact h

theorem State.Evolves.parkChan {j : Nat} {x : Job} {i t : Nat} {c : Chan} {r : AccRes} (h : s.Evolves u) :
    s.Evolves (u.parkChan j x i t c r) :=
  h.setJob.pageFor

theorem State.Evolves.drainSink {j i t n : Nat} {ans : HostAns} (h : s.Evolves u) :
    s.Evolves (u.drainSink j i t ans n) := by
  induction n generalizing u with
  | zero => exact h
  | succ n ih =>
    unfold State.drainSink
    split
    · exact h
    · split
      · exact h
      · split
        · exact h
        · refine .either h (.either h.failJob (.either h.setJob ?_))
          split
          next v _ heq =>
            have hv : s.Evolves v := fst_eq (.either_fst h h.spokeWrite) heq
            exact .either (.either hv.parkChan hv.failJob) (ih hv.setJob)

theorem State.Evolves.drainStage {j stage t : Nat} {ans : HostAns} (h : s.Evolves u) :
    s.Evolves (u.drainStage j stage t ans) := by
  unfold State.drainStage
  split
  · exact h
  · exact .fold h fun _ _ hv => hv.drainSink

theorem State.Evolves.landCounts {j t : Nat} (h : s.Evolves u) : s.Evolves (u.landCounts j t) := by
  unfold State.landCounts
  dsimp only
  split
  · exact h
  · exact .either h (.setTile (.fold h fun _ _ hv => hv.sendUpdate))

theorem State.Evolves.sourceMove {j i t : Nat} {ans : HostAns} (h : s.Evolves u) :
    s.Evolves (u.sourceMove j i t ans) := by
  unfold State.sourceMove
  dsimp only
  split
  · exact h
  · split
    · exact h
    · exact .either h (.either h.setJob (.either (.either (.parkChan (.either_fst h h.spokeRead))
        (.failJob (.either_fst h h.spokeRead))) (.setJob (.either_fst h h.spokeRead))))

theorem State.Evolves.bundleEff {j t : Nat} {e : Eff} (h : s.Evolves u) : s.Evolves (u.bundleEff j t e) := by
  unfold State.bundleEff
  dsimp only
  split
  · exact h
  · split
    · split
      · exact h
      · exact h.setJob
    · split
      · exact h
      · exact h.setJob
    · exact h.setTile
    · exact h.setJob
    · exact h

theorem State.Evolves.fetchBundle {t : Nat} (h : s.Evolves u) : s.Evolves (u.fetchBundle t).1 := by
  unfold State.fetchBundle
  dsimp only
  split
  · exact .either_fst h (.either_fst (h.draw (w := 1)) h.draw.setTile)
  · exact .either_fst h h.setTile

theorem State.Evolves.issue {j t : Nat} {ans : HostAns} (h : s.Evolves u) : s.Evolves (u.issue j t ans) := by
  unfold State.issue
  dsimp only
  split
  · exact h
  · refine .either h (.either h.failJob (.either h.fetchBundle.failJob ?_))
    split
    · exact h.fetchBundle
    · exact h.fetchBundle.failJob
    · exact .landCounts (.drainStage (.fold h.fetchBundle.withFreeCtr.setTile.modJob fun _ _ hv => hv.bundleEff))

theorem State.Evolves.upsetTile {t : Nat} {l : List Nat} (h : s.Evolves u) : s.Evolves (u.upsetTile t l).1 :=
  .either_fst h h.withStr.setTile

theorem State.Evolves.retireTile {t : Nat} {who : Option (Nat × Nat)} (h : s.Evolves u) :
    s.Evolves (u.retireTile t who) :=
  .either h.retireNow h.withStr.preempt

theorem State.Evolves.bundleIssue {t : Nat} {upsets : List Nat} {srcs : List (Nat × HostAns)} {ans : HostAns}
    (h : s.Evolves u) :
    s.Evolves (u.bundleIssue t upsets srcs ans) :=
  .either h (.either (.failTooBig (.retireTile (.issue (.fold h.upsetTile.drainStage.landCounts fun _ _ hv =>
    hv.sourceMove)))) (.issue (.fold h.upsetTile.drainStage.landCounts fun _ _ hv => hv.sourceMove)))

theorem State.Evolves.jobComplete {j : Nat} {ans : HostAns} (h : s.Evolves u) : s.Evolves (u.jobComplete j ans) := by
  unfold State.jobComplete
  dsimp only
  split
  · exact h
  · refine .either h ?_
    split
    · exact .fold h fun _ _ hv => hv.drainStage.landCounts
    · refine .either (.fold h fun _ _ hv => hv.drainStage.landCounts) ?_
      split <;> exact .finish (.dropJob (.modOp (.fold h fun _ _ hv => hv.drainStage.landCounts)))

theorem State.Evolves.runLimit {j : Nat} (h : s.Evolves u) : s.Evolves (u.runLimit j) := by
  unfold State.runLimit
  dsimp only
  split
  · exact h
  · exact .either h (.failJob (h.trans { now := Nat.le_max_left .. }))

theorem State.Evolves.deadlock {j : Nat} (h : s.Evolves u) : s.Evolves (u.deadlock j) := by
  unfold State.deadlock
  dsimp only
  split
  · exact h
  · exact .either h (.failJob (h.trans { now := Nat.le_max_left .. }))

theorem State.Evolves.tileRetire {f : Nat} {p : Bytes} (h : s.Evolves u) : s.Evolves (u.tileRetire f p).st := by
  unfold State.tileRetire
  dsimp only [Reply.ok, Reply.err]
  exact .either_st h (.either_st (.either_st h h) (.either_st h (.either_st h.withStr h.retireTile.failTooBig)))

theorem State.Evolves.tileGate {t : Nat} (h : s.Evolves u) : s.Evolves (u.tileGate t) :=
  .either h (.setTile (h.trans { now := Nat.le_max_left .. }))

/-! ### Copies -/

theorem State.Evolves.noteReq {q tag : Nat} {r : Req} (h : s.Evolves u) : s.Evolves (u.noteReq q tag r) :=
  h.trans { reqs := Map.put_wf _ _ _ }

theorem State.Evolves.quarantineReqs {p : Req → Bool} (h : s.Evolves u) : s.Evolves (u.quarantineReqs p) :=
  h.trans { reqs := fun w => Map.wf_map w }

theorem State.Evolves.copyEnd {o : Nat} {x : Op} {st : Status} {detail : Nat} (h : s.Evolves u) :
    s.Evolves (u.copyEnd o x st detail) :=
  h.finish

theorem State.Evolves.copyWrite {k : Nat} {d : Bytes} {off : Nat} {b : Bytes} {ep : Bool} {ans : HostAns}
    (h : s.Evolves u) :
    s.Evolves (u.copyWrite k d off b ep ans).1 :=
  .either_fst (.either_fst h.hbmWrite h) h.spokeWrite

theorem State.Evolves.overlapFree {d : Bytes} {off : Nat} {b : Bytes} (h : s.Evolves u) :
    s.Evolves (u.overlapFree d off b).1 :=
  .either_fst h h.withFreeCtr

theorem State.Evolves.copyFlush {o : Nat} {x : Op} {q : Queue} {b : Bytes} {ep : Bool} {ans : HostAns}
    (h : s.Evolves u) :
    s.Evolves (u.copyFlush o x q b ep ans) := by
  unfold State.copyFlush
  dsimp only
  exact .either (.either h.overlapFree.copyWrite.modOp.copyEnd h.overlapFree.copyWrite.modOp)
    (.either h.overlapFree.copyWrite.modOp.parkOp h.overlapFree.copyWrite.modOp.copyEnd)

theorem State.Evolves.copyRead {o : Nat} {x : Op} {q : Queue} {rd wr : HostAns} (h : s.Evolves u) :
    s.Evolves (u.copyRead o x q rd wr) := by
  unfold State.copyRead
  extract_lets d a n got
  have hgot : ∀ v addr, s.Evolves v → s.Evolves (got v addr) := fun _ _ hv => hv.hbmRead.copyFlush
  clear_value got
  refine .either (.either (hgot _ _ h) h.copyEnd) ?_
  split
  next sp leaf _ v _ heq =>
    have hv : s.Evolves v := h.translate.snd_eq heq
    split
    next e hread =>
      have he : s.Evolves e.1 := by
        split at hread
        · cases hread
          exact hv.leafRead
        · cases hread
          exact hv.leafRead
      split
      · exact hgot _ _ hv
      · refine .either (.either he.parkOp he.copyEnd) ?_
        split
        · exact he
        · exact he.noteReq.emit.modOp
  next heq => exact (h.translate.snd_eq heq).copyEnd
  next => exact h

theorem State.Evolves.copy {o : Nat} {rd wr : HostAns} (h : s.Evolves u) : s.Evolves (u.copy o rd wr) := by
  unfold State.copy
  split
  · exact h
  · refine .either h (.either h.finish (.either h.finish ?_))
    split
    · exact h.copyFlush
    · exact h.copyRead

theorem State.Evolves.fill {o : Nat} {wr : HostAns} (h : s.Evolves u) : s.Evolves (u.fill o wr) := by
  unfold State.fill
  dsimp only
  split
  · exact h
  · exact .either h (.either h.finish (.either h.finish (.either (.either h.copyWrite.modOp.copyEnd h.copyWrite.modOp)
      (.either h.copyWrite.modOp.parkOp h.copyWrite.modOp.copyEnd))))

theorem State.Evolves.readFailed {o va : Nat} {st : Status} (h : s.Evolves u) : s.Evolves (u.readFailed o va st) := by
  unfold State.readFailed
  split
  · exact h
  · exact .either h h.copyEnd

theorem State.Evolves.copyGot {o : Nat} {b : Bytes} {ep : Bool} {wr : HostAns} (h : s.Evolves u) :
    s.Evolves (u.copyGot o b ep wr) := by
  unfold State.copyGot
  dsimp only
  split
  · exact h
  · refine .either h ?_
    split
    · exact h.modOp.copyFlush
    · exact h.modOp

theorem State.Evolves.completion {q tag f : Nat} {st : CplStatus} {data : Bytes} {ep : Bool} {wr : HostAns}
    (h : s.Evolves u) :
    s.Evolves (u.completion q tag f st data ep wr) := by
  unfold State.completion
  dsimp only
  split
  · exact h.emit
  · refine .either h.rsat ?_
    split
    · exact h.trans { reqs := Map.erase_wf _ _ }
    · exact .emit (h.trans { reqs := Map.erase_wf _ _ })
    · exact .either (.copyGot (.either (.emit (h.trans { reqs := Map.erase_wf _ _ }))
        (h.trans { reqs := Map.erase_wf _ _ }))) (.readFailed (h.trans { reqs := Map.erase_wf _ _ }))

theorem State.Evolves.completionTimeout {q tag : Nat} (h : s.Evolves u) : s.Evolves (u.completionTimeout q tag) := by
  unfold State.completionTimeout
  dsimp only
  split
  · exact h
  · refine .either h ?_
    split
    · exact .emit (h.trans { now := Nat.le_max_left .., reqs := Map.erase_wf _ _ })
    · exact .emit (.emit (h.trans { now := Nat.le_max_left .., reqs := Map.erase_wf _ _ }))
    · exact .readFailed (.emit (h.trans { now := Nat.le_max_left .., reqs := Map.erase_wf _ _ }))

theorem State.Evolves.tagRelease {q tag : Nat} (h : s.Evolves u) : s.Evolves (u.tagRelease q tag) := by
  unfold State.tagRelease
  split
  · exact h
  · exact .either h (h.trans { now := Nat.le_max_left .., reqs := Map.erase_wf _ _ })

theorem State.Evolves.opPage {o : Nat} {st : Status} (h : s.Evolves u) : s.Evolves (u.opPage o st) := by
  unfold State.opPage
  dsimp only
  split
  · exact h
  · refine .either h (.either h.modOp ?_)
    split
    · exact h
    · split
      · exact h.modOp.ckpFail.finish
      · exact h.modOp.copyEnd
      · exact h.modOp.finish

theorem State.Evolves.tilePage {t : Nat} {st : Status} (h : s.Evolves u) : s.Evolves (u.tilePage t st) := by
  unfold State.tilePage
  split
  · exact h
  · refine .either h.setJob ?_
    split
    · exact h
    · exact h.failJob

theorem State.Evolves.wake {p : PageReq} {st : Status} {w : Waiter} (h : s.Evolves u) : s.Evolves (u.wake p st w) := by
  unfold State.wake
  split
  · exact h.opPage
  · refine .either h ?_
    split
    · exact .either h.queueError h
    · exact h
  · refine .either h.flush ?_
    split
    · exact .either h.queueError h
    · exact h
  · exact .either h h.withXpt
  · exact h.tilePage
  · exact .either h h.nvFail

theorem State.Evolves.sendPages {f : Nat} (h : s.Evolves u) : s.Evolves (u.sendPages f) :=
  .fold h fun _ _ hv => .either (.emit (hv.trans {})) hv

theorem State.Evolves.pageEnd {p : PageReq} {st : Status} (h : s.Evolves u) : s.Evolves (u.pageEnd p st) :=
  .sendPages (.fold (h.trans {}) fun _ _ hv => hv.wake)

theorem State.Evolves.pageResponse {f : Nat} {pasid : Option Nat} {page : Nat} {code : PageCode} (h : s.Evolves u) :
    s.Evolves (u.pageResponse f pasid page code) := by
  unfold State.pageResponse
  split
  · exact h
  · exact h.pageEnd

theorem State.Evolves.pageTimeout {w : Waiter} (h : s.Evolves u) : s.Evolves (u.pageTimeout w) := by
  unfold State.pageTimeout
  dsimp only
  split
  · exact h
  · exact .wake (h.trans { now := Nat.le_max_left .. })

/-! ### The mesh -/

theorem State.Evolves.meshError {uncorrectable : Bool} {o : Nat} (h : s.Evolves u) :
    s.Evolves (u.meshError uncorrectable o) :=
  .either h.withBrd h.withBrd.modOp

theorem State.Evolves.d2dFail {link port : Nat} (h : s.Evolves u) : s.Evolves (u.d2dFail link port) :=
  .either h.rset.retireTray.holdPairDown h.rset.retireTray

theorem State.Evolves.d2dReplay {link port : Nat} {failed : Bool} (h : s.Evolves u) :
    s.Evolves (u.d2dReplay link port failed) :=
  .either h (.either h.rsat.withBrd (.either h.rsat.withBrd.d2dFail h.rsat.withBrd))

theorem State.Evolves.record {i : Nat} (h : s.Evolves u) : s.Evolves (u.record i) := by
  unfold State.record
  dsimp only
  exact .either h (.either h.rput h.draw.rput)

theorem State.Evolves.snapNext (h : s.Evolves u) : s.Evolves u.snapNext :=
  h.rset

theorem State.Evolves.snapshot (h : s.Evolves u) : s.Evolves u.snapshot :=
  .either h.rset (.rset (.snapNext (.fold h.withBrd fun _ _ hv => hv.record)))

/-! ### Queue commands -/

theorem State.Evolves.rejectDoorbell {qi : Nat} {q : Queue} {index ring : Nat} (h : s.Evolves u) :
    s.Evolves (u.rejectDoorbell qi q index ring) :=
  h.modQueue.postEvent

theorem State.Evolves.doorbellWork {qi : Nat} {q : Queue} {index : Nat} (h : s.Evolves u) :
    s.Evolves (u.doorbellWork qi q index) :=
  .either h.modQueue h.rejectDoorbell

theorem State.Evolves.doorbellRing {qi : Nat} {q : Queue} {index : Nat} {arm : Bool} (h : s.Evolves u) :
    s.Evolves (u.doorbellRing qi q index arm) :=
  .either h.modQueue.flush h.rejectDoorbell

theorem State.Evolves.doorbell {f off width v : Nat} (h : s.Evolves u) : s.Evolves (u.doorbell f off width v) := by
  unfold State.doorbell
  dsimp only
  split
  · exact .either h.badAccess (.either h.modQueue (.either h.rejectDoorbell (.either h.doorbellRing h.doorbellWork)))
  · exact h.badAccess

theorem State.Evolves.takeDescriptor {qi : Nat} {q : Queue} {d : Bytes} (h : s.Evolves u) :
    s.Evolves (u.takeDescriptor qi q d) := by
  unfold State.takeDescriptor
  dsimp only
  refine .either (.finish (.modQueue (h.trans { ops := Map.put_wf _ _ _ }))) ?_
  split
  · exact .finish (.modQueue (h.trans { ops := Map.put_wf _ _ _ }))
  · exact .either (.modOp (.modQueue (h.trans { ops := Map.put_wf _ _ _ })))
      (.startOp (.modQueue (h.trans { ops := Map.put_wf _ _ _ })))

theorem State.Evolves.descriptorFetched {qi : Nat} {ans : HostAns} (h : s.Evolves u) :
    s.Evolves (u.descriptorFetched qi ans) := by
  unfold State.descriptorFetched
  dsimp only
  split
  · exact h
  · exact .either h (.either h.spokeRead.takeDescriptor (.either h.spokeRead.pageFor h.spokeRead.queueError))

theorem State.Evolves.stopCheck {qi : Nat} (h : s.Evolves u) : s.Evolves (u.stopCheck qi) := by
  unfold State.stopCheck
  split
  · exact h
  · split
    · exact h
    · exact .either h.modQueue.respond h

theorem State.Evolves.operationComplete {o : Nat} {ans : HostAns} (h : s.Evolves u) :
    s.Evolves (u.operationComplete o ans) := by
  unfold State.operationComplete
  split
  · exact h
  · exact h.retire.stopCheck

theorem State.Evolves.mailboxPost {f v : Nat} (h : s.Evolves u) : s.Evolves (u.mailboxPost f v) := by
  unfold State.mailboxPost
  dsimp only
  refine .either h.badAccess ?_
  split
  · exact h.setFn
  · exact h.setFn.respond
  · exact h.setFn.respond

theorem State.Evolves.restartTimer {f : Nat} (h : s.Evolves u) : s.Evolves (u.restartTimer f) :=
  h.modFn

theorem State.Evolves.enterFreewheel {f : Nat} (h : s.Evolves u) : s.Evolves (u.enterFreewheel f) :=
  h.modFn.freezeFn.releaseLock.postPf0

theorem State.Evolves.makeBase {f limit : Nat} {t : State} (h : s.Evolves u) (e : u.makeBase f limit = some t) :
    s.Evolves t := by
  unfold State.makeBase at e
  dsimp only at e
  split at e
  · cases e
  · obtain ⟨_, e⟩ := Option.ite_none_left_eq_some.1 e
    cases e
    exact .bump (.modFn (h.trans { spokes := Map.put_wf _ _ _ }))

theorem State.Evolves.helloReply {f prev drv : Nat} (h : s.Evolves u) : s.Evolves (u.helloReply f prev drv).st := by
  unfold State.helloReply
  dsimp only [Reply.ok, Reply.err]
  exact h.modFn.restartTimer

theorem State.Evolves.hello {f limit : Nat} {p : Bytes} (h : s.Evolves u) : s.Evolves (u.hello f limit p).st := by
  unfold State.hello
  dsimp only [Reply.ok, Reply.err]
  refine .either_st h ?_
  split
  · split
    · exact h.helloReply
    · split
      · exact h
      next heq => exact (h.makeBase heq).helloReply
  · exact h.freezeFn.helloReply
  · exact h.helloReply.postPf0.flushFn

theorem State.Evolves.beat {f : Nat} (h : s.Evolves u) : s.Evolves (u.beat f) :=
  .either h.restartTimer h.modFn

theorem State.Evolves.spokeCreate {f : Nat} {limit : Nat → Nat} {p : Bytes} (h : s.Evolves u) :
    s.Evolves (u.spokeCreate f limit p).st := by
  unfold State.spokeCreate
  dsimp only [Reply.ok, Reply.err]
  refine .either_st h ?_
  split
  · exact h
  · exact .bump (h.trans { spokes := Map.put_wf _ _ _ })

theorem State.Evolves.spokeModify {f : Nat} {p : Bytes} (h : s.Evolves u) : s.Evolves (u.spokeModify f p).st := by
  unfold State.spokeModify
  dsimp only [Reply.ok, Reply.err]
  split
  · exact h
  · exact .either_st h h.modSpoke.bump

theorem State.Evolves.queueCreate {f : Nat} {p : Bytes} (h : s.Evolves u) : s.Evolves (u.queueCreate f p).st := by
  unfold State.queueCreate
  dsimp only [Reply.ok, Reply.err]
  split
  · exact h
  · refine .either_st h ?_
    split
    · exact h
    · exact h.setQueue.bump

theorem State.Evolves.queueStart {f : Nat} {p : Bytes} (h : s.Evolves u) : s.Evolves (u.queueStart f p).st := by
  unfold State.queueStart
  extract_lets qi
  split
  · exact h
  · extract_lets g v w x y
    have hw : s.Evolves w := by
      unfold w
      split
      · exact h.modQueue.bump.flush
      · exact h.modQueue.bump
    have hx : s.Evolves x := .either hw hw.thawMirrors
    have hy : s.Evolves y := .fold hx fun _ _ hv => hv.release
    refine .either_st h (.either_st h ?_)
    split
    · exact h
    · exact h
    · exact .either_st h hy

theorem State.Evolves.queueStop {f : Nat} {p : Bytes} (h : s.Evolves u) : s.Evolves (u.queueStop f p).st := by
  unfold State.queueStop
  dsimp only [Reply.ok, Reply.err]
  split
  · exact h
  · refine .either_st h (.either_st h ?_)
    split
    · exact h
    · exact .either_st h h.modQueue.bump
    · exact h

/-! ### Teardown -/

theorem State.Evolves.spokeEnds {k : Nat} {who : Option (Nat × Nat)} (h : s.Evolves u) :
    s.Evolves (u.spokeEnds k who) := by
  unfold State.spokeEnds
  extract_lets v w x _ _ _ y
  have hx : s.Evolves x := .freeTrg (.revokeSpoke (.fold h.nvSpokeGone fun _ _ hv => hv.killConn))
  have hy : s.Evolves y := by
    clear_value x
    exact hx.trans { spokes := Map.erase_wf _ _ }
  exact hy.reapJobs.reapCkp.pruneNodes.bump

theorem State.Evolves.destroySpoke {k : Nat} {who : Option (Nat × Nat)} (h : s.Evolves u) :
    s.Evolves (u.destroySpoke k who).1 := by
  unfold State.destroySpoke
  dsimp only
  refine .spokeEnds ?_
  refine .fold_fst h.nvSpokeGone fun v _ hv => ?_
  exact hv.destroyQueue

theorem State.Evolves.spokeDestroy {f : Nat} {p : Bytes} (h : s.Evolves u) : s.Evolves (u.spokeDestroy f p).st := by
  unfold State.spokeDestroy
  dsimp only [Reply.ok, Reply.err]
  split
  · exact h
  · exact .either_st h h.destroySpoke

theorem State.Evolves.queueDestroy {f : Nat} {p : Bytes} (h : s.Evolves u) : s.Evolves (u.queueDestroy f p).st := by
  unfold State.queueDestroy
  dsimp only [Reply.ok, Reply.err]
  split
  · exact h
  · exact .either_st h (.either_st h h.destroyQueue.reapJobs.reapCkp)

theorem State.Evolves.dropRequests {f : Nat} (h : s.Evolves u) : s.Evolves (u.dropRequests f) :=
  h.trans { queues := fun w => Map.wf_map w }

theorem State.Evolves.abandonFn {f : Nat} (h : s.Evolves u) : s.Evolves (u.abandonFn f) := by
  unfold State.abandonFn
  extract_lets v _ w x mine y z
  have hv : s.Evolves v := h.quarantineReqs
  have hw : s.Evolves w := hv.trans {}
  have hz : s.Evolves z := .modFn (.dropRequests (.fold hw.nvFuncReset.releaseLock fun _ _ hv => hv.destroySpoke))
  exact .either (hz.trans {}) hz

theorem State.Evolves.defer {kind x : Nat} (h : s.Evolves u) : s.Evolves (u.defer kind x) :=
  h.withBrd

theorem State.Evolves.flrStart {f : Nat} (h : s.Evolves u) : s.Evolves (u.flrStart f) :=
  .either h.defer (.either h h.modFn.abandonFn)

theorem State.Evolves.fnReset {f : Nat} (h : s.Evolves u) : s.Evolves (u.fnReset f) :=
  .either (h.setFn.trans { regs := Map.erase_wf _ _ }) h.setFn

theorem State.Evolves.freeDead (h : s.Evolves u) : s.Evolves u.freeDead :=
  h.withXpt

theorem State.Evolves.freeRevoked (h : s.Evolves u) : s.Evolves u.freeRevoked :=
  h.withXpt

theorem State.Evolves.flrEnd {f : Nat} (h : s.Evolves u) : s.Evolves (u.flrEnd f) :=
  .either h.freeDead.freeRevoked.fnReset h

/-! ### PCIe -/

theorem State.Evolves.bmeStopFn {f : Nat} (h : s.Evolves u) : s.Evolves (u.bmeStopFn f) := by
  unfold State.bmeStopFn
  extract_lets jobs v w keep l x qs pr fr _ _ y
  have hv : s.Evolves v := .fold h fun _ _ hv => hv.failJob
  have hx : s.Evolves x := .fold hv.ckpFail fun _ _ hw => hw.modOp
  have hy : s.Evolves y := by
    clear_value x
    exact hx.trans { queues := fun w => Map.wf_map w }
  exact hy.nvBmeClear.bump

theorem State.Evolves.bmeClear {f : Nat} (h : s.Evolves u) : s.Evolves (u.bmeClear f) :=
  .either h (.either h.setFn h.setFn.bmeStopFn)

theorem State.Evolves.deliverFn {f : Nat} (h : s.Evolves u) : s.Evolves (u.deliverFn f) :=
  .either h (.sendPages (.nvResume (.settleXpt (.either h.flushFn.sendHeld h.flushFn.sendHeld.thawMirrors))))

theorem State.Evolves.bmeSet {f : Nat} (h : s.Evolves u) : s.Evolves (u.bmeSet f) :=
  .either h h.modFn.deliverFn

theorem State.Evolves.d3Enter {f : Nat} (h : s.Evolves u) : s.Evolves (u.d3Enter f) :=
  .either h h.modFn.bmeStopFn

theorem State.Evolves.d0Enter {f : Nat} (h : s.Evolves u) : s.Evolves (u.d0Enter f) :=
  .either h h.modFn.restartTimer.deliverFn

theorem State.Evolves.unmask {f v : Nat} (h : s.Evolves u) : s.Evolves (u.unmask f v) :=
  h.setFn.sendHeld

theorem State.Evolves.portCount {q k : Nat} (h : s.Evolves u) : s.Evolves (u.portCount q k) :=
  h.rsat

theorem State.Evolves.terminate {key : Nat} {r : Req} (h : s.Evolves u) : s.Evolves (u.terminate key r) := by
  unfold State.terminate
  dsimp only
  split
  · exact .readFailed (h.trans { reqs := Map.put_wf _ _ _ })
  · exact .emit (h.trans { reqs := Map.put_wf _ _ _ })
  · exact h.trans { reqs := Map.put_wf _ _ _ }

theorem State.Evolves.terminatePort {q : Nat} (h : s.Evolves u) : s.Evolves (u.terminatePort q) :=
  .fold h fun _ _ hv => hv.terminate

theorem State.Evolves.contain {q : Nat} (h : s.Evolves u) : s.Evolves (u.contain q) :=
  h.modPort.terminatePort

theorem State.Evolves.dpcTrigger {q : Nat} (h : s.Evolves u) : s.Evolves (u.dpcTrigger q) :=
  .either h.portCount (.either h h.setPort.portCount.contain)

theorem State.Evolves.downLost {q : Nat} (h : s.Evolves u) : s.Evolves (u.downLost q) :=
  .either h (.either h.setPort (.contain (.either h.portCount h.emit)))

theorem State.Evolves.downUp {q : Nat} (h : s.Evolves u) : s.Evolves (u.downUp q) :=
  .either h h.setPort.portCount

theorem State.Evolves.dpcClear {q : Nat} (h : s.Evolves u) : s.Evolves (u.dpcClear q) :=
  h.modPort

theorem State.Evolves.sbrSet {q : Nat} (h : s.Evolves u) : s.Evolves (u.sbrSet q) :=
  .either h.defer (.either h h.setPort.emit.terminatePort)

theorem State.Evolves.sbrClear {q : Nat} (h : s.Evolves u) : s.Evolves (u.sbrClear q) :=
  .either h.defer h.modPort

theorem State.Evolves.sbrRelease {q : Nat} (h : s.Evolves u) : s.Evolves (u.sbrRelease q) :=
  .either h (.emit (.setPort (h.trans { now := Nat.le_max_left .. })))

theorem State.Evolves.l1Enter {q : Nat} (h : s.Evolves u) : s.Evolves (u.l1Enter q) :=
  .either h.setPort.emit h

theorem State.Evolves.setWidth {q w : Nat} (h : s.Evolves u) : s.Evolves (u.setWidth q w) :=
  .either h h.setPort.emit.portCount

theorem State.Evolves.l0pNarrow {q : Nat} (h : s.Evolves u) : s.Evolves (u.l0pNarrow q) :=
  .either h.setWidth h

theorem State.Evolves.wakeLink {q : Nat} (h : s.Evolves u) : s.Evolves (u.wakeLink q) :=
  h.modPort

theorem State.Evolves.atsInvalidate {f : Nat} {pasid : Option Nat} {all : Bool} {addr size : Nat} (h : s.Evolves u) :
    s.Evolves (u.atsInvalidate f pasid all addr size) :=
  .emit (.fold (h.trans {}) fun _ _ hv => .modOp (hv.trans { reqs := Map.modify_wf _ _ _ }))

theorem State.Evolves.winShow {q : Nat} (h : s.Evolves u) : s.Evolves (u.winShow q) :=
  h.rset.rset

theorem State.Evolves.windowCommit {q : Nat} (h : s.Evolves u) : s.Evolves (u.windowCommit q) := by
  unfold State.windowCommit
  dsimp only
  refine .either h.rset ?_
  split
  · exact h.rset.rset
  · exact .winShow (.rset (.fold h fun _ _ hv => .fold hv fun _ _ hv1 => hv1.rput))

theorem State.Evolves.windowDone {i : Nat} (h : s.Evolves u) : s.Evolves (u.windowDone i) := by
  unfold State.windowDone
  dsimp only
  split
  · exact h
  · exact .either h (.winShow (h.trans {}))

theorem State.Evolves.unsupported {q : Nat} {kind : ReqKind} {tag : Nat} (h : s.Evolves u) :
    s.Evolves (u.unsupported q kind tag) :=
  .either h h.emit

theorem State.Evolves.blockedAnswer {t q : Nat} {kind : ReqKind} {tag : Nat} (h : s.Evolves u) :
    s.Evolves (u.blockedAnswer t q kind tag) :=
  .either h.portCount h.emit

theorem State.Evolves.windowMiss {f q : Nat} {kind : ReqKind} {tag : Nat} (h : s.Evolves u) :
    s.Evolves (u.windowMiss f q kind tag) :=
  h.portCount.unsupported.emit

theorem State.Evolves.hbmRequest {q : Nat} {kind : ReqKind} {a n : Nat} {data : Bytes} {ep : Bool} {tag : Nat}
    (h : s.Evolves u) :
    s.Evolves (u.hbmRequest q kind a n data ep tag) := by
  unfold State.hbmRequest
  dsimp only
  split
  · exact h.hbmWrite
  · exact h.hbmRead.emit
  · exact h.hbmRead.hbmWrite.emit

theorem State.Evolves.noteWindow {q : Nat} {port : Bool} {kind : ReqKind} {tag : Nat} (h : s.Evolves u) :
    s.Evolves (u.noteWindow q port kind tag) :=
  h.trans {}

theorem State.Evolves.windowForward {q t : Nat} {kind : ReqKind} {a n : Nat} {data : Bytes} {ep : Bool} {tag : Nat}
    (h : s.Evolves u) :
    s.Evolves (u.windowForward q t kind a n data ep tag) := by
  unfold State.windowForward
  dsimp only
  refine .either h.blockedAnswer (.either h.unsupported (.either h.wakeLink.noteWindow.emit ?_))
  split
  · exact h
  · exact h.wakeLink.noteWindow.noteReq.emit

theorem State.Evolves.bar4Request {q : Nat} {kind : ReqKind} {off n : Nat} {data : Bytes} {ep : Bool} {tag : Nat}
    (h : s.Evolves u) :
    s.Evolves (u.bar4Request q kind off n data ep tag) := by
  unfold State.bar4Request
  dsimp only
  refine .either (.emit (.unsupported (.either h.emit h))) (.either (.unsupported (.either h.emit h)) ?_)
  split
  · exact .windowMiss (.either h.emit h)
  · exact .either (.windowMiss (.either h.emit h)) (.either (.windowForward (.either h.emit h))
      (.either (.windowMiss (.either h.emit h)) (.hbmRequest (.noteWindow (.either h.emit h)))))

theorem State.Evolves.ingressAnswer {q : Nat} {kind : ReqKind} {tag : Nat} (h : s.Evolves u) :
    s.Evolves (u.ingressAnswer q kind tag) :=
  .either h.portCount h.unsupported

theorem State.Evolves.bar4Resize {h' log2 : Nat} (h : s.Evolves u) : s.Evolves (u.bar4Resize h' log2) :=
  .either h h.setFn

theorem State.Evolves.cfgWriteFn {f : Nat} {c : CfgField} {v : Nat} (h : s.Evolves u) :
    s.Evolves (u.cfgWriteFn f c v) := by
  unfold State.cfgWriteFn
  dsimp only
  split
  · exact .either h.bmeSet h.bmeClear
  · exact h.setFn
  · split
    · exact h
    · exact h.setFn
  · exact h.setFn.sendHeld
  · exact h.setFn.sendHeld
  · exact .either h h.setFn
  · exact .either h h.setFn
  · exact .either h h.setFn
  · exact .either h h.setFn.sendPages
  · exact .either h.d3Enter (.either h.d0Enter h)
  · exact .either h.bar4Resize h
  · exact .either h.flrStart h
  · exact h

theorem State.Evolves.cfgWritePort {q : Nat} {c : CfgField} {v : Nat} (h : s.Evolves u) :
    s.Evolves (u.cfgWritePort q c v) := by
  unfold State.cfgWritePort
  dsimp only
  split
  · exact h.modPort
  · exact h.modPort
  · exact h.modPort
  · exact .either h.sbrSet h.sbrClear
  · exact .either h.modPort.dpcClear h.modPort
  · exact h.modPort
  · exact h.modPort
  · exact h

theorem State.Evolves.configRequest {f : Nat} {c : CfgField} {wr : Option Nat} (h : s.Evolves u) :
    s.Evolves (u.configRequest f c wr) := by
  unfold State.configRequest
  dsimp only
  refine .either h (.either h.wakeLink.emit ?_)
  split
  · refine .either h.wakeLink.emit ?_
    split
    · exact h.wakeLink.emit
    · exact h.wakeLink.cfgWritePort.emit
  · refine .either h.wakeLink.emit ?_
    split
    · exact h.wakeLink.emit
    · exact h.wakeLink.cfgWriteFn.emit

/-! ### Memory commands -/

theorem State.Evolves.regionSet {f : Nat} {p : Bytes} (h : s.Evolves u) : s.Evolves (u.regionSet f p).st := by
  unfold State.regionSet
  dsimp only [Reply.ok, Reply.err]
  exact .either_st h (.either_st h (.either_st h (.either_st h (.either_st h
    (.either_st h (.either_st h.withMem h.withMem))))))

theorem State.Evolves.zeroRange {lo n : Nat} (h : s.Evolves u) : s.Evolves (u.zeroRange lo n) := by
  refine h.withMem fun w => ?_
  rw [Memory.wf, Bool.and_eq_true, List.all_eq_true] at w ⊢
  exact ⟨Map.filter_wf _ _ w.1, fun c hc => w.2 c (List.mem_of_mem_filter hc)⟩

theorem State.Evolves.zeroingDone {i : Nat} (h : s.Evolves u) : s.Evolves (u.zeroingDone i) := by
  unfold State.zeroingDone
  dsimp only
  split
  · exact h
  · exact .either h h.zeroRange.withMem.asyncDone

theorem State.Evolves.eccTest {f : Nat} {p : Bytes} (h : s.Evolves u) : s.Evolves (u.eccTest f p).st := by
  unfold State.eccTest
  dsimp only [Reply.ok, Reply.err]
  refine .either_st h (.either_st h ?_)
  split
  · exact h
  · exact .either_st (.either_st h h.withMem) (.either_st h h.withMem)

theorem State.Evolves.ptInvalidate {f : Nat} {p : Bytes} (h : s.Evolves u) : s.Evolves (u.ptInvalidate f p).st := by
  unfold State.ptInvalidate
  dsimp only [Reply.ok, Reply.err]
  exact .either_st h (.either_st h (h.trans {}))

theorem State.Evolves.repairList {p : Bytes} (h : s.Evolves u) : s.Evolves (u.repairList p).st := by
  unfold State.repairList
  dsimp only [Reply.ok, Reply.err]
  exact h

theorem State.Evolves.corrected {blk pin : Nat} (h : s.Evolves u) : s.Evolves (u.corrected blk pin) := by
  unfold State.corrected
  extract_lets a st v k rows rows' _ w x ch pk hits _ y
  have hx : s.Evolves x := .either (.addRepair h.rsat.withMem) h.rsat.withMem
  exact .either hx (.either hx.withMem (.addRepair hx.withMem.withMem))

theorem State.Evolves.scrubRead {upsets : List Nat} {fixed : Bool} {pin : Nat} (h : s.Evolves u) :
    s.Evolves (u.scrubRead upsets fixed pin) := by
  unfold State.scrubRead
  extract_lets _ v
  have hv : s.Evolves v := h.withMem
  refine .either hv ?_
  split
  · exact hv
  · extract_lets w
    have hw : s.Evolves w := .either hv (.either hv.uncorrectable.hbmReport (.either hv.corrected hv))
    split
    · exact hw.withMem
    · exact .rsat hw.withMem

theorem State.Evolves.putRaw {d : Bytes} (h : s.Evolves u) : s.Evolves (u.putRaw d) :=
  .fold h fun _ _ hv => hv.rput

theorem State.Evolves.rawCommand {f op : Nat} (h : s.Evolves u) : s.Evolves (u.rawCommand f op) := by
  unfold State.rawCommand
  split
  · exact h.badAccess
  · extract_lets a b d c k _ done
    have hdone : ∀ v d res n, s.Evolves v → s.Evolves (done v d res n) := fun _ _ _ _ hv => hv.putRaw.rset.rset
    clear_value done
    refine .either h.putRaw.rput (.either (h.withMem (Memory.wf_writeBytes _ _ _))
      (.either (hdone _ _ _ _ h) (.either (hdone _ _ _ _ h) (.either (hdone _ _ _ _ h) ?_))))
    split
    · exact hdone _ _ _ _ h
    · exact hdone _ _ _ _ h

/-! ### Accesses to the BARs -/

theorem State.Evolves.doorbellAny {f off width v : Nat} (h : s.Evolves u) :
    s.Evolves (u.doorbellAny f off width v) := by
  unfold State.doorbellAny
  split
  · exact .either (.either h.badAccess h.nvDoorbell) h.doorbell.settleXpt
  · exact h.badAccess

theorem State.Evolves.regAction {f : Nat} {d : RegDef} {i v mask : Nat} (h : s.Evolves u) :
    s.Evolves (u.regAction f d i v mask) := by
  unfold State.regAction
  dsimp only
  split
  · exact .either h.snapshot h
  · exact .either h.windowCommit h
  · exact .either h h.rawCommand
  · exact .either h.portCommit h
  · exact .either (.disarmGate (.either (.armGate (.either h.disableGate h)) (.either h.disableGate h)))
      (.either (.armGate (.either h.disableGate h)) (.either h.disableGate h))
  · exact h

theorem State.Evolves.regWrite {f off v mask : Nat} (h : s.Evolves u) : s.Evolves (u.regWrite f off v mask) := by
  unfold State.regWrite
  split
  · exact h
  · exact .either h.badAccess h.rput.regAction

theorem State.Evolves.heartbeatWrite {f v mask : Nat} (h : s.Evolves u) : s.Evolves (u.heartbeatWrite f v mask) :=
  .either (.beat (.either h.modFn h)) (.either h.modFn h)

theorem State.Evolves.bar0Read {f off n : Nat} (h : s.Evolves u) : s.Evolves (u.bar0Read f off n).1 := by
  unfold State.bar0Read
  dsimp only
  refine .either_fst h.badAccess (.either_fst h ?_)
  split
  · exact h.badAccess
  · exact h
  · exact h
  · exact h
  · exact h
  · exact h
  · exact h

theorem State.Evolves.requestWrite {f off n v : Nat} (h : s.Evolves u) : s.Evolves (u.requestWrite f off n v) :=
  .either h.mailboxPost (.either h.badAccess h.setFn)

theorem State.Evolves.bar0Write {f off n v : Nat} (h : s.Evolves u) : s.Evolves (u.bar0Write f off n v) := by
  unfold State.bar0Write
  dsimp only
  refine .either h (.either h.badAccess ?_)
  split
  · exact h.badAccess
  · exact h
  · exact h.heartbeatWrite
  · exact h.regWrite
  · exact .either h.nvRegWrite.nvRegWrite h.nvRegWrite
  · exact h.requestWrite
  · exact h.badAccess

theorem State.Evolves.bar2Read {f off n : Nat} (h : s.Evolves u) : s.Evolves (u.bar2Read f off n).1 :=
  .either_fst h (.either_fst h (.either_fst h.badAccess (.either_fst h h)))

theorem State.Evolves.msixWrite {f off n v : Nat} (h : s.Evolves u) : s.Evolves (u.msixWrite f off n v) :=
  h.setFn.sendHeld

theorem State.Evolves.bar2Write {f off n v : Nat} (h : s.Evolves u) : s.Evolves (u.bar2Write f off n v) :=
  .either h (.either h.doorbellAny (.either h.badAccess (.either h.msixWrite h)))

theorem State.Evolves.barRequest {q f bar off : Nat} {kind : ReqKind} {n : Nat} {data : Bytes} {ep : Bool} {tag : Nat}
    (h : s.Evolves u) :
    s.Evolves (u.barRequest q f bar off kind n data ep tag) := by
  unfold State.barRequest
  dsimp only
  refine .either (.emit (.unsupported (.either h.emit h))) ?_
  split
  · exact .emit (.either_fst (.bar0Read (.either h.emit h)) (.bar2Read (.either h.emit h)))
  · exact .either (.badAccess (.either h.emit h)) (.either (.bar0Write (.either h.emit h))
      (.bar2Write (.either h.emit h)))
  · exact .unsupported (.either h.emit h)

theorem State.Evolves.routeTo {q t : Nat} {kind : ReqKind} {a : Nat} {d : Bytes} {ep : Bool} {tag : Nat}
    (h : s.Evolves u) :
    s.Evolves (u.routeTo q t kind a d ep tag) :=
  .either h.blockedAnswer (.either h.unsupported h.wakeLink.emit)

theorem State.Evolves.switchRoute {q : Nat} {kind : ReqKind} {a n : Nat} {data : Bytes} {ep : Bool} {tag : Nat}
    (h : s.Evolves u) :
    s.Evolves (u.switchRoute q kind a n data ep tag) := by
  unfold State.switchRoute
  dsimp only
  split
  · exact h.bar4Request
  · exact h.barRequest
  · split
    · exact .either h.unsupported (.either h.routeTo h.routeTo)
    · exact .either h.routeTo h.unsupported

end
end Sys2Proof.Machine
end

section
/-! PROOFS. What every step keeps: keys, power, resets, firmware and management. -/

namespace Sys2Proof.Machine
open Sys2Proof

-- One lemma after another: so many short ones, each in a thread of its own, outgrow the memory of a check.
set_option Elab.async false

section
variable {s u : State}

/-! ### Keys -/

theorem State.Evolves.setKey {p : Nat} {k : KeySlot} (h : s.Evolves u) : s.Evolves (u.setKey p k) :=
  h.withSec

theorem State.Evolves.modKey {p : Nat} {g : KeySlot → KeySlot} (h : s.Evolves u) : s.Evolves (u.modKey p g) :=
  h.withSec

theorem State.Evolves.installKey {p v : Bytes} (h : s.Evolves u) : s.Evolves (u.installKey p v).st := by
  unfold State.installKey
  dsimp only [Reply.ok, Reply.err]
  split
  · exact h
  · exact h.draw.withSec.setKey

theorem State.Evolves.keyGenerate {f : Nat} {p : Bytes} (h : s.Evolves u) : s.Evolves (u.keyGenerate f p).st := by
  unfold State.keyGenerate
  dsimp only [Reply.ok, Reply.err]
  exact .either_st h (.either_st h h.drawBytes.installKey)

theorem State.Evolves.keyImport {f : Nat} {p : Bytes} (h : s.Evolves u) : s.Evolves (u.keyImport f p).st := by
  unfold State.keyImport
  dsimp only [Reply.ok, Reply.err]
  refine .either_st h (.either_st h (.either_st h (.either_st h ?_)))
  split
  · exact h
  · exact h.installKey

theorem State.Evolves.keyDestroy {f : Nat} {p : Bytes} (h : s.Evolves u) : s.Evolves (u.keyDestroy f p).st := by
  unfold State.keyDestroy
  dsimp only [Reply.ok, Reply.err]
  exact .either_st h (.either_st h (.either_st h h.withSec))

theorem State.Evolves.keyQuery {f : Nat} {p : Bytes} (h : s.Evolves u) : s.Evolves (u.keyQuery f p).st := by
  unfold State.keyQuery
  dsimp only [Reply.ok, Reply.err]
  refine .either_st h (.either_st h ?_)
  split <;> exact h

theorem State.Evolves.keyWrap {f : Nat} {p : Bytes} (h : s.Evolves u) : s.Evolves (u.keyWrap f p).st := by
  unfold State.keyWrap
  dsimp only [Reply.ok, Reply.err]
  refine .either_st h (.either_st h (.either_st h ?_))
  split <;> exact h

theorem State.Evolves.mcodeEnroll {f : Nat} {p : Bytes} (h : s.Evolves u) : s.Evolves (u.mcodeEnroll f p).st := by
  unfold State.mcodeEnroll
  dsimp only [Reply.ok, Reply.err]
  exact .either_st h (.either_st h h.withSec.measure)

theorem State.Evolves.svnCommit {f : Nat} {p : Bytes} (h : s.Evolves u) : s.Evolves (u.svnCommit f p).st := by
  unfold State.svnCommit
  refine .either_st h (.either_st h (.either_st h ?_))
  split
  · exact h
  · refine .ok (h.withSec ?_)
    unfold State.svnFloor
    split
    · exact Fuses.kept_of (hstandby := Nat.le_max_left ..)
    · split
      · exact Fuses.kept_of (hroot := Nat.le_max_left ..)
      · exact Fuses.kept_of (hservice := Nat.le_max_left ..)

theorem State.Evolves.fuseProgram {f : Nat} {p : Bytes} (h : s.Evolves u) : s.Evolves (u.fuseProgram f p).st := by
  unfold State.fuseProgram
  extract_lets w v x takes old set y
  refine .either_st h (.either_st h (.either_st h ?_))
  by_cases hset : takes ∧ set = true
  · rw [if_pos hset]
    exact h
  · rw [if_neg hset]
    refine .ok (h.withSec ?_)
    clear_value w
    unfold y
    split
    · exact Fuses.kept_setAnchor (Bool.eq_false_iff.2 fun hb => hset ⟨.inl rfl, hb⟩)
    · exact Fuses.kept_setAnchor (Bool.eq_false_iff.2 fun hb => hset ⟨.inr (.inl rfl), hb⟩)
    · exact Fuses.kept_revoke
    · exact Fuses.kept_revoke
    · exact Fuses.kept_setHash (Bool.eq_false_iff.2 fun hb => hset ⟨.inr (.inr rfl), hb⟩)
    · exact Fuses.kept_of (hdisable := fun _ => rfl)
    · exact Fuses.kept_of (hlock := fun _ => rfl)

/-! ### What persists -/

theorem State.Evolves.loadRules (h : s.Evolves u) : s.Evolves u.loadRules := by
  unfold State.loadRules
  dsimp only
  refine .fold h.withNet fun v _ hv => ?_
  split
  next heq => exact (hv.emInsert.fst_eq heq).withNet
  next heq => exact hv.emInsert.fst_eq heq

theorem State.Evolves.loadCassettes {n i : Nat} {b : Bytes} (h : s.Evolves u) :
    s.Evolves (u.loadCassettes n i b) := by
  induction n generalizing u i b with
  | zero => exact h
  | succ n ih =>
    exact .either h (ih (.rset (.rset (.rput (.rput (.fold h fun _ _ hv => hv.rput))))))

theorem State.Evolves.loadModes (h : s.Evolves u) : s.Evolves u.loadModes :=
  .fold h fun _ _ hv => hv.rset.withNet

theorem State.Evolves.loadDefaults (h : s.Evolves u) : s.Evolves u.loadDefaults :=
  .rset (.fold h.loadRules.loadModes.resetMeters.loadCassettes fun _ _ hv => hv.rset)

theorem State.Evolves.loadPower (h : s.Evolves u) : s.Evolves u.loadPower := by
  unfold State.loadPower
  extract_lets v
  have hv : s.Evolves v := by
    unfold v
    split
    · exact h.rset
    · exact h
  split
  · exact hv.rset.rset
  · exact hv

/-! ### Power -/

theorem State.Evolves.pwrCount {k : Nat} (h : s.Evolves u) : s.Evolves (u.pwrCount k) :=
  h.rsat

theorem State.Evolves.setBudget {d k : Nat} (h : s.Evolves u) : s.Evolves (u.setBudget d k) :=
  h.rset

theorem State.Evolves.setThermal {d k : Nat} (h : s.Evolves u) : s.Evolves (u.setThermal d k) :=
  h.rset

theorem State.Evolves.setEff {d k : Nat} (h : s.Evolves u) : s.Evolves (u.setEff d k) :=
  .either h.rset.rset h.rset

theorem State.Evolves.raiseWheels (h : s.Evolves u) : s.Evolves u.raiseWheels :=
  .fold h fun _ _ hv => .either hv.setEff hv

theorem State.Evolves.rampDown (h : s.Evolves u) : s.Evolves u.rampDown :=
  .fold h fun _ _ hv => .either hv.setEff hv

theorem State.Evolves.sendCadence {g : Peloton} {c own : Nat} {capped leaving : Bool} (h : s.Evolves u) :
    s.Evolves (u.sendCadence g c own capped leaving) := by
  unfold State.sendCadence
  dsimp only
  split
  · exact h
  · exact .either h h.wireY

theorem State.Evolves.startRound {r : Nat} {capped : Bool} (h : s.Evolves u) : s.Evolves (u.startRound r capped) := by
  unfold State.startRound
  dsimp only
  split
  · exact h
  · exact .fold h.withPwr fun _ _ hv => hv.sendCadence

theorem State.Evolves.showPeers (h : s.Evolves u) : s.Evolves u.showPeers := by
  unfold State.showPeers
  split
  · exact h
  · exact h.rset

theorem State.Evolves.ownChange (h : s.Evolves u) : s.Evolves u.ownChange := by
  unfold State.ownChange
  dsimp only
  split
  · exact h
  · exact .either h (.either (.withPwr (.either h.rset.postEvent h.rset))
      (.startRound (.rset (.withPwr (.either h.rset.postEvent h.rset)))))

theorem State.Evolves.wheelsMoved (h : s.Evolves u) : s.Evolves u.wheelsMoved :=
  h.raiseWheels.ownChange

theorem State.Evolves.postCadence (h : s.Evolves u) : s.Evolves u.postCadence := by
  unfold State.postCadence
  dsimp only
  split
  · exact h
  · exact h.withPwr.postEvent

theorem State.Evolves.roundFinish (h : s.Evolves u) : s.Evolves u.roundFinish := by
  unfold State.roundFinish
  split
  · exact h
  · refine .either h ?_
    extract_lets live all v c quiet peers _ w x y _ z lost t
    have hv : s.Evolves v := h.trans { now := Nat.le_max_left .. }
    have hy : s.Evolves y := .rset (.rset (.raiseWheels (.rset (.pwrCount hv.withPwr))))
    have hz : s.Evolves z := by
      refine .either hy ?_
      split
      · exact .either hy.withPwr hy.postCadence
      · exact hy.postCadence
    have ht : s.Evolves t := .showPeers (.fold hz fun _ _ hv => hv.excludePeer)
    exact ht.startRound

theorem State.Evolves.execCadenceChanged (h : s.Evolves u) : s.Leads (execCadenceChanged u) := by
  unfold Machine.execCadenceChanged
  refine .next ?_
  split
  · exact h
  · exact .either h (.postCadence (h.trans { now := Nat.le_max_left .. }))

theorem State.Evolves.cadence {i : Nat} (h : s.Evolves u) : s.Evolves (u.cadence i) := by
  unfold State.cadence
  dsimp only
  split
  next heq => exact h.takeY.fst_eq heq
  next v1 _ heq =>
    have hv1 : s.Evolves v1 := h.takeY.fst_eq heq
    split
    · exact hv1.pwrCount
    · refine .either hv1.pwrCount ?_
      split
      · exact hv1.pwrCount
      · refine .either hv1.pwrCount (.either hv1.withPwr.excludePeer.showPeers ?_)
        split
        · exact .showPeers (.either hv1.withPwr.startRound hv1.withPwr)
        · exact .either (.withPwr (.showPeers (.either hv1.withPwr.startRound hv1.withPwr)))
            (.showPeers (.either hv1.withPwr.startRound hv1.withPwr))

theorem State.Evolves.pelotonJoin {f : Nat} {p : Bytes} (h : s.Evolves u) : s.Evolves (u.pelotonJoin f p).st := by
  unfold State.pelotonJoin
  dsimp only [Reply.ok, Reply.err]
  exact .either_st h (.either_st h h.withPwr.rset.rput.showPeers.startRound.ownChange)

theorem State.Evolves.endPeloton (h : s.Evolves u) : s.Evolves u.endPeloton :=
  h.withPwr.rput.rset.rset

theorem State.Evolves.pelotonLeave {f : Nat} (h : s.Evolves u) : s.Evolves (u.pelotonLeave f).st := by
  unfold State.pelotonLeave
  dsimp only [Reply.ok, Reply.err]
  split
  · exact h
  · exact .either_st h (.endPeloton (.fold h fun _ _ hv => hv.sendCadence))

theorem State.Evolves.capChanged (h : s.Evolves u) : s.Evolves u.capChanged :=
  .either h h.rset.bump

theorem State.Evolves.setOthers {k : Nat} (h : s.Evolves u) : s.Evolves (u.setOthers k) :=
  h.setBudget.setBudget.setBudget

theorem State.Evolves.limiterTick {raw tile stor : Nat} (h : s.Evolves u) :
    s.Evolves (u.limiterTick raw tile stor) := by
  have hbudget : ∀ (v : State) (o : Option Nat) (w : State), s.Evolves v → s.Evolves w →
      s.Evolves (match o with | some k => v.setBudget 0 k | none => w) := by
    intro v o w hv hw
    cases o with
    | none => exact hw
    | some k => exact hv.setBudget
  unfold State.limiterTick
  extract_lets e cap kNow k oth v1 v2 v3 v4
  have hv1 : s.Evolves v1 := hbudget _ _ _ h h.setBudget.setOthers
  have hv2 : s.Evolves v2 := .either (.either h.setOthers h) (hbudget _ _ _ h h)
  have hv3 : s.Evolves v3 := .either (.either hv1.rset hv1) (.either hv2.rset h)
  have hv4 : s.Evolves v4 := .either hv3.pwrCount hv3
  exact hv4.wheelsMoved

theorem State.Evolves.offsetUpdate {m e : Nat} (h : s.Evolves u) : s.Evolves (u.offsetUpdate m e) :=
  .either h h.withPwr.rset

theorem State.Evolves.sensorMoves {old : State} {ids : List Nat} (h : s.Evolves u) :
    s.Evolves (u.sensorMoves old ids) :=
  .fold h fun _ _ hv => .either hv hv.pldm

theorem State.Evolves.modeMoved {old : Nat} (h : s.Evolves u) : s.Evolves (u.modeMoved old) :=
  .either h h.pldm

theorem State.Evolves.conservative {on : Bool} {m e : Nat} (h : s.Evolves u) : s.Evolves (u.conservative on m e) :=
  h.rset.postBoth.crFault.modeMoved.bump

theorem State.Evolves.divergence {m e : Nat} {missing : Bool} (h : s.Evolves u) :
    s.Evolves (u.divergence m e missing) :=
  .either h.withPwr.rset (.either (.conservative (.withPwr (.withPwr
    (.either h.withPwr.rset.pwrCount h.withPwr.rset)))) (.either (.conservative
    (.withPwr (.withPwr (.either h.withPwr.rset.pwrCount h.withPwr.rset))))
    (.withPwr (.either h.withPwr.rset.pwrCount h.withPwr.rset))))

theorem State.Evolves.limitSet {f : Nat} {p : Bytes} (h : s.Evolves u) : s.Evolves (u.limitSet f p).st := by
  unfold State.limitSet
  dsimp only [Reply.ok, Reply.err]
  exact .either_st h (.either_st h h.rset.capChanged)

theorem State.Evolves.powerReturn {v : Nat} (h : s.Evolves u) : s.Evolves (u.powerReturn v) := by
  unfold State.powerReturn
  dsimp only
  refine .either h ?_
  split
  · exact h.withPwr
  · split
    · exact h.withPwr.ownChange
    · exact .either h.withPwr.ownChange.startRound h.withPwr.ownChange

theorem State.Evolves.droopTrip (h : s.Evolves u) : s.Evolves u.droopTrip :=
  .raiseWheels (.rset (.pwrCount (.withPwr (.fold h fun _ _ hv => hv.rset))))

theorem State.Evolves.droopExpire (h : s.Evolves u) : s.Evolves u.droopExpire :=
  .either h (.rset (.fold (h.trans { now := Nat.le_max_left .. }) fun _ _ hv => hv.rset))

theorem State.Evolves.thermalSample {t : Nat} (h : s.Evolves u) : s.Evolves (u.thermalSample t) :=
  .wheelsMoved (.rset (.withPwr (.either (.fold h.rset fun _ _ hv => hv.setThermal)
    (.either (.setThermal (.either h.rset.setThermal.setThermal.setThermal h.rset))
    (.either (.setThermal (.either h.rset.setThermal.setThermal.setThermal h.rset))
    (.either h.rset.setThermal.setThermal.setThermal h.rset))))))

theorem State.Evolves.crFrame {type ttl src seq epoch : Nat} {body : Bytes} {ok : Bool} {act : State → State × Bytes}
    (h : s.Evolves u) (hact : ∀ v, s.Evolves v → s.Evolves (act v).1) :
    s.Evolves (u.crFrame type ttl src seq epoch body ok act) := by
  unfold State.crFrame
  dsimp only
  exact .either h (.either h.pwrCount (.either h (.either h ((hact _ h).emit))))

theorem State.Evolves.crNumber {epoch : Nat} {body : Bytes} (h : s.Evolves u) : s.Evolves (u.crNumber epoch body).1 :=
  .either_fst h.rset.rset.rset h.rset.rset.rset.withPwr

theorem State.Evolves.crAckSend {seq type : Nat} (h : s.Evolves u) : s.Evolves (u.crAckSend seq type) :=
  h.withPwr.crSend

theorem State.Evolves.applyShare {seq w : Nat} (h : s.Evolves u) : s.Evolves (u.applyShare seq w) :=
  h.withPwr.rset.rset.rset.modeMoved.capChanged

theorem State.Evolves.crApply {seq epoch : Nat} {body : Bytes} (h : s.Evolves u) :
    s.Evolves (u.crApply seq epoch body) :=
  .either h (.either h.pwrCount (.crAckSend (.either h.withPwr.pwrCount
    (.either h.withPwr.applyShare h.withPwr.pwrCount))))

theorem State.Evolves.crAcked {body : Bytes} (h : s.Evolves u) : s.Evolves (u.crAcked body) :=
  .either h.withPwr h

theorem State.Evolves.faultAgain {seq : Nat} (h : s.Evolves u) : s.Evolves (u.faultAgain seq) := by
  unfold State.faultAgain
  split
  · exact h
  · exact h.crSend

theorem State.Evolves.budgetTimeout (h : s.Evolves u) : s.Evolves u.budgetTimeout :=
  .either h (.capChanged (.modeMoved (.postBoth (.rset (.rset (h.trans { now := Nat.le_max_left .. }))))))

theorem State.Evolves.crJoin (h : s.Evolves u) : s.Evolves u.crJoin :=
  .emit (.rset (h.trans {}))

theorem State.Evolves.joinSettled (h : s.Evolves u) : s.Evolves u.joinSettled :=
  .either h h.withPwr.rset.crFault

theorem State.Evolves.joinedRepeat (h : s.Evolves u) : s.Evolves u.joinedRepeat := by
  unfold State.joinedRepeat
  refine .either h ?_
  split
  · exact h.faultAgain
  · exact h.crFault

theorem State.Evolves.leaveClose (h : s.Evolves u) : s.Evolves u.leaveClose := by
  unfold State.leaveClose
  dsimp only
  split
  · exact .capChanged (.emit (.rset (.rset (h.trans {}))))
  · exact h

theorem State.Evolves.crSet {f : Nat} {p : Bytes} (h : s.Evolves u) : s.Evolves (u.crSet f p).st := by
  unfold State.crSet
  dsimp only [Reply.ok, Reply.err]
  exact .either_st h (.either_st h (.either h.rset.rset.crFault.withPwr (.either h.rset.rset.crJoin h.rset.rset)))

/-! ### Resets -/

theorem State.Evolves.stopPaths (h : s.Evolves u) : s.Evolves u.stopPaths := by
  unfold State.stopPaths
  extract_lets v w x y qs
  have hw : s.Evolves w := .quarantineReqs (.nvAbandon (.fold h fun _ _ hv => hv.abandonOp))
  have hx : s.Evolves x := .fold hw fun _ _ hv => hv.discardPort
  have hy : s.Evolves y := .fold hx fun _ _ hv => .fold hv fun _ _ hw => hw.dropCount
  clear_value y
  exact hy.trans { queues := fun w => Map.wf_map w }

theorem State.Evolves.restartClocks (h : s.Evolves u) : s.Evolves u.restartClocks :=
  h.withBrd

theorem State.Evolves.softClear {lost : Bool} {who : Option Nat} (h : s.Evolves u) :
    s.Evolves (u.softClear lost who) := by
  unfold State.softClear
  extract_lets v f p t seed _ w x y z
  have hw : s.Evolves w := h.endPeloton.trans {
    hbm := fun hm => by cases lost <;> [exact hm; rfl]
    fns := fun hm => Map.wf_map hm
    spokes := fun _ => rfl
    queues := fun _ => rfl
    ops := fun _ => rfl
    counters := fun _ => rfl
    entries := fun _ => rfl }
  have hy : s.Evolves y := hw.rreset.trans { regs := Map.filter_wf _ _ }
  exact hy.rset.loadDefaults.restartUnits.restartClocks

theorem State.Evolves.setRoles {l : List Nat} (h : s.Evolves u) : s.Evolves (u.setRoles l) :=
  .fold h fun _ _ hv => hv.rput

theorem State.freshFns_wf (s : State) : Map.wf s.freshFns = true := by
  unfold State.freshFns
  split
  · rfl
  · rfl

theorem State.Evolves.mainClear {std : Bool} (h : s.Evolves u) : s.Evolves (u.mainClear std) := by
  have hroles : ∀ m : Map Nat, Map.wf m = true →
      Map.wf (defaultRoles.foldl (fun m r => Map.put m r.1 r.2) m) = true :=
    fun _ hm => List.foldlRecOn _ _ (motive := fun m => Map.wf m = true) hm fun _ hb _ _ => Map.put_wf _ _ _ hb
  unfold State.mainClear
  extract_lets keep v _ _ w words x y z t
  have hv : s.Evolves v := h.softClear
  clear_value v
  have hw : s.Evolves w := hv.trans {
    hbm := fun _ => rfl
    fns := fun _ => State.freshFns_wf _
    ports := fun _ => rfl
    spokes := fun _ => rfl
    queues := fun _ => rfl
    ops := fun _ => rfl
    reqs := fun _ => rfl }
  have hy : s.Evolves y := hw.rreset.trans { regs := hroles _ }
  have ht : s.Evolves t := .fold hy.setRoles fun _ _ hv => hv.rput
  exact ht.restartUnits.loadDefaults.capChanged

theorem State.Evolves.packageReset (h : s.Evolves u) : s.Evolves u.packageReset := by
  unfold State.packageReset
  split
  next v hdraw =>
    extract_lets cut _ w x
    have hx : s.Evolves x := .mainClear (.withFwm (h.draw.snd_eq hdraw))
    clear_value x
    exact .restartUnits (hx.trans {
      fns := fun _ => rfl
      ports := fun _ => rfl
      spokes := fun _ => rfl
      queues := fun _ => rfl
      ops := fun _ => rfl
      reqs := fun _ => rfl })

theorem State.Evolves.railsOff (h : s.Evolves u) : s.Evolves u.railsOff :=
  .either (.emit (.withBrd (.fold h fun _ _ hv => hv.modPort.emit))) (.withBrd (.fold h fun _ _ hv => hv.modPort.emit))

theorem State.Evolves.enterStandby (h : s.Evolves u) : s.Evolves u.enterStandby :=
  h.railsOff.mainClear.withBrd

theorem State.Evolves.setKind {k : Nat} (h : s.Evolves u) : s.Evolves (u.setKind k) :=
  h.rset

theorem State.Evolves.scBoot {ok : Bool} (h : s.Evolves u) : s.Evolves (u.scBoot ok) := by
  unfold State.scBoot
  dsimp only
  exact .either h.withBrd.rset.retireTray h.withBrd.drawBytes.withSec.rset.measure.measure.measure

theorem State.Evolves.testRecord {r : TestResult} (h : s.Evolves u) : s.Evolves (u.testRecord r) :=
  .either h.withBrd.rsat h.withBrd

theorem State.Evolves.testFailed {r : TestResult} (h : s.Evolves u) : s.Evolves (u.testFailed r) := by
  unfold State.testFailed
  refine .either h ?_
  split
  · exact .either (.either h h.retireNow) h.retireTray
  · exact .either (.either h h.retireNow) h.retireTray
  · exact h.addRepair
  · exact .either h.withBrd.retireTray h
  · exact .either h.withBrd.retireTray h
  · exact h

theorem State.Evolves.newStart (h : s.Evolves u) : s.Evolves u.newStart :=
  h.withBrd.rset

theorem State.Evolves.results {l : List TestResult} (h : s.Evolves u) : s.Evolves (u.results l) :=
  .fold h fun _ _ hv => hv.testRecord.testFailed

theorem State.Evolves.debugMeasure {level method : Nat} {id : Bytes} (h : s.Evolves u) :
    s.Evolves (u.debugMeasure level method id) :=
  h.measure

theorem State.Evolves.zeroised (h : s.Evolves u) : s.Evolves u.zeroised := by
  have hv := h.stopPaths
  unfold State.zeroised
  generalize u.stopPaths = v at hv ⊢
  exact .rset (hv.trans {})

/-! ### Boot -/

theorem State.Evolves.powerOn (h : s.Evolves u) : s.Evolves u.powerOn :=
  h.packageReset.rreset.withBrd

theorem State.Evolves.aonRemoved (h : s.Evolves u) : s.Evolves u.aonRemoved :=
  .either h (.withBrd (.powerOn (.railsOff (.either (.emit (.either h.emit h)) (.either h.emit h)))))

theorem State.Evolves.resetAssert (h : s.Evolves u) : s.Evolves u.resetAssert :=
  .either h (.setKind (.packageReset (.railsOff (.either h.emit h))))

theorem State.Evolves.reportCauses (h : s.Evolves u) : s.Evolves u.reportCauses :=
  .either h h.withBrd.crFault.pldm

theorem State.Evolves.raiseMain (h : s.Evolves u) : s.Evolves u.raiseMain := by
  refine .either h (.emit (h.trans { now := ?_ }))
  dsimp only
  split
  · exact Nat.le_refl _
  · exact Nat.le_max_left ..

theorem State.Evolves.standbyStart {smp : Nat} (h : s.Evolves u) : s.Evolves (u.standbyStart smp) := by
  unfold State.standbyStart
  extract_lets safe up down cr test _
  split
  extract_lets v _ w x y z a b c
  have hv : s.Evolves v := h.withBrd
  have hw : s.Evolves w := hv.trans { fns := fun _ => State.freshFns_wf _ }
  have hz : s.Evolves z := hw.rput.setRoles.loadPower.capChanged.rput
  have hb : s.Evolves b := .reportCauses (.either hz.crJoin hz)
  have hc : s.Evolves c := .either hb.crFault.pldm (.either hb.pldm hb)
  exact hc.raiseMain

theorem State.Evolves.resetRelease {straps : Nat} (h : s.Evolves u) : s.Evolves (u.resetRelease straps) := by
  unfold State.resetRelease
  refine .either h ?_
  extract_lets smp _ v
  have hv : s.Evolves v := h.withBrd
  clear_value v
  split
  · exact hv.rput
  · exact hv.withFwm.standbyStart

theorem State.Evolves.mainRise {results : List TestResult} (h : s.Evolves u) : s.Evolves (u.mainRise results) :=
  .either h (.either h.withBrd.sensorMoves.newStart.results
    (.fold h.withBrd.sensorMoves.newStart.results fun _ _ hv => hv.rset))

theorem State.Evolves.mainTimeout (h : s.Evolves u) : s.Evolves u.mainTimeout :=
  .either h (.pldm (.crFault (.rset (.emit (h.trans { now := Nat.le_max_left .. })))))

theorem State.Evolves.mainLoss (h : s.Evolves u) : s.Evolves u.mainLoss :=
  .either h.enterStandby.rset.sensorMoves h

theorem State.Evolves.trip (h : s.Evolves u) : s.Evolves u.trip :=
  .either h h.withBrd.emit.enterStandby.crFault.sensorMoves

theorem State.Evolves.trainUp {h' : Nat} (h : s.Evolves u) : s.Evolves (u.trainUp h') :=
  .either h h.modPort

theorem State.Evolves.trainStart {h' : Nat} (h : s.Evolves u) : s.Evolves (u.trainStart h') :=
  .either (.trainUp (h.trans { now := Nat.le_max_left .. })) h

theorem State.Evolves.perstRise {h' : Nat} (h : s.Evolves u) : s.Evolves (u.perstRise h') :=
  .either h.defer (.either h.withBrd.trainUp h.withBrd)

theorem State.Evolves.perstFall {h' : Nat} (h : s.Evolves u) : s.Evolves (u.perstFall h') :=
  .either h.defer (.either h.withBrd (.modPort (.fold (.fold (.freeRevoked
    (.freeDead (.fold h.withBrd fun _ _ hv => hv.abandonFn))) fun _ _ hv2 => hv2.fnReset) fun _ _ hv3 => hv3.modPort)))

theorem State.Evolves.downPerst {q : Nat} (h : s.Evolves u) : s.Evolves (u.downPerst q) :=
  .either h (.emit (.setPort (h.trans { now := Nat.le_max_left .. })))

theorem State.Evolves.hbmStart {failed spares : List Nat} (h : s.Evolves u) : s.Evolves (u.hbmStart failed spares) := by
  unfold State.hbmStart
  extract_lets bad lost reps _ v w x
  have hv : s.Evolves v := h.withMem
  have hw : s.Evolves w := .fold hv fun _ _ hv => hv.rset.rset.rset
  have hx : s.Evolves x := .either hw.retireTray hw
  exact .either hx.retireTray hx

theorem State.Evolves.fillComplete {failed spares : List Nat} {ok : Bool} (h : s.Evolves u) :
    s.Evolves (u.fillComplete failed spares ok) :=
  .either h (.either h.hbmStart.rset.scBoot.zeroised.debugMeasure h.hbmStart.rset.scBoot)

theorem State.Evolves.softReset {f : Nat} (h : s.Evolves u) : s.Evolves (u.softReset f) := by
  unfold State.softReset
  extract_lets v
  have hv : s.Evolves v := h.perform fun _ _ hw => .either_st hw hw.withBrd.ok
  split
  · exact hv.stopPaths.softClear.sensorMoves
  · exact hv

theorem State.Evolves.performDeferred {d : Nat × Nat} (h : s.Evolves u) : s.Evolves (u.performDeferred d) := by
  unfold State.performDeferred
  split
  · exact h.flrStart
  · exact h.sbrSet
  · exact h.sbrClear
  · exact h.perstFall
  · exact h.perstRise

theorem State.Evolves.softDone {results : List TestResult} {failed spares : List Nat} {ok : Bool} (h : s.Evolves u) :
    s.Evolves (u.softDone results failed spares ok) := by
  unfold State.softDone
  dsimp only
  split
  · exact h
  · exact .fold (.emits (.rsat (.setKind (.scBoot (.withBrd (.either h.newStart.results.hbmStart.reportCauses h))))))
      fun _ _ hv1 => hv1.performDeferred

theorem State.Evolves.standbyAsk {f : Nat} (h : s.Evolves u) : s.Evolves (u.standbyAsk f) :=
  h.withBrd.rset

theorem State.Evolves.vendorReply {cmd code : Nat} {data : Bytes} (h : s.Evolves u) :
    s.Evolves (u.vendorReply cmd code data) :=
  h.emit

theorem State.Evolves.standbyExit (h : s.Evolves u) : s.Evolves u.standbyExit :=
  .either h.vendorReply h.raiseMain.setKind.reportCauses.vendorReply

/-! ### Ciphers -/

theorem State.Evolves.renewKey {i : Nat} (h : s.Evolves u) : s.Evolves (u.renewKey i) :=
  .either h h.journal

theorem State.Evolves.cipherInit {f : Nat} {p : Bytes} (h : s.Evolves u) : s.Evolves (u.cipherInit f p).st := by
  unfold State.cipherInit
  dsimp only [Reply.ok, Reply.err]
  split
  · exact h
  · refine .either_st h (.either_st h (.either_st h ?_))
    split
    · exact h
    · exact .either_st h (.either_st h.renewKey (.withSec (.either (.renewKey (.either h.modKey h))
        (.either h.modKey h))))

theorem State.Evolves.busRead {f a n : Nat} {ans : HostAns} (h : s.Evolves u) : s.Evolves (u.busRead f a n ans).1 :=
  h.leafRead

theorem State.Evolves.busWrite {f a : Nat} {d : Bytes} {ans : HostAns} (h : s.Evolves u) :
    s.Evolves (u.busWrite f a d ans).1 :=
  h.leafWrite

theorem State.Evolves.cipherUpdate {f : Nat} {rd wr : HostAns} {p : Bytes} (h : s.Evolves u) :
    s.Evolves (u.cipherUpdate f rd wr p).st := by
  unfold State.cipherUpdate
  dsimp only [Reply.ok, Reply.err]
  split
  · exact h
  · refine .either_st h (.either_st h (.either_st h.withSec (.either_st h ?_)))
    split
    · exact h
    · exact .either_st h.busRead (.either_st (.either_fst h.busRead.busWrite h.busRead)
        (.withSec (.either_fst h.busRead.busWrite h.busRead)))

theorem State.Evolves.cipherFinal {f : Nat} {p : Bytes} (h : s.Evolves u) : s.Evolves (u.cipherFinal f p).st := by
  unfold State.cipherFinal
  dsimp only [Reply.ok, Reply.err]
  split
  · exact h
  · refine .either_st h (.either_st h (.either_st h ?_))
    split
    · exact h
    · exact .either_st h.withSec (.either_st h.withSec h.withSec)

theorem State.Evolves.ctxExport {f : Nat} {wr : HostAns} {p : Bytes} (h : s.Evolves u) :
    s.Evolves (u.ctxExport f wr p).st := by
  unfold State.ctxExport
  dsimp only [Reply.ok, Reply.err]
  split
  · exact h
  · split
    · exact h
    · exact .either_st h (.either_st h (.either_st h.busWrite h.busWrite.withSec))

theorem State.Evolves.ctxImport {f : Nat} {rd : HostAns} {p : Bytes} (h : s.Evolves u) :
    s.Evolves (u.ctxImport f rd p).st := by
  unfold State.ctxImport
  dsimp only [Reply.ok, Reply.err]
  split
  · exact h
  · refine .either_st h (.either_st h.busRead ?_)
    split
    · exact h.busRead
    · refine .either_st h.busRead (.either_st h.busRead (.either_st h.busRead ?_))
      split
      · exact h.busRead
      · exact h.busRead.withSec

theorem State.Evolves.failKey {h' : Nat} (h : s.Evolves u) : s.Evolves (u.failKey h') := by
  unfold State.failKey
  dsimp only
  split
  · exact h
  · exact h.modKey.postEvent

theorem State.Evolves.quarantine {h' : Nat} (h : s.Evolves u) : s.Evolves (u.quarantine h') := by
  unfold State.quarantine
  dsimp only
  split
  · exact h
  · exact .either h.withSec.rset.failKey h.withSec.rset.modKey.withSec

theorem State.Evolves.cipherFail {user arg : Nat} (h : s.Evolves u) : s.Evolves (u.cipherFail user arg) := by
  unfold State.cipherFail
  dsimp only
  split
  · exact .either h.respond h
  · exact h.nvDone
  · split
    · exact h.failCkpt
    · exact h
  · exact h.rsat

theorem State.Evolves.cipherFault {engine h' user arg : Nat} (h : s.Evolves u) :
    s.Evolves (u.cipherFault engine h' user arg) :=
  .either h (.either (.withSec (.either h.rsat.log.withSec.quarantine.cipherFail h.rsat.log.withSec.quarantine))
    (.either h.rsat.log.withSec.quarantine.cipherFail h.rsat.log.withSec.quarantine))

theorem State.Evolves.retireEngine {e : Nat} (h : s.Evolves u) : s.Evolves (u.retireEngine e) :=
  .either h (.either h.rset.journal.retireTray h.rset.journal)

theorem State.Evolves.reinstalled {h' : Nat} {engineOk slotOk : Bool} (h : s.Evolves u) :
    s.Evolves (u.reinstalled h' engineOk slotOk) :=
  .either h (.either (.failKey (.withSec (.either h (.fold h fun _ _ hv => hv.retireEngine))))
    (.withSec (.modKey (.either h (.fold h fun _ _ hv => hv.retireEngine)))))

theorem State.Evolves.keyRamBad {h' : Nat} (h : s.Evolves u) : s.Evolves (u.keyRamBad h') :=
  .either h h.quarantine

/-! ### Presence -/

theorem State.Evolves.fnWrite {f a : Nat} {d : Bytes} {ans : HostAns} (h : s.Evolves u) :
    s.Evolves (u.fnWrite f a d ans).1 := by
  unfold State.fnWrite
  refine .either_fst h (.either_fst h ?_)
  split
  · exact h
  · exact h
  · exact .either h h.hitProt.emit

theorem State.Evolves.tellRetire {f : Nat} (h : s.Evolves u) : s.Evolves (u.tellRetire f) :=
  .either h (.fold h.withBrd fun _ _ hv => hv.postPf0)

theorem State.Evolves.helloAll {f : Nat} {p : Bytes} (h : s.Evolves u) : s.Evolves (u.helloAll f p).st :=
  .either_st h.hello h.hello.nvResume.tellRetire

theorem State.Evolves.queueStartAll {f : Nat} {p : Bytes} (h : s.Evolves u) : s.Evolves (u.queueStartAll f p).st :=
  .either_st h.queueStart h.queueStart.settleXpt

theorem State.Evolves.stateSummary {f : Nat} {p : Bytes} {ans : HostAns} (h : s.Evolves u) :
    s.Evolves (u.stateSummary f p ans).st := by
  unfold State.stateSummary
  dsimp only [Reply.ok, Reply.err]
  split
  · exact h
  · refine .either_st h (.either_st h ?_)
    split
    next v heq =>
      have hv : s.Evolves v := h.fnWrite.fst_eq heq
      exact .either (hv.trans {}) hv
    next heq => exact h.fnWrite.fst_eq heq

/-! ### Self-tests -/

theorem State.Evolves.testRun {f : Nat} {p : Bytes} (h : s.Evolves u) : s.Evolves (u.testRun f p).st := by
  unfold State.testRun
  dsimp only [Reply.ok, Reply.err]
  split
  · exact h
  · exact .withBrd (.either h.setTile h)

theorem State.Evolves.testComplete {passed : Bool} {durationUs fails locator : Nat} (h : s.Evolves u) :
    s.Evolves (u.testComplete passed durationUs fails locator) := by
  unfold State.testComplete
  split
  · exact h
  · extract_lets r _ v w x b m y z
    have hw : s.Evolves w := .either h.withBrd.clearTile h.withBrd
    have hz : s.Evolves z := .either hw.testRecord.testFailed.tileFreed hw.testRecord.testFailed
    exact .either hz.respond hz

theorem State.Evolves.testResults {f : Nat} {p : Bytes} (h : s.Evolves u) : s.Evolves (u.testResults f p).st := by
  unfold State.testResults
  dsimp only [Reply.ok, Reply.err]
  exact .either_st h h

theorem State.Evolves.retireClear {f : Nat} {p : Bytes} (h : s.Evolves u) : s.Evolves (u.retireClear f p).st := by
  unfold State.retireClear
  dsimp only [Reply.ok, Reply.err]
  exact .either_st h h.rput.sensorMoves

/-! ### Debug -/

theorem State.Evolves.challenge (h : s.Evolves u) : s.Evolves u.challenge.2 := by
  unfold State.challenge
  dsimp only
  exact h.drawBytes.withSec

theorem State.Evolves.execDebugChallenge {f : Nat} (h : s.Evolves u) : s.Leads (execDebugChallenge f u) := by
  unfold Machine.execDebugChallenge
  dsimp only [Reply.ok, Reply.err]
  exact .next (h.perform (fun _ _ hv => .either_st hv hv.challenge))

theorem State.Evolves.execDbgAuthRead (h : s.Evolves u) : s.Leads (execDbgAuthRead u) := by
  unfold Machine.execDbgAuthRead
  dsimp only
  exact .next (.either h h.challenge.emit)

theorem State.Evolves.unlockFails (h : s.Evolves u) : s.Evolves u.unlockFails :=
  h.withSec.rset.rset

theorem State.Evolves.setLevel {level method : Nat} {id : Bytes} (h : s.Evolves u) :
    s.Evolves (u.setLevel level method id) :=
  h.rset.debugMeasure

theorem State.Evolves.unlock {signed clean : Bool} {b : Bytes} (h : s.Evolves u) :
    s.Evolves (u.unlock signed b clean).1 := by
  unfold State.unlock
  refine .either_fst h ?_
  extract_lets v nonce _ w ok lv id
  have hv : s.Evolves v := h.trans { now := Nat.le_max_left .. }
  have hw : s.Evolves w := .either hv.withSec hv
  exact .either_fst hw.unlockFails (.either_fst hw.setLevel (.either_fst hw.zeroised.setLevel hw.zeroised.rset))

theorem State.Evolves.debugUnlock {f : Nat} {ans : HostAns} {clean : Bool} {p : Bytes} (h : s.Evolves u) :
    s.Evolves (u.debugUnlock f ans clean p).st := by
  unfold State.debugUnlock
  dsimp only [Reply.ok, Reply.err]
  refine .either_st h (.either_st h.unlock ?_)
  split
  · exact h
  · exact h.unlock

theorem State.Evolves.execDbgAuthWrite {b : Bytes} {clean : Bool} (h : s.Evolves u) :
    s.Leads (execDbgAuthWrite b clean u) := by
  unfold Machine.execDbgAuthWrite
  dsimp only
  exact .next (.either h h.unlock.emit)

/-! ### SPDM -/

theorem State.Evolves.spdmError {t e : Nat} (h : s.Evolves u) : s.Evolves (u.spdmError t e) :=
  h.emit

theorem State.Evolves.spdmReply {t code : Nat} {req resp : Bytes} (h : s.Evolves u) :
    s.Evolves (u.spdmReply t code req resp) :=
  h.withSec.emit

theorem State.Evolves.spdmBody {code : Nat} {req : Bytes} (h : s.Evolves u) : s.Evolves (u.spdmBody code req).2 := by
  unfold State.spdmBody
  dsimp only
  exact h.draw

theorem State.Evolves.spdm {t need : Nat} {body : State → State} (h : s.Evolves u)
    (hbody : ∀ v, s.Evolves v → s.Evolves (body v)) :
    s.Evolves (u.spdm t need body) :=
  .either h (.either h.spdmError (.either h.spdmError (hbody _ h)))

theorem State.Evolves.spdmStep {t code next : Nat} {req : Bytes} (h : s.Evolves u) :
    s.Evolves (u.spdmStep t code next req) := by
  unfold State.spdmStep
  dsimp only
  exact h.spdmBody.withSec.spdmReply

theorem State.Evolves.execChallenge {t : Nat} {req : Bytes} {slot : Nat} (h : s.Evolves u) :
    s.Leads (execChallenge t req slot u) := by
  unfold Machine.execChallenge
  dsimp only
  exact .next (h.spdm (fun _ hv => .either hv.spdmError hv.spdmBody.draw.spdmReply))

theorem State.Evolves.execGetMeasurements {t : Nat} {req : Bytes} {op : Nat} {sign : Bool} (h : s.Evolves u) :
    s.Leads (execGetMeasurements t req op sign u) := by
  unfold Machine.execGetMeasurements
  dsimp only
  exact .next (h.spdm (fun _ hv => .either hv.spdmError hv.spdmBody.draw.spdmReply))

theorem State.Evolves.execKeyExchange {t : Nat} {req : Bytes} (h : s.Evolves u) :
    s.Leads (execKeyExchange t req u) := by
  refine .next (h.spdm fun v hv => ?_)
  dsimp only
  split
  · exact hv.spdmError
  · exact .spdmReply hv.spdmBody.withSec

theorem State.Evolves.inSession {t sid : Nat} {finished : Bool} {body : State → State} (h : s.Evolves u)
    (hbody : ∀ v, s.Evolves v → s.Evolves (body v)) :
    s.Evolves (u.inSession t sid finished body) := by
  unfold State.inSession
  split
  · exact h.spdmError
  · exact .either (hbody _ h) h.spdmError

theorem State.Evolves.modSpdm {sid : Nat} {g : SpdmSession → SpdmSession} (h : s.Evolves u) :
    s.Evolves (u.modSpdm sid g) :=
  h.withSec

theorem State.Evolves.execFinish {t sid : Nat} {req : Bytes} {ok : Bool} (h : s.Evolves u) :
    s.Leads (execFinish t sid req ok u) := by
  unfold Machine.execFinish
  dsimp only
  exact .next (h.spdm (fun _ hv => hv.inSession (fun _ hv1 => .either hv1.withSec.spdmError
    hv1.spdmBody.modSpdm.spdmReply)))

theorem State.Evolves.installWrap {t cls : Nat} {persist : Bool} {key : Bytes} (h : s.Evolves u) :
    s.Evolves (u.installWrap t cls persist key) := by
  unfold State.installWrap
  dsimp only
  split
  · exact h.spdmError
  · exact .either h.spdmError (.either h.spdmError (.either h.installKey.journalAll h.installKey.emit))

/-! ### Firmware -/

theorem State.Evolves.setGroup {g st : Nat} (h : s.Evolves u) : s.Evolves (u.setGroup g st) :=
  h.withFwm

theorem State.Evolves.endHold {v : Nat} (h : s.Evolves u) : s.Evolves (u.endHold v) :=
  .either h.telResume (.either h (.fold h fun _ _ hv => hv.withNvme.emitReq))

theorem State.Evolves.storageRestart {v : Nat} (h : s.Evolves u) : s.Evolves (u.storageRestart v) :=
  .either h (.fold h fun _ _ hv => hv.pathLoss)

theorem State.Evolves.runImage {v : Nat} {i : Image} (h : s.Evolves u) : s.Evolves (u.runImage v i) :=
  h.measure.bump

theorem State.Evolves.updateEnds {v : Nat} {st : Status} (h : s.Evolves u) : s.Evolves (u.updateEnds v st) :=
  h.asyncDone

theorem State.Evolves.startService {f len v : Nat} {ans : HostAns} (h : s.Evolves u) :
    s.Evolves (u.startService f len v ans).1 := by
  unfold State.startService
  dsimp only
  split
  · exact h
  · exact .either_fst h (.either h.setService.runImage.setGroup.startSpaces h.setService.runImage.setGroup)

theorem State.Evolves.startServices {f : Nat} {l : List (Nat × Nat × HostAns)} (h : s.Evolves u) :
    s.Evolves (u.startServices f l).1 := by
  induction l generalizing u with
  | nil => exact h
  | cons a l ih => exact .either_fst (ih h.startService) (ih h.startService)

theorem State.Evolves.bundleLoad {f : Nat} {hdr : HostAns} {fields images : List HostAns} {p : Bytes} (h : s.Evolves u)
    :
    s.Evolves (u.bundleLoad f hdr fields images p).st := by
  unfold State.bundleLoad
  dsimp only [Reply.ok, Reply.err]
  refine .either_st h ?_
  split
  · exact h
  · split
    · exact h
    · refine .either_st h (.either_st h ?_)
      split
      · split
        · exact h
        · exact .either_st h (.either h.withFwm.rset.measure.startServices.rset h.withFwm.rset.measure.startServices)
      · exact h

theorem State.Evolves.serviceUpdate {f : Nat} {ans : HostAns} {p : Bytes} (h : s.Evolves u) :
    s.Evolves (u.serviceUpdate f ans p).st := by
  unfold State.serviceUpdate
  dsimp only [Reply.ok, Reply.err]
  refine .either_st h (.either_st h (.either_st ?_ ?_))
  · split
    · exact h
    · exact .either_st h h.setService
  · split
    · exact h
    · exact .either_st h (.either_st h h.setService)

theorem State.Evolves.unstage {v : Nat} {st : Status} (h : s.Evolves u) : s.Evolves (u.unstage v st) :=
  h.setService.endHold.updateEnds

theorem State.Evolves.updateTimeout {v : Nat} (h : s.Evolves u) : s.Evolves (u.updateTimeout v) := by
  unfold State.updateTimeout
  split
  · exact h
  · exact .unstage (h.trans { now := Nat.le_max_left .. })

theorem State.Evolves.activate {v : Nat} {i : Image} {back : Bool} (h : s.Evolves u) :
    s.Evolves (u.activate v i back) :=
  h.setService.setGroup.runImage.storageRestart.endHold.postBoth.powerReturn

theorem State.Evolves.activation {v : Nat} (h : s.Evolves u) : s.Evolves (u.activation v) := by
  unfold State.activation
  dsimp only
  split
  · exact h
  · exact .either h h.activate.updateEnds

theorem State.Evolves.takeRecords {v : Nat} (h : s.Evolves u) : s.Evolves (u.takeRecords v) := by
  refine .fold h fun v f hv => ?_
  dsimp only
  exact .either (.withBrd (.dropRequests (hv.trans { queues := fun w => Map.wf_map w }))) hv

theorem State.Evolves.restartGroup {v cause core : Nat} (h : s.Evolves u) : s.Evolves (u.restartGroup v cause core) :=
  .either h (.storageRestart (.fold h.takeRecords.setService.setGroup fun _ _ hv => hv.rset))

theorem State.Evolves.serviceRestart {f : Nat} {p : Bytes} (h : s.Evolves u) : s.Evolves (u.serviceRestart f p).st := by
  unfold State.serviceRestart
  dsimp only [Reply.ok, Reply.err]
  exact .either_st h (.either_st h h.restartGroup)

theorem State.Evolves.abortRequest {r : CmdRecord} (h : s.Evolves u) : s.Evolves (u.abortRequest r) :=
  .either (.respond (.either h.abandonRules h)) h

theorem State.Evolves.downRequests {v : Nat} (h : s.Evolves u) : s.Evolves (u.downRequests v) :=
  .fold h fun _ _ hv => .either hv.respond hv

theorem State.Evolves.settleRecords {v : Nat} (h : s.Evolves u) : s.Evolves (u.settleRecords v) :=
  .fold h.withFwm fun _ _ hv => hv.abortRequest

theorem State.Evolves.failService {v : Nat} (h : s.Evolves u) : s.Evolves (u.failService v) :=
  h.setService.setGroup.postBoth.downRequests

theorem State.Evolves.restartDone {v : Nat} {digestOk : Bool} (h : s.Evolves u) :
    s.Evolves (u.restartDone v digestOk) := by
  unfold State.restartDone
  dsimp only
  refine .either h ?_
  refine .either ?_ (.either (.powerReturn (.telResume (.postBoth (.setGroup
    (.setService (.either (.retireTray (.fold h.setService.settleRecords fun _ _ hv => hv.rsat))
    (.fold h.setService.settleRecords fun _ _ hv => hv.rsat))))))) (.either
    (.failService (.fold h.setService.settleRecords fun _ _ hv => hv.rsat))
    (.powerReturn (.telResume (.postBoth (.setGroup (.setService (.fold h.setService.settleRecords fun _ _ hv =>
    hv.rsat))))))))
  split
  · exact .setService (.activate (.fold h.setService.settleRecords fun _ _ hv => hv.rsat))
  · exact .fold h.setService.settleRecords fun _ _ hv => hv.rsat

theorem State.Evolves.configSet {f : Nat} {p : Bytes} (h : s.Evolves u) : s.Evolves (u.configSet f p).st := by
  unfold State.configSet
  dsimp only [Reply.ok, Reply.err]
  split
  · exact h
  · exact .either_st h (.either_st h (.either_st h (.either h.rset h)))

theorem State.Evolves.configGet {f : Nat} {p : Bytes} (h : s.Evolves u) : s.Evolves (u.configGet f p).st := by
  unfold State.configGet
  dsimp only [Reply.ok, Reply.err]
  refine .either_st h (.either_st h ?_)
  split <;> exact h

theorem State.Evolves.journalAsync {f opc seq : Nat} {l : List (Nat × Nat × Bool × Bytes)} (h : s.Evolves u) :
    s.Evolves (u.journalAsync f opc seq l) :=
  .either h.asyncDone h.journalAll

theorem State.Evolves.performAsync {f opc : Nat}
    {body : Bytes → State → Except Status (Bytes × List (Nat × Nat × Bool × Bytes))} (h : s.Evolves u) :
    s.Evolves (u.performAsync f opc body) := by
  unfold State.performAsync
  dsimp only
  refine .either h ?_
  split
  · exact h.answer
  · exact h.answer.journalAsync

theorem State.Evolves.logSet {f : Nat} {p : Bytes} (h : s.Evolves u) : s.Evolves (u.logSet f p).st := by
  unfold State.logSet
  dsimp only [Reply.ok, Reply.err]
  exact .either_st h (.either_st h (.either_st h.withFwm h.withFwm.rset))

theorem State.Evolves.traceSet {f : Nat} {p : Bytes} (h : s.Evolves u) : s.Evolves (u.traceSet f p).st := by
  unfold State.traceSet
  dsimp only [Reply.ok, Reply.err]
  exact .either_st h (.either_st h (.fold h fun _ _ hv => hv.rset))

theorem State.Evolves.tracePass {p core : Nat} {args : List Nat} (h : s.Evolves u) :
    s.Evolves (u.tracePass p core args) :=
  .either h h.rsat.log

theorem State.Evolves.journalReply {w : JWrite} {st : Option Status} (h : s.Evolves u) :
    s.Evolves (u.journalReply w st) := by
  unfold State.journalReply
  dsimp only
  split
  · exact h
  · split
    · exact h.asyncDone
    · exact .either h.answer (.either h.spdmError h.emit)

theorem State.Evolves.journalFail {w : JWrite} {rest : List JWrite} {st : Status} (h : s.Evolves u) :
    s.Evolves (u.journalFail w rest st) :=
  h.withFwm.journalReply

theorem State.Evolves.journalWrite {good : Bool} (h : s.Evolves u) : s.Evolves (u.journalWrite good) := by
  unfold State.journalWrite
  dsimp only
  split
  · exact h
  · exact .either h (.either h.journalFail (.either (.either h.withFwm.withFwm h.withFwm.rset.postBoth.journalFail)
      (.either h.withFwm.withFwm h.withFwm.withFwm.journalReply)))

theorem State.Evolves.compact (h : s.Evolves u) : s.Evolves u.compact :=
  .either h h.withFwm

/-! ### Management and telemetry -/

theorem State.Evolves.histRead {f : Nat} {p : Bytes} (h : s.Evolves u) : s.Evolves (u.histRead f p).st := by
  unfold State.histRead
  dsimp only [Reply.ok, Reply.err]
  exact .either_st h (.either_st h (.either (.fold h fun _ _ hv => hv.rput) h))

theorem State.Evolves.endFlows (h : s.Evolves u) : s.Evolves u.endFlows :=
  .fold h.withTel fun _ _ hv => hv.exportFlow

theorem State.Evolves.flowSet {f : Nat} {p : Bytes} (h : s.Evolves u) : s.Evolves (u.flowSet f p).st := by
  unfold State.flowSet
  dsimp only [Reply.ok, Reply.err]
  exact .either_st h (.either_st h (.withTel (.either h.endFlows h)))

theorem State.Evolves.ipfixSet {f : Nat} {p : Bytes} (h : s.Evolves u) : s.Evolves (u.ipfixSet f p).st := by
  unfold State.ipfixSet
  dsimp only [Reply.ok, Reply.err]
  exact .either_st h (.either_st h (.either_st (h.trans {}) (.either h.withTel.sendTemplates h.withTel)))

theorem State.Evolves.flowFlush {f : Nat} (h : s.Evolves u) : s.Evolves (u.flowFlush f).st := by
  unfold State.flowFlush
  dsimp only [Reply.ok, Reply.err]
  exact .either_st h h.endFlows

theorem State.Evolves.ringSet {f : Nat} {p : Bytes} (h : s.Evolves u) : s.Evolves (u.ringSet f p).st := by
  unfold State.ringSet
  dsimp only [Reply.ok, Reply.err]
  exact .either_st h (.either_st h h.withTel)

theorem State.Evolves.flowIdle {x : Flow} (h : s.Evolves u) : s.Evolves (u.flowIdle x) :=
  h.withTel.exportFlow

theorem State.Evolves.execFlowIdleTimeout {i : Nat} (h : s.Evolves u) : s.Leads (execFlowIdleTimeout i u) := by
  unfold Machine.execFlowIdleTimeout
  refine .next ?_
  split
  · exact .flowIdle (h.trans { now := Nat.le_max_left .. })
  · exact h

theorem State.Evolves.flowActive {x : Flow} (h : s.Evolves u) : s.Evolves (u.flowActive x) :=
  .either (.flowIdle (h.trans { now := Nat.le_max_left .. })) (.withTel
    (.exportFlow (h.trans { now := Nat.le_max_left .. })))

theorem State.Evolves.execFlowActiveTimeout {i : Nat} (h : s.Evolves u) : s.Leads (execFlowActiveTimeout i u) := by
  unfold Machine.execFlowActiveTimeout
  refine .next ?_
  split
  · exact h.flowActive
  · exact h

theorem State.Evolves.control {dst cmd code : Nat} {data : Bytes} (h : s.Evolves u) :
    s.Evolves (u.control dst cmd code data) :=
  .either h.emit h

theorem State.Evolves.pldmReply {type cmd code : Nat} {data : Bytes} (h : s.Evolves u) :
    s.Evolves (u.pldmReply type cmd code data) :=
  .either h.emit h

theorem State.Evolves.sensorUpdate {temps : List Nat} {acks : Nat} (h : s.Evolves u) :
    s.Evolves (u.sensorUpdate temps acks) :=
  .either h (.either (.setAlert (h.trans { now := Nat.le_max_left .. }))
    (.pldm (.setAlert (h.trans { now := Nat.le_max_left .. }))))

theorem State.Evolves.setSpare {x : Copy} (h : s.Evolves u) : s.Evolves (u.setSpare x) :=
  .either h.withFwm h.withFwm

theorem State.Evolves.execPassComponentTable {cls id : Nat} (h : s.Evolves u) :
    s.Leads (execPassComponentTable cls id u) := by
  unfold Machine.execPassComponentTable
  refine .next ?_
  refine .either h ?_
  split
  · exact h.withTel.pldmReply
  · exact h.pldmReply
  · exact h.pldmReply

theorem State.Evolves.askData (h : s.Evolves u) : s.Evolves u.askData := by
  unfold State.askData
  split
  · exact h.emit
  · exact h

theorem State.Evolves.execUpdateComponent {cls id size : Nat} (h : s.Evolves u) :
    s.Leads (execUpdateComponent cls id size u) := by
  unfold Machine.execUpdateComponent
  dsimp only
  refine .next ?_
  refine .either h ?_
  split
  · exact .either h.withTel.setSpare.pldmReply.askData h.pldmReply
  · exact h.pldmReply
  · exact h.pldmReply

theorem State.Evolves.imageArrived {b : Bytes} (h : s.Evolves u) : s.Evolves (u.imageArrived b) :=
  .either h.emit.withTel.emit h.emit.setSpare.withTel.emit.emit

theorem State.Evolves.fwPiece {d : Bytes} (h : s.Evolves u) : s.Evolves (u.fwPiece d) := by
  unfold State.fwPiece
  dsimp only
  split
  · exact .either h.askData (.either h.withTel.askData h.withTel.imageArrived)
  · exact h

theorem State.Evolves.execActivateFirmware {selfContained : Bool} (h : s.Evolves u) :
    s.Leads (execActivateFirmware selfContained u) := by
  unfold Machine.execActivateFirmware
  refine .next ?_
  refine .either h ?_
  split
  · exact .either h.pldmReply h.withTel.pldmReply
  · exact h.pldmReply
  · exact h.pldmReply
  · exact h.pldmReply
  · exact h.pldmReply

theorem State.Evolves.execCancelUpdateComponent (h : s.Evolves u) : s.Leads (execCancelUpdateComponent u) := by
  unfold Machine.execCancelUpdateComponent
  refine .next ?_
  refine .either h ?_
  split
  · exact h.withTel.pldmReply
  · exact h.withTel.pldmReply
  · exact h.pldmReply
  · exact h.pldmReply

/-! ### Dispatch -/

end
end Sys2Proof.Machine
end

section
/-! PROOFS. What every step keeps: every command, and the step that takes it off the queue (R30). -/

namespace Sys2Proof.Machine
open Sys2Proof

-- One lemma after another: so many short ones, each in a thread of its own, outgrow the memory of a check.
set_option Elab.async false

section
variable {s u : State}

theorem State.Evolves.exec (c : Instr) (h : s.Evolves u) : s.Leads (exec c u) := by
  cases c with
  | powerOn => exact .next h.powerOn
  | resetNAssert => exact .next h.resetAssert
  | resetNRelease => exact .next h.resetRelease
  | mainPgRise => exact .next h.mainRise
  | mainPgTimeout => exact .next h.mainTimeout
  | mainPowerLoss => exact .next h.mainLoss
  | thermalTrip => exact .next h.trip
  | linkTrainingStart => exact .next (.either h.trainStart h)
  | downstreamPerstRelease => exact .next (.either h.downPerst h)
  | hbmFillComplete => exact .next h.fillComplete
  | upstreamPerstAssert => exact .next (.either h.perstFall h)
  | upstreamPerstRelease => exact .next (.either h.perstRise h)
  | configRequest => exact .next (.either h.configRequest h)
  | d2dReplay => exact .next h.d2dReplay
  | meshLaneError => exact .next h.meshError
  | registerWrite => exact .next (.either h.bar0Write h)
  | timeSnapTrigger => exact .next h.snapshot
  | periodicSnapshot => exact .next (.either h.snapshot h)
  | snapshotComplete => exact .next (.either h.snapNext.rset h)
  | completionTimeout => exact .next (.either h.completionTimeout h)
  | pcieCompletionReceived => exact .next (.either h.completion h)
  | atsInvalidate => exact .next (.either h.atsInvalidate h)
  | pageResponse => exact .next h.pageResponse
  | priTimeout => exact .next h.pageTimeout
  | bar4Request => exact .next (.either h (.either h.wakeLink.ingressAnswer h.wakeLink.bar4Request))
  | switchRoutedRequest => exact .next (.either h (.either h.wakeLink.ingressAnswer h.wakeLink.switchRoute))
  | barMemoryRequest => exact .next (.either h (.either h.wakeLink.ingressAnswer h.wakeLink.barRequest))
  | windowCommit => exact .next (.either h.windowCommit h)
  | bar4Resize => exact .next (.either h.bar4Resize h)
  | poisonedTlpReceived => exact .next (.either h (.either h.wakeLink.ingressAnswer
      (.either h.wakeLink.bar4Request (.either h.wakeLink.barRequest h))))
  | dpcTrigger => exact .next (.either h.dpcTrigger h)
  | downstreamLinkDown => exact .next (.either h.downLost h)
  | downstreamLinkUp => exact .next (.either h.downUp h)
  | dpcStatusClear => exact .next (.either h.dpcClear h)
  | secondaryBusResetSet => exact .next (.either h.sbrSet h)
  | secondaryBusResetClear => exact .next (.either h.sbrClear h)
  | sbrPerstRelease => exact .next (.either h.sbrRelease h)
  | l1Entry => exact .next (.either h.l1Enter h)
  | l0pNarrow => exact .next (.either h.l0pNarrow h)
  | l0pWiden => exact .next (.either h.setWidth h)
  | busMasterDisable => exact .next (.either h.bmeClear h)
  | busMasterEnable => exact .next (.either h.bmeSet h)
  | downstreamBmeChange => exact .next (.either h.modPort h)
  | flrInitiate => exact .next (.either h.flrStart h)
  | flrComplete => exact .next (.either h.flrEnd h)
  | tagQuarantineRelease => exact .next (.either h.tagRelease h)
  | d3hotEntry => exact .next (.either h.d3Enter h)
  | d0Entry => exact .next (.either h.d0Enter h)
  | msixUnmask => exact .next (.either h.unmask h)
  | doorbell => exact .next (.either h.doorbellAny h)
  | descriptorFetched => exact .next h.descriptorFetched
  | operationComplete => exact .next h.operationComplete.hbmReport
  | mailboxPost => exact .next h.mailboxPost
  | hello => exact .next (h.perform fun _ _ hv => hv.helloAll)
  | goodbye => exact .next (h.perform fun _ _ hv => hv.enterFreewheel)
  | stateSummary => exact .next (h.perform fun _ _ hv => hv.stateSummary)
  | spokeCreate => exact .next (h.perform fun _ _ hv => hv.spokeCreate)
  | spokeDestroy => exact .next (h.perform fun _ _ hv => hv.spokeDestroy)
  | spokeModify => exact .next (h.perform fun _ _ hv => hv.spokeModify)
  | queueCreate => exact .next (h.perform fun _ _ hv => hv.queueCreate)
  | queueDestroy => exact .next (h.perform fun _ _ hv => hv.queueDestroy)
  | queueStart => exact .next (h.perform fun _ _ hv => hv.queueStartAll)
  | queueStop => exact .next (h.perform fun _ _ hv => hv.queueStop)
  | beat => exact .next h.beat
  | heartbeatTimeout => exact .either (.next (.enterFreewheel (h.trans { now := Nat.le_max_left .. }))) (.next h)
  | hbmRegionSet => exact .next (h.perform fun _ _ hv => hv.regionSet)
  | regionZeroingComplete => exact .next h.zeroingDone
  | memEccTest => exact .next (h.perform fun _ _ hv => hv.eccTest)
  | ptInvalidate => exact .next (h.perform fun _ _ hv => hv.ptInvalidate)
  | memRepairList => exact .next (h.perform fun _ _ hv => hv.repairList)
  | readRaw => exact .next h.rawCommand
  | writeRaw => exact .next h.rawCommand
  | readDecoded => exact .next h.rawCommand
  | scrubRead => exact .next h.scrubRead
  | hbmSelfRefreshEntry => exact .next (.either h.withMem h)
  | copy => exact .next h.copy.hbmReport
  | fill => exact .next h.fill
  | frameReceived => exact .next h.frameReceived
  | slowPathInject => exact .next h.enter
  | classifyCacheFill => exact .next h.cacheFill
  | ipsecDecryptComplete => exact .next h.decryptComplete
  | portCommit => exact .next h.portCommit
  | subportLinkDown => exact .next h.linkDown
  | subportLinkUp => exact .next h.linkRise
  | pauseExpire => exact .next h.pauseExpire
  | pfcRefresh => exact .next h.pfcRefresh
  | send => exact .next h.send
  | post => exact .next h.post
  | schedulerSelect => exact .next h.schedulerSelect
  | ruleBegin => exact .next (h.perform fun _ _ hv => hv.ruleBegin)
  | ruleShift => exact .next (h.perform fun _ _ hv => hv.ruleShift)
  | ruleAbandon => exact .next (h.perform fun _ _ hv => .either_st hv.abandonRules hv)
  | emAdd => exact .next (h.perform fun _ _ hv => hv.emAdd)
  | emDelete => exact .next (h.perform fun _ _ hv => hv.emDelete)
  | aclAdd => exact .next (h.perform fun _ _ hv => hv.aclAdd)
  | aclDelete => exact .next (h.perform fun _ _ hv => hv.aclDelete)
  | actionSet => exact .next (h.perform fun _ _ hv => hv.actionSet)
  | defaultSet => exact .next (h.perform fun _ _ hv => hv.defaultSet)
  | classMapSet => exact .next (h.perform fun _ _ hv => hv.classMapSet)
  | profileSet => exact .next (h.perform fun _ _ hv => hv.profileSet)
  | macsecSaSet => exact .next (h.perform fun _ _ hv => hv.macsecSet)
  | ipsecSaSet => exact .next (h.perform fun _ _ hv => hv.ipsecSet)
  | versionRetire => exact .next h.versionRetire
  | schServiceSet => exact .next (h.perform fun _ _ hv => hv.serviceSet)
  | meterSet => exact .next (h.perform fun _ _ hv => hv.meterSet)
  | meterRead => exact .next (h.perform fun _ _ hv => hv.meterRead)
  | arm => exact .next (.either h.armGate h)
  | disarm => exact .next (.either h.disarmGate h)
  | gateDisable => exact .next (.either h.disableGate h)
  | gateTakeover => exact .next h.gateTakeover
  | clockStep => exact .next h.clockStep
  | connCreate => exact .next (h.perform fun _ _ hv => hv.connCreate)
  | connConnect => exact .next (h.perform fun _ _ hv => hv.connConnect)
  | connDestroy => exact .next (h.perform fun _ _ hv => hv.connDestroy)
  | connQuery => exact .next (h.perform fun _ _ hv => hv.connQuery)
  | regionRegister => exact .next (h.perform fun _ _ hv => hv.regionRegister)
  | regionRevoke => exact .next (h.perform fun _ _ hv => hv.regionRevoke)
  | revokeComplete => exact .next h.revokeComplete
  | write => exact .next h.work
  | writeTag => exact .next h.work
  | read => exact .next h.work
  | sendMessage => exact .next h.work
  | sendImm => exact .next h.work
  | writeImm => exact .next h.work
  | recv => exact .next h.work
  | writePacket => exact .next h.rxReliable
  | writeTagPacket => exact .next h.rxReliable
  | readRequest => exact .next h.rxReliable
  | readResponse => exact .next h.rxReliable
  | ack => exact h.execAck
  | nak => exact .next h.rxReliable
  | nakRetry => exact h.execNakRetry
  | ackTimer => exact h.execAckTimer
  | retransmitTimeout => exact .next h.rtoExpire
  | pathSuspectExpire => exact .next h.suspectExpire
  | retryLaterResend => exact .next h.retryResend
  | retryLaterExpire => exact .next h.retryExpire
  | rocePacketReceived => exact .next h.roceReceived
  | roceAckTimeout => exact .next h.roceTimeout
  | rnrTimer => exact .next h.rnrTimer
  | roceRateRecovery => exact .next h.rateRecovery
  | counterAlloc => exact .next (h.perform fun _ _ hv => hv.counterAlloc)
  | counterFree => exact .next (h.perform fun _ _ hv => hv.counterFree)
  | counterSet => exact .next (h.perform fun _ _ hv => hv.counterSet)
  | counterAdd => exact .next (h.perform fun _ _ hv => hv.counterAddCmd)
  | counterRead => exact .next (h.perform fun _ _ hv => hv.counterRead)
  | counterUpdate => exact .next h.counterUpdate
  | mirrorWriteFailed => exact .next h.mirrorFailed
  | triggerBind => exact .next (h.perform fun _ _ hv => hv.triggerBind)
  | triggerUnbind => exact .next (h.perform fun _ _ hv => hv.triggerUnbind)
  | triggerReset => exact .next (h.perform fun _ _ hv => hv.triggerReset)
  | run => exact .next h.run
  | jobBind => exact .next h.jobBind
  | schedulerDecision => exact .next h.schedulerDecision
  | contextSaveComplete => exact .next h.contextSaved.failTooBig
  | contextRestoreComplete => exact .next h.contextRestored
  | jobComplete => exact .next h.jobComplete
  | runLimitExpire => exact .next h.runLimit
  | deadlockTimeout => exact .next h.deadlock
  | tileRetire => exact .next (h.perform fun _ _ hv => hv.tileRetire)
  | tileGate => exact .next h.tileGate
  | bundleIssue => exact .next h.bundleIssue
  | controllerEnable => exact .next h.ctrlEnable
  | controllerReady => exact .next h.ctrlReady
  | controllerReset => exact .next h.ctrlReset
  | shutdown => exact .next h.ctrlShutdown
  | nvmeSqDoorbell => exact .next h.nvSqDoorbell
  | nvmeCqDoorbell => exact .next h.nvCqDoorbell
  | deleteIoSubmissionQueue => exact .next (h.nvRun fun _ _ _ hv => hv.nvDeleteSq)
  | createIoSubmissionQueue => exact .next (h.nvRun fun _ _ _ hv => hv.nvCreateSq)
  | getLogPage => exact .next (h.nvRun fun _ _ _ hv => hv.nvGetLog)
  | deleteIoCompletionQueue => exact .next (h.nvRun fun _ _ _ hv => hv.nvDeleteCq)
  | createIoCompletionQueue => exact .next (h.nvRun fun _ _ _ hv => hv.nvCreateCq)
  | identify => exact .next (h.nvRun fun _ _ _ hv => hv.nvIdentify)
  | abort => exact .next (h.nvRun fun _ _ _ hv => hv.nvAbort)
  | setFeatures => exact .next (h.nvRun fun _ _ _ hv => hv.nvSetFeature)
  | getFeatures => exact .next (h.nvRun fun _ _ _ hv => hv.nvGetFeature)
  | asynchronousEventRequest => exact .next (h.nvRun fun _ _ _ hv => hv.nvAer)
  | flush => exact .next (h.nvRun fun _ _ _ hv => hv.nvFlushCmd)
  | nvmeWrite => exact .next (h.nvRun fun _ _ _ hv => hv.nvmeWrite)
  | nvmeRead => exact .next (h.nvRun fun _ _ _ hv => hv.nvmeRead)
  | writeZeroes => exact .next (h.nvRun fun _ _ _ hv => hv.writeZeroes)
  | datasetManagement => exact .next (h.nvRun fun _ _ _ hv => hv.dataset)
  | backingCompletion => exact .next h.backingCompletion
  | backingPathLoss => exact .next h.pathLoss
  | backingReconnect => exact .next h.reconnect
  | lossTmoExpire => exact .next h.lossExpire
  | mirrorPathTimeout => exact .next h.mirrorTimeout
  | intentBitClear => exact .next h.clearIntent
  | resyncComplete => exact .next h.resyncComplete
  | stoBackingAdd => exact .next (h.perform fun _ _ hv => hv.backingAdd)
  | stoBackingRemove => exact .next (h.perform fun _ _ hv => hv.backingRemove)
  | stoNsCreate => exact .next (h.perform fun _ _ hv => hv.nsCreate)
  | stoNsDelete => exact .next (h.perform fun _ _ hv => hv.nsDelete)
  | stoNsAttach => exact .next (h.perform fun _ _ hv => hv.nsAttach)
  | stoCtrlCreate => exact .next (h.perform fun _ _ hv => hv.ctrlCreate)
  | stoCtrlDestroy => exact .next (h.perform fun _ _ hv => hv.ctrlDestroy)
  | stoMirrorReattach => exact .next (h.perform fun _ _ hv => hv.mirrorReattach)
  | ckpSessionOpen => exact .next (h.perform fun _ _ hv => hv.sessionOpen)
  | ckpSessionClose => exact .next (h.perform fun _ _ hv => hv.sessionClose)
  | ckpDrainSet => exact .next (h.perform fun _ _ hv => hv.drainSet)
  | ckpQuery => exact .next (h.perform fun _ _ hv => hv.ckpQuery)
  | capture => exact .next h.capture
  | capturePageRead => exact .next h.captureRead
  | protectedWrite => exact .next h.protectedWrite
  | captureTimeout => exact .next h.captureTimeout
  | drainExtentWritten => exact .next h.drainWritten
  | manifestWriteComplete => exact .next h.manifestWritten
  | restore => exact .next h.restoreStart
  | restorePageRead => exact .next h.restorePage
  | keyGenerate => exact .next (h.perform fun _ _ hv => hv.keyGenerate)
  | keyImport => exact .next (h.perform fun _ _ hv => hv.keyImport)
  | keyDestroy => exact .next (h.perform fun _ _ hv => hv.keyDestroy)
  | keyQuery => exact .next (h.perform fun _ _ hv => hv.keyQuery)
  | keyWrap => exact .next (h.perform fun _ _ hv => hv.keyWrap)
  | mcodeKeyEnroll => exact .next (h.perform fun _ _ hv => hv.mcodeEnroll)
  | svnCommit => exact .next (h.perform fun _ _ hv => hv.svnCommit)
  | fuseProgram => exact .next (h.perform fun _ _ hv => hv.fuseProgram)
  | cipherInit => exact .next (h.perform fun _ _ hv => hv.cipherInit)
  | cipherUpdate => exact .next (h.perform fun _ _ hv => hv.cipherUpdate)
  | cipherFinal => exact .next (h.perform fun _ _ hv => hv.cipherFinal)
  | ctxExport => exact .next (h.perform fun _ _ hv => hv.ctxExport)
  | ctxImport => exact .next (h.perform fun _ _ hv => hv.ctxImport)
  | debugChallenge => exact h.execDebugChallenge
  | debugUnlock => exact .next (h.perform fun _ _ hv => .either_st hv hv.debugUnlock)
  | debugLock => exact .next (h.perform fun _ _ hv => .either_st hv (.either_st hv hv.setLevel))
  | dbgAuthRead => exact h.execDbgAuthRead
  | dbgAuthWrite => exact h.execDbgAuthWrite
  | cipherCheckFault => exact .next h.cipherFault
  | keyReinstallComplete => exact .next h.reinstalled
  | keyRamUncorrectable => exact .next h.keyRamBad
  | getVersion => exact .next (h.spdm fun _ hv => hv.withSec.spdmStep)
  | getCapabilities => exact .next (h.spdm fun _ hv => hv.spdmStep)
  | negotiateAlgorithms => exact .next (h.spdm fun _ hv => hv.spdmStep)
  | getDigests => exact .next (h.spdm fun _ hv => hv.spdmReply)
  | getCertificate => exact .next (h.spdm fun _ hv => .either hv.spdmError hv.spdmReply)
  | challenge => exact h.execChallenge
  | getMeasurements => exact h.execGetMeasurements
  | keyExchange => exact h.execKeyExchange
  | finish => exact h.execFinish
  | heartbeat => exact .next (h.spdm fun _ hv => hv.inSession (fun _ hv1 => hv1.emit))
  | keyUpdate => exact .next (h.spdm fun _ hv => hv.inSession (fun _ hv1 => hv1.modSpdm.emit))
  | endSession => exact .next (h.spdm fun _ hv => hv.inSession (fun _ hv1 => hv1.withSec.emit))
  | keyInstallWrap => exact .next (h.spdm fun _ hv => hv.inSession (fun _ hv1 => hv1.installWrap))
  | fwBundleLoad => exact .next (h.perform fun _ _ hv => hv.bundleLoad)
  | fwStatus => exact .next (h.perform fun _ _ hv => hv)
  | fwServiceUpdate => exact .next (h.perform fun _ _ hv => hv.serviceUpdate)
  | fwServiceCancel => exact .next (h.perform fun _ _ hv => .either_st hv hv.unstage)
  | fwServiceRestart => exact .next (h.perform fun _ _ hv => hv.serviceRestart)
  | fwConfigSet => exact .next (h.perform fun _ _ hv => hv.configSet)
  | fwConfigGet => exact .next (h.perform fun _ _ hv => hv.configGet)
  | fwPersist => exact .next h.performAsync
  | fwLogSet => exact .next (h.perform fun _ _ hv => hv.logSet)
  | fwTraceSet => exact .next (h.perform fun _ _ hv => hv.traceSet)
  | fwJournalClear => exact .next h.performAsync
  | serviceActivation => exact .next h.activation
  | updateWaitTimeout => exact .next h.updateTimeout
  | watchdogExpire => exact .next (.either h.restartGroup h)
  | coreFault => exact .next (.either h.restartGroup h)
  | groupRestartComplete => exact .next h.restartDone
  | journalWrite => exact .next h.journalWrite
  | compaction => exact .next h.compact
  | tracePointPass => exact .next h.tracePass
  | limiterTick => exact .next h.limiterTick
  | kRampDown => exact .next h.rampDown
  | offsetUpdate => exact .next h.offsetUpdate
  | divergenceWindow => exact .next h.divergence
  | droopTrip => exact .next h.droopTrip
  | droopHoldExpire => exact .next h.droopExpire
  | thermalSample => exact .next h.thermalSample
  | pwrLimitSet => exact .next (h.perform fun _ _ hv => hv.limitSet)
  | pelotonJoin => exact .next (h.perform fun _ _ hv => hv.pelotonJoin)
  | pelotonLeave => exact .next (h.perform fun _ _ hv => hv.pelotonLeave)
  | crSet => exact .next (h.perform fun _ _ hv => hv.crSet)
  | cadence => exact .next h.cadence
  | roundFinish => exact .next h.roundFinish
  | countFrame => exact .next (h.crFrame fun _ hv => hv.crNumber)
  | budgetFrame => exact .next (h.crFrame fun _ hv => hv.crApply)
  | ackFrame => exact .next (h.crFrame fun _ hv => hv.crAcked)
  | faultFrame => exact .next (h.crFrame fun _ hv => hv)
  | faultRetransmit => exact .next h.faultAgain
  | budgetTimeout => exact .next h.budgetTimeout
  | joinBypassSettled => exact .next h.joinSettled
  | joinedRepeat => exact .next h.joinedRepeat
  | leaveBypassClose => exact .next h.leaveClose
  | deviceSoftReset => exact .next h.softReset
  | softResetComplete => exact .next h.softDone
  | standbyEnter => exact .next (h.perform fun _ _ hv => .either_st hv hv.standbyAsk)
  | mctpStandbyEnter => exact .next (.either h (.either h.vendorReply h.standbyAsk.vendorReply))
  | standbyExit => exact .next (.either h.standbyExit h)
  | getStatus => exact .next (.either h h.vendorReply)
  | tstRun => exact .next (h.perform fun _ _ hv => hv.testRun)
  | tstResults => exact .next (h.perform fun _ _ hv => hv.testResults)
  | trayRetireClear => exact .next (h.perform fun _ _ hv => hv.retireClear)
  | telHistRead => exact .next (h.perform fun _ _ hv => hv.histRead)
  | telFlowSet => exact .next (h.perform fun _ _ hv => hv.flowSet)
  | telIpfixSet => exact .next (h.perform fun _ _ hv => hv.ipfixSet)
  | telFlowFlush => exact .next (h.perform fun _ _ hv => hv.flowFlush)
  | telRingSet => exact .next (h.perform fun _ _ hv => hv.ringSet)
  | flowIdleTimeout => exact h.execFlowIdleTimeout
  | flowActiveTimeout => exact h.execFlowActiveTimeout
  | templateRefresh => exact .next (.either (.sendTemplates (h.trans { now := Nat.le_max_left .. })) h)
  | setEndpointId => exact .next (.either h.control (.either h.withTel.emit h))
  | getEndpointId => exact .next h.control
  | getEndpointUuid => exact .next h.control
  | getMctpVersionSupport => exact .next (.either h.control (.either h.control h.control))
  | getMessageTypeSupport => exact .next h.control
  | getVendorDefinedMessageSupport => exact .next (.either h.control h.control)
  | getTid => exact .next h.pldmReply
  | setTid => exact .next (.either h (.either h.pldmReply h.withTel.pldmReply))
  | getPldmVersion => exact .next (.either h.pldmReply h.pldmReply)
  | getPldmTypes => exact .next h.pldmReply
  | getPldmCommands => exact .next (.either h.pldmReply h.pldmReply)
  | setEventReceiver => exact .next (.either h
      (.either (.fold h.withTel.pldmReply fun _ _ hv => hv.emit) h.withTel.pldmReply))
  | getSensorReading => exact .next (.either h.pldmReply (.either h.pldmReply h.pldmReply))
  | getStateSensorReadings => exact .next (.either h.pldmReply h.pldmReply)
  | getPdrRepositoryInfo => exact .next h.pldmReply
  | getPdr => exact .next (.either h.pldmReply h.pldmReply)
  | sensorUpdate => exact .next h.sensorUpdate
  | queryDeviceIdentifiers => exact .next h.pldmReply
  | getFirmwareParameters => exact .next h.pldmReply
  | requestUpdate => exact .next (.either h (.either h.pldmReply (.either h.pldmReply h.withTel.pldmReply)))
  | passComponentTable => exact h.execPassComponentTable
  | updateComponent => exact h.execUpdateComponent
  | requestFirmwareData => exact .next (.either h.fwPiece h)
  | activateFirmware => exact h.execActivateFirmware
  | pldmGetStatus => exact .next h.pldmReply
  | cancelUpdateComponent => exact h.execCancelUpdateComponent
  | cancelUpdate => exact .next (.either h (.either h.pldmReply h.withTel.pldmReply))
  | vddAonRemoved => exact .next h.aonRemoved
  | standbyEntered => exact .next (.either h.stopPaths.enterStandby.sensorMoves h)
  | windowRequestPerformed => exact .next h.windowDone
  | connDestroyComplete => exact .next h.connGone
  | cwndRise => exact .next h.cwndRise
  | bucketRefill => exact .next (.either h.bucketRefill h)
  | gateEntryChange => exact .next h.gateEntryChange
  | cadenceChanged => exact h.execCadenceChanged
  | testComplete => exact .next h.testComplete
end

/-- Beside the command that it takes off the queue, a step keeps what every command keeps. -/
theorem State.Evolves.of_step {s t : State} (hstep : step s = .next t) :
    State.Evolves { s with pending := s.pending.drop 1 } t := by
  unfold step at hstep
  cases hp : s.pending with
  | nil =>
    rw [hp] at hstep
    cases hstep
    exact { now := Nat.le_succ _ }
  | cons c rest =>
    rw [hp] at hstep
    exact State.Evolves.exec c (.refl _) t hstep

/-- Settles O60: the rest of the queue, the time and what was sent are among what every step keeps. -/
theorem timeAndWhatWasSentNeverGoBack : Obligations.TimeAndWhatWasSentNeverGoBack := by
  unfold Obligations.TimeAndWhatWasSentNeverGoBack
  intro s t hstep
  have h := State.Evolves.of_step hstep
  exact ⟨h.pending, h.now, h.out⟩
end Sys2Proof.Machine
end

section
/-! PROOFS. Containment and secondary bus reset (R90, R121, R581, R600, R615): what terminating the requests of a port
leaves, and what each command does to its port. -/

namespace Sys2Proof.Machine
open Sys2Proof

/-! ### Terminating the requests of a port -/

/-- What the end of a request leaves: the ports, the registers, and what was sent. -/
structure State.KeepsPorts (s t : State) : Prop where
  ports : t.host.ports = s.host.ports := by rfl
  regs : t.regs = s.regs := by rfl
  out : s.out <+: t.out := by exact List.prefix_rfl

theorem State.KeepsPorts.port {s t : State} (h : s.KeepsPorts t) (q : Nat) : t.port q = s.port q := by
  rw [State.port, State.port, h.ports]

theorem State.KeepsPorts.rfield {s t : State} (h : s.KeepsPorts t) (off hi lo : Nat) :
    t.rfield off hi lo = s.rfield off hi lo := by
  rw [State.rfield, State.rfield, State.rget, State.rget, h.regs]

theorem State.readFailed_frame (s : State) (o va : Nat) (st : Status) :
    s.readFailed o va st = { s with host.ops := (s.readFailed o va st).host.ops } := by
  unfold State.readFailed
  split
  · rfl
  · split <;> rfl

/-- The tag of a terminated request is quarantined (R581). -/
theorem State.terminate_reqs (s : State) (k : Nat) (r : Req) :
    (s.terminate k r).host.reqs = Map.put s.host.reqs k { r with quarantined := true } := by
  unfold State.terminate
  dsimp only
  split
  · rw [State.readFailed_frame]
  · rfl
  · rfl

theorem State.terminate_keepsPorts (s : State) (k : Nat) (r : Req) : s.KeepsPorts (s.terminate k r) := by
  unfold State.terminate
  dsimp only
  split
  · rw [State.readFailed_frame]
    exact {}
  · exact { out := List.prefix_append .. }
  · exact {}

theorem State.terminatePort_keepsPorts (s : State) (q : Nat) : s.KeepsPorts (s.terminatePort q) :=
  List.foldlRecOn _ _ (motive := s.KeepsPorts) {} fun u hu p _ =>
    have hp := u.terminate_keepsPorts p.1 p.2
    ⟨hp.ports.trans hu.ports, hp.regs.trans hu.regs, hu.out.trans hp.out⟩

/-- Every request outstanding through a port is one of a list. -/
def State.OpenIn (s : State) (q : Nat) (l : List (Nat × Req)) : Prop :=
  ∀ k r, Map.get s.host.reqs k = some r → r.port = q → r.quarantined = false → (k, r) ∈ l

theorem State.OpenIn.terminate {s : State} {q : Nat} {p : Nat × Req} {l : List (Nat × Req)}
    (h : s.OpenIn q (p :: l)) : (s.terminate p.1 p.2).OpenIn q l := by
  intro k r hr hq hopen
  rw [State.terminate_reqs, Map.get_put] at hr
  split at hr
  · cases hr
    cases hopen
  · next hne =>
    refine (List.mem_cons.1 (h k r hr hq hopen)).resolve_left ?_
    rintro rfl
    exact hne rfl

theorem State.OpenIn.foldl_terminate {q : Nat} {l : List (Nat × Req)} {s : State} (h : s.OpenIn q l) :
    (l.foldl (fun s p => s.terminate p.1 p.2) s).OpenIn q [] := by
  induction l generalizing s with
  | nil => exact h
  | cons p l ih => exact ih h.terminate

/-- No request stays outstanding through a port whose requests are terminated (R121, R581). -/
theorem State.terminatePort_quarantined {s : State} {q k : Nat} {r : Req}
    (hr : Map.get (s.terminatePort q).host.reqs k = some r) (hq : r.port = q) : r.quarantined = true := by
  have hall : s.OpenIn q (s.host.reqs.filter fun (_, r) => r.port == q && !r.quarantined) := fun k r hr hq hopen =>
    List.mem_filter.2 ⟨Map.mem_of_get hr, by simp [hq, hopen]⟩
  refine Bool.of_not_eq_false fun hopen => ?_
  cases hall.foldl_terminate k r hr hq hopen

/-! ### Containment -/

theorem State.contain_port (s : State) (q r : Nat) :
    (s.contain q).port r = if q = r then { s.port q with contained := true, link := .down } else s.port r := by
  rw [State.contain, (State.terminatePort_keepsPorts _ q).port, State.modPort, State.port_setPort]

theorem State.contain_rfield (s : State) (q off hi lo : Nat) : (s.contain q).rfield off hi lo = s.rfield off hi lo :=
  (State.terminatePort_keepsPorts _ q).rfield off hi lo

/-- A count of a port that saturates (R600). -/
theorem State.portCount_rfield (s : State) (q k : Nat) :
    (s.portCount q k).rfield (aPortCnt q k) 63 0 = min (s.rfield (aPortCnt q k) 63 0 + 1) (2 ^ 64 - 1) := by
  rw [State.rfield, State.portCount, State.rsat, State.rset, State.rget_rput_self, bits_setBits_self _ _ (by decide)]
  exact Nat.mod_eq_of_lt (Nat.lt_of_le_of_lt (Nat.min_le_right ..) (by decide))

/-! ### The commands -/

/-- A command that acts where its condition holds. -/
theorem next_if {c : Prop} {_ : Decidable c} {t u : State} (h : c) :
    (.next (if c then t else u) : Outcome) = .next t := by
  rw [if_pos h]

/-- A switch port whose DPC is armed is contained by its trigger, which is counted (R121, R600). -/
theorem State.dpcTrigger_contains {s : State} {q : Nat} (hrole : s.portRole q ≠ 2) (hen : (s.port q).dpcEn = true)
    (hclear : (s.port q).dpcTriggered = false) :
    s.dpcTrigger q = ((s.setPort q { s.port q with dpcTriggered := true }).portCount q 3).contain q := by
  simp [State.dpcTrigger, hrole, hen, hclear]

/-- A link lost without a reset contains its port, after a count or a message on the host's side. -/
theorem State.downLost_contains {s : State} {q : Nat} (hlink : (s.port q).link ≠ .down)
    (hactive : (s.port q).sbrActive = false) :
    s.downLost q = (if s.portRole q = 2 then s.portCount q 6 else s.emit (.aer (8 + q) .surpriseDown)).contain q := by
  simp [State.downLost, hlink, hactive]

theorem State.downLost_sbrActive {s : State} {q : Nat} (hactive : (s.port q).sbrActive = true)
    (hlink : (s.port q).link ≠ .down) : s.downLost q = s.setPort q { s.port q with link := .down } := by
  simp [State.downLost, hlink, hactive]

theorem State.downUp_trained {s : State} {q : Nat} (hperst : (s.port q).perst = true)
    (hblocked : (s.port q).blocked = false) (hlink : (s.port q).link ≠ .l0) (hpll : s.brd.pll.contains 1 = false) :
    s.downUp q = (s.setPort q { s.port q with
      link := .l0, width := (s.port q).fullWidth, contained := (s.port q).contained && (s.port q).dpcTriggered
      sbrActive := (s.port q).sbr }).portCount q 4 := by
  unfold State.downUp
  extract_lets p
  refine if_neg ?_
  simpa [p, hperst, hblocked, hlink] using hpll

theorem State.sbrSet_resets {s : State} {q : Nat} (hsoft : s.brd.soft = none) (hsbr : (s.port q).sbr = false) :
    s.sbrSet q = ((s.setPort q { s.port q with
      sbr := true, sbrActive := true, perst := false, perstTime := s.now, link := .down }).emit
        (.perst q false)).terminatePort q := by
  simp [State.sbrSet, hsoft, hsbr]

theorem State.sbrRelease_raises {s : State} {q : Nat} (hactive : (s.port q).sbrActive = true)
    (hsbr : (s.port q).sbr = false) (hperst : (s.port q).perst = false) :
    let now := max s.now ((s.port q).perstTime + 100_000)
    s.sbrRelease q = (State.setPort { s with now := now } q
      { s.port q with perst := true, perstTime := now, link := .training }).emit (.perst q true) := by
  simp [State.sbrRelease, hactive, hsbr, hperst]

/-- Settles O11: each command's state is written out, and terminating the port's requests (`terminatePort`) keeps the
ports and the counters and leaves none outstanding. -/
theorem containmentAndResetTerminateRequests : Obligations.ContainmentAndResetTerminateRequests := by
  unfold Obligations.ContainmentAndResetTerminateRequests
  refine ⟨?_, ?_, ?_, ?_, ?_, ?_, ?_, ?_, ?_, ?_⟩
  · intro s q hdown hrole
    refine (next_if hdown).trans (congrArg _ ?_)
    rw [State.dpcTrigger, if_pos hrole]
    rfl
  · intro s q hdown hrole hen hclear
    refine ⟨_, next_if hdown, ?_⟩
    rw [State.dpcTrigger_contains hrole hen hclear]
    refine ⟨?_, fun r hr => ?_, fun k r hk => State.terminatePort_quarantined hk, ?_⟩
    · rw [State.contain_port, if_pos rfl]
      show { State.port (State.setPort ..) q with contained := true, link := Link.down } = _
      rw [State.port_setPort_self]
    · rw [State.contain_port, if_neg hr.symm]
      exact (State.port_setPort ..).trans (if_neg hr.symm)
    · rw [State.contain_rfield, State.portCount_rfield]
      rfl
  · intro s q hdown hlink hactive
    refine ⟨_, next_if hdown, ?_⟩
    rw [State.downLost_contains hlink hactive]
    have hports : ∀ r, (if s.portRole q = 2 then s.portCount q 6 else s.emit (.aer (8 + q) .surpriseDown)).port r =
        s.port r := fun r => by split <;> rfl
    refine ⟨?_, fun r hr => ?_, fun k r hk => State.terminatePort_quarantined hk⟩
    · rw [State.contain_port, if_pos rfl, hports]
    · rw [State.contain_port, if_neg hr.symm, hports]
  · intro s q hdown hactive hlink
    exact (next_if hdown).trans (congrArg _ (State.downLost_sbrActive hactive hlink))
  · intro s q hdown hperst hblocked hlink hpll
    refine ⟨_, next_if hdown, ?_⟩
    rw [State.downUp_trained hperst hblocked hlink hpll]
    exact ⟨State.port_setPort_self .., fun r hr => (State.port_setPort ..).trans (if_neg hr.symm), rfl, rfl⟩
  · intro s q hdown
    exact next_if hdown
  · intro s q hdown hsoft hsbr
    refine ⟨_, next_if hdown, ?_⟩
    rw [State.sbrSet_resets hsoft hsbr]
    have hkeeps := State.terminatePort_keepsPorts ((s.setPort q { s.port q with
      sbr := true, sbrActive := true, perst := false, perstTime := s.now, link := .down }).emit (.perst q false)) q
    refine ⟨?_, fun k r hk => State.terminatePort_quarantined hk, hkeeps.out.subset ?_⟩
    · rw [hkeeps.port]
      exact State.port_setPort_self ..
    · exact List.mem_append_right _ (List.mem_singleton.2 rfl)
  · intro s q hdown hsoft
    refine (next_if hdown).trans (congrArg _ ?_)
    rw [State.sbrClear, hsoft]
    rfl
  · intro s q x hdown hsoft
    refine ⟨(next_if hdown).trans (congrArg _ ?_), (next_if hdown).trans (congrArg _ ?_)⟩
    · rw [State.sbrSet, hsoft]
      rfl
    · rw [State.sbrClear, hsoft]
      rfl
  · intro s q hdown hactive hsbr hperst
    refine ⟨_, next_if hdown, ?_⟩
    rw [State.sbrRelease_raises hactive hsbr hperst]
    exact ⟨rfl, State.port_setPort_self .., fun r hr => (State.port_setPort ..).trans (if_neg hr.symm), rfl, rfl⟩

end Sys2Proof.Machine
end

section
/-! PROOFS. What events, retirements and the end of a function's work leave of the board and of the security state: all
but the starts of local counters. -/

namespace Sys2Proof.Machine
open Sys2Proof

-- One lemma after another: so many short ones, each in a thread of its own, outgrow the memory of a check.
set_option Elab.async false

/-- The board but for the starts of its local counters (R30). -/
def Board.settings (b : Board) : Board := { b with unitStart := [] }

/-- What events, retirements and the end of queues, jobs and spokes keep: the board but for the starts of local
counters, and the security state with its fuses. -/
structure State.KeepsSettings (s t : State) : Prop where
  brd : t.brd.settings = s.brd.settings := by rfl
  sec : t.sec = s.sec := by rfl

theorem State.KeepsSettings.refl {s : State} : s.KeepsSettings s := {}

section
variable {s u v : State}

theorem State.KeepsSettings.trans (h : s.KeepsSettings u) (h' : u.KeepsSettings v) : s.KeepsSettings v :=
  ⟨h'.brd.trans h.brd, h'.sec.trans h.sec⟩

theorem State.KeepsSettings.either {c : Prop} {_ : Decidable c} (h : s.KeepsSettings u) (h' : s.KeepsSettings v) :
    s.KeepsSettings (if c then u else v) := by
  split <;> assumption

theorem State.KeepsSettings.either_fst {α : Type} {c : Prop} {_ : Decidable c} {p q : State × α}
    (h : s.KeepsSettings p.1) (h' : s.KeepsSettings q.1) : s.KeepsSettings (if c then p else q).1 := by
  split <;> assumption

theorem State.KeepsSettings.either_snd {α : Type} {c : Prop} {_ : Decidable c} {p q : α × State}
    (h : s.KeepsSettings p.2) (h' : s.KeepsSettings q.2) : s.KeepsSettings (if c then p else q).2 := by
  split <;> assumption

theorem State.KeepsSettings.fold {α : Type} {l : List α} {op : State → α → State} (h : s.KeepsSettings u)
    (hop : ∀ v a, s.KeepsSettings v → s.KeepsSettings (op v a)) : s.KeepsSettings (l.foldl op u) :=
  List.foldlRecOn l op h fun _ hv a _ => hop _ a hv

theorem State.KeepsSettings.fst_eq {α : Type} {p : State × α} {a : α} (h : s.KeepsSettings p.1) (e : p = (v, a)) :
    s.KeepsSettings v := by
  rw [e] at h
  exact h

theorem State.KeepsSettings.snd_eq {α : Type} {p : α × State} {a : α} (h : s.KeepsSettings p.2) (e : p = (a, v)) :
    s.KeepsSettings v := by
  rw [e] at h
  exact h

theorem State.KeepsSettings.bump (h : s.KeepsSettings u) : s.KeepsSettings u.bump := h.trans {}

theorem State.KeepsSettings.withTrg {x : TrgState} (h : s.KeepsSettings u) : s.KeepsSettings { u with trg := x } :=
  h.trans {}

theorem State.KeepsSettings.withCkp {x : CkpState} (h : s.KeepsSettings u) : s.KeepsSettings { u with ckp := x } :=
  h.trans {}

/-! ### HBM, translation and accesses of a spoke -/

theorem State.KeepsSettings.hbmRead {a n : Nat} (h : s.KeepsSettings u) : s.KeepsSettings (u.hbmRead a n).1 :=
  .fold (h.trans {}) fun _ _ hv => hv.trans {}

theorem State.KeepsSettings.hitProt {g : Option Nat} {a n : Nat} (h : s.KeepsSettings u) :
    s.KeepsSettings (u.hitProt g a n) := by
  refine .either h (.trans (List.foldlRecOn _ _ (motive := fun p : State × List Prot => s.KeepsSettings p.1) h
    fun v hv p _ => ?_) {})
  refine .either_fst hv ?_
  split
  · exact hv
  · exact hv.hbmRead

theorem State.KeepsSettings.hbmWrite {a : Nat} {d : Bytes} {ep : Bool} (h : s.KeepsSettings u) :
    s.KeepsSettings (u.hbmWrite a d ep) :=
  .fold (h.hitProt.trans {}) fun _ _ hv =>
    .either (hv.trans {}) (.either (hv.trans {}) (.either (hv.trans {}) (hv.trans {})))

theorem State.KeepsSettings.walk {spoke fn va n tbl : Nat} (h : s.KeepsSettings u) :
    s.KeepsSettings (u.walk spoke fn va n tbl).2 := by
  induction n generalizing u tbl with
  | zero => exact h
  | succ n ih =>
    unfold State.walk
    dsimp only
    exact .either_snd h (.either_snd h.hbmRead (.either_snd h.hbmRead
      (.either_snd (.either_snd h.hbmRead (ih h.hbmRead))
        (.either_snd h.hbmRead (.either_snd h.hbmRead h.hbmRead)))))

theorem State.KeepsSettings.translate {k va : Nat} {write : Bool} (h : s.KeepsSettings u) :
    s.KeepsSettings (u.translate k va write).2 := by
  unfold State.translate
  dsimp only
  split
  · exact h
  · refine .either_snd h (.either_snd h ?_)
    split
    · exact h
    · split
      next heq => exact h.walk.snd_eq heq
      next heq => exact (h.walk.snd_eq heq).trans (.either (.trans {} {}) {})

theorem State.KeepsSettings.leafWrite {sp : Spoke} {leaf : Leaf} {d : Bytes} {ep : Bool} {ans : HostAns}
    (h : s.KeepsSettings u) : s.KeepsSettings (u.leafWrite sp leaf d ep ans).1 := by
  unfold State.leafWrite
  split
  · exact h.hbmWrite
  · split
    · exact h
    · exact .either_fst h (.either_fst h (h.trans {}))
  · refine .either_fst h (.either_fst h (.either_fst h ?_))
    split
    · exact h
    · exact h
    · exact h.hitProt.trans {}

theorem State.KeepsSettings.spokeWrite {k va : Nat} {d : Bytes} {ep : Bool} {ans : HostAns} (h : s.KeepsSettings u) :
    s.KeepsSettings (u.spokeWrite k va d ep ans).1 := by
  unfold State.spokeWrite
  generalize d.length / 4096 + 2 = n
  induction n generalizing u va d with
  | zero => exact h
  | succ n ih =>
    unfold State.spokeWriteLoop
    dsimp only
    refine .either_fst h ?_
    split
    · exact h
    · split
      next heq => exact h.translate.snd_eq heq
      next heq => exact .either_fst (h.translate.snd_eq heq).leafWrite (ih (h.translate.snd_eq heq).leafWrite)

theorem State.KeepsSettings.pageFor {k : Nat} {r : AccRes} {w : Waiter} (h : s.KeepsSettings u) :
    s.KeepsSettings (u.pageFor k r w) :=
  .either (h.trans {}) (.either (h.trans {}) (h.trans {}))

/-! ### Messages, entries and events -/

theorem State.KeepsSettings.interrupt {f v : Nat} (h : s.KeepsSettings u) : s.KeepsSettings (u.interrupt f v) :=
  h.trans ⟨by rw [u.interrupt_frame f v], by rw [u.interrupt_frame f v]⟩

theorem State.KeepsSettings.sampleKind {k : QKind} {since : Option Nat} (h : s.KeepsSettings u) :
    s.KeepsSettings (u.sampleKind k since) := by
  unfold State.sampleKind
  split
  · exact h.trans {}
  · exact h

theorem State.KeepsSettings.writeEntry {ri : Nat} {r : Queue} {d : Due} {ans : HostAns} (h : s.KeepsSettings u) :
    s.KeepsSettings (u.writeEntry ri r d ans).1 := by
  unfold State.writeEntry
  dsimp only
  generalize hp : u.spokeWrite r.spoke (r.base + 32 * (r.pi % r.size)) (d.bytes r.phase) false ans = p
  have hwrite : s.KeepsSettings p.1 := hp ▸ h.spokeWrite
  obtain ⟨v, a⟩ := p
  refine .either_fst (.either_fst hwrite.pageFor hwrite) ?_
  split
  · exact .withTrg (.sampleKind (.either (.interrupt (hwrite.trans {})) (hwrite.trans {})))
  · exact .sampleKind (.either (.interrupt (hwrite.trans {})) (hwrite.trans {}))

theorem State.KeepsSettings.flushRing {ri : Nat} {ans : HostAns} (h : s.KeepsSettings u) :
    s.KeepsSettings (u.flushRing ri ans).1 := by
  have hlist : ∀ l v, s.KeepsSettings v → s.KeepsSettings (v.flushList ri ans l).1 := by
    intro l
    induction l with
    | nil => exact fun _ hv => hv
    | cons d l ih =>
      intro v hv
      unfold State.flushList
      dsimp only
      split
      · exact hv
      · refine .either_fst (ih _ hv) ?_
        split
        next heq => exact ih _ (hv.writeEntry.fst_eq heq)
        next heq => exact hv.writeEntry.fst_eq heq
        next heq => exact hv.writeEntry.fst_eq heq
  unfold State.flushRing
  dsimp only
  split
  · exact h
  · exact .either ((hlist _ _ h).trans {}) ((hlist _ _ h).trans {})

theorem State.KeepsSettings.postEvent {k code a b : Nat} {st : Status} {queue : Nat} (h : s.KeepsSettings u) :
    s.KeepsSettings (u.postEvent k code a b st queue) := by
  unfold State.postEvent
  dsimp only
  split
  · exact h.trans {}
  · split
    · exact h.trans {}
    · exact .either (h.trans {}) (.flushRing (h.trans {}))

theorem State.KeepsSettings.postPf0 {hier code a b : Nat} {st : Status} {queue : Nat} (h : s.KeepsSettings u) :
    s.KeepsSettings (u.postPf0 hier code a b st queue) := by
  unfold State.postPf0
  split
  · exact h.postEvent
  · exact h

/-! ### Reports and retirements -/

theorem State.KeepsSettings.crFault {code detail : Nat} (h : s.KeepsSettings u) :
    s.KeepsSettings (u.crFault code detail) :=
  .either (h.trans {}) (h.trans {})

theorem State.KeepsSettings.pldm {sensor st : Nat} (h : s.KeepsSettings u) : s.KeepsSettings (u.pldm sensor st) :=
  .either (h.trans {}) (h.trans {})

theorem State.KeepsSettings.sensorMoves {old : State} {ids : List Nat} (h : s.KeepsSettings u) :
    s.KeepsSettings (u.sensorMoves old ids) :=
  .fold h fun _ _ hv => .either hv hv.pldm

theorem State.KeepsSettings.retireTray {cause : Nat} (h : s.KeepsSettings u) : s.KeepsSettings (u.retireTray cause) :=
  .either h (.bump (.pldm (.crFault (.postPf0 (.postPf0 (h.trans {}))))))

theorem State.KeepsSettings.addRepair {r : Repair} (h : s.KeepsSettings u) : s.KeepsSettings (u.addRepair r) :=
  .either h (.either (.retireTray (h.trans {})) (h.trans {}))

theorem State.KeepsSettings.retireNow {t : Nat} {who : Option (Nat × Nat)} (h : s.KeepsSettings u) :
    s.KeepsSettings (u.retireNow t who) :=
  .either (.retireTray (h.trans {})) (h.trans {})

/-! ### The end of jobs and checkpoints -/

theorem State.KeepsSettings.reapJobs (h : s.KeepsSettings u) : s.KeepsSettings u.reapJobs := by
  refine .fold h fun v x hv => ?_
  unfold State.dropJob
  dsimp only
  split
  · exact hv
  · refine .fold (hv.trans {}) fun w t hw => ?_
    unfold State.tileFreed
    split
    · exact .retireNow (hw.trans {})
    · exact hw.trans {}

theorem State.KeepsSettings.dropCkpt {k n : Nat} (h : s.KeepsSettings u) : s.KeepsSettings (u.dropCkpt k n) := by
  unfold State.dropCkpt
  dsimp only
  split
  · exact h
  · split
    · exact h
    · exact .fold (.withCkp (.either (h.trans {}) h)) fun _ _ hv => .postEvent (.either (hv.trans {}) hv)

theorem State.KeepsSettings.reapCkp (h : s.KeepsSettings u) : s.KeepsSettings u.reapCkp := by
  unfold State.reapCkp
  extract_lets gone v dead w
  have hdrop : ∀ (l : List Ckpt) v k, s.KeepsSettings v →
      s.KeepsSettings (l.foldl (fun s c => s.dropCkpt k c.ckpt) v) :=
    fun _ _ _ hv => .fold hv fun _ _ hw => hw.dropCkpt
  have hv : s.KeepsSettings v := by
    refine .fold h fun v p hv => ?_
    dsimp only
    split
    · exact .either ((hdrop _ _ _ hv).trans {}) (hdrop _ _ _ hv)
    · exact hdrop _ _ _ hv
  have hw : s.KeepsSettings w := .fold hv fun _ _ hw => (hdrop _ _ _ hw).trans {}
  exact hw.trans {}

/-! ### The end of controllers -/

theorem State.KeepsSettings.nvPost {c sq cid dw0 status : Nat} {ans : HostAns} (h : s.KeepsSettings u) :
    s.KeepsSettings (u.nvPost c sq cid dw0 status ans) := by
  have hwrite : ∀ {v : State} {x : Ctrl} {va : Nat} {d : Bytes}, s.KeepsSettings v →
      s.KeepsSettings (v.nvWrite x va d ans).1 := by
    intro v x va d hv
    unfold State.nvWrite
    split
    · exact hv.spokeWrite
    · exact hv.leafWrite
  have hloop : ∀ q n v, s.KeepsSettings v → s.KeepsSettings (v.nvFlushLoop c q ans n) := by
    intro q n
    induction n with
    | zero => exact fun _ hv => hv
    | succ n ih =>
      intro v hv
      unfold State.nvFlushLoop
      dsimp only
      split
      · split
        · exact hv
        · exact .either hv (.either ((hwrite hv).trans {})
            (ih _ (.either (.interrupt ((hwrite hv).trans {})) ((hwrite hv).trans {}))))
      · exact hv
  unfold State.nvPost State.nvFlush
  dsimp only
  split
  · exact h
  · split
    · exact hloop _ _ _ (h.trans {})
    · exact h.trans {}

theorem State.KeepsSettings.freeNumber {n : Option Nat} (h : s.KeepsSettings u) : s.KeepsSettings (u.freeNumber n) := by
  unfold State.freeNumber
  split
  · exact h.trans {}
  · exact h

theorem State.KeepsSettings.nvReset {c : Nat} (h : s.KeepsSettings u) : s.KeepsSettings (u.nvReset c) := by
  have habandon : s.KeepsSettings (u.nvAbandon fun k => k.ctrl == c) :=
    .fold (h.trans {}) fun _ _ hv => .fold (hv.trans {}) fun _ _ hw => .nvPost (hw.trans {})
  exact .trans (.fold habandon fun _ _ hv => hv.freeNumber) {}

theorem State.KeepsSettings.nvSpokeGone {k : Nat} (h : s.KeepsSettings u) : s.KeepsSettings (u.nvSpokeGone k) := by
  refine .fold h fun v p hv => ?_
  unfold State.dropCtrl
  extract_lets adm w x
  have hx : s.KeepsSettings x := .nvReset (.fold hv fun _ _ hw => hw.freeNumber)
  clear_value x
  exact hx.trans {}

/-! ### The end of connections, queues, spokes and functions -/

theorem State.KeepsSettings.flushConn {c : Nat} {k : Conn} {bad : Option Nat} {st : Status} (h : s.KeepsSettings u) :
    s.KeepsSettings (u.flushConn c k bad st) := by
  unfold State.flushConn
  dsimp only
  refine .fold (.fold h fun _ _ hv => .either (hv.trans {}) (hv.trans {})) fun v1 _ hv1 => ?_
  split
  · exact .either (hv1.trans {}) (.either hv1 (hv1.trans {}))
  · exact hv1

theorem State.KeepsSettings.killConn {c : Nat} {flush : Bool} {wait : Option (Nat × Nat)} (h : s.KeepsSettings u) :
    s.KeepsSettings (u.killConn c flush wait) := by
  have hpeer : ∀ v : State, s.KeepsSettings v → s.KeepsSettings (v.excludePeer c 1) := by
    intro v hv
    unfold State.excludePeer
    dsimp only
    split
    · exact hv
    · split
      · exact hv
      · exact .either hv (.postEvent (hv.trans {}))
  unfold State.killConn
  dsimp only
  split
  · exact h
  next k _ =>
    refine .either h ?_
    have hv : s.KeepsSettings (if flush then u.flushConn c k none .flushed else u) := .either h.flushConn h
    generalize (if flush then u.flushConn c k none .flushed else u) = v at hv ⊢
    exact hpeer _ (hv.trans {})

theorem State.KeepsSettings.freeTrg {k : Nat} (h : s.KeepsSettings u) : s.KeepsSettings (u.freeTrg k) := by
  refine .trans (.fold h fun v e hv => ?_) {}
  unfold State.unbind
  dsimp only
  split
  · exact hv
  · exact .fold (hv.trans {}) fun _ _ hw => hw.trans {}

theorem State.KeepsSettings.pruneNodes (h : s.KeepsSettings u) : s.KeepsSettings u.pruneNodes := h.trans {}

theorem State.KeepsSettings.destroyQueue {q : Nat} (h : s.KeepsSettings u) : s.KeepsSettings (u.destroyQueue q).1 := by
  have hops : s.KeepsSettings ((u.opsOf q).foldl State.abandonOp u) := .fold h fun _ _ hv => hv.trans {}
  exact (hops.trans {}).pruneNodes.bump

theorem State.KeepsSettings.spokeEnds {k : Nat} {who : Option (Nat × Nat)} (h : s.KeepsSettings u) :
    s.KeepsSettings (u.spokeEnds k who) := by
  unfold State.spokeEnds
  extract_lets v w x _ _ _ y
  have hw : s.KeepsSettings w := .fold h.nvSpokeGone fun _ _ hv => hv.killConn
  have hx : s.KeepsSettings x := .freeTrg (hw.trans {})
  have hy : s.KeepsSettings y := by
    clear_value x
    exact hx.trans {}
  exact hy.reapJobs.reapCkp.pruneNodes.bump

theorem State.KeepsSettings.destroySpoke {k : Nat} {who : Option (Nat × Nat)} (h : s.KeepsSettings u) :
    s.KeepsSettings (u.destroySpoke k who).1 := by
  unfold State.destroySpoke
  dsimp only
  exact .spokeEnds (List.foldlRecOn _ _ (motive := fun p : State × Nat => s.KeepsSettings p.1) h.nvSpokeGone
    fun _ hv _ _ => hv.destroyQueue)

theorem State.KeepsSettings.dropRequests {f : Nat} (h : s.KeepsSettings u) : s.KeepsSettings (u.dropRequests f) :=
  h.trans {}

theorem State.KeepsSettings.abandonFn {f : Nat} (h : s.KeepsSettings u) : s.KeepsSettings (u.abandonFn f) := by
  unfold State.abandonFn
  extract_lets v _ w x mine y z
  have hw : s.KeepsSettings w := h.trans {}
  clear_value w
  have hreset : s.KeepsSettings (w.nvFuncReset f) := .either hw (hw.nvReset.trans {})
  have hx : s.KeepsSettings x := .either (hreset.trans {}) hreset
  clear_value x
  have hy : s.KeepsSettings y := .dropRequests (.fold hx fun _ _ hv => hv.destroySpoke)
  have hz : s.KeepsSettings z := hy.trans {}
  clear_value z
  exact .either (hz.trans {}) hz

end

end Sys2Proof.Machine
end

section
/-! PROOFS. Main power (R65 to R68, R85, R586): what the tests of a start leave, and what entering package standby
takes. -/

namespace Sys2Proof.Machine
open Sys2Proof

/-! ### The tests of a start -/

/-- What the tests that run when main power rises keep: the state of the rails and the fuses. -/
structure State.KeepsMain (s t : State) : Prop where
  mainPg : t.brd.mainPg = s.brd.mainPg := by rfl
  mainPgAt : t.brd.mainPgAt = s.brd.mainPgAt := by rfl
  standby : t.brd.standby = s.brd.standby := by rfl
  fuses : t.sec.fuses = s.sec.fuses := by rfl

theorem State.KeepsMain.trans {s u v : State} (h : s.KeepsMain u) (h' : u.KeepsMain v) : s.KeepsMain v :=
  ⟨h'.mainPg.trans h.mainPg, h'.mainPgAt.trans h.mainPgAt, h'.standby.trans h.standby, h'.fuses.trans h.fuses⟩

theorem State.KeepsSettings.keepsMain {s t : State} (h : s.KeepsSettings t) : s.KeepsMain t :=
  ⟨(congrArg Board.mainPg h.brd :), (congrArg Board.mainPgAt h.brd :), (congrArg Board.standby h.brd :),
    congrArg SecState.fuses h.sec⟩

theorem State.testFailed_keepsMain (s : State) (r : TestResult) : s.KeepsMain (s.testFailed r) := by
  have htray : ∀ (u : State) c, u.KeepsMain (u.retireTray c) := fun u c =>
    (State.KeepsSettings.retireTray .refl).keepsMain
  have htile : s.KeepsMain (if s.str.retired.contains r.unit then s else s.retireNow r.unit none) :=
    (State.KeepsSettings.either .refl (.retireNow .refl)).keepsMain
  unfold State.testFailed
  split
  · exact {}
  · split
    · split
      · exact htile
      · exact htray ..
    · split
      · exact htile
      · exact htray ..
    · exact (State.KeepsSettings.addRepair .refl).keepsMain
    · split
      · exact .trans {} (htray ..)
      · exact {}
    · split
      · exact .trans {} (htray ..)
      · exact {}
    · exact {}

theorem State.results_keepsMain (s : State) (l : List TestResult) : s.KeepsMain (s.results l) := by
  refine List.foldlRecOn l _ (motive := s.KeepsMain) {} fun u hu r _ => ?_
  have hrecord : u.KeepsMain (u.testRecord r) := by
    unfold State.testRecord
    extract_lets l _ v
    have hv : u.KeepsMain v := {}
    clear_value v
    split
    · exact hv.trans {}
    · exact hv
  exact (hu.trans hrecord).trans (State.testFailed_keepsMain ..)

/-- Every stack whose turn comes is put in state 1 (R189). -/
theorem State.startStacks_rfield (s : State) {l : List Nat} {x : Nat} (hx : x ∈ l) :
    (l.foldl (fun s x => s.rset (aHbmStat x) 1 0 1) s).rfield (aHbmStat x) 1 0 = 1 := by
  induction l using List.reverseRecOn with
  | nil => cases hx
  | append_singleton l y ih =>
    rw [List.foldl_append, List.foldl_cons, List.foldl_nil, State.rfield, State.rset, State.rget_rput]
    split
    · exact bits_setBits_self _ _ (by decide)
    · next hne =>
      refine ih ((List.mem_append.1 hx).resolve_right fun h => hne ?_)
      rw [List.mem_singleton.1 h]

/-! ### Reports -/

theorem State.crFault_frame (s : State) (code detail : Nat) :
    s.crFault code detail = { s with out := (s.crFault code detail).out, pwr := (s.crFault code detail).pwr } := by
  unfold State.crFault State.crSend
  dsimp only
  split <;> rfl

theorem State.pldm_frame (s : State) (sensor st : Nat) :
    s.pldm sensor st = { s with out := (s.pldm sensor st).out, tel := (s.pldm sensor st).tel } := by
  unfold State.pldm
  dsimp only
  split <;> rfl

theorem State.sensorMoves_frame (s old : State) (ids : List Nat) :
    s.sensorMoves old ids = { s with out := (s.sensorMoves old ids).out, tel := (s.sensorMoves old ids).tel } := by
  refine List.foldlRecOn ids _ (motive := fun t : State => t = { s with out := t.out, tel := t.tel }) rfl
    fun u hu i _ => ?_
  split
  · exact hu
  · rw [State.pldm_frame, hu]

/-! ### Package standby -/

/-- What a clearing of the main rails' dies keeps: the pins of the power sequence (R586). -/
structure State.KeepsRails (s t : State) : Prop where
  pwrEn : t.brd.pwrEn = s.brd.pwrEn := by rfl
  mainPg : t.brd.mainPg = s.brd.mainPg := by rfl
  thermTrip : t.brd.thermTrip = s.brd.thermTrip := by rfl

theorem State.KeepsRails.reloads {s t u : State} (h : s.KeepsRails t) (h' : t.Reloads u) : s.KeepsRails u := by
  rw [h'.eq]
  exact ⟨h.pwrEn, h.mainPg, h.thermTrip⟩

theorem State.softClear_keepsRails (s : State) (lost : Bool) (who : Option Nat) :
    s.KeepsRails (s.softClear lost who) := by
  unfold State.softClear
  refine .reloads ?_ (State.restartClocks_reloads _)
  refine .reloads ?_ (State.restartUnits_reloads ..)
  refine .reloads ?_ (State.loadDefaults_reloads _)
  refine .reloads ?_ (State.rset_reloads ..)
  exact {}

theorem State.mainClear_keepsRails (s : State) (std : Bool) : s.KeepsRails (s.mainClear std) := by
  have hsoft := s.softClear_keepsRails true none
  unfold State.mainClear
  generalize s.softClear true none = u at hsoft
  refine .reloads ?_ (State.capChanged_reloads _)
  refine .reloads ?_ (State.loadDefaults_reloads _)
  refine .reloads ?_ (State.restartUnits_reloads ..)
  refine .reloads ?_ (.foldl (fun _ _ => ⟨rfl⟩) _ _)
  refine .reloads ?_ (State.setRoles_reloads ..)
  exact ⟨hsoft.pwrEn, hsoft.mainPg, hsoft.thermTrip⟩

/-- The pins that fall with the main rails (R65, R586). -/
theorem State.railsOff_pins (s : State) : s.railsOff.brd.pwrEn = false ∧ s.railsOff.brd.mainPg = false ∧
    s.railsOff.brd.thermTrip = s.brd.thermTrip ∧ (s.brd.pwrEn = true → .pin 0 false ∈ s.railsOff.out) := by
  unfold State.railsOff
  extract_lets low t
  have ht : t.brd = s.brd := List.foldlRecOn low _ (motive := fun t : State => t.brd = s.brd) rfl fun _ h _ _ => h
  clear_value t
  split
  · exact ⟨rfl, rfl, (congrArg Board.thermTrip ht :), fun _ => List.mem_append_right _ (List.mem_singleton.2 rfl)⟩
  · next hen =>
    refine ⟨Bool.of_not_eq_true hen, rfl, (congrArg Board.thermTrip ht :), fun h => absurd ?_ hen⟩
    rw [ht]
    exact h

/-- What package standby leaves of the state that enters it (R586). -/
structure State.Standby (s t : State) : Prop where
  standby : t.brd.standby = true
  standbyFn : t.brd.standbyFn = none
  pwrEn : t.brd.pwrEn = false
  mainPg : t.brd.mainPg = false
  thermTrip : t.brd.thermTrip = s.brd.thermTrip
  hbm : t.mem.hbm = []
  trg : t.trg = {}
  fuses : t.sec.fuses = s.sec.fuses

theorem State.enterStandby_standby (s : State) : s.Standby s.enterStandby := by
  obtain ⟨hpwr, hpg, htrip, -⟩ := s.railsOff_pins
  have hwiped := s.railsOff.mainClear_wiped true
  have hrails := s.railsOff.mainClear_keepsRails true
  unfold State.enterStandby
  dsimp only
  generalize s.railsOff.mainClear true = t at hwiped hrails
  exact ⟨rfl, rfl, hrails.pwrEn.trans hpwr, hrails.mainPg.trans hpg, hrails.thermTrip.trans htrip, hwiped.hbm,
    hwiped.trg, hwiped.fuses.trans (congrArg SecState.fuses s.railsOff_keeps.2.1)⟩

/-- The fall of PWR_EN_MAIN is among what was sent. -/
theorem State.enterStandby_pin {s : State} (h : s.brd.pwrEn = true) : .pin 0 false ∈ s.enterStandby.out :=
  (State.Evolves.mainClear (.refl s.railsOff)).out.subset (s.railsOff_pins.2.2.2 h)

/-! ### The commands -/

/-- MAIN_PG rises: the tests run, and with the core PLL good the stacks start (R65, R189). -/
theorem State.mainRise_rises {s : State} (l : List TestResult) (hen : s.brd.pwrEn = true)
    (hlow : s.brd.mainPg = false) : ∃ u : State,
      State.KeepsMain { s with brd.mainPg := true, brd.mainPgAt := s.now, brd.standby := false } u ∧
      s.mainRise l = if u.brd.corePllBad then u else (List.range 6).foldl (fun s x => s.rset (aHbmStat x) 1 0 1) u := by
  unfold State.mainRise
  rw [hen, hlow, if_neg (by decide)]
  extract_lets old _ risen moved tested
  refine ⟨tested, ?_, rfl⟩
  have hmoved : risen.KeepsMain moved := (State.KeepsSettings.sensorMoves .refl).keepsMain
  clear_value moved
  exact (hmoved.trans {}).trans (State.results_keepsMain ..)

theorem State.startStacks_brd_sec (s : State) (l : List Nat) :
    (l.foldl (fun s x => s.rset (aHbmStat x) 1 0 1) s).brd = s.brd ∧
    (l.foldl (fun s x => s.rset (aHbmStat x) 1 0 1) s).sec = s.sec :=
  List.foldlRecOn l _ (motive := fun t : State => t.brd = s.brd ∧ t.sec = s.sec) ⟨rfl, rfl⟩ fun _ h _ _ => h

/-- Settles O5: the tests of a start keep the rails (`KeepsMain`), and both losses of main power enter package standby
(`Standby`); what is reported changes neither. -/
theorem mainPowerFollowsItsPins : Obligations.MainPowerFollowsItsPins := by
  unfold Obligations.MainPowerFollowsItsPins
  refine ⟨?_, ?_, ?_, ?_⟩
  · intro s l hen hlow
    obtain ⟨u, hu, hrise⟩ := State.mainRise_rises l hen hlow
    refine ⟨s.mainRise l, rfl, ?_⟩
    rw [hrise]
    split
    · next hbad => exact ⟨hu.mainPg, hu.mainPgAt, hu.standby, fun h => absurd hbad (by simp [h]), hu.fuses⟩
    · have hstacks := fun x (hx : x < 6) => u.startStacks_rfield (List.mem_range.2 hx)
      obtain ⟨hbrd, hsec⟩ := u.startStacks_brd_sec (List.range 6)
      rw [hbrd, hsec]
      exact ⟨hu.mainPg, hu.mainPgAt, hu.standby, fun _ => hstacks, hu.fuses⟩
  · intro s hen hlow
    refine ⟨s.mainTimeout, rfl, ?_⟩
    unfold State.mainTimeout
    rw [hen, hlow, if_neg (by decide)]
    extract_lets _ late _ fallen
    have hout : fallen.out <+: (((fallen.rset aResetCause 9 9 1).crFault 0x0040 0).pldm 34 3).out :=
      (State.Evolves.refl fallen).rset.crFault.pldm.out
    have hcause : (fallen.rset aResetCause 9 9 1).rfield aResetCause 9 9 = 1 := by
      rw [State.rfield, State.rset, State.rget_rput_self, bits_setBits_self _ _ le_rfl]
      rfl
    have hpin : .pin 0 false ∈ (((fallen.rset aResetCause 9 9 1).crFault 0x0040 0).pldm 34 3).out :=
      hout.subset (List.mem_append_right _ (List.mem_singleton.2 rfl))
    rw [State.pldm_frame, State.crFault_frame] at hpin ⊢
    exact ⟨rfl, rfl, rfl, hcause, Nat.le_max_right .., hpin, rfl, rfl⟩
  · intro s hen hpg
    refine ⟨s.mainLoss, rfl, ?_⟩
    rw [State.mainLoss, hen, hpg, if_pos (by decide)]
    have h := s.enterStandby_standby
    have hpin : .pin 0 false ∈ ((s.enterStandby.rset aResetCause 8 8 1).sensorMoves s [34, 35]).out :=
      (State.Evolves.sensorMoves (State.Evolves.rset (.refl _))).out.subset (State.enterStandby_pin hen)
    have hcause : (s.enterStandby.rset aResetCause 8 8 1).rfield aResetCause 8 8 = 1 := by
      rw [State.rfield, State.rset, State.rget_rput_self, bits_setBits_self _ _ le_rfl]
      rfl
    rw [State.sensorMoves_frame] at hpin ⊢
    exact ⟨h.standby, h.standbyFn, h.pwrEn, h.mainPg, hcause, h.hbm, h.trg, hpin, h.fuses⟩
  · intro s haon htrip
    refine ⟨s.trip, rfl, ?_⟩
    unfold State.trip
    rw [haon, htrip, if_neg (by decide)]
    extract_lets _ t
    have h := t.enterStandby_standby
    have hpin : .pin 1 false ∈ ((t.enterStandby.crFault 0x0020 0).sensorMoves s [33, 34, 35]).out :=
      (State.Evolves.refl t).enterStandby.crFault.sensorMoves.out.subset
        (List.mem_append_right _ (List.mem_singleton.2 rfl))
    rw [State.sensorMoves_frame, State.crFault_frame] at hpin ⊢
    exact ⟨h.thermTrip, h.standby, h.pwrEn, h.mainPg, h.hbm, h.trg, hpin, h.fuses⟩

end Sys2Proof.Machine
end

section
/-! PROOFS. PERST# of upstream and downstream ports (R86 to R90, R580, R592): what a link that trains becomes, and what
the fall of PERST# leaves of the functions of its hierarchy. -/

namespace Sys2Proof.Machine
open Sys2Proof

/-! ### Links -/

/-- A link that leaves Detect is in L0 at its widest good width (R592). -/
theorem State.trainUp_trained {s : State} {h : Nat} (hrole : s.portRole (4 * h) = 0) (hwidth : s.trainWidth (4 * h) ≠ 0)
    (hpll : s.brd.pll.contains 1 = false) (hlink : (s.port (4 * h)).link = .down) :
    s.trainUp h = s.setPort (4 * h) { s.port (4 * h) with
      link := .l0, width := s.trainWidth (4 * h), fullWidth := s.trainWidth (4 * h) } := by
  unfold State.trainUp
  extract_lets q w
  refine if_neg ?_
  simpa [q, w, hrole, hwidth, hlink] using hpll

theorem State.perstRise_starts {s : State} (h : Nat) (hsoft : s.brd.soft = none) :
    let u : State := { s with brd.perst := setIns s.brd.perst h, brd.perstAt := Map.put s.brd.perstAt h s.now }
    s.perstRise h =
      if s.brd.resetN && s.brd.mainPg && decide (s.brd.mainPgAt + 50_000_000 ≤ s.now) then u.trainUp h else u := by
  unfold State.perstRise
  rw [hsoft]
  rfl

/-- PERST# of a downstream port rises no sooner than 100 ms after MAIN_PG, and its link trains (R89, R592). -/
theorem State.downPerst_raises {s : State} {q : Nat} (hpg : s.brd.mainPg = true) (hperst : (s.port q).perst = false)
    (hactive : (s.port q).sbrActive = false) :
    let now := max s.now (s.brd.mainPgAt + 100_000_000)
    s.downPerst q = (State.setPort { s with now := now } q
      { s.port q with
        perst := true, perstTime := now, link := .training, width := s.trainWidth q, fullWidth := s.trainWidth q
        blocked := (s.port q).blocked || s.trainWidth q == 0 }).emit (.perst q true) := by
  unfold State.downPerst
  extract_lets _ p
  exact if_neg (by simp [p, hpg, hperst, hactive])

/-! ### PERST# of a hierarchy falls -/

theorem State.fnReset_brd_sec (s : State) (f : Nat) : (s.fnReset f).brd = s.brd ∧ (s.fnReset f).sec = s.sec := by
  unfold State.fnReset
  dsimp only
  split <;> exact ⟨rfl, rfl⟩

theorem State.fn_fnReset (s : State) (f g : Nat) :
    (s.fnReset f).fn g = if f = g then { bar4Log2 := s.brd.bar4Log2 } else s.fn g := by
  rw [← State.fn_setFn]
  unfold State.fnReset
  dsimp only
  split <;> rfl

section
variable (s : State) (h : Nat)

/-- The functions of a hierarchy at reset, in turn. -/
def State.fnResets (s : State) (h : Nat) (l : List Nat) : State := l.foldl (fun s k => s.fnReset (4 * h + k)) s

theorem State.fnResets_brd_sec (l : List Nat) : (s.fnResets h l).brd = s.brd ∧ (s.fnResets h l).sec = s.sec :=
  List.foldlRecOn l _ (motive := fun t : State => t.brd = s.brd ∧ t.sec = s.sec) ⟨rfl, rfl⟩ fun u hu _ _ =>
    have hr := u.fnReset_brd_sec
    ⟨(hr _).1.trans hu.1, (hr _).2.trans hu.2⟩

theorem State.fn_fnResets {k : Nat} {l : List Nat} (hk : k ∈ l) :
    (s.fnResets h l).fn (4 * h + k) = { bar4Log2 := s.brd.bar4Log2 } := by
  induction l using List.reverseRecOn with
  | nil => cases hk
  | append_singleton l y ih =>
    have hlast : s.fnResets h (l ++ [y]) = (s.fnResets h l).fnReset (4 * h + y) := by
      rw [State.fnResets, List.foldl_append]
      rfl
    rw [hlast, State.fn_fnReset, (s.fnResets_brd_sec h l).1]
    split
    · rfl
    · next hne => exact ih ((List.mem_append.1 hk).resolve_right fun e => hne (by rw [List.mem_singleton.1 e]))

end

/-- The configuration of ports at reset, in turn. -/
def State.configResets (s : State) (l : List Nat) : State := l.foldl (fun s q => s.modPort q Port.configReset) s

theorem State.configResets_frame (s : State) (l : List Nat) :
    s.configResets l = { s with host.ports := (s.configResets l).host.ports } :=
  List.foldlRecOn l _ (motive := fun t : State => t = { s with host.ports := t.host.ports }) rfl fun u hu q _ => by
    rw [State.modPort, State.setPort, hu]

/-- PERST# of an upstream port in use falls: its functions are abandoned and reset, its ports' configuration is reset,
and its link goes down (R580). -/
theorem State.perstFall_resets {s : State} {h : Nat} (hsoft : s.brd.soft = none) (hreset : s.brd.resetN = true)
    (hpg : s.brd.mainPg = true) (hrole : s.portRole (4 * h) = 0) : ∃ u l,
      State.KeepsSettings { s with brd.perst := setDel s.brd.perst h } u ∧
      s.perstFall h =
        State.modPort ((u.fnResets h (List.range 4)).configResets l) (4 * h) fun p => { p with link := .down } := by
  unfold State.perstFall
  rw [hsoft, if_neg (by decide)]
  extract_lets _ low gone freed resets mine
  have hin : low.brd.resetN = true := hreset
  have hon : low.brd.mainPg = true := hpg
  have hup : low.portRole (4 * h) = 0 := hrole
  have hgone : low.KeepsSettings gone := .fold .refl fun _ _ hv => hv.abandonFn
  clear_value gone
  have hfreed : low.KeepsSettings freed := hgone.trans {}
  clear_value freed
  exact ⟨freed, mine, hfreed, if_neg (by simp [hin, hon, hup])⟩

/-- Settles O6: a link that trains is written out (`trainUp_trained`, `downPerst_raises`), and the fall of PERST# resets
the functions after the end of their work (`perstFall_resets`), which keeps the board's settings (`KeepsSettings`). -/
theorem upstreamAndDownstreamPerstActOnLinks : Obligations.UpstreamAndDownstreamPerstActOnLinks := by
  unfold Obligations.UpstreamAndDownstreamPerstActOnLinks
  refine ⟨?_, ?_, ?_, ?_, ?_, ?_⟩
  · intro s h hh hpg hperst hrole hwidth hpll hlink
    refine (next_if hh).trans (congrArg _ ?_)
    rw [State.trainStart, hpg, hperst, if_pos (by decide)]
    exact State.trainUp_trained hrole hwidth hpll hlink
  · intro s h hh hsoft hlow
    refine (next_if hh).trans (congrArg _ ((State.perstRise_starts h hsoft).trans (if_neg ?_)))
    rcases hlow with hlow | hlow <;> simp [hlow]
  · intro s h hh hsoft hreset hpg hwait hrole hwidth hpll hlink
    refine (next_if hh).trans (congrArg _ ((State.perstRise_starts h hsoft).trans ((if_pos ?_).trans ?_)))
    · simp [hreset, hpg, hwait]
    · exact State.trainUp_trained hrole hwidth hpll hlink
  · intro s h x hh hsoft
    refine ⟨(next_if hh).trans (congrArg _ ?_), (next_if hh).trans (congrArg _ ?_)⟩
    · rw [State.perstRise, hsoft]
      rfl
    · rw [State.perstFall, hsoft]
      rfl
  · intro s h hh hsoft hreset hpg hrole
    refine ⟨s.perstFall h, next_if hh, ?_⟩
    obtain ⟨u, l, hu, hfall⟩ := State.perstFall_resets hsoft hreset hpg hrole
    obtain ⟨hbrd, hsec⟩ := u.fnResets_brd_sec h (List.range 4)
    have hfns := fun k (hk : k < 4) => u.fn_fnResets h (List.mem_range.2 hk)
    rw [hfall, State.configResets_frame]
    refine ⟨?_, ?_, fun k hk => (hfns k hk).trans ?_, ?_⟩
    · rw [State.modPort, State.port_setPort_self]
    · have hperst : u.brd.perst = setDel s.brd.perst h := (congrArg Board.perst hu.brd :)
      exact (congrArg Board.perst hbrd).trans hperst
    · have hbar : u.brd.bar4Log2 = s.brd.bar4Log2 := (congrArg Board.bar4Log2 hu.brd :)
      rw [hbar]
    · exact (congrArg SecState.fuses hsec).trans (congrArg SecState.fuses hu.sec)
  · intro s q hdown hpg hperst hactive
    refine ⟨_, next_if hdown, ?_⟩
    rw [State.downPerst_raises hpg hperst hactive]
    exact ⟨rfl, State.port_setPort_self .., fun r hr => (State.port_setPort ..).trans (if_neg hr.symm), rfl⟩

end Sys2Proof.Machine
end

section
/-! PROOFS. What an access of HBM or of a spoke's memory leaves of the host side, and when the host's translation may
refuse it (R203, R206). -/

namespace Sys2Proof.Machine
open Sys2Proof

/-- What an access of HBM or of a spoke's memory leaves: the host side but for cached translations, and what was sent
before. -/
structure State.KeepsHost (s t : State) : Prop where
  host : { t.host with atc := [] } = { s.host with atc := [] } := by rfl

section
variable {s u v : State}

theorem State.KeepsHost.trans (h : s.KeepsHost u) (h' : u.KeepsHost v) : s.KeepsHost v := ⟨h'.host.trans h.host⟩

theorem State.KeepsHost.either {c : Prop} {_ : Decidable c} (h : s.KeepsHost u) (h' : s.KeepsHost v) :
    s.KeepsHost (if c then u else v) := by
  split <;> assumption

theorem State.KeepsHost.either_fst {α : Type} {c : Prop} {_ : Decidable c} {p q : State × α}
    (h : s.KeepsHost p.1) (h' : s.KeepsHost q.1) : s.KeepsHost (if c then p else q).1 := by
  split <;> assumption

theorem State.KeepsHost.either_snd {α : Type} {c : Prop} {_ : Decidable c} {p q : α × State}
    (h : s.KeepsHost p.2) (h' : s.KeepsHost q.2) : s.KeepsHost (if c then p else q).2 := by
  split <;> assumption

theorem State.KeepsHost.fold {α : Type} {l : List α} {op : State → α → State} (h : s.KeepsHost u)
    (hop : ∀ v a, s.KeepsHost v → s.KeepsHost (op v a)) : s.KeepsHost (l.foldl op u) :=
  List.foldlRecOn l op h fun _ hv a _ => hop _ a hv

theorem State.KeepsHost.fst_eq {α : Type} {p : State × α} {a : α} (h : s.KeepsHost p.1) (e : p = (v, a)) :
    s.KeepsHost v := by
  rw [e] at h
  exact h

theorem State.KeepsHost.snd_eq {α : Type} {p : α × State} {a : α} (h : s.KeepsHost p.2) (e : p = (a, v)) :
    s.KeepsHost v := by
  rw [e] at h
  exact h

theorem State.KeepsHost.fns (h : s.KeepsHost u) : u.host.fns = s.host.fns := (congrArg HostState.fns h.host :)

theorem State.KeepsHost.spokes (h : s.KeepsHost u) : u.host.spokes = s.host.spokes :=
  (congrArg HostState.spokes h.host :)

theorem State.KeepsHost.reqs (h : s.KeepsHost u) : u.host.reqs = s.host.reqs := (congrArg HostState.reqs h.host :)

theorem State.KeepsHost.pageReqs (h : s.KeepsHost u) : u.host.pageReqs = s.host.pageReqs :=
  (congrArg HostState.pageReqs h.host :)

theorem State.KeepsHost.hbmRead {a n : Nat} (h : s.KeepsHost u) : s.KeepsHost (u.hbmRead a n).1 :=
  .fold (h.trans {}) fun _ _ hv => hv.trans {}

theorem State.KeepsHost.hitProt {g : Option Nat} {a n : Nat} (h : s.KeepsHost u) : s.KeepsHost (u.hitProt g a n) := by
  refine .either h (.trans (List.foldlRecOn _ _ (motive := fun p : State × List Prot => s.KeepsHost p.1) h
    fun v hv p _ => ?_) {})
  refine .either_fst hv ?_
  split
  · exact hv
  · exact hv.hbmRead

theorem State.KeepsHost.hbmWrite {a : Nat} {d : Bytes} {ep : Bool} (h : s.KeepsHost u) :
    s.KeepsHost (u.hbmWrite a d ep) :=
  .fold (h.hitProt.trans {}) fun _ _ hv =>
    .either (hv.trans {}) (.either (hv.trans {}) (.either (hv.trans {}) (hv.trans {})))

theorem State.KeepsHost.walk {spoke fn va n tbl : Nat} (h : s.KeepsHost u) :
    s.KeepsHost (u.walk spoke fn va n tbl).2 := by
  induction n generalizing u tbl with
  | zero => exact h
  | succ n ih =>
    unfold State.walk
    dsimp only
    exact .either_snd h (.either_snd h.hbmRead (.either_snd h.hbmRead
      (.either_snd (.either_snd h.hbmRead (ih h.hbmRead))
        (.either_snd h.hbmRead (.either_snd h.hbmRead h.hbmRead)))))

theorem State.KeepsHost.translate {k va : Nat} {write : Bool} (h : s.KeepsHost u) :
    s.KeepsHost (u.translate k va write).2 := by
  unfold State.translate
  dsimp only
  split
  · exact h
  · refine .either_snd h (.either_snd h ?_)
    split
    · exact h
    · split
      next heq => exact h.walk.snd_eq heq
      next heq => exact (h.walk.snd_eq heq).trans (.either (.trans {} {}) {})

theorem State.KeepsHost.leafWrite {sp : Spoke} {leaf : Leaf} {d : Bytes} {ep : Bool} {ans : HostAns}
    (h : s.KeepsHost u) : s.KeepsHost (u.leafWrite sp leaf d ep ans).1 := by
  unfold State.leafWrite
  split
  · exact h.hbmWrite
  · split
    · exact h
    · exact .either_fst h (.either_fst h (h.trans {}))
  · refine .either_fst h (.either_fst h (.either_fst h ?_))
    split
    · exact h
    · exact h
    · exact h.hitProt.trans {}

theorem State.KeepsHost.leafRead {sp : Spoke} {leaf : Leaf} {n off : Nat} {ans : HostAns} (h : s.KeepsHost u) :
    s.KeepsHost (u.leafRead sp leaf n off ans).1 := by
  unfold State.leafRead
  dsimp only
  split
  · exact h.hbmRead
  · split
    · exact h
    · refine .either_fst h (.either_fst h ?_)
      split <;> exact h
  · refine .either_fst h (.either_fst h (.either_fst h ?_))
    split
    · exact h
    · exact .either_fst h h
    · exact h

/-- An access that the host's translation refused is one of a function whose memory may be reached (R130, R133). -/
def State.Reached (s : State) (k : Nat) (r : AccRes) : Prop :=
  r.noAccess = true → s.canMaster (s.spokeFn k) = true

theorem State.KeepsHost.canMaster (h : s.KeepsHost u) (f : Nat) : u.canMaster f = s.canMaster f := by
  rw [State.canMaster, State.canMaster, State.fn, State.fn, h.fns]

theorem State.KeepsHost.spokeFn (h : s.KeepsHost u) (k : Nat) : u.spokeFn k = s.spokeFn k := by
  rw [State.spokeFn, State.spokeFn, State.spoke, State.spoke, h.spokes]

theorem State.KeepsHost.reached (h : s.KeepsHost u) {k : Nat} {r : AccRes} : u.Reached k r ↔ s.Reached k r := by
  rw [State.Reached, State.Reached, h.spokeFn, h.canMaster]

theorem State.leafWrite_noAccess {sp : Spoke} {leaf : Leaf} {d : Bytes} {ep : Bool} {ans : HostAns}
    (hr : (s.leafWrite sp leaf d ep ans).2.noAccess = true) : s.canMaster sp.fn = true := by
  cases hm : s.canMaster sp.fn with
  | true => rfl
  | false =>
    unfold State.leafWrite at hr
    cases leaf with
    | hbm a => cases hr
    | host a pri =>
      rw [hm] at hr
      cases hr
    | peer a =>
      dsimp only at hr
      split at hr
      · cases hr
      · split_ifs at hr

theorem State.leafRead_noAccess {sp : Spoke} {leaf : Leaf} {n off : Nat} {ans : HostAns}
    (hr : (s.leafRead sp leaf n off ans).2.noAccess = true) : s.canMaster sp.fn = true := by
  cases hm : s.canMaster sp.fn with
  | true => rfl
  | false =>
    unfold State.leafRead at hr
    cases leaf with
    | hbm a => cases hr
    | host a pri =>
      rw [hm] at hr
      cases hr
    | peer a =>
      dsimp only at hr
      split at hr
      · cases hr
      · split_ifs at hr
        split at hr <;> cases hr

/-- A write at a spoke address: what it leaves, and when the host's translation may have refused it. -/
theorem State.spokeWriteLoop_access {k n va : Nat} {ep : Bool} {ans : HostAns} {d : Bytes} :
    s.KeepsHost (s.spokeWriteLoop k ep ans n va d).1 ∧ s.Reached k (s.spokeWriteLoop k ep ans n va d).2 := by
  induction n generalizing s va d with
  | zero => exact ⟨{}, fun h => nomatch h⟩
  | succ n ih =>
    unfold State.spokeWriteLoop
    dsimp only
    split
    · exact ⟨{}, fun h => nomatch h⟩
    · split
      · exact ⟨{}, fun h => nomatch h⟩
      next sp hsp =>
        have htr : s.KeepsHost (s.translate k va true).2 := .translate {}
        split
        next heq => exact ⟨htr.snd_eq heq, fun h => nomatch h⟩
        next leaf left v heq =>
          have hv := htr.snd_eq heq
          generalize d.take (min left (4096 - va % 4096)) = piece
          have hw : s.KeepsHost (v.leafWrite sp leaf piece ep ans).1 := hv.leafWrite
          split
          · refine ⟨hw, fun hr => ?_⟩
            have hfn : s.spokeFn k = sp.fn := by rw [State.spokeFn, hsp]
            rw [hfn, ← hv.canMaster]
            exact State.leafWrite_noAccess hr
          · obtain ⟨hkeep, hreach⟩ := ih (s := (v.leafWrite sp leaf piece ep ans).1)
              (va := va + piece.length) (d := d.drop piece.length)
            exact ⟨hw.trans hkeep, hw.reached.1 hreach⟩

theorem State.KeepsHost.spokeWrite {k va : Nat} {d : Bytes} {ep : Bool} {ans : HostAns} (h : s.KeepsHost u) :
    s.KeepsHost (u.spokeWrite k va d ep ans).1 :=
  h.trans State.spokeWriteLoop_access.1

theorem State.spokeWrite_reached (s : State) (k va : Nat) (d : Bytes) (ep : Bool) (ans : HostAns) :
    (s.spokeWrite k va d ep ans).1.Reached k (s.spokeWrite k va d ep ans).2 :=
  State.spokeWriteLoop_access.1.reached.2 State.spokeWriteLoop_access.2

/-- A read at a spoke address: what it leaves, and when the host's translation may have refused it. -/
theorem State.spokeReadLoop_access {k fuel va n off : Nat} {ans : HostAns} :
    s.KeepsHost (s.spokeReadLoop k ans fuel va n off).1 ∧ s.Reached k (s.spokeReadLoop k ans fuel va n off).2 := by
  induction fuel generalizing s va n off with
  | zero => exact ⟨{}, fun h => nomatch h⟩
  | succ fuel ih =>
    unfold State.spokeReadLoop
    dsimp only
    split
    · exact ⟨{}, fun h => nomatch h⟩
    · split
      · exact ⟨{}, fun h => nomatch h⟩
      next sp hsp =>
        have htr : s.KeepsHost (s.translate k va false).2 := .translate {}
        split
        next heq => exact ⟨htr.snd_eq heq, fun h => nomatch h⟩
        next leaf left v heq =>
          have hv := htr.snd_eq heq
          generalize min n (min left (4096 - va % 4096)) = m
          have hw : s.KeepsHost (v.leafRead sp leaf m off ans).1 := hv.leafRead
          split
          · refine ⟨hw, fun hr => ?_⟩
            have hfn : s.spokeFn k = sp.fn := by rw [State.spokeFn, hsp]
            rw [hfn, ← hv.canMaster]
            exact State.leafRead_noAccess hr
          · obtain ⟨hkeep, hreach⟩ := ih (s := (v.leafRead sp leaf m off ans).1)
              (va := va + m) (n := n - m) (off := off + m)
            exact ⟨hw.trans hkeep, hw.reached.1 hreach⟩

theorem State.KeepsHost.spokeRead {k va n : Nat} {ans : HostAns} (h : s.KeepsHost u) :
    s.KeepsHost (u.spokeRead k va n ans).1 :=
  h.trans State.spokeReadLoop_access.1

theorem State.spokeRead_reached (s : State) (k va n : Nat) (ans : HostAns) :
    (s.spokeRead k va n ans).1.Reached k (s.spokeRead k va n ans).2 :=
  State.spokeReadLoop_access.1.reached.2 State.spokeReadLoop_access.2

end

end Sys2Proof.Machine
end

section
/-! PROOFS. Link power (R118, R119, R600): one link changes, and the change is reported. -/

namespace Sys2Proof.Machine
open Sys2Proof

/-- A change of width is reported and counted (R119, R600). -/
theorem State.setWidth_reports {s : State} {q w : Nat} (h : (s.port q).width ≠ w) :
    s.setWidth q w = ((s.setPort q { s.port q with width := w }).emit (.linkPm q w false)).rsat (aPortCnt q 5) 63 0 1 :=
  if_neg h

/-- Settles O12: each command acts under its conditions, and both changes of width are `setWidth`. -/
theorem linkPowerChangesOneLink : Obligations.LinkPowerChangesOneLink := by
  unfold Obligations.LinkPowerChangesOneLink
  refine ⟨?_, ?_, ?_⟩
  · intro s q hport hlink hen hctl
    exact (next_if hport).trans (congrArg _ (if_pos ⟨hlink, hen, hctl⟩))
  · intro s q hport hlink hen hctl hwidth
    refine (next_if hport).trans (congrArg _ ((if_pos ⟨hlink, hen, hctl, hwidth⟩).trans (State.setWidth_reports ?_)))
    omega
  · intro s q hport hlink hwidth
    exact (next_if ⟨hport, hlink⟩).trans (congrArg _ (State.setWidth_reports hwidth))

end Sys2Proof.Machine
end

section
/-! PROOFS. The end of the H9's own non-posted requests (R95, R120, R125, R133, R134): what a completion, a timeout and
the release of a tag leave. -/

namespace Sys2Proof.Machine
open Sys2Proof

/-! ### The end of a COPY -/

theorem withMarks_unmarked (st : Status) : withMarks st false false = st := by
  cases st <;> rfl

/-- An operation that has not ended takes the outcome that it is finished with. -/
theorem State.op_finish_self {s : State} {o : Nat} {x : Op} (hx : s.op o = some x) (hphase : x.phase ≠ .done) (st : Status)
    (n detail : Nat) :
    (s.finish o st n detail).op o = some { x with phase := .done, status := st, bytes := n, detail := detail } := by
  rw [State.op_finish, if_pos rfl, hx, Option.map_some, if_neg (by simpa using hphase)]

/-- A COPY that met no mark ends with the status and at the address of its failure. -/
theorem State.op_copyEnd_failed {s : State} {o : Nat} {x y : Op} {st : Status} (hx : s.op o = some x)
    (hphase : x.phase ≠ .done) (hpoisoned : y.poisoned = false) (hmedium : y.medium = false) (hst : st ≠ .success)
    (detail : Nat) :
    (s.copyEnd o y st detail).op o =
      some { x with phase := .done, status := st, bytes := min y.bytes (2 ^ 32 - 1), detail := detail } := by
  rw [State.copyEnd, hpoisoned, hmedium, withMarks_unmarked, State.op_finish_self hx hphase, if_neg (by simpa using hst)]

/-- The failure of a tagged read ends its COPY at the address read (R95). -/
theorem State.op_readFailed {s : State} {o : Nat} {x : Op} {st : Status} (hx : s.op o = some x)
    (hphase : x.phase ≠ .done) (hpoisoned : x.poisoned = false) (hmedium : x.medium = false) (hst : st ≠ .success)
    (va : Nat) :
    (s.readFailed o va st).op o =
      some { x with phase := .done, status := st, bytes := min x.bytes (2 ^ 32 - 1), detail := va } := by
  have hfailed : s.readFailed o va st = s.copyEnd o x st va := by
    simp [State.readFailed, hx, hphase]
  rw [hfailed, State.op_copyEnd_failed hx hphase hpoisoned hmedium hst]

theorem Req.errStatus_ne_success (r : Req) : r.errStatus ≠ .success := by
  unfold Req.errStatus
  split <;> decide

/-! ### The data of a COPY's read -/

/-- What writing the data of a tagged read leaves: the requests that are outstanding. -/
theorem State.reqs_pageFor (s : State) (k : Nat) (r : AccRes) (w : Waiter) :
    (s.pageFor k r w).host.reqs = s.host.reqs := by
  unfold State.pageFor State.pageRequest
  dsimp only
  split
  · rfl
  · split <;> rfl

theorem State.copyWrite_keepsHost (s : State) (k : Nat) (d : Bytes) (off : Nat) (b : Bytes) (ep : Bool) (ans : HostAns) :
    s.KeepsHost (s.copyWrite k d off b ep ans).1 := by
  unfold State.copyWrite
  exact .either_fst (.either_fst (.hbmWrite {}) {}) (.spokeWrite {})

theorem State.overlapFree_keepsHost (s : State) (d : Bytes) (off : Nat) (b : Bytes) :
    s.KeepsHost (s.overlapFree d off b).1 :=
  .either_fst {} {}

theorem State.reqs_copyFlush (s : State) (o : Nat) (x : Op) (q : Queue) (b : Bytes) (ep : Bool) (ans : HostAns) :
    (s.copyFlush o x q b ep ans).host.reqs = s.host.reqs := by
  have hfree := s.overlapFree_keepsHost x.desc x.bytes b
  have hwrite := (s.overlapFree x.desc x.bytes b).1.copyWrite_keepsHost q.spoke x.desc x.bytes
    (s.overlapFree x.desc x.bytes b).2 ep ans
  have hreqs := (hfree.trans hwrite).reqs
  unfold State.copyFlush
  dsimp only
  split
  · split <;> exact hreqs
  · split
    · rw [State.parkOp, State.reqs_pageFor]
      exact hreqs
    · exact hreqs

theorem State.reqs_copyGot (s : State) (o : Nat) (b : Bytes) (ep : Bool) (wr : HostAns) :
    (s.copyGot o b ep wr).host.reqs = s.host.reqs := by
  unfold State.copyGot
  dsimp only
  split
  · rfl
  · split
    · rfl
    · split
      · rw [State.reqs_copyFlush]
        rfl
      · rfl

/-! ### The commands -/

/-- A command for a tag of a port acts on it. -/
theorem next_tag {q tag : Nat} {t u : State} (hq : q < 40) (htag : tag < 16384) :
    (.next (if q < 40 ∧ tag < tagLimit then t else u) : Outcome) = .next t :=
  next_if ⟨hq, htag⟩

section
variable {s : State} {q tag : Nat} {r : Req}

/-- The state after a request has left its tag. -/
def State.freed (s : State) (q tag : Nat) : State := { s with host.reqs := Map.erase s.host.reqs (16384 * q + tag) }

theorem State.completion_quarantined (hr : Map.get s.host.reqs (16384 * q + tag) = some r) (hquar : r.quarantined = true)
    (f : Nat) (st : CplStatus) (data : Bytes) (ep : Bool) (wr : HostAns) :
    s.completion q tag f st data ep wr = s.rsat (aPortCnt q 1) 63 0 1 := by
  have hr' : Map.get s.host.reqs (reqKey q tag) = some r := hr
  rw [State.completion, hr']
  exact if_pos hquar

/-- A completion frees its tag and goes to what the request was for. -/
theorem State.completion_open (hr : Map.get s.host.reqs (16384 * q + tag) = some r) (hopen : r.quarantined = false)
    (f : Nat) (st : CplStatus) (data : Bytes) (ep : Bool) (wr : HostAns) :
    s.completion q tag f st data ep wr = match r.purpose with
      | .other _ => s.freed q tag
      | .forwarded g u _ => (s.freed q tag).emit (.cpl g u st (if st == .success then data else []) ep)
      | .copyRead o va n =>
        if st == .success then
          State.copyGot (if ep then (s.freed q tag).emit (.aer r.fn .poisonedTlp) else s.freed q tag) o (padTo n data) ep wr
        else (s.freed q tag).readFailed o va r.errStatus := by
  have hr' : Map.get s.host.reqs (reqKey q tag) = some r := hr
  rw [State.completion, hr']
  dsimp only
  rw [if_neg (by simp [hopen])]
  rfl

theorem State.completionTimeout_open (hr : Map.get s.host.reqs (16384 * q + tag) = some r) (hopen : r.quarantined = false) :
    s.completionTimeout q tag =
      let u := State.emit { s.freed q tag with now := max s.now (r.issued + 50_000_000) } (.aer r.fn .completionTimeout)
      match r.purpose with
      | .other _ => u
      | .forwarded g v _ => u.emit (.cpl g v .abort [] false)
      | .copyRead o va _ => u.readFailed o va .timeout := by
  have hr' : Map.get s.host.reqs (reqKey q tag) = some r := hr
  rw [State.completionTimeout, hr']
  dsimp only
  rw [if_neg (by simp [hopen])]
  rfl

end

/-- Settles O13: an ended request leaves its tag (`freed`), and a failed read ends its COPY (`op_readFailed`). -/
theorem completionsEndTheirRequest : Obligations.CompletionsEndTheirRequest := by
  unfold Obligations.CompletionsEndTheirRequest
  refine ⟨?_, ?_, ?_, ?_, ?_, ?_⟩
  · intro s q tag f st data ep wr hq htag hnone
    have hnone' : Map.get s.host.reqs (reqKey q tag) = none := hnone
    refine (next_tag hq htag).trans (congrArg _ ?_)
    rw [State.completion, hnone']
  · intro s q tag f st data ep wr r hq htag hr hquar
    have hr' : Map.get s.host.reqs (reqKey q tag) = some r := hr
    refine ⟨(next_tag hq htag).trans (congrArg _ (State.completion_quarantined hr hquar ..)),
      (next_tag hq htag).trans (congrArg _ ?_), (next_tag hq htag).trans (congrArg _ ?_)⟩
    · rw [State.completionTimeout, hr']
      exact if_pos hquar
    · rw [State.tagRelease, hr']
      exact if_neg (by simp [hquar])
  · intro s q tag f g u w st data ep wr r hq htag hr hopen hpurpose
    refine ⟨(next_tag hq htag).trans (congrArg _ ?_), (next_tag hq htag).trans (congrArg _ ?_)⟩
    · rw [State.completion_open hr hopen, hpurpose]
      rfl
    · rw [State.completionTimeout_open hr hopen, hpurpose]
      show State.emit (State.emit _ _) _ = _
      simp [State.emit, State.freed]
  · intro s q tag f o va n st data ep wr r x hq htag hr hopen hpurpose hx hphase hpoisoned hmedium hst
    refine ⟨_, next_tag hq htag, ?_⟩
    have hfailed : s.completion q tag f st data ep wr = (s.freed q tag).readFailed o va r.errStatus := by
      rw [State.completion_open hr hopen, hpurpose]
      exact if_neg (by simpa using hst)
    rw [hfailed]
    refine ⟨?_, ?_, ?_⟩
    · exact State.op_readFailed (s := s.freed q tag) hx hphase hpoisoned hmedium r.errStatus_ne_success va
    · rw [State.readFailed_frame]
      rfl
    · rw [State.readFailed_frame]
      rfl
  · intro s q tag f o va n data ep wr r hq htag hr hopen hpurpose
    refine ⟨_, next_tag hq htag, ?_⟩
    rw [State.completion_open hr hopen, hpurpose]
    dsimp only
    rw [if_pos (by rfl)]
    refine ⟨?_, fun hep => ?_⟩
    · rw [State.reqs_copyGot]
      split <;> rfl
    · rw [if_pos hep]
      refine ((State.Evolves.refl _).copyGot).out.subset ?_
      exact List.mem_append_right _ (List.mem_singleton.2 rfl)
  · intro s q tag o va n r x hq htag hr hopen hpurpose hx hphase hpoisoned hmedium
    refine ⟨_, next_tag hq htag, ?_⟩
    rw [State.completionTimeout_open hr hopen, hpurpose]
    dsimp only
    generalize hu : State.emit { s.freed q tag with now := max s.now (r.issued + 50_000_000) }
      (.aer r.fn .completionTimeout) = u
    have hop := State.op_readFailed (s := u) (st := .timeout) (by rw [← hu]; exact hx) hphase hpoisoned hmedium
      (by decide) va
    rw [State.readFailed_frame] at hop ⊢
    subst hu
    exact ⟨rfl, hop, rfl, rfl, rfl⟩

end Sys2Proof.Machine
end

section
/-! PROOFS. Host translations and page requests (R109, R110, R111, R206, R207): what an invalidation takes, and how a
page request ends for an operation that waits for it. -/

namespace Sys2Proof.Machine
open Sys2Proof

/-! ### Invalidation -/

/-- Marking reads to be made again changes requests and operations only (R109). -/
theorem State.readAgain_frame (s : State) (l : List (Nat × Nat)) :
    ∃ reqs ops, l.foldl (fun s (h : Nat × Nat) =>
      State.modOp { s with host.reqs := Map.modify s.host.reqs h.1 fun r => { r with purpose := .other h.2 } } h.2
        fun x => { x with reading := false }) s = { s with host.reqs := reqs, host.ops := ops } :=
  List.foldlRecOn l _ (motive := fun t : State => ∃ reqs ops, t = { s with host.reqs := reqs, host.ops := ops })
    ⟨_, _, rfl⟩ fun t ht h _ => by
    obtain ⟨reqs, ops, rfl⟩ := ht
    exact ⟨_, _, rfl⟩

/-! ### Page requests -/

/-- What a page request is for: a page of a function, by its PASID. -/
def PageReq.key (p : PageReq) : Nat × Option Nat × Nat := (p.fn, p.pasid, p.page)

/-- What sending page requests leaves (R110): the pages requested, and all but them and what was sent. -/
structure State.SendsPages (s t : State) : Prop where
  keys : t.host.pageReqs.map PageReq.key = s.host.pageReqs.map PageReq.key
  frame : t = { s with host.pageReqs := t.host.pageReqs, out := t.out }

theorem State.sendPages_sends (s : State) (f : Nat) : s.SendsPages (s.sendPages f) :=
  List.foldlRecOn _ _ (motive := s.SendsPages) ⟨rfl, rfl⟩ fun t ht p _ => by
    dsimp only
    split
    · refine ⟨Eq.trans ?_ ht.keys, ?_⟩
      · rw [State.emit, List.map_map]
        refine List.map_congr_left fun r _ => ?_
        rw [Function.comp_apply]
        split <;> rfl
      · rw [State.emit, ht.frame]
    · exact ht

/-- No page request stands for a page of a function. -/
def State.noPage (s : State) (f : Nat) (pasid : Option Nat) (page : Nat) : Prop :=
  ∀ r, r ∈ s.host.pageReqs → ¬(r.fn = f ∧ r.pasid = pasid ∧ r.page = page)

theorem State.noPage_iff {s : State} {f page : Nat} {pasid : Option Nat} :
    s.noPage f pasid page ↔ (f, pasid, page) ∉ s.host.pageReqs.map PageReq.key := by
  simp [State.noPage, PageReq.key]

theorem State.noPage_sendPages {s : State} {f page : Nat} {pasid : Option Nat} (h : s.noPage f pasid page) (g : Nat) :
    (s.sendPages g).noPage f pasid page := by
  rw [State.noPage_iff, (s.sendPages_sends g).keys]
  exact State.noPage_iff.1 h

/-- A parked operation goes on once its page is there (R110). -/
theorem State.opPage_success {s : State} {o : Nat} {x : Op} (hx : s.op o = some x) (hphase : x.phase = .parked) :
    s.opPage o .success = s.modOp o fun x => { x with phase := .started } := by
  simp [State.opPage, hx, hphase]

/-- A parked COPY whose page does not come ends with the status, at the address it parked on (R207). -/
theorem State.opPage_copy_failed {s : State} {o : Nat} {x : Op} {q : Queue} {st : Status} (hx : s.op o = some x)
    (hphase : x.phase = .parked) (hqueue : s.queue x.queue = some q) (hkind : q.kind = .copy) (hst : st ≠ .success) :
    s.opPage o st = (s.modOp o fun x => { x with phase := .started }).copyEnd o x st x.parkAddr := by
  simp [State.opPage, hx, hphase, hqueue, hkind, hst]

/-- How that COPY ends (R207). -/
theorem State.op_opPage_copy_failed {s : State} {o : Nat} {x : Op} {q : Queue} {st : Status} (hx : s.op o = some x)
    (hphase : x.phase = .parked) (hqueue : s.queue x.queue = some q) (hkind : q.kind = .copy) (hst : st ≠ .success)
    (hpoisoned : x.poisoned = false) (hmedium : x.medium = false) :
    (s.opPage o st).op o = some { x with
      phase := .done, status := st, bytes := min x.bytes (2 ^ 32 - 1), detail := x.parkAddr } := by
  have hstarted : (s.modOp o fun x => { x with phase := .started }).op o = some { x with phase := .started } := by
    rw [State.op_modOp, if_pos rfl, hx, Option.map_some]
  rw [State.opPage_copy_failed hx hphase hqueue hkind hst,
    State.op_copyEnd_failed hstarted OpPhase.noConfusion hpoisoned hmedium hst]

/-- The end of a COPY changes operations only, as its start again does. -/
theorem State.opPage_copy_failed_frame {s : State} {o : Nat} {x : Op} {q : Queue} {st : Status} (hx : s.op o = some x)
    (hphase : x.phase = .parked) (hqueue : s.queue x.queue = some q) (hkind : q.kind = .copy) (hst : st ≠ .success) :
    s.opPage o st = { s with host.ops := (s.opPage o st).host.ops } := by
  rw [State.opPage_copy_failed hx hphase hqueue hkind hst]
  rfl

section
variable {s : State} {f o page : Nat} {pasid : Option Nat} {p : PageReq}

/-- The state in which the waiters of an answered page request go on: the request is gone. -/
def State.pageTaken (s : State) (f : Nat) (pasid : Option Nat) (page : Nat) : State :=
  { s with host.pageReqs := s.host.pageReqs.filter fun r => !(r.fn == f && r.pasid == pasid && r.page == page) }

theorem State.noPage_pageTaken (s : State) : (s.pageTaken f pasid page).noPage f pasid page := by
  intro r hr
  have h := (List.mem_filter.1 hr).2
  rintro ⟨rfl, rfl, rfl⟩
  simp at h

/-- The response to a page request for which one operation waits (R110). -/
theorem State.pageResponse_op (code : PageCode)
    (hfind : s.host.pageReqs.find? (fun p => p.fn == f && p.pasid == pasid && p.page == page && p.sent) = some p)
    (hwait : p.waiters = [.op o]) :
    s.pageResponse f pasid page code =
      ((s.pageTaken f pasid page).opPage o (if code == .success then .success else .translationFault)).sendPages f := by
  have hp := List.find?_some hfind
  simp only [Bool.and_eq_true, beq_iff_eq] at hp
  obtain ⟨⟨⟨hfn, hpasid⟩, hpage⟩, -⟩ := hp
  rw [State.pageResponse, hfind]
  dsimp only
  rw [State.pageEnd, hwait, hfn, hpasid, hpage]
  rfl

theorem State.sendPages_op (g r : Nat) : (s.sendPages g).op r = s.op r ∧ (s.sendPages g).mem = s.mem := by
  rw [(s.sendPages_sends g).frame]
  exact ⟨rfl, rfl⟩

end

/-- Settles O14: an invalidation filters the cache, and each end of a page request is `opPage` of the operation that
waits, after which requests that waited are sent (`sendPages_frame`). -/
theorem translationEventsActOnTheirPages : Obligations.TranslationEventsActOnTheirPages := by
  unfold Obligations.TranslationEventsActOnTheirPages
  refine ⟨?_, ?_, ?_, ?_⟩
  · intro s f addr size pasid all hf
    refine ⟨_, next_if hf, ?_⟩
    unfold State.atsInvalidate
    extract_lets hits _ u v
    obtain ⟨reqs, ops, hv⟩ : ∃ reqs ops, v = { u with host.reqs := reqs, host.ops := ops } := u.readAgain_frame hits
    rw [hv]
    exact ⟨rfl, rfl, rfl, rfl⟩
  · intro s f o page pasid p x hfind hwait hx hphase
    refine ⟨_, rfl, ?_⟩
    have hx' : (s.pageTaken f pasid page).op o = some x := hx
    rw [State.pageResponse_op .success hfind hwait, if_pos (by rfl), State.opPage_success hx' hphase]
    refine ⟨?_, State.noPage_sendPages ?_ f, (State.sendPages_op f o).2⟩
    · rw [(State.sendPages_op f o).1, State.op_modOp, if_pos rfl, hx', Option.map_some]
    · exact s.noPage_pageTaken
  · intro s f o page pasid code p x q hfind hwait hx hphase hcode hqueue hkind hpoisoned hmedium
    refine ⟨_, rfl, ?_⟩
    have hx' : (s.pageTaken f pasid page).op o = some x := hx
    have hqueue' : (s.pageTaken f pasid page).queue x.queue = some q := hqueue
    have hst : Status.translationFault ≠ .success := by decide
    rw [State.pageResponse_op code hfind hwait, if_neg (by simpa using hcode)]
    have hframe := State.opPage_copy_failed_frame hx' hphase hqueue' hkind hst
    refine ⟨?_, State.noPage_sendPages ?_ f, (State.sendPages_op f o).2.trans ?_⟩
    · rw [(State.sendPages_op f o).1, State.op_opPage_copy_failed hx' hphase hqueue' hkind hst hpoisoned hmedium]
    · rw [hframe]
      exact s.noPage_pageTaken
    · rw [hframe]
      rfl
  · intro s o p x q hfind hx hphase hqueue hkind hpoisoned hmedium
    refine ⟨_, rfl, ?_⟩
    have hst : Status.timeout ≠ .success := by decide
    rw [State.pageTimeout, hfind]
    dsimp only
    generalize hu : ({ s with now := max s.now (p.since + s.priTimeout), host.pageReqs := _ } : State) = u
    have hx' : u.op o = some x := by rw [← hu]; exact hx
    have hqueue' : u.queue x.queue = some q := by rw [← hu]; exact hqueue
    have hframe := State.opPage_copy_failed_frame hx' hphase hqueue' hkind hst
    refine ⟨?_, State.op_opPage_copy_failed hx' hphase hqueue' hkind hst hpoisoned hmedium, ?_⟩
    · rw [State.wake, hframe, ← hu]
    · rw [State.wake, hframe, ← hu]

end Sys2Proof.Machine
end

section
/-! PROOFS. What events, deliveries and the end of work leave of the functions: their settings, the owners of the spokes,
and that a page is requested only for a function that may reach its memory (R110, R130, R133, R206). -/

namespace Sys2Proof.Machine
open Sys2Proof

-- One lemma after another: so many short ones, each in a thread of its own, outgrow the memory of a check.
set_option Elab.async false

/-- A function but for the messages that it holds (R115). -/
def FnState.settings (x : FnState) : FnState := { x with pba := [], msiPend := [] }

/-- The spokes, each with the function that owns it. -/
def State.owners (s : State) : List (Nat × Nat) := s.host.spokes.map fun p => (p.1, p.2.fn)

/-- The functions with page requests. -/
def State.pagers (s : State) : List Nat := s.host.pageReqs.map PageReq.fn

/-- What events, deliveries and the end of work keep: the functions but for held messages, and no new spoke; a page
request that is new is one of a function that may reach its memory. -/
structure State.KeepsFns (s t : State) : Prop where
  fns : ∀ g, (t.fn g).settings = (s.fn g).settings := by exact fun _ => rfl
  owners : t.owners ⊆ s.owners := by exact List.Subset.refl _
  pagers : ∀ g, s.canMaster g = false → g ∈ t.pagers → g ∈ s.pagers := by exact fun _ _ h => h

theorem State.KeepsFns.refl {s : State} : s.KeepsFns s := {}

theorem State.KeepsFns.canMaster {s t : State} (h : s.KeepsFns t) (g : Nat) : t.canMaster g = s.canMaster g :=
  (congrArg (fun x : FnState => x.bme && !x.d3hot && !x.flr) (h.fns g) :)

theorem State.KeepsFns.bme {s t : State} (h : s.KeepsFns t) (g : Nat) : (t.fn g).bme = (s.fn g).bme :=
  (congrArg FnState.bme (h.fns g) :)

theorem State.KeepsFns.flr {s t : State} (h : s.KeepsFns t) (g : Nat) : (t.fn g).flr = (s.fn g).flr :=
  (congrArg FnState.flr (h.fns g) :)

section
variable {s u v : State}

theorem State.KeepsFns.trans (h : s.KeepsFns u) (h' : u.KeepsFns v) : s.KeepsFns v where
  fns g := (h'.fns g).trans (h.fns g)
  owners := List.Subset.trans h'.owners h.owners
  pagers g hg hv := h.pagers g hg (h'.pagers g ((h.canMaster g).trans hg) hv)

theorem State.KeepsFns.either {c : Prop} {_ : Decidable c} (h : s.KeepsFns u) (h' : s.KeepsFns v) :
    s.KeepsFns (if c then u else v) := by
  split <;> assumption

theorem State.KeepsFns.either_fst {α : Type} {c : Prop} {_ : Decidable c} {p q : State × α}
    (h : s.KeepsFns p.1) (h' : s.KeepsFns q.1) : s.KeepsFns (if c then p else q).1 := by
  split <;> assumption

theorem State.KeepsFns.fold {α : Type} {l : List α} {op : State → α → State} (h : s.KeepsFns u)
    (hop : ∀ v a, s.KeepsFns v → s.KeepsFns (op v a)) : s.KeepsFns (l.foldl op u) :=
  List.foldlRecOn l op h fun _ hv a _ => hop _ a hv

theorem State.KeepsFns.fst_eq {α : Type} {p : State × α} {a : α} (h : s.KeepsFns p.1) (e : p = (v, a)) :
    s.KeepsFns v := by
  rw [e] at h
  exact h

theorem State.KeepsHost.keepsFns (h : s.KeepsHost u) : s.KeepsFns u where
  fns g := by rw [State.fn, State.fn, h.fns]
  owners := by rw [State.owners, State.owners, h.spokes]; exact List.Subset.refl _
  pagers g _ hg := by rwa [State.pagers, h.pageReqs] at hg

/-- Changing the waiters and the marks of page requests. -/
theorem State.KeepsFns.mapPages {f : PageReq → PageReq} (h : s.KeepsFns u)
    (hv : v = { u with host.pageReqs := u.host.pageReqs.map f } := by rfl) (hf : ∀ p, (f p).fn = p.fn := by intro; rfl) :
    s.KeepsFns v := by
  have hpagers : v.pagers = u.pagers := by
    rw [hv]
    exact (List.map_map ..).trans (List.map_congr_left fun p _ => hf p)
  refine h.trans { fns := fun g => ?_, owners := ?_, pagers := fun g _ hg => hpagers ▸ hg }
  · rw [hv]
    rfl
  · rw [hv]
    exact List.Subset.refl _

theorem State.KeepsFns.bump (h : s.KeepsFns u) : s.KeepsFns u.bump := h.trans {}

theorem State.KeepsFns.withTrg {x : TrgState} (h : s.KeepsFns u) : s.KeepsFns { u with trg := x } := h.trans {}

theorem State.KeepsFns.withXpt {x : XptState} (h : s.KeepsFns u) : s.KeepsFns { u with xpt := x } := h.trans {}

theorem State.KeepsFns.withCkp {x : CkpState} (h : s.KeepsFns u) : s.KeepsFns { u with ckp := x } := h.trans {}

theorem State.KeepsFns.withNvme {x : NvmeState} (h : s.KeepsFns u) : s.KeepsFns { u with nvme := x } := h.trans {}

theorem State.KeepsFns.modQueue {q : Nat} {g : Queue → Queue} (h : s.KeepsFns u) : s.KeepsFns (u.modQueue q g) :=
  h.trans {}

theorem State.KeepsFns.modOp {o : Nat} {g : Op → Op} (h : s.KeepsFns u) : s.KeepsFns (u.modOp o g) := h.trans {}

theorem State.KeepsFns.finish {o : Nat} {st : Status} {n detail : Nat} (h : s.KeepsFns u) :
    s.KeepsFns (u.finish o st n detail) := h.modOp

/-- A spoke's count of lost events changes, and not its owner. -/
theorem State.KeepsFns.dropEvent {k : Nat} (h : s.KeepsFns u) : s.KeepsFns (u.dropEvent k) := by
  refine h.trans { owners := fun x hx => ?_ }
  obtain ⟨⟨j, sp⟩, hp, rfl⟩ := List.mem_map.1 hx
  have hmem : (j, sp) ∈ Map.modify u.host.spokes k fun sp => { sp with eventsLost := satAdd 32 sp.eventsLost 1 } := hp
  unfold Map.modify at hmem
  split at hmem
  next y hy =>
    rcases Map.mem_put _ _ _ _ hmem with e | hin
    · cases e
      exact List.mem_map.2 ⟨(k, y), Map.mem_of_get hy, rfl⟩
    · exact List.mem_map_of_mem hin
  next => exact List.mem_map_of_mem hmem

/-! ### Messages, entries and events -/

theorem State.KeepsFns.setHeld {f : Nat} {pba msiPend : List Nat} (h : s.KeepsFns u) :
    s.KeepsFns (u.setFn f { u.fn f with pba := pba, msiPend := msiPend }) := by
  refine h.trans { fns := fun g => ?_ }
  rw [State.fn_setFn]
  split
  next e =>
    rw [← e]
    rfl
  next => rfl

theorem State.KeepsFns.interrupt {f v : Nat} (h : s.KeepsFns u) : s.KeepsFns (u.interrupt f v) :=
  .either (.either (h.trans {}) h.setHeld) (.either (.either (h.trans {}) h.setHeld) h)

theorem State.KeepsFns.sendHeld {f : Nat} (h : s.KeepsFns u) : s.KeepsFns (u.sendHeld f) :=
  .either h (.either (h.setHeld.trans {}) (.either (h.setHeld.trans {}) h))

theorem State.KeepsFns.sampleKind {k : QKind} {since : Option Nat} (h : s.KeepsFns u) :
    s.KeepsFns (u.sampleKind k since) := by
  unfold State.sampleKind
  split
  · exact h.trans {}
  · exact h

/-- A page is requested for an access that the host's translation refused. -/
theorem State.KeepsFns.pageFor {k : Nat} {r : AccRes} {w : Waiter} (h : s.KeepsFns u) (hr : u.Reached k r)
    (hpages : u.pages k r = true) : s.KeepsFns (u.pageFor k r w) := by
  have hmaster : u.canMaster (u.spokeFn k) = true := hr (by simp_all [State.pages])
  have hnew : ∀ v : State, v.host.fns = u.host.fns → v.host.spokes = u.host.spokes →
      v.pagers = u.pagers ++ [u.spokeFn k] → u.KeepsFns v := fun v hfns hspokes hpagers =>
    { fns := fun g => by rw [State.fn, State.fn, hfns]
      owners := by rw [State.owners, State.owners, hspokes]; exact List.Subset.refl _
      pagers := fun g hg hv => by
        rw [hpagers] at hv
        refine (List.mem_append.1 hv).resolve_right fun e => ?_
        rw [List.mem_singleton.1 e, hmaster] at hg
        cases hg }
  have hold : ∀ p : PageReq, (if p.fn == u.spokeFn k && p.pasid == (u.spoke k).bind Spoke.pasidOpt && p.page == r.page &&
      !p.waiters.contains w then { p with waiters := p.waiters ++ [w] } else p).fn = p.fn := fun p => by
    split <;> rfl
  have hlist : ∀ sent, ((u.host.pageReqs ++ [PageReq.mk (u.spokeFn k) ((u.spoke k).bind Spoke.pasidOpt) r.page sent u.now
      [w]]).map PageReq.fn) = u.pagers ++ [u.spokeFn k] := fun _ => List.map_append ..
  exact .either (h.mapPages rfl hold)
    (.either (h.trans (hnew _ rfl rfl (hlist _))) (h.trans (hnew _ rfl rfl (hlist _))))

theorem State.KeepsFns.writeEntry {ri : Nat} {r : Queue} {d : Due} {ans : HostAns} (h : s.KeepsFns u) :
    s.KeepsFns (u.writeEntry ri r d ans).1 := by
  unfold State.writeEntry
  dsimp only
  have hkeep : u.KeepsHost (u.spokeWrite r.spoke (r.base + 32 * (r.pi % r.size)) (d.bytes r.phase) false ans).1 :=
    .spokeWrite {}
  have hreach := u.spokeWrite_reached r.spoke (r.base + 32 * (r.pi % r.size)) (d.bytes r.phase) false ans
  generalize u.spokeWrite r.spoke (r.base + 32 * (r.pi % r.size)) (d.bytes r.phase) false ans = p at hkeep hreach ⊢
  obtain ⟨v, a⟩ := p
  have hv : s.KeepsFns v := h.trans hkeep.keepsFns
  split
  · split
    next hpages => exact hv.pageFor hreach hpages
    next => exact hv
  · split
    · exact .withTrg (.sampleKind (.either (.interrupt (hv.trans {})) (hv.trans {})))
    · exact .sampleKind (.either (.interrupt (hv.trans {})) (hv.trans {}))

theorem State.KeepsFns.flushList {ri : Nat} {ans : HostAns} {l : List Due} (h : s.KeepsFns u) :
    s.KeepsFns (u.flushList ri ans l).1 := by
  induction l generalizing u with
  | nil => exact h
  | cons d l ih =>
    unfold State.flushList
    dsimp only
    split
    · exact h
    · refine .either_fst (ih h) ?_
      split
      next heq => exact ih (h.writeEntry.fst_eq heq)
      next heq => exact h.writeEntry.fst_eq heq
      next heq => exact h.writeEntry.fst_eq heq

theorem State.KeepsFns.flushRing {ri : Nat} {ans : HostAns} (h : s.KeepsFns u) : s.KeepsFns (u.flushRing ri ans).1 := by
  unfold State.flushRing
  dsimp only
  split
  · exact h
  · exact .either h.flushList.modQueue.bump h.flushList.modQueue

theorem State.KeepsFns.postEvent {k code a b : Nat} {st : Status} {queue : Nat} (h : s.KeepsFns u) :
    s.KeepsFns (u.postEvent k code a b st queue) := by
  unfold State.postEvent
  dsimp only
  split
  · exact h.dropEvent
  · split
    · exact h.dropEvent
    · exact .either h.dropEvent h.modQueue.flushRing

theorem State.KeepsFns.postPf0 {hier code a b : Nat} {st : Status} {queue : Nat} (h : s.KeepsFns u) :
    s.KeepsFns (u.postPf0 hier code a b st queue) := by
  unfold State.postPf0
  split
  · exact h.postEvent
  · exact h

theorem State.KeepsFns.flush {ri : Nat} {ans : HostAns} (h : s.KeepsFns u) : s.KeepsFns (u.flush ri ans) := by
  unfold State.flush
  split
  next heq => exact h.flushRing.fst_eq heq
  next v _ heq =>
    have hv : s.KeepsFns v := h.flushRing.fst_eq heq
    split
    · exact hv.postEvent
    · exact hv

theorem State.KeepsFns.flushFn {f : Nat} (h : s.KeepsFns u) : s.KeepsFns (u.flushFn f) :=
  .fold h fun _ _ hv => hv.flush

/-! ### Counters and trigger entries -/

theorem State.KeepsFns.thawMirrors {f : Nat} (h : s.KeepsFns u) : s.KeepsFns (u.thawMirrors f) := by
  refine .fold h fun v p hv => ?_
  unfold State.mirrorWrite
  dsimp only
  split
  · exact hv
  next x _ =>
    have hw : s.KeepsFns (v.spokeWrite x.spoke x.mirror (toLe 8 x.value) false (.ok [] false)).1 :=
      hv.trans (State.KeepsHost.spokeWrite {}).keepsFns
    exact .either hv (.either (hv.trans {}) (.either (.either (.interrupt (hw.trans {})) (hw.trans {}))
      (.postEvent (.either (.interrupt (hw.trans {})) (hw.trans {})))))

theorem State.KeepsFns.addCredits {key n : Nat} (h : s.KeepsFns u) : s.KeepsFns (u.addCredits key n) := by
  have hrelease : ∀ m v, s.KeepsFns v → s.KeepsFns (v.release key m) := by
    intro m
    induction m with
    | zero => exact fun _ hv => hv
    | succ m ih =>
      intro v hv
      unfold State.release
      dsimp only
      split
      · exact hv
      · refine .either hv ?_
        split
        · exact hv
        · exact ih _ (hv.trans {})
  unfold State.addCredits
  dsimp only
  split
  · exact h
  · exact hrelease _ _ (h.trans {})

theorem State.KeepsFns.entryFail {key : Nat} {st : Status} (h : s.KeepsFns u) : s.KeepsFns (u.entryFail key st) := by
  unfold State.entryFail
  dsimp only
  split
  · exact h
  · exact .either h (.postEvent (.fold (h.trans {}) fun _ _ hv => hv.finish))

theorem State.KeepsFns.triggerMessage {spoke t : Nat} {st : Status} (h : s.KeepsFns u) :
    s.KeepsFns (u.triggerMessage spoke t st) := by
  unfold State.triggerMessage
  dsimp only
  split
  · exact h.withTrg
  · exact .either (.withTrg (.either h (h.trans {}))) (.either h.addCredits h.entryFail)

theorem State.KeepsFns.freeTrg {k : Nat} (h : s.KeepsFns u) : s.KeepsFns (u.freeTrg k) := by
  refine .withTrg (.fold h fun v e hv => ?_)
  unfold State.unbind
  dsimp only
  split
  · exact hv
  · exact .fold hv.withTrg fun _ _ hw => hw.finish

/-! ### Retired tiles, jobs and checkpoints -/

theorem State.KeepsFns.crFault {code detail : Nat} (h : s.KeepsFns u) : s.KeepsFns (u.crFault code detail) :=
  .either (h.trans {}) (h.trans {})

theorem State.KeepsFns.pldm {sensor st : Nat} (h : s.KeepsFns u) : s.KeepsFns (u.pldm sensor st) :=
  .either (h.trans {}) (h.trans {})

theorem State.KeepsFns.retireTray {cause : Nat} (h : s.KeepsFns u) : s.KeepsFns (u.retireTray cause) :=
  .either h (.bump (.pldm (.crFault (.postPf0 (.postPf0 (h.trans {}))))))

theorem State.KeepsFns.dropJob {j : Nat} (h : s.KeepsFns u) : s.KeepsFns (u.dropJob j) := by
  unfold State.dropJob
  dsimp only
  split
  · exact h
  · refine .fold (h.trans {}) fun v t hv => ?_
    unfold State.tileFreed
    split
    · exact .either (.retireTray (hv.trans {})) (hv.trans {})
    · exact hv.trans {}

theorem State.KeepsFns.failJob {j : Nat} {st : Status} {detail : Nat} (h : s.KeepsFns u) :
    s.KeepsFns (u.failJob j st detail) := by
  unfold State.failJob
  dsimp only
  split
  · exact h
  · exact h.modOp.dropJob.finish

theorem State.KeepsFns.reapJobs (h : s.KeepsFns u) : s.KeepsFns u.reapJobs :=
  .fold h fun _ _ hv => hv.dropJob

theorem State.KeepsFns.dropCkpt {k n : Nat} (h : s.KeepsFns u) : s.KeepsFns (u.dropCkpt k n) := by
  unfold State.dropCkpt
  dsimp only
  split
  · exact h
  · split
    · exact h
    · exact .fold (.withCkp (.either (h.trans {}) h)) fun _ _ hv => .postEvent (.either hv.withTrg hv)

theorem State.KeepsFns.failCkpt {k n : Nat} {st : Status} {m : Nat} (h : s.KeepsFns u) :
    s.KeepsFns (u.failCkpt k n st m) := by
  induction m generalizing u n with
  | zero => exact h
  | succ m ih =>
    unfold State.failCkpt
    split
    · exact h
    · split
      · exact h
      · extract_lets v w
        have hw : s.KeepsFns w := by
          unfold w
          split
          · exact h.dropCkpt.postEvent.finish
          · exact h.dropCkpt.postEvent
        exact .fold hw fun _ _ hv => ih hv

theorem State.KeepsFns.ckpFail {p : Session → Bool} {st : Status} (h : s.KeepsFns u) : s.KeepsFns (u.ckpFail p st) := by
  unfold State.ckpFail
  refine .fold h fun v e hv => ?_
  extract_lets w
  have hw : s.KeepsFns w := by
    unfold w
    split
    · exact hv.failCkpt
    · exact hv
  split
  · exact (hw.trans {}).finish
  · exact hw

theorem State.KeepsFns.reapCkp (h : s.KeepsFns u) : s.KeepsFns u.reapCkp := by
  unfold State.reapCkp
  extract_lets gone v dead w
  have hdrop : ∀ (l : List Ckpt) v k, s.KeepsFns v → s.KeepsFns (l.foldl (fun s c => s.dropCkpt k c.ckpt) v) :=
    fun _ _ _ hv => .fold hv fun _ _ hw => hw.dropCkpt
  have hv : s.KeepsFns v := by
    refine .fold h fun v p hv => ?_
    dsimp only
    split
    · exact .either ((hdrop _ _ _ hv).trans {}) (hdrop _ _ _ hv)
    · exact hdrop _ _ _ hv
  have hw : s.KeepsFns w := .fold hv fun _ _ hw => (hdrop _ _ _ hw).trans {}
  exact hw.withCkp

/-! ### Controllers -/

theorem State.KeepsFns.nvWrite {x : Ctrl} {va : Nat} {d : Bytes} {ans : HostAns} (h : s.KeepsFns u) :
    s.KeepsFns (u.nvWrite x va d ans).1 := by
  unfold State.nvWrite
  split
  · exact h.trans (State.KeepsHost.spokeWrite {}).keepsFns
  · exact h.trans (State.KeepsHost.leafWrite {}).keepsFns

theorem State.KeepsFns.nvFlush {c q : Nat} {ans : HostAns} (h : s.KeepsFns u) : s.KeepsFns (u.nvFlush c q ans) := by
  have hloop : ∀ n v, s.KeepsFns v → s.KeepsFns (v.nvFlushLoop c q ans n) := by
    intro n
    induction n with
    | zero => exact fun _ hv => hv
    | succ n ih =>
      intro v hv
      unfold State.nvFlushLoop
      dsimp only
      split
      · split
        · exact hv
        · exact .either hv (.either hv.nvWrite.withNvme
            (ih _ (.either hv.nvWrite.withNvme.interrupt hv.nvWrite.withNvme)))
      · exact hv
  unfold State.nvFlush
  split
  · exact hloop _ _ h
  · exact h

theorem State.KeepsFns.nvPost {c sq cid dw0 status : Nat} {ans : HostAns} (h : s.KeepsFns u) :
    s.KeepsFns (u.nvPost c sq cid dw0 status ans) := by
  unfold State.nvPost
  dsimp only
  split
  · exact h
  · exact h.withNvme.nvFlush

theorem State.KeepsFns.nvAbandon {p : NvCmd → Bool} (h : s.KeepsFns u) : s.KeepsFns (u.nvAbandon p) :=
  .fold h.withNvme fun _ _ hv => .fold hv.withNvme fun _ _ hw => hw.withNvme.nvPost

theorem State.KeepsFns.nvBmeClear {f : Nat} (h : s.KeepsFns u) : s.KeepsFns (u.nvBmeClear f) :=
  .fold h.nvAbandon fun _ _ hv => hv.withNvme.nvPost

theorem State.KeepsFns.nvResume {f : Nat} (h : s.KeepsFns u) : s.KeepsFns (u.nvResume f) :=
  .fold h fun _ _ hv => hv.nvFlush

theorem State.KeepsFns.freeNumber {n : Option Nat} (h : s.KeepsFns u) : s.KeepsFns (u.freeNumber n) := by
  unfold State.freeNumber
  split
  · exact h.trans {}
  · exact h

theorem State.KeepsFns.nvReset {c : Nat} (h : s.KeepsFns u) : s.KeepsFns (u.nvReset c) :=
  .withNvme (.withNvme (.fold h.nvAbandon fun _ _ hv => hv.freeNumber))

theorem State.KeepsFns.nvSpokeGone {k : Nat} (h : s.KeepsFns u) : s.KeepsFns (u.nvSpokeGone k) := by
  refine .fold h fun v p hv => ?_
  unfold State.dropCtrl
  extract_lets adm w x
  have hx : s.KeepsFns x := .nvReset (.fold hv fun _ _ hw => hw.freeNumber)
  clear_value x
  exact hx.withNvme

theorem State.KeepsFns.nvFuncReset {f : Nat} (h : s.KeepsFns u) : s.KeepsFns (u.nvFuncReset f) :=
  .either h h.nvReset.withNvme

end

end Sys2Proof.Machine
end

section
/-! PROOFS. Windows and configuration space (R103, R104, R107, R128, R129, R133): a commit copies a set of windows, and
setting or clearing Bus Master Enable delivers or ends work without touching any function's settings. -/

namespace Sys2Proof.Machine
open Sys2Proof

-- One lemma after another: so many short ones, each in a thread of its own, outgrow the memory of a check.
set_option Elab.async false

section
variable {s u v : State}

/-! ### Deliveries to connections -/

theorem State.KeepsFns.stream {c : Nat} {l : List (YPkt × Option Nat × Option Nat)} (h : s.KeepsFns u) :
    s.KeepsFns (u.stream c l) := by
  have hadmit : ∀ n v, s.KeepsFns v → s.KeepsFns (v.admitPkts c n) := by
    intro n
    induction n with
    | zero => exact fun _ hv => hv
    | succ n ih =>
      intro v hv
      unfold State.admitPkts
      split
      · exact hv
      · refine .either hv ?_
        split
        · split
          · exact ih _ (hv.trans {})
          · exact hv
        · exact hv
  unfold State.stream
  dsimp only
  split
  · exact h
  · exact hadmit _ _ h.withXpt

theorem State.KeepsFns.placeFail {k : Nat} {r : AccRes} (h : s.KeepsFns u) (hr : u.Reached k r) :
    s.KeepsFns (u.placeFail k r).1 := by
  unfold State.placeFail
  refine .either_fst (.either_fst h ?_) (.either_fst h h)
  split
  next hpages => exact h.pageFor hr hpages
  next => exact h

theorem State.KeepsFns.placeBytes {k va : Nat} {b : Bytes} {ep : Bool} {ans : HostAns} (h : s.KeepsFns u) :
    s.KeepsFns (u.placeBytes k va b ep ans).1 := by
  have hw : s.KeepsFns (u.spokeWrite k va b ep ans).1 := h.trans (State.KeepsHost.spokeWrite {}).keepsFns
  unfold State.placeBytes
  dsimp only
  exact .either_fst h (.either_fst hw (hw.placeFail (u.spokeWrite_reached k va b ep ans)))

/-- Reading the bytes of packets: what it leaves, and when the host's translation may have refused it. -/
theorem State.readPackets_access {k va m n off len : Nat} {ans : HostAns} :
    s.KeepsHost (s.readPackets k va m ans n off len).1 ∧ s.Reached k (s.readPackets k va m ans n off len).2.2 := by
  induction n generalizing s off with
  | zero => exact ⟨{}, fun h => nomatch h⟩
  | succ n ih =>
    unfold State.readPackets
    extract_lets w a
    split
    · exact ⟨{}, fun h => nomatch h⟩
    · have hkeep : s.KeepsHost (s.spokeRead k (va + off) w a).1 := .spokeRead {}
      have hreach := s.spokeRead_reached k (va + off) w a
      dsimp only
      split
      · exact ⟨hkeep, hkeep.reached.1 hreach⟩
      · obtain ⟨hrest, hlast⟩ := ih (s := (s.spokeRead k (va + off) w a).1) (off := off + w)
        exact ⟨hkeep.trans hrest, hkeep.reached.1 hlast⟩

theorem State.KeepsFns.serveRead {c : Nat} {k : Conn} {p : YPkt} {ans : HostAns} (h : s.KeepsFns u) :
    s.KeepsFns (u.serveRead c k p ans).1 := by
  unfold State.serveRead
  extract_lets len m st
  obtain ⟨hkeep, hreach⟩ := State.readPackets_access (s := u) (k := k.spoke) (va := (u.region p.key).addr + p.offset)
    (m := m) (n := len / m + 1) (off := 0) (len := len) (ans := ans)
  have hread := h.trans hkeep.keepsFns
  have hfail := hread.placeFail (hkeep.reached.2 hreach)
  refine .either_fst h (.either_fst h.stream (.either_fst h ?_))
  dsimp only
  refine .either_fst hread.stream ?_
  split
  next heq => exact hfail.fst_eq heq
  next heq => exact hfail.fst_eq heq

theorem State.KeepsFns.serveWrite {k : Conn} {p : YPkt} {ans : HostAns} (h : s.KeepsFns u) :
    s.KeepsFns (u.serveWrite k p ans).1 := by
  unfold State.serveWrite
  dsimp only
  refine .either_fst h (.either_fst h ?_)
  split
  next heq => exact h.placeBytes.fst_eq heq
  next heq => exact h.placeBytes.fst_eq heq
  next heq => exact h.placeBytes.fst_eq heq

theorem State.KeepsFns.rejectY {c : Nat} {p : YPkt} {st : Status} (h : s.KeepsFns u) :
    s.KeepsFns (u.rejectY c p st) := by
  unfold State.rejectY
  dsimp only
  split
  · exact h
  · exact .either h.withXpt.stream.postEvent h.withXpt.stream

theorem State.KeepsFns.place {c : Nat} {k : Conn} {p : YPkt} {ans : HostAns} (h : s.KeepsFns u) :
    s.KeepsFns (u.place c k p ans).1 := by
  have hserved : s.KeepsFns (if p.opcode = 3 then u.serveRead c k p ans else u.serveWrite k p ans).1 :=
    .either_fst h.serveRead h.serveWrite
  unfold State.place
  split
  next heq => exact (hserved.fst_eq heq).withXpt
  next heq => exact (hserved.fst_eq heq).rejectY
  next heq => exact hserved.fst_eq heq

theorem State.KeepsFns.drain {c : Nat} {ans : HostAns} {l : List YPkt} (h : s.KeepsFns u) :
    s.KeepsFns (u.drain c ans l) := by
  induction l generalizing u with
  | nil => exact h
  | cons p l ih =>
    unfold State.drain
    split
    · exact h
    · refine .either (ih h) ?_
      split
      next heq => exact ih (h.place.fst_eq heq)
      next heq => exact ih (h.place.fst_eq heq).withXpt

theorem State.KeepsFns.notify {c rxCq : Nat} {m : InMsg} {ans : HostAns} (h : s.KeepsFns u) :
    s.KeepsFns (u.notify c rxCq m ans) := by
  unfold State.notify
  dsimp only
  refine .either h ?_
  split
  · exact h
  · exact h.modQueue.flush

theorem State.KeepsFns.settleLoop {c n : Nat} {ans : HostAns} (h : s.KeepsFns u) :
    s.KeepsFns (u.settleLoop c ans n) := by
  induction n generalizing u with
  | zero => exact h
  | succ n ih =>
    unfold State.settleLoop
    split
    · exact h
    · refine .either h ?_
      dsimp only
      split
      · exact h
      · exact .either (ih h.withXpt.notify) (ih (.either (.drain (.either h.withXpt.triggerMessage h.withXpt))
          (.either h.withXpt.triggerMessage h.withXpt)))

theorem State.KeepsFns.settleXpt {ans : HostAns} (h : s.KeepsFns u) : s.KeepsFns (u.settleXpt ans) := by
  refine .fold h fun v c hv => ?_
  unfold State.settle
  dsimp only
  split
  · exact hv
  · refine .either hv ?_
    split
    · exact hv.drain.settleLoop
    · exact .either hv.drain.settleLoop.withXpt hv.drain.settleLoop

/-! ### Bus Master Enable -/

theorem State.KeepsFns.sendPages {f : Nat} (h : s.KeepsFns u) : s.KeepsFns (u.sendPages f) :=
  .fold h fun _ p hv => .either (.trans (hv.mapPages
    (f := fun r => if r.fn = f && r.pasid == p.pasid && r.page == p.page then { r with sent := true } else r) rfl
    fun r => by split <;> rfl) {}) hv

theorem State.KeepsFns.deliverFn {f : Nat} (h : s.KeepsFns u) : s.KeepsFns (u.deliverFn f) :=
  .either h (.sendPages (.nvResume (.settleXpt (.either h.flushFn.sendHeld h.flushFn.sendHeld.thawMirrors))))

theorem State.KeepsFns.bmeStopFn {f : Nat} (h : s.KeepsFns u) : s.KeepsFns (u.bmeStopFn f) := by
  unfold State.bmeStopFn
  extract_lets jobs v w keep l x qs pr fr _ _ y
  have hx : s.KeepsFns x := .fold (State.KeepsFns.ckpFail (.fold h fun _ _ hv => hv.failJob)) fun _ _ hw => hw.modOp
  have hy : s.KeepsFns y := by
    clear_value x
    exact .mapPages (hx.trans (v := { x with host.queues := qs, sch.queues := fr }) {}) rfl
  exact hy.nvBmeClear.bump

end

/-- What setting Bus Master Enable delivers keeps it set (R130, R131). -/
theorem State.bme_bmeSet (s : State) (f : Nat) : ((s.bmeSet f).fn f).bme = true := by
  unfold State.bmeSet
  split
  next hbme => exact hbme
  next =>
    rw [(State.KeepsFns.refl.deliverFn).bme, State.modFn, State.fn_setFn_self]

/-- What clearing Bus Master Enable ends keeps it clear (R130). -/
theorem State.bme_bmeClear (s : State) (f : Nat) : ((s.bmeClear f).fn f).bme = false := by
  unfold State.bmeClear
  extract_lets x u
  have hfn : u.fn f = { x with bme := false, bmeTime := s.now } := State.fn_setFn_self ..
  clear_value u
  split
  next hbme => simpa [x] using hbme
  next =>
    split
    · rw [hfn]
    · rw [State.KeepsFns.refl.bmeStopFn.bme, hfn]

/-! ### Windows -/

theorem State.rfield_rset_self (s : State) (a x : Nat) {hi lo : Nat} (h : lo ≤ hi) :
    (s.rset a hi lo x).rfield a hi lo = x % 2 ^ (hi + 1 - lo) := by
  rw [State.rfield, State.rset, State.rget_rput_self, bits_setBits_self _ _ h]

theorem State.rfield_rset_apart (s : State) (a x : Nat) {hi lo b c : Nat} (h : lo ≤ hi) (hbc : b < lo ∨ hi < c) :
    (s.rset a hi lo x).rfield a b c = s.rfield a b c := by
  rw [State.rfield, State.rset, State.rget_rput_self, bits_setBits_apart _ _ h hbc, State.rfield]

theorem State.rfield_rset_of_ne (s : State) {a b : Nat} (hi lo x c d : Nat) (h : a ≠ b) :
    (s.rset a hi lo x).rfield b c d = s.rfield b c d := by
  rw [State.rfield, State.rget_rset_of_ne _ _ _ _ h, State.rfield]

section
variable (s : State) (q : Nat)

theorem aWinGen_ne_aWinCtl : aWinGen q ≠ aWinCtl q := by
  unfold aWinGen aWinCtl
  omega

/-- Showing the requests in flight keeps every register but the two that show them (R129). -/
theorem State.winShow_rget {off : Nat} (hgen : off ≠ aWinGen q) (hctl : off ≠ aWinCtl q) :
    (s.winShow q).rget off = s.rget off := by
  rw [State.winShow, State.rget_rset_of_ne _ _ _ _ hctl.symm, State.rget_rset_of_ne _ _ _ _ hgen.symm]

theorem State.winShow_generation : (s.winShow q).rfield (aWinGen q) 31 0 = s.rfield (aWinGen q) 31 0 := by
  rw [State.winShow, State.rfield_rset_of_ne _ _ _ _ _ _ (aWinGen_ne_aWinCtl q).symm,
    State.rfield_rset_apart _ _ _ (by decide) (.inl (by decide))]

theorem State.winShow_busy : (s.winShow q).rfield (aWinCtl q) 1 1 =
    b2n (s.host.winReqs.any fun x => x.2.q == q && x.2.gen == (s.rfield (aWinGen q) 31 0 + 2 ^ 32 - 1) % 2 ^ 32) := by
  rw [State.winShow, State.rfield_rset_self _ _ _ (by decide)]
  exact Nat.mod_eq_of_lt (by unfold b2n; split <;> decide)

end

/-- Registers copied 0x800 above themselves, in turn (R128). -/
def State.copyUp (s : State) (l : List Nat) : State := l.foldl (fun s a => s.rput (a + 0x800) (s.rget a)) s

theorem State.copyUp_frame (s : State) (l : List Nat) : s.copyUp l = { s with regs := (s.copyUp l).regs } :=
  List.foldlRecOn l _ (motive := fun t : State => t = { s with regs := t.regs }) rfl fun t ht a _ => by
    rw [State.rput, ht]

/-- A register that is no target of the copying stays. -/
theorem State.copyUp_rget_source {s : State} {l : List Nat} {off : Nat} (h : ∀ a ∈ l, a + 0x800 ≠ off) :
    (s.copyUp l).rget off = s.rget off :=
  List.foldlRecOn l _ (motive := fun t : State => t.rget off = s.rget off) rfl fun _ ht a ha =>
    (State.rget_rput_of_ne _ _ (h a ha)).trans ht

/-- A target of the copying holds what its source held, when no source is a target. -/
theorem State.copyUp_rget_target {s : State} {l : List Nat} (h : ∀ a ∈ l, ∀ b ∈ l, b + 0x800 ≠ a) {a : Nat} (ha : a ∈ l) :
    (s.copyUp l).rget (a + 0x800) = s.rget a := by
  induction l using List.reverseRecOn with
  | nil => cases ha
  | append_singleton l x ih =>
    have hin : ∀ b ∈ l, b ∈ l ++ [x] := fun b hb => List.mem_append_left _ hb
    have hlast : s.copyUp (l ++ [x]) = (s.copyUp l).rput (x + 0x800) ((s.copyUp l).rget x) := by
      rw [State.copyUp, List.foldl_append]
      rfl
    rw [hlast, State.rget_rput]
    split
    next e =>
      obtain rfl : x = a := by omega
      exact State.copyUp_rget_source fun b hb => h x ha b (hin b hb)
    next e =>
      have hne : a ≠ x := fun e' => e (by rw [e'])
      exact ih (fun b hb c hc => h b (hin b hb) c (hin c hc))
        ((List.mem_append.1 ha).resolve_right fun e' => hne (List.mem_singleton.1 e'))

/-- The words of a port's shadow windows. -/
def shadowWords (q : Nat) : List Nat := (List.range 64).flatMap fun w => (List.range 4).map fun i => aWinBase q w + 8 * i

theorem mem_shadowWords {q a : Nat} : a ∈ shadowWords q ↔ ∃ w < 64, ∃ i < 4, a = aWinBase q w + 8 * i := by
  simp [shadowWords, eq_comm]

/-- Shadow words lie in the lower 0x800 bytes of their port's block. -/
theorem shadowWords_range {q a : Nat} (h : a ∈ shadowWords q) : 0x110000 + 0x2000 * q ≤ a ∧ a < 0x110800 + 0x2000 * q := by
  obtain ⟨w, hw, i, hi, rfl⟩ := mem_shadowWords.1 h
  unfold aWinBase
  omega

theorem State.winAt_congr {s t : State} {a b : Nat} (h : ∀ i < 4, t.rget (b + 8 * i) = s.rget (a + 8 * i)) :
    t.winAt b = s.winAt a := by
  have h0 := h 0 (by decide)
  have h1 := h 1 (by decide)
  have h2 := h 2 (by decide)
  have h3 := h 3 (by decide)
  simp only [Nat.mul_zero, Nat.add_zero, Nat.mul_one, Nat.reduceMul] at h0 h1 h2 h3
  simp only [State.winAt, h0, h1, h2, h3]

section
variable {s : State} {q : Nat}

/-- The state after an accepted commit (R128, R129). -/
theorem State.windowCommit_accepted (hidle : s.rfield (aWinCtl q) 1 1 = 0) (hgood : s.winFailing q = none) :
    s.windowCommit q = (((s.copyUp (shadowWords q)).rset (aWinGen q) 31 0
      ((s.copyUp (shadowWords q)).rfield (aWinGen q) 31 0 + 1)).winShow q) := by
  have hcopy : s.copyUp (shadowWords q) = (List.range 64).foldl (fun s w => (List.range 4).foldl (fun s i =>
      s.rput (aWinBase q w + 8 * i + 0x800) (s.rget (aWinBase q w + 8 * i))) s) s := by
    rw [State.copyUp, shadowWords, List.foldl_flatMap]
    simp only [List.foldl_map]
  rw [State.windowCommit, if_neg (by omega), hgood, hcopy]

/-- What an accepted commit leaves in a register that neither shows the requests in flight nor counts generations. -/
theorem State.windowCommit_rget (hidle : s.rfield (aWinCtl q) 1 1 = 0) (hgood : s.winFailing q = none) {off : Nat}
    (hoff : off < 0x111000 + 0x2000 * q) : (s.windowCommit q).rget off = (s.copyUp (shadowWords q)).rget off := by
  have hgen : off ≠ aWinGen q := by unfold aWinGen; omega
  have hctl : off ≠ aWinCtl q := by unfold aWinCtl; omega
  rw [State.windowCommit_accepted hidle hgood, State.winShow_rget _ _ hgen hctl, State.rget_rset_of_ne _ _ _ _ hgen.symm]

/-- An accepted commit makes the shadow windows current and keeps them. -/
theorem State.windowCommit_windows (hidle : s.rfield (aWinCtl q) 1 1 = 0) (hgood : s.winFailing q = none) {w : Nat}
    (hw : w < 64) :
    (s.windowCommit q).winCurrent q w = s.winShadow q w ∧ (s.windowCommit q).winShadow q w = s.winShadow q w := by
  have hword : ∀ i < 4, aWinBase q w + 8 * i ∈ shadowWords q := fun i hi => mem_shadowWords.2 ⟨w, hw, i, hi, rfl⟩
  have hapart : ∀ a ∈ shadowWords q, ∀ b ∈ shadowWords q, b + 0x800 ≠ a := fun a ha b hb => by
    have := shadowWords_range ha
    have := shadowWords_range hb
    omega
  refine ⟨State.winAt_congr fun i hi => ?_, State.winAt_congr fun i hi => ?_⟩
  · have hrange := shadowWords_range (hword i hi)
    rw [Nat.add_right_comm, State.windowCommit_rget hidle hgood (by omega)]
    exact State.copyUp_rget_target hapart (hword i hi)
  · have hrange := shadowWords_range (hword i hi)
    rw [State.windowCommit_rget hidle hgood (by omega)]
    exact State.copyUp_rget_source (hapart _ (hword i hi))

/-- An accepted commit raises GENERATION by one, modulo 2^32 (R128). -/
theorem State.windowCommit_generation (hidle : s.rfield (aWinCtl q) 1 1 = 0) (hgood : s.winFailing q = none) :
    (s.windowCommit q).rfield (aWinGen q) 31 0 = (s.rfield (aWinGen q) 31 0 + 1) % 2 ^ 32 := by
  have hgen : (s.copyUp (shadowWords q)).rget (aWinGen q) = s.rget (aWinGen q) :=
    State.copyUp_rget_source fun a ha => by
      have := shadowWords_range ha
      unfold aWinGen
      omega
  rw [State.windowCommit_accepted hidle hgood, State.winShow_generation, State.rfield_rset_self _ _ _ (by decide),
    State.rfield, hgen, State.rfield]

theorem State.windowCommit_frame (hidle : s.rfield (aWinCtl q) 1 1 = 0) (hgood : s.winFailing q = none) :
    s.windowCommit q = { s with regs := (s.windowCommit q).regs } := by
  rw [State.windowCommit_accepted hidle hgood, State.copyUp_frame]
  generalize (s.copyUp (shadowWords q)).regs = copied
  rfl

end

/-! ### Configuration requests -/

/-- Waking a link changes its port only. -/
theorem State.wakeLink_frame (s : State) (q : Nat) : s.wakeLink q = { s with host.ports := (s.wakeLink q).host.ports } :=
  rfl

/-- A configuration request while the link is in L0 and before the H9 is ready (R133). -/
theorem State.configRequest_retry {s : State} {f : Nat} (c : CfgField) (wr : Option Nat)
    (hlink : (s.port (upPort f)).link = .l0) (hready : s.brd.scReleased = false) (hsoft : s.brd.soft = none) :
    s.configRequest f c wr = (s.wakeLink (upPort f)).emit (.cfgCpl f .retry 0) := by
  unfold State.configRequest
  extract_lets up u
  have hup : up.link = .l0 := hlink
  have hu : (!u.brd.scReleased && u.brd.soft.isNone) = true := by
    show (!s.brd.scReleased && s.brd.soft.isNone) = true
    rw [hready, hsoft]
    rfl
  rw [if_neg (by simp [hup]), if_pos hu]

/-- A configuration request for a field of a function that is not in FLR, once the H9 is ready (R103, R133). -/
theorem State.configRequest_fn {s : State} {f : Nat} {c : CfgField} (wr : Option Nat)
    (hlink : (s.port (upPort f)).link = .l0) (hready : s.brd.scReleased = true) (hc : portOf c = none)
    (hflr : (s.fn f).flr = false) :
    s.configRequest f c wr = match wr with
      | none => (s.wakeLink (upPort f)).emit (.cfgCpl f .success ((s.wakeLink (upPort f)).cfgRead f c))
      | some v => ((s.wakeLink (upPort f)).cfgWriteFn f c v).emit (.cfgCpl f .success 0) := by
  unfold State.configRequest
  extract_lets up u
  have hup : up.link = .l0 := hlink
  have hu : ¬(!u.brd.scReleased && u.brd.soft.isNone) = true := by
    show ¬(!s.brd.scReleased && s.brd.soft.isNone) = true
    rw [hready]
    simp
  have hfn : ¬(u.fn f).flr = true := by
    show ¬(s.fn f).flr = true
    rw [hflr]
    simp
  rw [if_neg (by simp [hup]), if_neg hu, hc]
  exact if_neg hfn

/-- Reading a field of a function does not ask for its link. -/
theorem State.cfgRead_wakeLink (s : State) (q f : Nat) {c : CfgField} (hc : portOf c = none) :
    (s.wakeLink q).cfgRead f c = s.cfgRead f c := by
  cases c <;> first | rfl | cases hc

/-- Settles O17: a commit copies the shadow words up (`copyUp`), and Bus Master Enable keeps the value written through all
that it delivers or ends (`KeepsFns`). -/
theorem windowsAndConfigurationSpaceFollowTheirRequests :
    Obligations.WindowsAndConfigurationSpaceFollowTheirRequests := by
  unfold Obligations.WindowsAndConfigurationSpaceFollowTheirRequests
  refine ⟨?_, ?_, ?_, ?_, ?_, ?_, ?_, ?_⟩
  · intro s q hq hbusy
    exact (next_if hq).trans (congrArg _ (if_pos hbusy))
  · intro s q w hq hidle hbad
    refine (next_if hq).trans (congrArg _ ?_)
    rw [State.windowCommit, if_neg (by omega), hbad]
  · intro s q hq hidle hgood
    exact ⟨_, next_if hq, fun w hw => State.windowCommit_windows hidle hgood hw,
      State.windowCommit_generation hidle hgood, State.windowCommit_frame hidle hgood⟩
  · intro s i r hr hreqs
    refine ⟨_, rfl, ?_⟩
    have hdone : s.windowDone i = State.winShow { s with host.winReqs := Map.erase s.host.winReqs i } r.q := by
      rw [State.windowDone, hr]
      simp [hreqs]
    rw [hdone]
    exact ⟨rfl, rfl, State.winShow_busy ..⟩
  · intro s h n hh hmse hlow hhigh
    exact (next_if hh).trans (congrArg _ (if_neg (by rw [hmse]; simp; omega)))
  · intro s f c wr hf hlink hready hsoft
    refine ⟨_, next_if hf, ?_⟩
    rw [State.configRequest_retry c wr hlink hready hsoft]
    exact ⟨rfl, rfl, rfl⟩
  · intro s f c hf hlink hready hc hflr
    refine ⟨_, next_if hf, ?_⟩
    rw [State.configRequest_fn none hlink hready hc hflr]
    dsimp only
    rw [State.cfgRead_wakeLink _ _ _ hc]
    exact ⟨rfl, rfl, rfl⟩
  · intro s f v hf hlink hready hflr
    refine ⟨⟨_, next_if hf, ?_⟩, ⟨_, next_if hf, ?_⟩⟩
    · rw [State.configRequest_fn (some v) hlink hready rfl hflr]
      exact ⟨State.fn_setFn_self .., rfl⟩
    · rw [State.configRequest_fn (some v) hlink hready rfl hflr]
      refine ⟨?_, List.mem_append_right _ (List.mem_singleton.2 rfl)⟩
      show ((State.cfgWriteFn _ f .busMaster v).fn f).bme = bit v 0
      unfold State.cfgWriteFn
      dsimp only
      split
      next hbit => rw [State.bme_bmeSet, hbit]
      next hbit => rw [State.bme_bmeClear, Bool.eq_false_of_not_eq_true hbit]

end Sys2Proof.Machine
end


section
/-! PROOFS. Function-level reset (R133, R134, R576): the function's spokes, page requests, held messages and mailbox are
gone when it starts, and its settings are those of a reset when it ends. -/

namespace Sys2Proof.Machine
open Sys2Proof

-- One lemma after another: so many short ones, each in a thread of its own, outgrow the memory of a check.
set_option Elab.async false

/-! ### The end of connections, queues and spokes -/

section
variable {s u v : State}

theorem State.KeepsFns.flushConn {c : Nat} {k : Conn} {bad : Option Nat} {st : Status} (h : s.KeepsFns u) :
    s.KeepsFns (u.flushConn c k bad st) := by
  unfold State.flushConn
  dsimp only
  refine .fold (.fold h fun _ _ hv => .either hv.finish hv.finish) fun v o hv => ?_
  have hunhold : s.KeepsFns (v.unhold o) := hv.withTrg
  split
  · exact .either hunhold.finish (.either hv hv.finish)
  · exact hv

theorem State.KeepsFns.excludePeer {c cause : Nat} (h : s.KeepsFns u) : s.KeepsFns (u.excludePeer c cause) := by
  unfold State.excludePeer
  dsimp only
  split
  · exact h
  · split
    · exact h
    · exact .either h (.postEvent (h.trans {}))

theorem State.KeepsFns.killConn {c : Nat} {flush : Bool} {wait : Option (Nat × Nat)} (h : s.KeepsFns u) :
    s.KeepsFns (u.killConn c flush wait) := by
  unfold State.killConn
  dsimp only
  split
  · exact h
  next k _ =>
    refine .either h ?_
    have hv : s.KeepsFns (if flush then u.flushConn c k none .flushed else u) := .either h.flushConn h
    generalize (if flush then u.flushConn c k none .flushed else u) = v at hv ⊢
    exact .excludePeer (hv.trans {})

theorem State.KeepsFns.abandonOp {o : Nat} (h : s.KeepsFns u) : s.KeepsFns (u.abandonOp o) := by
  have hpages : s.KeepsFns { u with
      host.pageReqs := u.host.pageReqs.map fun p => { p with waiters := p.waiters.filter (· != .op o) } } := h.mapPages
  exact hpages.trans {}

theorem State.KeepsFns.destroyQueue {q : Nat} (h : s.KeepsFns u) : s.KeepsFns (u.destroyQueue q).1 := by
  have hops : s.KeepsFns ((u.opsOf q).foldl State.abandonOp u) := .fold h fun _ _ hv => hv.abandonOp
  exact hops.trans {}

theorem State.KeepsFns.releaseLock {f : Nat} (h : s.KeepsFns u) : s.KeepsFns (u.releaseLock f) :=
  .either (h.trans {}) h

theorem State.KeepsFns.dropRequests {f : Nat} (h : s.KeepsFns u) : s.KeepsFns (u.dropRequests f) := h.trans {}

/-- A spoke that is taken out of a table in rising order has no owner left. -/
theorem State.not_mem_owners_erase {k g : Nat} (hwf : Map.wf u.host.spokes = true)
    (hv : v.host.spokes = Map.erase u.host.spokes k) : (k, g) ∉ v.owners := fun hmem => by
  obtain ⟨⟨j, x⟩, hx, e⟩ := List.mem_map.1 hmem
  cases e
  rw [hv] at hx
  rw [Map.wf_iff] at hwf
  generalize u.host.spokes = l at hwf hx
  induction l with
  | nil => cases hx
  | cons y t ih =>
    obtain ⟨a, b⟩ := y
    obtain ⟨hlow, ht⟩ := List.pairwise_cons.1 hwf
    rw [Map.erase] at hx
    split at hx
    next e => exact Nat.lt_irrefl _ (e ▸ hlow _ hx)
    next e =>
      rcases List.mem_cons.1 hx with e' | hin
      · cases e'
        exact e rfl
      · exact ih ht hin

/-- Taking a spoke out of the table. -/
theorem State.KeepsFns.eraseSpoke {k : Nat} (h : s.KeepsFns u) (hfns : v.host.fns = u.host.fns := by rfl)
    (hspokes : v.host.spokes = Map.erase u.host.spokes k := by rfl) (hpagers : v.pagers = u.pagers) : s.KeepsFns v :=
  h.trans
    { fns := fun g => by rw [State.fn, State.fn, hfns]
      owners := fun z hz => by
        obtain ⟨p, hp, rfl⟩ := List.mem_map.1 hz
        rw [hspokes] at hp
        exact List.mem_map_of_mem (Map.mem_erase _ _ _ hp)
      pagers := fun _ _ hg => hpagers ▸ hg }

/-- What the end of a spoke keeps, and that the spoke is gone (R134). -/
theorem State.spokeEnds_removes (u : State) (k : Nat) (who : Option (Nat × Nat)) :
    u.KeepsFns (u.spokeEnds k who) ∧
      (Map.wf u.host.spokes = true → ∀ g, (k, g) ∉ (u.spokeEnds k who).owners) := by
  unfold State.spokeEnds
  extract_lets v w x _ _ _ y
  have hx : u.KeepsFns x := .freeTrg (.trans (.fold State.KeepsFns.refl.nvSpokeGone fun _ _ hv => hv.killConn) {})
  have hwf : u.Evolves x :=
    .freeTrg (.revokeSpoke (.fold (State.Evolves.refl u).nvSpokeGone fun _ _ hv => hv.killConn))
  clear_value x
  have hy : u.KeepsFns y := hx.eraseSpoke rfl rfl (List.map_map ..)
  have hgone : Map.wf u.host.spokes = true → ∀ g, (k, g) ∉ y.owners := fun h g =>
    State.not_mem_owners_erase (hwf.spokes h) rfl
  clear_value y
  have hend : y.KeepsFns (y.reapJobs.reapCkp.pruneNodes.bump) :=
    (State.KeepsFns.refl.reapJobs.reapCkp.trans {}).bump
  exact ⟨hy.trans hend, fun h g hmem => hgone h g (hend.owners hmem)⟩

/-- A spoke that is destroyed ends once its queues are destroyed. -/
theorem State.destroySpoke_ends (u : State) (k : Nat) (who : Option (Nat × Nat)) :
    ∃ v, (u.KeepsFns v ∧ u.Evolves v) ∧ (u.destroySpoke k who).1 = v.spokeEnds k who := by
  unfold State.destroySpoke
  dsimp only
  refine ⟨_, ?_, rfl⟩
  exact List.foldlRecOn _ _ (motive := fun p : State × Nat => u.KeepsFns p.1 ∧ u.Evolves p.1)
    ⟨State.KeepsFns.refl.nvSpokeGone, (State.Evolves.refl u).nvSpokeGone⟩
    fun _ hv _ _ => ⟨hv.1.destroyQueue, hv.2.destroyQueue⟩

/-- Destroying a spoke keeps the functions, and the spoke is gone (R134). -/
theorem State.destroySpoke_removes (u : State) (k : Nat) (who : Option (Nat × Nat)) :
    u.KeepsFns (u.destroySpoke k who).1 ∧
      (Map.wf u.host.spokes = true → ∀ g, (k, g) ∉ (u.destroySpoke k who).1.owners) := by
  obtain ⟨v, ⟨hkeep, hev⟩, heq⟩ := u.destroySpoke_ends k who
  obtain ⟨hends, hgone⟩ := v.spokeEnds_removes k who
  rw [heq]
  exact ⟨hkeep.trans hends, fun h => hgone (hev.spokes h)⟩

/-- Destroying spokes one after another. -/
def State.destroySpokes (s : State) (l : List Nat) : State := l.foldl (fun s k => (s.destroySpoke k none).1) s

/-- Destroying spokes keeps the functions, and those spokes are gone. -/
theorem State.destroySpokes_removes (u : State) (l : List Nat) :
    u.KeepsFns (u.destroySpokes l) ∧
      (Map.wf u.host.spokes = true → ∀ k ∈ l, ∀ g, (k, g) ∉ (u.destroySpokes l).owners) := by
  induction l generalizing u with
  | nil => exact ⟨.refl, fun _ _ hk => nomatch hk⟩
  | cons j l ih =>
    have hcons : u.destroySpokes (j :: l) = (u.destroySpoke j none).1.destroySpokes l := by
      simp only [State.destroySpokes, List.foldl_cons]
    rw [hcons]
    obtain ⟨hfirst, hgone⟩ := u.destroySpoke_removes j none
    obtain ⟨hrest, hrestGone⟩ := ih (u.destroySpoke j none).1
    refine ⟨hfirst.trans hrest, fun hwf k hk g => ?_⟩
    have hwf' := (State.Evolves.refl u).destroySpoke (k := j) (who := none) |>.spokes hwf
    rcases List.mem_cons.1 hk with rfl | hin
    · exact fun hmem => hgone hwf g (hrest.owners hmem)
    · exact hrestGone hwf' k hin g

theorem State.spokes_wf_of_canonical (h : s.canonical = true) : Map.wf s.host.spokes = true := by
  simp only [State.canonical, Bool.and_eq_true] at h
  obtain ⟨⟨⟨⟨⟨⟨-, hspokes⟩, -⟩, -⟩, -⟩, -⟩, -⟩ := h
  exact hspokes

/-- The spokes of a function. -/
def State.spokesOf (s : State) (f : Nat) : List Nat := (s.host.spokes.filter fun (_, x) => x.fn == f).map Prod.fst

/-- When the spokes of a function are destroyed, no spoke is the function's. -/
theorem State.destroySpokes_spokesOf {f k : Nat} (hwf : Map.wf u.host.spokes = true) :
    (k, f) ∉ (u.destroySpokes (u.spokesOf f)).owners := fun hmem => by
  obtain ⟨hkeep, hgone⟩ := u.destroySpokes_removes (u.spokesOf f)
  obtain ⟨⟨j, x⟩, hx, e⟩ := List.mem_map.1 (hkeep.owners hmem)
  cases e
  exact hgone hwf j (List.mem_map.2 ⟨(j, x), List.mem_filter.2 ⟨hx, beq_self_eq_true _⟩, rfl⟩) x.fn hmem

end

/-! ### The start and the end of a function-level reset -/

/-- What no work is left of when a function's reset has started: its spokes and its page requests. -/
structure State.Forsaken (s : State) (f : Nat) : Prop where
  spokes : ∀ k, (k, f) ∉ s.owners
  pages : f ∉ s.pagers

theorem State.Forsaken.spoke_fn {s : State} {f k : Nat} {x : Spoke} (h : s.Forsaken f) (hx : s.spoke k = some x) :
    x.fn ≠ f := by
  rintro rfl
  exact h.spokes k (List.mem_map.2 ⟨(k, x), Map.mem_of_get hx, rfl⟩)

theorem State.Forsaken.page_fn {s : State} {f : Nat} {p : PageReq} (h : s.Forsaken f) (hp : p ∈ s.host.pageReqs) :
    p.fn ≠ f := by
  rintro rfl
  exact h.pages (List.mem_map_of_mem hp)

/-- A function in its reset: what it holds is gone (R134). -/
def FnState.abandoned (x : FnState) : FnState :=
  { x with attach := .detached, baseSpoke := none, pba := [], msiPend := [], mb := {} }

/-- Abandoning a function that may not reach its memory: no work of it is left, and it has let go of what it held. -/
theorem State.abandonFn_forsaken {s : State} {f : Nat} (hwf : Map.wf s.host.spokes = true) (hflr : (s.fn f).flr = true) :
    (s.abandonFn f).Forsaken f ∧ ∃ x : FnState, (s.abandonFn f).fn f = x.abandoned ∧ x.flr = true := by
  have hmaster : s.canMaster f = false := by simp [State.canMaster, hflr]
  unfold State.abandonFn
  extract_lets v _ w x mine y z
  have hwKeep : s.KeepsFns w :=
    State.KeepsFns.trans {} { pagers := fun _ _ hg => (List.filter_sublist.map PageReq.fn).subset hg }
  have hev : s.Evolves v := (State.Evolves.refl s).quarantineReqs
  have hevw : s.Evolves w := hev.trans {}
  have hnone : f ∉ w.pagers := by
    intro hmem
    obtain ⟨p, hp, hf⟩ := List.mem_map.1 hmem
    simpa [hf] using (List.mem_filter.1 hp).2
  clear_value w
  have hx : w.KeepsFns x := State.KeepsFns.refl.nvFuncReset.releaseLock
  have hwfx : Map.wf x.host.spokes = true := (hevw.nvFuncReset.releaseLock).spokes hwf
  clear_value x
  have hy : x.KeepsFns y := (x.destroySpokes_removes mine).1.dropRequests
  have hgone : ∀ k, (k, f) ∉ y.owners := fun k => x.destroySpokes_spokesOf hwfx
  have hpages : f ∉ y.pagers := fun h => hnone ((hx.trans hy).pagers f ((hwKeep.canMaster f).trans hmaster) h)
  have hyflr : (y.fn f).flr = true := (((hwKeep.trans hx).trans hy).flr f).trans hflr
  clear_value y
  have hz : z.Forsaken f ∧ z.fn f = (y.fn f).abandoned := ⟨⟨hgone, hpages⟩, State.fn_setFn_self ..⟩
  clear_value z
  obtain ⟨hforsaken, hfn⟩ := hz
  split
  · exact ⟨⟨hforsaken.spokes, hforsaken.pages⟩, y.fn f, hfn, hyflr⟩
  · exact ⟨hforsaken, y.fn f, hfn, hyflr⟩

/-- The function of a reset that ends is as since reset, every other is as it was (R133). -/
theorem State.flrEnd_fn {s : State} {f : Nat} (hflr : (s.fn f).flr = true) (g : Nat) :
    (s.flrEnd f).fn g = if f = g then { bar4Log2 := s.brd.bar4Log2 } else s.fn g := by
  rw [State.flrEnd, if_pos hflr, State.fn_fnReset]
  rfl

theorem State.flrEnd_mem (s : State) (f : Nat) : (s.flrEnd f).mem = s.mem := by
  unfold State.flrEnd State.fnReset
  dsimp only
  split
  · split <;> rfl
  · rfl

/-- Settles O18. In a table in rising order a destroyed spoke is gone, and a function that is in reset may not reach its
memory, so that what ends with its spokes requests no page for it. -/
theorem functionLevelResetClearsTheFunction : Obligations.FunctionLevelResetClearsTheFunction := by
  refine ⟨fun s f hf hc hsoft hflr => ?_, fun s f x hf hsoft => ?_, fun s f hf hflr => ?_⟩
  · have hwf : Map.wf s.host.spokes = true := State.spokes_wf_of_canonical hc
    have hstart : s.flrStart f = (s.modFn f fun x => { x with flr := true }).abandonFn f := by
      rw [State.flrStart, if_neg (by simp [hsoft]), if_neg (by simp [hflr])]
    have hset : ((s.modFn f fun x => { x with flr := true }).fn f).flr = true := by
      rw [State.modFn, State.fn_setFn_self]
    obtain ⟨hforsaken, x, hfn, hx⟩ := State.abandonFn_forsaken (s := s.modFn f fun x => { x with flr := true }) hwf hset
    rw [← hstart] at hforsaken hfn
    refine ⟨s.flrStart f, next_if (hf), ?_, ?_, ?_, ?_, ?_, fun _ _ => hforsaken.spoke_fn,
      fun _ => hforsaken.page_fn⟩ <;> rw [hfn]
    · exact hx
    all_goals rfl
  · have hstart : s.flrStart f = s.defer 0 f := by rw [State.flrStart, if_pos (by simp [hsoft])]
    rw [← State.defer, ← hstart]
    exact next_if (hf)
  · refine ⟨s.flrEnd f, next_if (hf), ?_, fun g hg => ?_, s.flrEnd_mem f⟩
    · rw [State.flrEnd_fn hflr, if_pos rfl]
    · rw [State.flrEnd_fn hflr, if_neg (Ne.symm hg)]

end Sys2Proof.Machine
end


section
/-! PROOFS. Requests that a switch routes (R101, R123): a request is answered at the port that claims its address when it
came from there, and a table of ports out of order shows that which port claims it may change as the link wakes. -/

namespace Sys2Proof.Machine
open Sys2Proof

/-- A request for an address that its own port claims is not supported there (R101). -/
theorem State.switchRoute_own {s : State} {q a n tag : Nat} {kind : ReqKind} {data : Bytes} {ep : Bool}
    (hbar : s.barHit (s.portHier q) a = none) (hclaims : s.claims (s.portHier q) a = some q) :
    s.switchRoute q kind a n data ep tag = s.unsupported q kind tag := by
  unfold State.switchRoute
  dsimp only
  rw [hbar, hclaims]
  exact if_pos rfl

/-- A downstream port in L0 that claims one page. -/
def claimingPort : Port := { link := .l0, bme := true, memBase := 4096, memLimit := 8192 }

/-- Two downstream ports of one hierarchy that claim the same page, in falling order. -/
def fallingPorts : State := { State.reset with host.ports := [(12, claimingPort), (8, claimingPort)] }

/-- In falling order the other port is found first. -/
theorem claims_fallingPorts : fallingPorts.claims (fallingPorts.portHier 8) 4096 = some 12 := by decide +kernel

/-- Waking the link of a port puts the port in front, where it is found first. -/
theorem claims_wakeLink_fallingPorts :
    (fallingPorts.wakeLink 8).claims ((fallingPorts.wakeLink 8).portHier 8) 4096 = some 8 := by decide +kernel

theorem exec_switchRouted_fallingPorts :
    exec (.switchRoutedRequest 8 .read 4096 1 [] false 0) fallingPorts =
      .next ((fallingPorts.wakeLink 8).unsupported 8 .read 0) := by
  have harrive : ¬(!fallingPorts.canArrive 8 ∨ 2 ≤ fallingPorts.portRole 8) := by decide +kernel
  have hopen : ¬fallingPorts.ingressShut 8 = true := by decide +kernel
  have hbar : (fallingPorts.wakeLink 8).barHit ((fallingPorts.wakeLink 8).portHier 8) 4096 = none := by decide +kernel
  show (.next _ : Outcome) = _
  rw [if_neg harrive, if_neg hopen, State.switchRoute_own hbar claims_wakeLink_fallingPorts]

/-- Refutes O16: the clause on requests that another port claims speaks of every state, also of one whose table of ports is
not in rising order. There the port that the request came in on claims the address too, behind the other; as its link
wakes it is put in front, and the request gets Unsupported Request where the clause forwards it. No reachable state has
such a table. -/
theorem not_linkRequestsReachBars : ¬Obligations.LinkRequestsReachBars := by
  unfold Obligations.LinkRequestsReachBars
  rintro ⟨-, -, -, -, -, -, -, hroute, -⟩
  obtain ⟨t, hexec, hout, -⟩ := hroute fallingPorts 8 12 4096 1 0 .read [] false (by decide +kernel) (by decide +kernel)
    (by decide +kernel) (by decide +kernel) claims_fallingPorts (by decide) (.inr (by decide +kernel))
    (by decide +kernel) (by decide +kernel) (by decide +kernel)
  rw [exec_switchRouted_fallingPorts] at hexec
  cases hexec
  have hanswer : ((fallingPorts.wakeLink 8).unsupported 8 .read 0).out =
      fallingPorts.out ++ [.cpl 8 0 .unsupported [] false] := rfl
  rw [hanswer] at hout
  simp at hout

end Sys2Proof.Machine
end

section
/-! PROOFS. The mailbox post (R154, R156, R165): what becomes of a request as it is posted. -/

namespace Sys2Proof.Machine
open Sys2Proof

theorem bit_setBits_zero (v i : Nat) : bit (setBits v i i 0) i = false := by
  rw [bit_eq_testBit, testBit_setBits _ _ _ le_rfl, if_pos ⟨le_rfl, le_rfl⟩, Nat.sub_self]
  rfl

/-- The mailbox of a function when a request has been posted in it: nothing but DONE is changed besides the mark. -/
def Mailbox.postedAt (m : Mailbox) (now : Nat) : Mailbox :=
  { m with outstanding := true, hdr1 := setBits m.hdr1 16 16 0, posted := now }

/-- The state in which a posted request stands. -/
def State.posted (s : State) (f : Nat) (m : Mailbox) : State := s.setFn f { s.fn f with mb := m.postedAt s.now }

/-- With the firmware core released, no soft reset and the service not down, R156's checks decide, in their order. -/
theorem State.requestCheck_served {s : State} {f : Nat} (hscan : s.brd.scan = false) (hsoft : s.brd.soft = none)
    (hsc : s.brd.scReleased = true) (hboot : s.boot = 3) (hup : s.serviceDown (s.fn f).mb.service = false) :
    s.requestCheck f =
      if (s.fn f).mb.versionBad then some .versionMismatch
      else if (s.fn f).mb.formBad then some .malformed
      else if !(s.fn f).mb.fnOk f || ((s.fn f).attach != .attached && (s.fn f).mb.opcode != 1) then some .notPermitted
      else none := by
  have hrom : s.romServes = false := by simp [State.romServes, hboot]
  simp [State.requestCheck, hscan, hsoft, hsc, hboot, hup, hrom]

/-- What a post of a mailbox without an outstanding request does: the request stands, and a check that fails answers. -/
theorem State.mailboxPost_checked {s : State} {f : Nat} (v : Nat) (h : (s.fn f).mb.outstanding = false) :
    s.mailboxPost f v =
      match (s.posted f ((s.fn f).mb.write 0 (toLe 8 v))).requestCheck f with
      | none => s.posted f ((s.fn f).mb.write 0 (toLe 8 v))
      | some .versionMismatch =>
        (s.posted f ((s.fn f).mb.write 0 (toLe 8 v))).respond f .versionMismatch (toLe 4 0x0103_0003) false
      | some st => (s.posted f ((s.fn f).mb.write 0 (toLe 8 v))).respond f st [] false := by
  rw [State.mailboxPost, h]
  rfl

/-- Settles O19: a post sets the mailbox (`mailboxPost_checked`) and R156's checks decide on it
(`requestCheck_served`); an answer changes only what `respond_answered` says. -/
theorem mailboxPostAnswersTheFirstFailure : Obligations.MailboxPostAnswersTheFirstFailure := by
  refine ⟨fun s f v hout => ?_, fun s f v m hout hm hscan hsoft hsc hboot hup => ?_⟩
  · show Host.Outcome.next (s.mailboxPost f v) = _
    rw [State.mailboxPost, hout]
    rfl
  · refine ⟨s.mailboxPost f v, rfl, ?_⟩
    rw [State.mailboxPost_checked v hout, hm]
    have hfn : (s.posted f m).fn f = { s.fn f with mb := m.postedAt s.now } := State.fn_setFn_self ..
    have hothers : ∀ g, g ≠ f → (s.posted f m).fn g = s.fn g := fun g hg => State.fn_setFn_of_ne _ _ hg.symm
    have hkept : (s.posted f m).mem = s.mem ∧ (s.posted f m).host.queues = s.host.queues ∧
        (s.posted f m).out = s.out ∧ (s.posted f m).regs = s.regs := ⟨rfl, rfl, rfl, rfl⟩
    have hcheck := State.requestCheck_served (s := s.posted f m) (f := f) hscan hsoft hsc hboot (by rw [hfn]; exact hup)
    generalize s.posted f m = u at hfn hothers hkept hcheck ⊢
    obtain ⟨hmem, hqueues, hout', hregs⟩ := hkept
    have hanswered : ∀ (st : Status) (p : Bytes),
        (u.respond f st p false).responded f st p false ∧
          (∀ g, g ≠ f → (u.respond f st p false).fn g = s.fn g) ∧ (u.respond f st p false).mem = s.mem ∧
          (u.respond f st p false).host.queues = s.host.queues := fun st p => by
      obtain ⟨hresp, hfns, -, -, hframe⟩ := u.respond_answered f st p false
      exact ⟨hresp, fun g hg => (hfns g hg).trans (hothers g hg), by rw [hframe]; exact hmem,
        by rw [hframe]; exact hqueues⟩
    rw [hfn] at hcheck
    have hpost : (m.postedAt s.now).versionBad = m.versionBad ∧ (m.postedAt s.now).formBad = m.formBad ∧
        (m.postedAt s.now).fnOk f = m.fnOk f ∧ (m.postedAt s.now).opcode = m.opcode := ⟨rfl, rfl, rfl, rfl⟩
    obtain ⟨hversion, hform, hright, hopcode⟩ := hpost
    dsimp only at hcheck
    rw [hversion, hform, hright, hopcode] at hcheck
    rw [hcheck]
    by_cases hv : m.versionBad = true
    · simp only [hv, if_true]
      exact hanswered .versionMismatch _
    by_cases hb : m.formBad = true
    · simp only [hv, hb, if_true]
      exact hanswered .malformed _
    by_cases hr : m.fnOk f = false ∨ ((s.fn f).attach ≠ .attached ∧ m.opcode ≠ 1)
    · have hr' : (!m.fnOk f || ((s.fn f).attach != .attached && m.opcode != 1)) = true := by simpa using hr
      simp only [hv, hb, hr, hr', if_true]
      exact hanswered .notPermitted _
    · have hr' : (!m.fnOk f || ((s.fn f).attach != .attached && m.opcode != 1)) = false := by
        simpa using hr
      simp only [hv, hb, hr, hr', Bool.false_eq_true, if_false]
      refine ⟨?_, hothers, hmem, hqueues⟩
      rw [hfn]
      exact ⟨rfl, rfl, bit_setBits_zero .., hout', hregs⟩

end Sys2Proof.Machine
end

section
/-! PROOFS. Host presence (R161, R165, R597): the first HELLO of PF0 posts the causes of retirement to the base spoke
that it has just made, which has no event ring yet, so that the spoke counts the event as lost (R143). -/

namespace Sys2Proof.Machine
open Sys2Proof

/-- PF0's request page with a HELLO in it: MAJOR 3, MINOR 1, OPCODE 1, and eight bytes of payload that name driver 1. -/
def helloPage : Map Byte := [(0, 3), (1, 1), (2, 1), (4, 8), (16, 1)]

/-- A device that has started with a retirement cause from its journal, PF0 detached and its HELLO posted. -/
def retiredAtStart : State := { State.reset with
  regs := Map.put (Map.put State.reset.regs 0x900000 3) aRetire 1
  fwm.services := [(0, { state := .running })]
  brd := { aon := true, scReleased := true, retireDue := [0] }
  host.fns := [(0, { mb := { outstanding := true, req := helloPage } })] }

/-- PF0's first HELLO leaves its base spoke with one event lost. -/
theorem spoke_hello_retiredAtStart :
    (retiredAtStart.perform 0 0x0001 fun p s => s.helloAll 0 p).spoke 0 =
      some { fn := 0, base := true, eventsLost := 1 } := by decide +kernel

/-- Refutes O21: the clause on the first HELLO asks for a base spoke that has lost no event. When the device has started
with a retirement cause, that HELLO of PF0 also reports the cause (R597) to this spoke, and the report is lost, since a
spoke just made has no event ring. -/
theorem not_presenceCommandsMoveTheAttachState : ¬Obligations.PresenceCommandsMoveTheAttachState := by
  unfold Obligations.PresenceCommandsMoveTheAttachState
  rintro ⟨hfirst, -⟩
  obtain ⟨t, hexec, -, -, -, hspoke, -⟩ := hfirst retiredAtStart 0 0 [1, 0, 0, 0, 0, 0, 0, 0] (by decide +kernel)
    (by decide +kernel) (by decide +kernel) (by decide +kernel) (by decide +kernel) (by decide +kernel)
    (by decide +kernel)
  have ht : (Host.Outcome.next (retiredAtStart.perform 0 0x0001 fun p s => s.helloAll 0 p) : Outcome) = .next t := hexec
  cases ht
  rw [spoke_hello_retiredAtStart] at hspoke
  cases hspoke

end Sys2Proof.Machine
end

section
/-! PROOFS. Queues and operations (R138 to R143, R150 to R152): what the delivery of entries and events leaves of them. -/

namespace Sys2Proof.Machine
open Sys2Proof

-- One lemma after another: so many short ones, each in a thread of its own, outgrow the memory of a check.
set_option Elab.async false

/-- What deliveries and reports keep: the operations, and the queues but those of `P`. -/
structure State.KeepsQueues (P : Nat → Prop) (s t : State) : Prop where
  ops : t.host.ops = s.host.ops := by rfl
  nextOp : t.host.nextOp = s.host.nextOp := by rfl
  queue : ∀ j, ¬P j → t.queue j = s.queue j := by exact fun _ _ => rfl

section
variable {P : Nat → Prop} {s u v : State}

theorem State.KeepsQueues.refl : s.KeepsQueues P s := {}

theorem State.KeepsQueues.trans (h : s.KeepsQueues P u) (h' : u.KeepsQueues P v) : s.KeepsQueues P v where
  ops := h'.ops.trans h.ops
  nextOp := h'.nextOp.trans h.nextOp
  queue j hj := (h'.queue j hj).trans (h.queue j hj)

theorem State.KeepsQueues.either {c : Prop} {_ : Decidable c} (h : s.KeepsQueues P u) (h' : s.KeepsQueues P v) :
    s.KeepsQueues P (if c then u else v) := by
  split <;> assumption

theorem State.KeepsQueues.either_fst {α : Type} {c : Prop} {_ : Decidable c} {p q : State × α}
    (h : s.KeepsQueues P p.1) (h' : s.KeepsQueues P q.1) : s.KeepsQueues P (if c then p else q).1 := by
  split <;> assumption

theorem State.KeepsQueues.fst_eq {α : Type} {p : State × α} {a : α} (h : s.KeepsQueues P p.1) (e : p = (v, a)) :
    s.KeepsQueues P v := by
  rw [e] at h
  exact h

theorem State.KeepsQueues.op (h : s.KeepsQueues P u) (o : Nat) : u.op o = s.op o := by rw [State.op, State.op, h.ops]

theorem State.KeepsHost.queues (h : s.KeepsHost u) : u.host.queues = s.host.queues :=
  (congrArg HostState.queues h.host :)

theorem State.KeepsHost.cursors (h : s.KeepsHost u) : u.host.cursors = s.host.cursors :=
  (congrArg HostState.cursors h.host :)

theorem State.KeepsHost.epoch (h : s.KeepsHost u) : u.host.epoch = s.host.epoch :=
  (congrArg HostState.epoch h.host :)

theorem State.KeepsHost.queue (h : s.KeepsHost u) (j : Nat) : u.queue j = s.queue j := by
  rw [State.queue, State.queue, h.queues]

theorem State.KeepsHost.keepsQueues (h : s.KeepsHost u) : s.KeepsQueues P u where
  ops := (congrArg HostState.ops h.host :)
  nextOp := (congrArg HostState.nextOp h.host :)
  queue j _ := h.queue j

theorem State.queue_modQueue (s : State) (i j : Nat) (g : Queue → Queue) :
    (s.modQueue i g).queue j = if i = j then (s.queue j).map g else s.queue j :=
  Map.get_modify ..

theorem State.KeepsQueues.modQueue {i : Nat} {g : Queue → Queue} (h : s.KeepsQueues P u) (hi : P i) :
    s.KeepsQueues P (u.modQueue i g) :=
  h.trans { queue := fun j hj => (u.queue_modQueue i j g).trans (if_neg fun e => hj (by rwa [← e])) }

theorem State.KeepsQueues.emit {e : Emit} (h : s.KeepsQueues P u) : s.KeepsQueues P (u.emit e) := h.trans {}

theorem State.KeepsQueues.bump (h : s.KeepsQueues P u) : s.KeepsQueues P u.bump := h.trans {}

theorem State.KeepsQueues.interrupt {f n : Nat} (h : s.KeepsQueues P u) : s.KeepsQueues P (u.interrupt f n) :=
  .either (.either (h.trans {}) (h.trans {})) (.either (.either (h.trans {}) (h.trans {})) h)

theorem State.KeepsQueues.respond {f : Nat} {st : Status} {p : Bytes} {async : Bool} (h : s.KeepsQueues P u) :
    s.KeepsQueues P (u.respond f st p async) :=
  .either (.interrupt (h.trans {})) (h.trans {})

theorem State.KeepsQueues.sampleKind {k : QKind} {since : Option Nat} (h : s.KeepsQueues P u) :
    s.KeepsQueues P (u.sampleKind k since) := by
  unfold State.sampleKind
  split
  · exact h.trans {}
  · exact h

theorem State.KeepsQueues.pageFor {k : Nat} {r : AccRes} {w : Waiter} (h : s.KeepsQueues P u) :
    s.KeepsQueues P (u.pageFor k r w) :=
  .either (h.trans {}) (.either (h.trans {}) (h.trans {}))

theorem State.KeepsQueues.spokeWrite {k va : Nat} {d : Bytes} {ep : Bool} {ans : HostAns} (h : s.KeepsQueues P u) :
    s.KeepsQueues P (u.spokeWrite k va d ep ans).1 :=
  h.trans (State.KeepsHost.spokeWrite {}).keepsQueues

/-! ### Entries and events -/

theorem State.KeepsQueues.writeEntry {ri : Nat} {r : Queue} {d : Due} {ans : HostAns} (h : s.KeepsQueues P u)
    (hri : P ri) : s.KeepsQueues P (u.writeEntry ri r d ans).1 := by
  unfold State.writeEntry
  dsimp only
  have hw : s.KeepsQueues P (u.spokeWrite r.spoke (r.base + 32 * (r.pi % r.size)) (d.bytes r.phase) false ans).1 :=
    h.spokeWrite
  refine .either_fst (.either_fst hw.pageFor hw) ?_
  split
  · exact .trans (.sampleKind (.either (hw.emit.modQueue hri).interrupt (hw.emit.modQueue hri))) {}
  · exact .sampleKind (.either (hw.emit.modQueue hri).interrupt (hw.emit.modQueue hri))

theorem State.KeepsQueues.flushList {ri : Nat} {ans : HostAns} {l : List Due} (h : s.KeepsQueues P u) (hri : P ri) :
    s.KeepsQueues P (u.flushList ri ans l).1 := by
  induction l generalizing u with
  | nil => exact h
  | cons d l ih =>
    unfold State.flushList
    dsimp only
    split
    · exact h
    · refine .either_fst (ih h) ?_
      split
      next heq => exact ih ((h.writeEntry hri).fst_eq heq)
      next heq => exact (h.writeEntry hri).fst_eq heq
      next heq => exact (h.writeEntry hri).fst_eq heq

theorem State.KeepsQueues.flushRing {ri : Nat} {ans : HostAns} (h : s.KeepsQueues P u) (hri : P ri) :
    s.KeepsQueues P (u.flushRing ri ans).1 := by
  unfold State.flushRing
  dsimp only
  split
  · exact h
  · exact .either ((h.flushList hri).modQueue hri).bump ((h.flushList hri).modQueue hri)

/-- An event changes no queue but the spoke's event ring, and that one only when it is ACTIVE (R143). -/
theorem State.KeepsQueues.postEvent {k code a b : Nat} {st : Status} {queue : Nat} (h : s.KeepsQueues P u)
    (hring : ∀ ri r, u.queue ri = some r → r.state = .active → P ri) :
    s.KeepsQueues P (u.postEvent k code a b st queue) := by
  have hdrop : s.KeepsQueues P (u.dropEvent k) := h.trans {}
  unfold State.postEvent
  dsimp only
  split
  · exact hdrop
  next ri _ =>
    split
    · exact hdrop
    next r hr =>
      split
      · exact hdrop
      next hopen =>
        have hactive : r.state = .active := by
          by_contra hne
          exact hopen (by simp [hne])
        exact (h.modQueue (hring ri r hr hactive)).flushRing (hring ri r hr hactive)

/-- A queue that enters ERROR stays in it, with its CONSUMER, through the event that reports it (R151). -/
theorem State.queueError_error {qi idx : Nat} {q : Queue} {st : Status} (hq : s.queue qi = some q) :
    (s.queueError qi st idx).queue qi = some { q with state := .error } ∧
      (s.queueError qi st idx).host.nextOp = s.host.nextOp := by
  simp only [State.queueError, hq]
  set v := (s.modQueue qi fun q => { q with state := .error }).bump
  have hqi : v.queue qi = some { q with state := .error } := by
    show (s.modQueue qi _).queue qi = _
    rw [State.queue_modQueue, if_pos rfl, hq]
    rfl
  have hkeep : v.KeepsQueues (· ≠ qi) (v.postEvent q.spoke 0x0101 st.code idx st qi) :=
    State.KeepsQueues.refl.postEvent fun ri r hr hactive e => by
      rw [e, hqi] at hr
      cases hr
      cases hactive
  exact ⟨(hkeep.queue qi (not_not.2 rfl)).trans hqi, hkeep.nextOp⟩

/-! ### Reports, which may go to any ring -/

theorem State.KeepsQueues.postPf0 {hier code a b : Nat} {st : Status} {queue : Nat} (h : s.KeepsQueues P u)
    (hall : ∀ j, P j) : s.KeepsQueues P (u.postPf0 hier code a b st queue) := by
  unfold State.postPf0
  split
  · exact h.postEvent fun ri _ _ _ => hall ri
  · exact h

theorem State.KeepsQueues.flush {ri : Nat} {ans : HostAns} (h : s.KeepsQueues P u) (hall : ∀ j, P j) :
    s.KeepsQueues P (u.flush ri ans) := by
  unfold State.flush
  split
  next heq => exact (h.flushRing (hall ri)).fst_eq heq
  next v _ heq =>
    have hv : s.KeepsQueues P v := (h.flushRing (hall ri)).fst_eq heq
    split
    · exact hv.postEvent fun ri _ _ _ => hall ri
    · exact hv

theorem State.KeepsQueues.retireTray {cause : Nat} (h : s.KeepsQueues P u) (hall : ∀ j, P j) :
    s.KeepsQueues P (u.retireTray cause) := by
  have hcr : ∀ {w : State} {code detail : Nat}, s.KeepsQueues P w → s.KeepsQueues P (w.crFault code detail) :=
    fun hw => .either (hw.trans {}) (hw.trans {})
  have hpldm : ∀ {w : State} {sensor st : Nat}, s.KeepsQueues P w → s.KeepsQueues P (w.pldm sensor st) :=
    fun hw => .either (hw.trans {}) (hw.trans {})
  exact .either h (.bump (hpldm (hcr (.postPf0 (.postPf0 (h.trans {}) hall) hall))))

theorem State.KeepsQueues.hbmReport (h : s.KeepsQueues P u) (hall : ∀ j, P j) : s.KeepsQueues P u.hbmReport := by
  have hrepair : ∀ (w : State) (r : Repair), s.KeepsQueues P w → s.KeepsQueues P (w.addRepair r) :=
    fun w r hw => .either hw (.either ((hw.trans {}).retireTray hall) (hw.trans {}))
  have hrepairs : ∀ (l : List Nat) (w : State), s.KeepsQueues P w →
      s.KeepsQueues P (l.foldl (fun s b => s.addRepair (rowRepair (64 * b))) w) := fun l w hw =>
    List.foldlRecOn l _ hw fun _ hv b _ => hrepair _ _ hv
  unfold State.hbmReport
  dsimp only
  split
  · exact h
  · exact .either (.retireTray (hrepairs _ _ (h.trans {})) hall) (hrepairs _ _ (h.trans {}))

end

end Sys2Proof.Machine
end

section
/-! PROOFS. DESCRIPTOR_FETCHED, OPERATION_COMPLETE and STATE_SUMMARY (R138 to R140, R150, R168, R169). -/

namespace Sys2Proof.Machine
open Sys2Proof

-- One lemma after another: so many short ones, each in a thread of its own, outgrow the memory of a check.
set_option Elab.async false

/-! ### A descriptor becomes an operation -/

/-- What an operation is of: its queue, ring index, CONSUMER and descriptor. -/
def Op.source (x : Op) : Op := { queue := x.queue, index := x.index, consumer := x.consumer, desc := x.desc }

/-- The operation that a descriptor of a queue becomes. -/
def State.fetchedOp (s : State) (qi : Nat) (q : Queue) (d : Bytes) : Op :=
  { queue := qi, index := q.consumer, consumer := (q.consumer + 1) % 2 ^ 32, desc := d, since := s.now }

/-- The state with that operation in the table and CONSUMER behind the descriptor (R150). -/
def State.fetched (s : State) (qi : Nat) (q : Queue) (d : Bytes) : State :=
  State.modQueue { s with host.ops := Map.put s.host.ops s.host.nextOp (s.fetchedOp qi q d)
                          host.nextOp := s.host.nextOp + 1 } qi
    fun x => { x with consumer := (q.consumer + 1) % 2 ^ 32, fetched := x.fetched + 1 }

theorem State.op_fetched (s : State) (qi : Nat) (q : Queue) (d : Bytes) :
    (s.fetched qi q d).op s.host.nextOp = some (s.fetchedOp qi q d) :=
  Map.get_put_self ..

theorem State.queue_fetched {s : State} {qi : Nat} {q : Queue} (d : Bytes) (hq : s.queue qi = some q) :
    (s.fetched qi q d).queue qi =
      some { q with consumer := (q.consumer + 1) % 2 ^ 32, fetched := q.fetched + 1 } := by
  rw [State.fetched, State.queue_modQueue, if_pos rfl]
  exact congrArg (Option.map _) hq

/-- A change of one operation that keeps what it is of. -/
def State.MarksOp (o : Nat) (s t : State) : Prop :=
  ∃ g : Op → Op, (∀ y, (g y).source = y.source) ∧ t = s.modOp o g

theorem State.MarksOp.finish {s : State} {o : Nat} {st : Status} {n detail : Nat} :
    s.MarksOp o (s.finish o st n detail) := by
  refine ⟨fun x => if x.phase == .done then x else
    { x with phase := .done, status := st, bytes := n, detail := detail }, fun y => ?_, rfl⟩
  dsimp only
  split <;> rfl

theorem State.MarksOp.either {s u v : State} {o : Nat} {c : Prop} {_ : Decidable c} (h : s.MarksOp o u)
    (h' : s.MarksOp o v) : s.MarksOp o (if c then u else v) := by
  split <;> assumption

/-- An operation that no trigger entry holds starts, or is refused at its start (R317, R330). -/
theorem State.startOp_marks {s : State} {o : Nat} {x : Op} {q : Queue} (hx : s.op o = some x)
    (hq : s.queue x.queue = some q) (hkey : Map.get s.trg.entries (trigKey q.spoke (dTrigger x.desc)) = none) :
    s.MarksOp o (s.startOp o) := by
  simp only [State.startOp, hx, hq, hkey]
  exact .either .finish (.either .finish ⟨_, by exact fun _ => rfl, rfl⟩)

/-- A fetched descriptor adds its operation; how it starts, waits or fails is a mark on the operation. -/
theorem State.takeDescriptor_marks {s : State} {qi : Nat} {q : Queue} {d : Bytes} (hq : s.queue qi = some q)
    (hkey : Map.get s.trg.entries (trigKey q.spoke (dTrigger d)) = none) :
    (s.fetched qi q d).MarksOp s.host.nextOp (s.takeDescriptor qi q d) := by
  have htake : s.takeDescriptor qi q d =
      if descMalformed q.kind d then (s.fetched qi q d).finish s.host.nextOp .malformed 0 0
      else match s.waitState q with
        | .failed st => (s.fetched qi q d).finish s.host.nextOp .waitFailed 0 (waitDetail st false q.waitCounter)
        | _ => if dFence d && !(s.opsOf qi == []) then
            (s.fetched qi q d).modOp s.host.nextOp fun x => { x with phase := .fenced }
          else (s.fetched qi q d).startOp s.host.nextOp := rfl
  rw [htake]
  refine .either .finish ?_
  split
  · exact .finish
  · exact .either ⟨_, by exact fun _ => rfl, rfl⟩
      (State.startOp_marks (s.op_fetched qi q d) (State.queue_fetched d hq) hkey)

/-- R7: a malformed descriptor's operation is finished at once. -/
theorem State.takeDescriptor_malformed {s : State} {qi : Nat} {q : Queue} {d : Bytes}
    (hbad : descMalformed q.kind d = true) :
    (s.takeDescriptor qi q d).op s.host.nextOp =
      some { s.fetchedOp qi q d with phase := .done, status := .malformed } := by
  have htake : s.takeDescriptor qi q d = (s.fetched qi q d).finish s.host.nextOp .malformed 0 0 := if_pos hbad
  rw [htake, State.finish, State.op_modOp, if_pos rfl, State.op_fetched]
  rfl

/-- What a descriptor read that may be made does, by how the read ends (R150, R151). -/
theorem State.descriptorFetched_read {s u : State} {qi : Nat} {q : Queue} {r : AccRes} {ans : HostAns}
    (hq : s.queue qi = some q) (hmay : s.mayFetch qi q = true) (hgo : s.waitState q = .go)
    (hread : s.spokeRead q.spoke (q.base + 64 * (q.consumer % q.size)) 64 ans = (u, r)) :
    s.descriptorFetched qi ans =
      if withMarks r.status r.poisoned r.medium == .success then u.takeDescriptor qi q r.data
      else if u.pages q.spoke r then u.pageFor q.spoke r (.fetch qi)
      else u.queueError qi (withMarks r.status r.poisoned r.medium) q.consumer := by
  have hclear : (!s.mayFetch qi q || s.waitState q == .waiting) = false := by rw [hmay, hgo]; rfl
  simp only [State.descriptorFetched, hq, hclear, hread]
  rfl

theorem withMarks_eq_success {st : Status} {poisoned medium : Bool} :
    withMarks st poisoned medium = .success ↔ st = .success ∧ poisoned = false ∧ medium = false := by
  cases st <;> cases poisoned <;> cases medium <;> decide

/-! ### An operation leaves its queue -/

/-- What keeps an operation that is gone from coming back. -/
def State.AddsNoOp (s t : State) : Prop := ∀ o, s.op o = none → t.op o = none

section
variable {s u : State}

theorem State.AddsNoOp.trans {v : State} (h : s.AddsNoOp u) (h' : u.AddsNoOp v) : s.AddsNoOp v :=
  fun o ho => h' o (h o ho)

theorem State.AddsNoOp.either {v : State} {c : Prop} {_ : Decidable c} (h : s.AddsNoOp u) (h' : s.AddsNoOp v) :
    s.AddsNoOp (if c then u else v) := by
  split <;> assumption

theorem State.KeepsQueues.addsNoOp {P : Nat → Prop} (h : s.KeepsQueues P u) : s.AddsNoOp u :=
  fun o ho => (h.op o).trans ho

theorem State.AddsNoOp.modOp {o : Nat} {g : Op → Op} (h : s.AddsNoOp u) : s.AddsNoOp (u.modOp o g) := fun i hi => by
  rw [State.op_modOp, h i hi]
  split <;> rfl

theorem State.AddsNoOp.release {key n : Nat} (h : s.AddsNoOp u) : s.AddsNoOp (u.release key n) := by
  induction n generalizing u with
  | zero => exact h
  | succ n ih =>
    unfold State.release
    dsimp only
    split
    · exact h
    · refine .either h ?_
      split
      · exact h
      · exact ih (State.AddsNoOp.modOp (u := u.setEntry key _) h)

theorem State.AddsNoOp.startOp {o : Nat} (h : s.AddsNoOp u) : s.AddsNoOp (u.startOp o) := by
  unfold State.startOp
  dsimp only
  split
  · exact h
  · split
    · exact h
    · refine .either h.modOp (.either ?_ h.modOp)
      split
      · exact h.modOp
      · exact .either h.modOp (.either h.modOp (.either h.modOp (.release h.modOp)))

theorem State.AddsNoOp.startFenced {qi : Nat} (h : s.AddsNoOp u) : s.AddsNoOp (u.startFenced qi) := by
  unfold State.startFenced
  split
  · split
    · exact .either h.startOp h
    · exact h
  · exact h

theorem State.AddsNoOp.stopCheck {qi : Nat} (h : s.AddsNoOp u) : s.AddsNoOp (u.stopCheck qi) := by
  unfold State.stopCheck
  split
  · exact h
  · split
    · exact h
    · exact .either (h.trans (State.KeepsQueues.addsNoOp (P := fun _ => True)
        (State.KeepsQueues.respond (.modQueue .refl trivial)))) h

end

theorem State.Evolves.mem_out {s t : State} {e : Emit} (h : s.Evolves t) (he : e ∈ s.out) : e ∈ t.out :=
  h.out.subset he

theorem toLe_length (n v : Nat) : (toLe n v).length = n := by
  induction n generalizing v with
  | zero => rfl
  | succ n ih => rw [toLe, List.length_cons, ih]

theorem Due.bytes_length (d : Due) (phase : Nat) : (d.bytes phase).length = 32 := by
  simp only [Due.bytes, List.length_append, toLe_length]

/-- A write within one page of a base spoke reaches the memory of its function (R198, R203). -/
theorem State.spokeWrite_base {s : State} {k va : Nat} {sp : Spoke} {d b : Bytes} {ep e : Bool}
    (hsp : s.spoke k = some sp) (hbase : sp.base = true) (hmaster : s.canMaster sp.fn = true) (hrim : s.rimDown = false)
    (hfit : va % 4096 + d.length ≤ 4096) : (s.spokeWrite k va d ep (.ok b e)).2.status = .success := by
  have hend : ∀ (v : State) n va', v.spokeWriteLoop k ep (.ok b e) n va' [] = (v, {}) := fun v n va' => by
    cases n <;> rfl
  have htranslate : s.translate k va true = (.ok (.host va (s.fn sp.fn).priEn) (4096 - va % 4096), s) := by
    simp only [State.translate, hsp, hbase, if_true]
  have hleaf : ∀ p, s.leafWrite sp (.host va p) d ep (.ok b e) =
      ((s.hitProt (some sp.fn) va d.length).emit (.memWrite sp.fn sp.pasidOpt (s.fn sp.fn).atsEn va d ep),
        { done := d.length }) := fun p => by
    simp only [State.leafWrite, hmaster, hrim, hbase]
    rfl
  have hpiece : d.take (min (4096 - va % 4096) (4096 - va % 4096)) = d := List.take_of_length_le (by omega)
  by_cases hd : d = []
  · rw [hd, State.spokeWrite, hend]
  · rw [State.spokeWrite, State.spokeWriteLoop, if_neg hd]
    simp only [hsp, htranslate, hpiece, hleaf, List.drop_length, hend]
    rfl

/-- An entry that its ring's memory takes is written at the write index (R140, R141). -/
theorem State.writeEntry_writes {s : State} {ri : Nat} {r : Queue} {d : Due} {ans : HostAns}
    (hok : (s.spokeWrite r.spoke (r.base + 32 * (r.pi % r.size)) (d.bytes r.phase) false ans).2.status = .success) :
    (s.writeEntry ri r d ans).2 = .success ∧
      .ringEntry ri (r.pi % r.size) (r.base + 32 * (r.pi % r.size)) (d.bytes r.phase) ∈
        (s.writeEntry ri r d ans).1.out := by
  unfold State.writeEntry
  dsimp only
  generalize s.spokeWrite r.spoke (r.base + 32 * (r.pi % r.size)) (d.bytes r.phase) false ans = p at hok ⊢
  obtain ⟨v, a⟩ := p
  have hgood : ¬(a.status != .success) = true := by rw [show a.status = .success from hok]; decide
  rw [if_neg hgood]
  have hsent : .ringEntry ri (r.pi % r.size) (r.base + 32 * (r.pi % r.size)) (d.bytes r.phase) ∈
      (v.emit (.ringEntry ri (r.pi % r.size) (r.base + 32 * (r.pi % r.size)) (d.bytes r.phase))).out :=
    List.mem_append_right _ (List.mem_singleton_self _)
  generalize v.emit (.ringEntry ri (r.pi % r.size) (r.base + 32 * (r.pi % r.size)) (d.bytes r.phase)) = w at hsent ⊢
  have hw : w.Evolves (w.modQueue ri fun q => { q with pi := (q.pi + 1) % 2 ^ 32, armed := false }) :=
    (State.Evolves.refl w).modQueue
  split
  · exact ⟨rfl, (State.Evolves.trans (.sampleKind (.either hw.interrupt hw)) {}).mem_out hsent⟩
  · exact ⟨rfl, (State.Evolves.sampleKind (.either hw.interrupt hw)).mem_out hsent⟩

/-- The one entry due to a ring is written when it need not be held and the ring's memory takes it. -/
theorem State.flush_writes {s : State} {ri : Nat} {r : Queue} {d : Due} {ans : HostAns} (hr : s.queue ri = some r)
    (hdue : r.due = [d]) (hheld : s.entryHeld r d = false) (hok : (s.writeEntry ri r d ans).2 = .success) :
    (s.writeEntry ri r d ans).1.Evolves (s.flush ri ans) := by
  generalize hp : s.writeEntry ri r d ans = p at hok
  obtain ⟨v, st⟩ := p
  obtain rfl : st = .success := hok
  have hlist : s.flushList ri ans [d] = (v, [], none) := by
    simp only [State.flushList, hr, hheld, hp]
    rfl
  have hring : s.flushRing ri ans = (v.modQueue ri fun q => { q with due := [], state := q.state }, none) := by
    simp only [State.flushRing, hr, hdue, hlist]
    rfl
  simp only [State.flush, hring]
  exact (State.Evolves.refl v).modQueue

/-- R130, R142, R166: an entry of a work queue that is not frozen may be written to an ACTIVE ring with room. -/
theorem State.entryHeld_eq_false {s : State} {r y : Queue} {d : Due} {w : Nat} (hactive : r.state = .active)
    (hroom : r.used < r.size) (hmaster : s.canMaster (s.spokeFn r.spoke) = true) (hsrc : d.src = some w)
    (hy : s.queue w = some y) (hfrozen : y.state ≠ .frozen) : s.entryHeld r d = false := by
  simp [State.entryHeld, hactive, hroom, hmaster, hsrc, hy, hfrozen]

/-- The entry due for a finished operation of a queue (R140). -/
def State.entryOf (s : State) (x : Op) (q : Queue) : Due :=
  { src := some x.queue, cookie := dCookie x.desc, count := x.bytes, status := x.status, kind := q.kind.code,
    flags := x.flags, queue := x.queue, consumer := x.consumer, detail := x.detail, irq := dIrq x.desc,
    upd := s.updateOf x q, since := if x.sampled then some x.since else none }

/-- The state without an operation, its entry due to a ring. -/
def State.entryDue (s : State) (o ri : Nat) (d : Due) : State :=
  State.modQueue { s with host.ops := Map.erase s.host.ops o } ri fun r => { r with due := r.due ++ [d] }

/-- A finished operation that must signal to a ring (R139, R140). -/
structure State.Signals (s : State) (o ri : Nat) (x : Op) (q : Queue) : Prop where
  op : s.op o = some x
  done : x.phase = .done
  queue : s.queue x.queue = some q
  cq : q.cq = some ri
  signal : dSignal x.desc = true ∨ x.status ≠ .success

/-- A ring of a base spoke that may take its next entry: it is ACTIVE with room and nothing due, and its memory may be
reached. -/
structure State.RingReady (s : State) (ri : Nat) (r : Queue) (sp : Spoke) : Prop where
  queue : s.queue ri = some r
  active : r.state = .active
  due : r.due = []
  room : r.used < r.size
  spoke : s.spoke r.spoke = some sp
  base : sp.base = true
  master : s.canMaster sp.fn = true
  rim : s.rimDown = false
  aligned : (r.base + 32 * (r.pi % r.size)) % 32 = 0

/-- A finished operation that must signal leaves its queue, and its ring is flushed (R139, R140). -/
theorem State.retire_signals {s : State} {o ri : Nat} {x : Op} {q : Queue} {ans : HostAns} (h : s.Signals o ri x q) :
    s.retire o ans = ((s.entryDue o ri (s.entryOf x q)).flush ri ans).startFenced x.queue := by
  have hmust : (dSignal x.desc || x.status != .success || q.kind == .packetReceive) = true := by
    rcases h.signal with hsignal | hfailed
    · simp [hsignal]
    · simp [hfailed]
  simp only [State.retire, h.op, h.done, h.queue, h.cq, hmust]
  rfl

/-- The operation is gone once OPERATION_COMPLETE has run: what follows its leaving adds none. -/
theorem State.operationComplete_gone {s : State} {o ri : Nat} {x : Op} {q : Queue} {ans : HostAns}
    (hwf : Map.wf s.host.ops = true) (h : s.Signals o ri x q) :
    (s.operationComplete o ans).hbmReport.op o = none := by
  have hgone : (s.entryDue o ri (s.entryOf x q)).op o = none := Map.get_erase_self _ _ hwf
  simp only [State.operationComplete, h.op, State.retire_signals h]
  generalize s.entryDue o ri (s.entryOf x q) = v at hgone
  have hflush : v.AddsNoOp (v.flush ri ans) :=
    State.KeepsQueues.addsNoOp (P := fun _ => True) (State.KeepsQueues.refl.flush fun _ => trivial)
  have hreport : ∀ w : State, w.AddsNoOp w.hbmReport := fun w =>
    State.KeepsQueues.addsNoOp (P := fun _ => True) (State.KeepsQueues.refl.hbmReport fun _ => trivial)
  exact (hflush.startFenced.stopCheck.trans (hreport _)) o hgone

/-- The entry of the operation is written when OPERATION_COMPLETE finds a ring that may take it. -/
theorem State.operationComplete_writes {s : State} {o ri : Nat} {x : Op} {q r : Queue} {sp : Spoke} {b : Bytes}
    {e : Bool} (h : s.Signals o ri x q) (hready : s.RingReady ri r sp) (hfrozen : q.state ≠ .frozen) :
    .ringEntry ri (r.pi % r.size) (r.base + 32 * (r.pi % r.size)) ((s.entryOf x q).bytes r.phase) ∈
      (s.operationComplete o (.ok b e)).hbmReport.out := by
  simp only [State.operationComplete, h.op, State.retire_signals h]
  set d := s.entryOf x q
  set v := s.entryDue o ri d
  have hvq : ∀ j, v.queue j = if ri = j then (s.queue j).map fun r => { r with due := r.due ++ [d] } else s.queue j :=
    fun j => State.queue_modQueue ..
  have hring : v.queue ri = some { r with due := [d] } := by
    rw [hvq, if_pos rfl, hready.queue, Option.map_some, hready.due]
    rfl
  have hsource : ∃ y, v.queue x.queue = some y ∧ y.state = q.state := by
    rw [hvq, h.queue]
    split
    · exact ⟨_, rfl, rfl⟩
    · exact ⟨_, rfl, rfl⟩
  obtain ⟨y, hy, hstate⟩ := hsource
  have hfn : v.spokeFn r.spoke = sp.fn := by
    show s.spokeFn r.spoke = sp.fn
    rw [State.spokeFn, hready.spoke]
  have hheld : v.entryHeld { r with due := [d] } d = false :=
    State.entryHeld_eq_false hready.active hready.room (by rw [hfn]; exact hready.master) rfl hy (hstate ▸ hfrozen)
  have hwrite : (v.spokeWrite r.spoke (r.base + 32 * (r.pi % r.size)) (d.bytes r.phase) false (.ok b e)).2.status =
      .success :=
    State.spokeWrite_base (s := v) hready.spoke hready.base hready.master hready.rim (by
      have := hready.aligned
      rw [Due.bytes_length]
      omega)
  obtain ⟨hok, hsent⟩ := State.writeEntry_writes (s := v) (ri := ri) (r := { r with due := [d] }) (d := d) hwrite
  exact ((State.flush_writes hring rfl hheld hok).startFenced.stopCheck.hbmReport).mem_out hsent

/-! ### STATE_SUMMARY -/

/-- A buffer with room for all records takes all. -/
theorem fitting_all {l : List Bytes} {n : Nat} (h : (l.map List.length).sum ≤ n) : fitting n l = l := by
  induction l generalizing n with
  | nil => rfl
  | cons r l ih =>
    rw [List.map_cons, List.sum_cons] at h
    rw [fitting, if_pos (by omega), ih (by omega)]

/-- A summary has a BEGIN record. -/
theorem State.summary_flatten_ne_nil (s : State) (mine : Nat → Bool) : (s.summary mine).flatten ≠ [] := by
  have hbegin : ∃ r l, s.summary mine = recBytes 0 r :: l := ⟨_, _, rfl⟩
  obtain ⟨r, l, hl⟩ := hbegin
  rw [hl]
  exact List.cons_ne_nil _ _

/-- Bytes written to the memory of a function that may be reached are sent (R131). -/
theorem State.fnWrite_ok {s : State} {f a : Nat} {d b : Bytes} {e : Bool} (hmaster : s.canMaster f = true)
    (hrim : s.rimDown = false) (hd : d ≠ []) :
    s.fnWrite f a d (.ok b e) =
      ((s.hitProt (some f) a d.length).emit (.memWrite f none (s.fn f).atsEn a d false), .success) := by
  simp only [State.fnWrite, hmaster, hrim, if_neg hd]
  rfl

/-- The functions of a summary's scope: those of the hierarchy with ALL, the caller otherwise (R168). -/
def summaryScope (f : Nat) (p : Bytes) : Nat → Bool :=
  fun g => if bit (u8 p 12) 0 then g / 4 == f / 4 else g == f

/-- The reply to a first STATE_SUMMARY whose records all fit (R168, R169). -/
theorem State.stateSummary_fits {s : State} {f : Nat} {p b : Bytes} {e : Bool} (hcur : u64 p 16 = 0)
    (hlen : u32 p 8 % 8 = 0) (hmin : 64 ≤ u32 p 8) (hall : bit (u8 p 12) 0 = true → f % 4 = 0)
    (hmaster : s.canMaster f = true) (hrim : s.rimDown = false)
    (hfit : ((s.summary (summaryScope f p)).map List.length).sum ≤ u32 p 8) :
    let l := s.summary (summaryScope f p)
    let u := (s.hitProt (some f) (u64 p 0) l.flatten.length).emit
      (.memWrite f none (s.fn f).atsEn (u64 p 0) l.flatten false)
    s.stateSummary f p (.ok b e) =
      Reply.ok u (toLe 4 l.flatten.length ++ toLe 4 l.length ++ toLe 8 0 ++ toLe 8 u.host.epoch) := by
  intro l u
  have hshape : ¬(u32 p 8 % 8 ≠ 0 ∨ u32 p 8 < 64) := by omega
  have hright : (bit (u8 p 12) 0 && f % 4 != 0) = false := by
    cases h : bit (u8 p 12) 0 with
    | false => rfl
    | true => simp [hall h]
  have hwrite : s.fnWrite f (u64 p 0) l.flatten (.ok b e) = (u, .success) :=
    State.fnWrite_ok hmaster hrim (s.summary_flatten_ne_nil _)
  have hl : fitting (u32 p 8) ((s.summary (summaryScope f p)).drop 0) = l := fitting_all hfit
  unfold summaryScope at hl
  simp only [State.stateSummary, hcur, if_true, if_neg hshape, hright, hl, hwrite]
  have hnone : decide (l.length < ((s.summary (summaryScope f p)).drop 0).length) = false := by simp [l]
  unfold summaryScope at hnone
  simp only [hnone]
  rfl

/-- Settles O24: a fetched descriptor adds an operation and marks it (`takeDescriptor_marks`), a queue in ERROR stays
there (`queueError_error`), an operation that has left does not come back while its entry is written
(`operationComplete_gone`, `operationComplete_writes`), and a summary that fits is written whole (`stateSummary_fits`). -/
theorem descriptorsBecomeOperationsAndLeave : Obligations.DescriptorsBecomeOperationsAndLeave := by
  refine ⟨fun s u qi q r ans hq hmay hgo hread hst hpoison hmedium hkey => ?_,
    fun s u qi q r ans hq hmay hgo hread hbad hpages => ?_,
    fun s o ri x q r sp d ep hc hx hdone hq hcq hsignal hr _ hactive hdue hroom hfrozen hsp hbase hmaster hrim
      halign => ?_,
    fun s f p d ep hperf hp hcur hlen hmin hall hmaster hrim hfit => ?_⟩
  · have hkeep : s.KeepsHost u := (State.KeepsHost.spokeRead {}).fst_eq hread
    have huq : u.queue qi = some q := (hkeep.queue qi).trans hq
    have hnone : Map.get u.trg.entries (trigKey q.spoke (dTrigger r.data)) = none := by
      simpa [Map.has] using hkey
    have hclean : (withMarks r.status r.poisoned r.medium == .success) = true :=
      beq_iff_eq.2 (withMarks_eq_success.2 ⟨hst, hpoison, hmedium⟩)
    have htake : s.descriptorFetched qi ans = u.takeDescriptor qi q r.data :=
      (State.descriptorFetched_read hq hmay hgo hread).trans (if_pos hclean)
    obtain ⟨g, hsource, hmark⟩ := State.takeDescriptor_marks huq hnone
    have hop : (u.takeDescriptor qi q r.data).op u.host.nextOp = some (g (u.fetchedOp qi q r.data)) := by
      rw [hmark, State.op_modOp, if_pos rfl, State.op_fetched]
      rfl
    have hsame := hsource (u.fetchedOp qi q r.data)
    refine ⟨_, g (u.fetchedOp qi q r.data), { q with consumer := (q.consumer + 1) % 2 ^ 32, fetched := q.fetched + 1 },
      congrArg Host.Outcome.next htake, hop, congrArg Op.queue hsame, congrArg Op.index hsame,
      congrArg Op.desc hsame, congrArg Op.consumer hsame, ?_, rfl, rfl, ?_, fun hmal => ?_⟩
    · rw [hmark]
      exact State.queue_fetched _ huq
    · rw [hmark]
      rfl
    · have := hop.symm.trans (State.takeDescriptor_malformed hmal)
      rw [Option.some.inj this]
      exact ⟨rfl, rfl⟩
  · have hkeep : s.KeepsHost u := (State.KeepsHost.spokeRead {}).fst_eq hread
    have huq : u.queue qi = some q := (hkeep.queue qi).trans hq
    have hfailed : ¬(withMarks r.status r.poisoned r.medium == .success) = true := fun h => by
      obtain ⟨hst, hpoison, hmedium⟩ := withMarks_eq_success.1 (beq_iff_eq.1 h)
      simp [hst, hpoison, hmedium] at hbad
    have herror : s.descriptorFetched qi ans =
        u.queueError qi (withMarks r.status r.poisoned r.medium) q.consumer := by
      rw [State.descriptorFetched_read hq hmay hgo hread, if_neg hfailed, hpages]
      rfl
    obtain ⟨hqueue, hnext⟩ := State.queueError_error (idx := q.consumer)
      (st := withMarks r.status r.poisoned r.medium) huq
    exact ⟨_, _, congrArg Host.Outcome.next herror, hqueue, rfl, rfl, hnext⟩
  · have hwf : Map.wf s.host.ops = true := by
      simp only [State.canonical, Bool.and_eq_true] at hc
      obtain ⟨⟨⟨⟨-, hops⟩, -⟩, -⟩, -⟩ := hc
      exact hops
    have hsignals : s.Signals o ri x q := ⟨hx, hdone, hq, hcq, hsignal⟩
    have hready : s.RingReady ri r sp := ⟨hr, hactive, hdue, hroom, hsp, hbase, hmaster, hrim, halign⟩
    exact ⟨_, rfl, State.operationComplete_gone hwf hsignals,
      State.operationComplete_writes hsignals hready hfrozen⟩
  · have hreply := State.stateSummary_fits (b := d) (e := ep) hcur hlen hmin hall hmaster hrim hfit
    set l := s.summary (summaryScope f p)
    set u := (s.hitProt (some f) (u64 p 0) l.flatten.length).emit
      (.memWrite f none (s.fn f).atsEn (u64 p 0) l.flatten false)
    have hkeep : s.KeepsHost u := (State.KeepsHost.hitProt {}).trans {}
    have hout : (u.fn f).mb.outstanding = true := by
      rw [State.fn, hkeep.fns]
      exact State.performable_outstanding hperf
    have hperform : s.perform f 0x0010 (fun p s => s.stateSummary f p (.ok d ep)) =
        u.answer f .success (toLe 4 l.flatten.length ++ toLe 4 l.length ++ toLe 8 0 ++ toLe 8 u.host.epoch) none := by
      simp only [State.perform, hperf, hp, hreply]
      rfl
    refine ⟨_, congrArg Host.Outcome.next hperform, ?_⟩
    obtain ⟨hresp, -, -, -, hframe⟩ := u.answer_answered f .success
      (toLe 4 l.flatten.length ++ toLe 4 l.length ++ toLe 8 0 ++ toLe 8 u.host.epoch) hout
    have hsent : .memWrite f none (s.fn f).atsEn (u64 p 0) l.flatten false ∈ u.out :=
      List.mem_append_right _ (List.mem_singleton_self _)
    refine ⟨?_, (State.Evolves.refl u).answer.mem_out hsent, ?_, ?_⟩
    · rw [hkeep.epoch] at hresp ⊢
      exact hresp
    · rw [hframe]
      exact hkeep.cursors
    · rw [hframe]
      exact hkeep.queues

end Sys2Proof.Machine
end

section
/-! PROOFS. The start of SC and the soft device reset (R188, R189, R496, R576, R577, R579, R595): what events,
retirements and stopped data paths leave of the status that a start shows, what the start itself sets, and what a soft
reset clears. -/

namespace Sys2Proof

theorem Map.get_map {β γ : Type} (m : List (Nat × β)) (g : Nat → β → γ) (k : Nat) :
    Map.get (m.map fun (i, x) => (i, g i x)) k = (Map.get m k).map (g k) := by
  induction m with
  | nil => rfl
  | cons x t ih =>
    obtain ⟨a, b⟩ := x
    simp only [List.map_cons, Map.get]
    split
    next e =>
      subst e
      rfl
    next => exact ih

end Sys2Proof

namespace Sys2Proof.Machine
open Sys2Proof

-- One lemma after another: so many short ones, each in a thread of its own, outgrow the memory of a check.
set_option Elab.async false

/-! ### The status of a start -/

/-- The board but for the starts of local counters, test records and causes due: what says how far a start or a reset
has come. -/
def Board.progress (b : Board) : Board := { b with unitStart := [], tests := [], retireDue := [] }

/-- What events, retirements and stopped data paths keep of the status that a start shows: the board's progress, the
fuses, whether HBM is absent, SEC_STAT, GLB_RESET_CAUSE, and the state of each stack. -/
structure State.KeepsStatus (s t : State) : Prop where
  brd : t.brd.progress = s.brd.progress := by rfl
  fuses : t.sec.fuses = s.sec.fuses := by rfl
  absent : t.mem.absent = s.mem.absent := by rfl
  boot : t.rget 0x900000 = s.rget 0x900000 := by rfl
  cause : t.rget aResetCause = s.rget aResetCause := by rfl
  stack : ∀ x < 6, t.rfield (aHbmStat x) 1 0 = s.rfield (aHbmStat x) 1 0 := by exact fun _ _ => rfl

theorem State.KeepsStatus.refl {s : State} : s.KeepsStatus s := {}

section
variable {s u v : State}

theorem State.KeepsStatus.trans (h : s.KeepsStatus u) (h' : u.KeepsStatus v) : s.KeepsStatus v where
  brd := h'.brd.trans h.brd
  fuses := h'.fuses.trans h.fuses
  absent := h'.absent.trans h.absent
  boot := h'.boot.trans h.boot
  cause := h'.cause.trans h.cause
  stack x hx := (h'.stack x hx).trans (h.stack x hx)

theorem State.KeepsStatus.either {c : Prop} {_ : Decidable c} (h : s.KeepsStatus u) (h' : s.KeepsStatus v) :
    s.KeepsStatus (if c then u else v) := by
  split <;> assumption

theorem State.KeepsStatus.either_fst {α : Type} {c : Prop} {_ : Decidable c} {p q : State × α}
    (h : s.KeepsStatus p.1) (h' : s.KeepsStatus q.1) : s.KeepsStatus (if c then p else q).1 := by
  split <;> assumption

theorem State.KeepsStatus.either_snd {α : Type} {c : Prop} {_ : Decidable c} {p q : α × State}
    (h : s.KeepsStatus p.2) (h' : s.KeepsStatus q.2) : s.KeepsStatus (if c then p else q).2 := by
  split <;> assumption

theorem State.KeepsStatus.fold {α : Type} {l : List α} {op : State → α → State} (h : s.KeepsStatus u)
    (hop : ∀ v a, s.KeepsStatus v → s.KeepsStatus (op v a)) : s.KeepsStatus (l.foldl op u) :=
  List.foldlRecOn l op h fun _ hv a _ => hop _ a hv

theorem State.KeepsStatus.fst_eq {α : Type} {p : State × α} {a : α} (h : s.KeepsStatus p.1) (e : p = (v, a)) :
    s.KeepsStatus v := by
  rw [e] at h
  exact h

theorem State.KeepsStatus.snd_eq {α : Type} {p : α × State} {a : α} (h : s.KeepsStatus p.2) (e : p = (a, v)) :
    s.KeepsStatus v := by
  rw [e] at h
  exact h

theorem State.KeepsStatus.bump (h : s.KeepsStatus u) : s.KeepsStatus u.bump := h.trans {}

theorem State.KeepsStatus.withTrg {x : TrgState} (h : s.KeepsStatus u) : s.KeepsStatus { u with trg := x } := h.trans {}

theorem State.KeepsStatus.withTests {l : List TestRec} (h : s.KeepsStatus u) :
    s.KeepsStatus { u with brd.tests := l } := h.trans {}

theorem State.KeepsStatus.measure {i type version svn : Nat} {d : Bytes} (h : s.KeepsStatus u) :
    s.KeepsStatus (u.measure i type version svn d) := h.trans {}

/-- A register that shows none of the status. -/
theorem State.KeepsStatus.rput {off w : Nat} (h : s.KeepsStatus u) (hstack : off < aHbmStat 0 ∨ aHbmStat 6 ≤ off)
    (hboot : off ≠ 0x900000) (hcause : off ≠ aResetCause) : s.KeepsStatus (u.rput off w) :=
  h.trans
    { boot := State.rget_rput_of_ne _ _ hboot
      cause := State.rget_rput_of_ne _ _ hcause
      stack := fun x hx => congrArg (bits · 1 0) (State.rget_rput_of_ne _ _ (by unfold aHbmStat at *; omega)) }

theorem State.KeepsStatus.rsat {off hi lo n : Nat} (h : s.KeepsStatus u) (hstack : off < aHbmStat 0 ∨ aHbmStat 6 ≤ off)
    (hboot : off ≠ 0x900000) (hcause : off ≠ aResetCause) : s.KeepsStatus (u.rsat off hi lo n) :=
  h.rput hstack hboot hcause

/-- A count beside the state of a stack (R192). -/
theorem State.KeepsStatus.rsatStack {x hi lo n : Nat} (h : s.KeepsStatus u) (hx : x < 8) (hle : lo ≤ hi)
    (hlo : 1 < lo) : s.KeepsStatus (u.rsat (aHbmStat x) hi lo n) := by
  refine h.trans { boot := ?_, cause := ?_, stack := fun y hy => ?_ }
  · exact State.rget_rsat_of_ne _ _ _ _ (by unfold aHbmStat; omega)
  · exact State.rget_rsat_of_ne _ _ _ _ (by unfold aHbmStat aResetCause; omega)
  · rw [State.rfield, State.rsat, State.rset, State.rget_rput]
    split
    next e => rw [bits_setBits_apart _ _ hle (.inl hlo), e, State.rfield]
    next => rfl

/-! ### Accesses of HBM and of a spoke's memory -/

theorem State.KeepsStatus.uncorrectable {blk : Nat} (h : s.KeepsStatus u) : s.KeepsStatus (u.uncorrectable blk) :=
  .rsatStack (h.trans {}) (by unfold stackOf; omega) (by decide) (by decide)

theorem State.KeepsStatus.hbmRead {a n : Nat} (h : s.KeepsStatus u) : s.KeepsStatus (u.hbmRead a n).1 :=
  .fold (h.trans {}) fun _ _ hv => hv.uncorrectable

theorem State.KeepsStatus.hitProt {g : Option Nat} {a n : Nat} (h : s.KeepsStatus u) :
    s.KeepsStatus (u.hitProt g a n) := by
  refine .either h (.rsat (.trans (List.foldlRecOn _ _ (motive := fun p : State × List Prot => s.KeepsStatus p.1) h
    fun v hv p _ => ?_) {}) (by decide) (by decide) (by decide))
  refine .either_fst hv ?_
  split
  · exact hv
  · exact hv.hbmRead

theorem State.KeepsStatus.hbmWrite {a : Nat} {d : Bytes} {ep : Bool} (h : s.KeepsStatus u) :
    s.KeepsStatus (u.hbmWrite a d ep) :=
  .fold (h.hitProt.trans {}) fun _ _ hv =>
    .either (hv.trans {}) (.either (hv.trans {}) (.either (hv.trans {}).uncorrectable (hv.trans {})))

theorem State.KeepsStatus.walk {spoke fn va n tbl : Nat} (h : s.KeepsStatus u) :
    s.KeepsStatus (u.walk spoke fn va n tbl).2 := by
  induction n generalizing u tbl with
  | zero => exact h
  | succ n ih =>
    unfold State.walk
    dsimp only
    exact .either_snd h (.either_snd h.hbmRead (.either_snd h.hbmRead
      (.either_snd (.either_snd h.hbmRead (ih h.hbmRead))
        (.either_snd h.hbmRead (.either_snd h.hbmRead h.hbmRead)))))

theorem State.KeepsStatus.translate {k va : Nat} {write : Bool} (h : s.KeepsStatus u) :
    s.KeepsStatus (u.translate k va write).2 := by
  unfold State.translate
  dsimp only
  split
  · exact h
  · refine .either_snd h (.either_snd h ?_)
    split
    · exact h
    · split
      next heq => exact h.walk.snd_eq heq
      next heq => exact (h.walk.snd_eq heq).trans (.either (.trans {} {}) {})

theorem State.KeepsStatus.leafWrite {sp : Spoke} {leaf : Leaf} {d : Bytes} {ep : Bool} {ans : HostAns}
    (h : s.KeepsStatus u) : s.KeepsStatus (u.leafWrite sp leaf d ep ans).1 := by
  unfold State.leafWrite
  split
  · exact h.hbmWrite
  · split
    · exact h
    · exact .either_fst h (.either_fst h (h.trans {}))
  · refine .either_fst h (.either_fst h (.either_fst h ?_))
    split
    · exact h
    · exact h
    · exact h.hitProt.trans {}

theorem State.KeepsStatus.spokeWrite {k va : Nat} {d : Bytes} {ep : Bool} {ans : HostAns} (h : s.KeepsStatus u) :
    s.KeepsStatus (u.spokeWrite k va d ep ans).1 := by
  unfold State.spokeWrite
  generalize d.length / 4096 + 2 = n
  induction n generalizing u va d with
  | zero => exact h
  | succ n ih =>
    unfold State.spokeWriteLoop
    dsimp only
    refine .either_fst h ?_
    split
    · exact h
    · split
      next heq => exact h.translate.snd_eq heq
      next heq => exact .either_fst (h.translate.snd_eq heq).leafWrite (ih (h.translate.snd_eq heq).leafWrite)

/-! ### Messages, entries and events -/

theorem State.KeepsStatus.interrupt {f n : Nat} (h : s.KeepsStatus u) : s.KeepsStatus (u.interrupt f n) :=
  .either (.either (h.trans {}) (h.trans {})) (.either (.either (h.trans {}) (h.trans {})) h)

theorem State.KeepsStatus.sampleKind {k : QKind} {since : Option Nat} (h : s.KeepsStatus u) :
    s.KeepsStatus (u.sampleKind k since) := by
  unfold State.sampleKind
  split
  · exact h.rsat (by unfold aHist aHbmStat; omega) (by unfold aHist; omega) (by unfold aHist aResetCause; omega)
  · exact h

theorem State.KeepsStatus.writeEntry {ri : Nat} {r : Queue} {d : Due} {ans : HostAns} (h : s.KeepsStatus u) :
    s.KeepsStatus (u.writeEntry ri r d ans).1 := by
  unfold State.writeEntry
  dsimp only
  generalize hp : u.spokeWrite r.spoke (r.base + 32 * (r.pi % r.size)) (d.bytes r.phase) false ans = p
  have hwrite : s.KeepsStatus p.1 := hp ▸ h.spokeWrite
  obtain ⟨v, a⟩ := p
  have hpage : s.KeepsStatus (v.pageFor r.spoke a (.ring ri)) :=
    .either (hwrite.trans {}) (.either (hwrite.trans {}) (hwrite.trans {}))
  refine .either_fst (.either_fst hpage hwrite) ?_
  split
  · exact .withTrg (.sampleKind (.either (.interrupt (hwrite.trans {})) (hwrite.trans {})))
  · exact .sampleKind (.either (.interrupt (hwrite.trans {})) (hwrite.trans {}))

theorem State.KeepsStatus.flushList {ri : Nat} {ans : HostAns} {l : List Due} (h : s.KeepsStatus u) :
    s.KeepsStatus (u.flushList ri ans l).1 := by
  induction l generalizing u with
  | nil => exact h
  | cons d l ih =>
    unfold State.flushList
    dsimp only
    split
    · exact h
    · refine .either_fst (ih h) ?_
      split
      next heq => exact ih (h.writeEntry.fst_eq heq)
      next heq => exact h.writeEntry.fst_eq heq
      next heq => exact h.writeEntry.fst_eq heq

theorem State.KeepsStatus.postEvent {k code a b : Nat} {st : Status} {queue : Nat} (h : s.KeepsStatus u) :
    s.KeepsStatus (u.postEvent k code a b st queue) := by
  have hflush : ∀ ri v, s.KeepsStatus v → s.KeepsStatus (v.flushRing ri (.ok [] false)).1 := by
    intro ri v hv
    unfold State.flushRing
    dsimp only
    split
    · exact hv
    · exact .either (hv.flushList.trans {}) (hv.flushList.trans {})
  unfold State.postEvent
  dsimp only
  split
  · exact h.trans {}
  · split
    · exact h.trans {}
    · exact .either (h.trans {}) (hflush _ _ (h.trans {}))

theorem State.KeepsStatus.postPf0 {hier code a b : Nat} {st : Status} {queue : Nat} (h : s.KeepsStatus u) :
    s.KeepsStatus (u.postPf0 hier code a b st queue) := by
  unfold State.postPf0
  split
  · exact h.postEvent
  · exact h

/-! ### Reports and retirements -/

theorem State.KeepsStatus.crFault {code detail : Nat} (h : s.KeepsStatus u) : s.KeepsStatus (u.crFault code detail) :=
  .either (h.trans {}) (h.trans {})

theorem State.KeepsStatus.pldm {sensor st : Nat} (h : s.KeepsStatus u) : s.KeepsStatus (u.pldm sensor st) :=
  .either (h.trans {}) (h.trans {})

theorem State.KeepsStatus.retireTray {cause : Nat} (h : s.KeepsStatus u) : s.KeepsStatus (u.retireTray cause) := by
  have hset : ∀ w, s.KeepsStatus (u.rput aRetire w) := fun w => h.rput (by decide) (by decide) (by decide)
  exact .either h (.bump (.pldm (.crFault (.postPf0 (.postPf0 ((hset _).trans {}))))))

theorem State.KeepsStatus.reportCauses (h : s.KeepsStatus u) : s.KeepsStatus u.reportCauses := by
  have hdue : s.KeepsStatus { u with brd.retireDue := [0, 1] } := h.trans {}
  exact .either h hdue.crFault.pldm

theorem State.KeepsStatus.addRepair {r : Repair} (hr : r.stack < 8) (h : s.KeepsStatus u) :
    s.KeepsStatus (u.addRepair r) :=
  .either h (.either (.retireTray (h.rsatStack hr (by decide) (by decide))) (h.trans {}))

/-- The results of the memory test of a soft reset (R591, R592). -/
theorem State.KeepsStatus.memoryResults {l : List TestResult} (h : s.KeepsStatus u) (hl : ∀ r ∈ l, r.test = 3) :
    s.KeepsStatus (u.results l) := by
  refine List.foldlRecOn l _ h fun v hv r hr => ?_
  have hrecord : s.KeepsStatus (v.testRecord r) := by
    unfold State.testRecord
    extract_lets k _ w
    have hw : s.KeepsStatus w := hv.withTests
    clear_value w
    exact .either (hw.rsat (by decide) (by decide) (by decide)) hw
  unfold State.testFailed
  split
  · exact hrecord
  · rw [hl r hr]
    exact hrecord.addRepair (bits_lt ..)

theorem State.KeepsStatus.newStart (h : s.KeepsStatus u) : s.KeepsStatus u.newStart :=
  .rput (h.trans {}) (by decide) (by decide) (by decide)

/-! ### Stopped data paths -/

theorem State.KeepsStatus.nvPost {c sq cid dw0 status : Nat} {ans : HostAns} (h : s.KeepsStatus u) :
    s.KeepsStatus (u.nvPost c sq cid dw0 status ans) := by
  have hwrite : ∀ {v : State} {x : Ctrl} {va : Nat} {d : Bytes}, s.KeepsStatus v →
      s.KeepsStatus (v.nvWrite x va d ans).1 := by
    intro v x va d hv
    unfold State.nvWrite
    split
    · exact hv.spokeWrite
    · exact hv.leafWrite
  have hloop : ∀ q n v, s.KeepsStatus v → s.KeepsStatus (v.nvFlushLoop c q ans n) := by
    intro q n
    induction n with
    | zero => exact fun _ hv => hv
    | succ n ih =>
      intro v hv
      unfold State.nvFlushLoop
      dsimp only
      split
      · split
        · exact hv
        · exact .either hv (.either ((hwrite hv).trans {})
            (ih _ (.either (.interrupt ((hwrite hv).trans {})) ((hwrite hv).trans {}))))
      · exact hv
  unfold State.nvPost State.nvFlush
  dsimp only
  split
  · exact h
  · split
    · exact hloop _ _ _ (h.trans {})
    · exact h.trans {}

theorem State.KeepsStatus.nvAbandon {p : NvCmd → Bool} (h : s.KeepsStatus u) : s.KeepsStatus (u.nvAbandon p) :=
  .fold (h.trans {}) fun _ _ hv => .fold (hv.trans {}) fun _ _ hw => .nvPost (hw.trans {})

/-- A frame or packet dropped with its port. -/
theorem State.KeepsStatus.dropCount {sub : Nat} (h : s.KeepsStatus u) : s.KeepsStatus (u.dropCount sub 1) :=
  h.rsat (by unfold aDrop aHbmStat; omega) (by unfold aDrop; omega) (by unfold aDrop aResetCause; omega)

theorem State.KeepsStatus.discardPort {i : Nat} (h : s.KeepsStatus u) : s.KeepsStatus (u.discardPort i) := by
  unfold State.discardPort
  extract_lets mine a v w ours fw x
  have hx : s.KeepsStatus x := .fold (.fold (.fold h fun _ _ hv => .dropCount (hv.trans {}))
    fun _ _ hv => hv.dropCount) fun _ _ hv => .fold hv fun _ _ hw => hw.dropCount
  clear_value x
  exact hx.trans {}

theorem State.KeepsStatus.stopPaths (h : s.KeepsStatus u) : s.KeepsStatus u.stopPaths := by
  unfold State.stopPaths
  extract_lets v w x y qs
  have hv : s.KeepsStatus v := .fold h fun _ _ hv => hv.trans {}
  clear_value v
  have hw : s.KeepsStatus w := hv.nvAbandon.trans {}
  clear_value w
  have hx : s.KeepsStatus x := .fold hw fun _ _ hv => hv.discardPort
  clear_value x
  have hy : s.KeepsStatus y := .fold hx fun _ _ hv => .fold hv fun _ _ hw => hw.dropCount
  clear_value y
  exact hy.trans {}

end

/-! ### The functions while data paths stop -/

/-- Counting a dropped frame keeps the functions. -/
theorem State.KeepsFns.discardPort {s u : State} {i : Nat} (h : s.KeepsFns u) : s.KeepsFns (u.discardPort i) := by
  unfold State.discardPort
  extract_lets mine a v w ours fw x
  have hx : s.KeepsFns x := .fold (.fold (.fold h fun _ _ hv => hv.trans {})
    fun _ _ hv => hv.trans {}) fun _ _ hv => .fold hv fun _ _ hw => hw.trans {}
  clear_value x
  exact hx.trans {}

theorem State.stopPaths_keepsFns (s : State) : s.KeepsFns s.stopPaths := by
  unfold State.stopPaths
  extract_lets v w x y qs
  have hv : s.KeepsFns v := .fold .refl fun _ _ hv => hv.abandonOp
  clear_value v
  have hw : s.KeepsFns w := hv.nvAbandon.trans {}
  clear_value w
  have hx : s.KeepsFns x := .fold hw fun _ _ hv => hv.discardPort
  clear_value x
  have hy : s.KeepsFns y := .fold hx fun _ _ hv => .fold hv fun _ _ hw => hw.trans {}
  clear_value y
  exact hy.trans { pagers := fun _ _ h => nomatch h }

theorem State.KeepsFns.mb {s t : State} (h : s.KeepsFns t) (g : Nat) : (t.fn g).mb = (s.fn g).mb :=
  (congrArg FnState.mb (h.fns g) :)

/-! ### HBM and SC start -/

/-- The stacks of a list marked with a state, whether they failed, and how many repairs of theirs found no spare. -/
def State.markStacks (s : State) (state failed spares : Nat → Nat) (l : List Nat) : State :=
  l.foldl (fun s x => ((s.rset (aHbmStat x) 1 0 (state x)).rset (aHbmStat x) 2 2 (failed x)).rset (aHbmStat x) 15 8
    (spares x)) s

section
variable (s : State) (state failed spares : Nat → Nat) (l : List Nat)

theorem State.markStacks_frame : s.markStacks state failed spares l =
    { s with regs := (s.markStacks state failed spares l).regs } :=
  List.foldlRecOn l _ (motive := fun t : State => t = { s with regs := t.regs }) rfl fun t ht _ _ => by
    rw [ht]
    rfl

theorem State.markStacks_rget {off : Nat} (h : ∀ x ∈ l, aHbmStat x ≠ off) :
    (s.markStacks state failed spares l).rget off = s.rget off :=
  List.foldlRecOn l _ (motive := fun t : State => t.rget off = s.rget off) rfl fun t ht x hx => by
    rw [State.rget_rset_of_ne _ _ _ _ (h x hx), State.rget_rset_of_ne _ _ _ _ (h x hx),
      State.rget_rset_of_ne _ _ _ _ (h x hx), ht]

/-- A stack of the list is in the state that it is marked with. -/
theorem State.markStacks_state {x : Nat} (hx : x ∈ l) :
    (s.markStacks state failed spares l).rfield (aHbmStat x) 1 0 = state x % 4 := by
  induction l using List.reverseRecOn with
  | nil => cases hx
  | append_singleton l y ih =>
    rw [State.markStacks, List.foldl_append, List.foldl_cons, List.foldl_nil, ← State.markStacks]
    by_cases e : y = x
    · subst e
      simp only [State.rfield, State.rset, State.rget_rput_self]
      rw [bits_setBits_apart _ _ (by decide) (by decide), bits_setBits_apart _ _ (by decide) (by decide),
        bits_setBits_self _ _ (by decide)]
      rfl
    · have hne : aHbmStat y ≠ aHbmStat x := fun h => e (by unfold aHbmStat at h; omega)
      rw [State.rfield, State.rget_rset_of_ne _ _ _ _ hne, State.rget_rset_of_ne _ _ _ _ hne,
        State.rget_rset_of_ne _ _ _ _ hne]
      exact ih ((List.mem_append.1 hx).resolve_right fun h => e (List.mem_singleton.1 h).symm)

end

/-- The stacks that a list names. -/
def stacksIn (l : List Nat) : List Nat := l.filter fun x => decide (x < 6)

theorem stacksIn_contains (l : List Nat) {x : Nat} (hx : x < 6) : (stacksIn l).contains x = l.contains x := by
  simp [stacksIn, hx]

theorem stacksIn_ne_nil (l : List Nat) : (stacksIn l != []) = l.any fun x => decide (x < 6) := by
  rw [Bool.eq_iff_iff]
  simp [stacksIn]

/-- The start of HBM marks the stacks; what it reports after that keeps the status (R188, R189, R195). -/
theorem State.hbmStart_marks (s : State) (failed spares : List Nat) : ∃ (m : MemState) (count : Nat → Nat),
    m.absent = (stacksIn failed != []) ∧
    (State.markStacks { s with mem := m } (fun x => if (stacksIn failed).contains x then 0 else 3)
      (fun x => b2n ((stacksIn failed).contains x)) count (List.range 6)).KeepsStatus (s.hbmStart failed spares) := by
  unfold State.hbmStart
  extract_lets bad lost reps _ u v w
  refine ⟨u.mem, fun x => min 255 (lost.filter fun e => e.1.stack == x).length, rfl, ?_⟩
  show v.KeepsStatus _
  clear_value v
  have hw : v.KeepsStatus w := .either (.retireTray .refl) .refl
  clear_value w
  exact .either hw.retireTray hw

theorem State.hbmStart_cause (s : State) (failed spares : List Nat) :
    (s.hbmStart failed spares).rget aResetCause = s.rget aResetCause := by
  obtain ⟨m, count, -, hmarks⟩ := s.hbmStart_marks failed spares
  refine hmarks.cause.trans (State.markStacks_rget _ _ _ _ _ fun x hx => ?_)
  unfold aHbmStat aResetCause
  omega

theorem State.hbmStart_brd (s : State) (failed spares : List Nat) :
    (s.hbmStart failed spares).brd.progress = s.brd.progress := by
  obtain ⟨m, count, -, hmarks⟩ := s.hbmStart_marks failed spares
  refine hmarks.brd.trans ?_
  rw [State.markStacks_frame]

/-- HBM has started under the board's progress `b` with the fuses `z`, and some stacks have failed (R188, R195). -/
structure State.HbmStarted (t : State) (b : Board) (z : Fuses) (failed : List Nat) : Prop where
  brd : t.brd.progress = b.progress
  fuses : t.sec.fuses = z
  absent : t.mem.absent = failed.any fun x => decide (x < 6)
  stack : ∀ x < 6, t.rfield (aHbmStat x) 1 0 = if failed.contains x then 0 else 3

theorem State.HbmStarted.keeps {t u : State} {b : Board} {z : Fuses} {failed : List Nat} (h : t.HbmStarted b z failed)
    (h' : t.KeepsStatus u) : u.HbmStarted b z failed :=
  ⟨h'.brd.trans h.brd, h'.fuses.trans h.fuses, h'.absent.trans h.absent,
    fun x hx => (h'.stack x hx).trans (h.stack x hx)⟩

theorem State.hbmStart_started (s : State) (failed spares : List Nat) :
    (s.hbmStart failed spares).HbmStarted s.brd s.sec.fuses failed := by
  have hbrd := s.hbmStart_brd failed spares
  obtain ⟨m, count, habsent, hmarks⟩ := s.hbmStart_marks failed spares
  refine ⟨hbrd, hmarks.fuses.trans ?_, hmarks.absent.trans ?_, fun x hx => (hmarks.stack x hx).trans ?_⟩
  · rw [State.markStacks_frame]
  · rw [State.markStacks_frame]
    exact habsent.trans (stacksIn_ne_nil failed)
  · rw [State.markStacks_state _ _ _ _ _ (List.mem_range.2 hx), stacksIn_contains _ hx]
    split <;> rfl

/-- SC released with the outcome of its tests in SEC_STAT (R496). -/
def State.scStarted (s : State) (ok : Bool) : State :=
  State.rset { s with brd.scReleased := true } 0x900000 2 0 (if ok then 1 else 4)

/-- SEC_STAT.BOOT tells the outcome of SC's tests. -/
theorem State.scStarted_boot (s : State) (ok : Bool) :
    (s.scStarted ok).rfield 0x900000 2 0 = if ok then 1 else 4 := by
  rw [State.scStarted, State.rfield, State.rset, State.rget_rput_self, bits_setBits_self _ _ (by decide)]
  split <;> rfl

/-- What SC does after its tests, be it measuring or retiring the tray, leaves the status of the start. -/
theorem State.scBoot_keepsStatus (s : State) (ok : Bool) : (s.scStarted ok).KeepsStatus (s.scBoot ok) := by
  unfold State.scBoot
  cases ok with
  | false => exact .retireTray .refl
  | true => exact .measure (.measure (.measure {}))

/-- Releasing SC keeps what the start of HBM has left. -/
theorem State.HbmStarted.scBoot {t : State} {b : Board} {z : Fuses} {failed : List Nat} (h : t.HbmStarted b z failed)
    (ok : Bool) : (t.scBoot ok).HbmStarted { b with scReleased := true } z failed := by
  refine .keeps (t := t.scStarted ok) ⟨?_, h.fuses, h.absent, fun x hx => ?_⟩ (t.scBoot_keepsStatus ok)
  · exact (congrArg (fun b : Board => { b with scReleased := true }) h.brd :)
  · refine Eq.trans ?_ (h.stack x hx)
    exact congrArg (bits · 1 0) (State.rget_rset_of_ne _ _ _ _ (by unfold aHbmStat; omega))

theorem State.scBoot_boot (s : State) (ok : Bool) : (s.scBoot ok).rfield 0x900000 2 0 = if ok then 1 else 4 := by
  rw [State.rfield, (s.scBoot_keepsStatus ok).boot, ← State.rfield, State.scStarted_boot]

/-- Zeroisation marks the board, and keeps the fuses and what the start of HBM has left (R595). -/
theorem State.HbmStarted.zeroised {t : State} {b : Board} {z : Fuses} {failed : List Nat}
    (h : t.HbmStarted b z failed) : t.zeroised.HbmStarted { b with scan := true } z failed := by
  have hstop : t.stopPaths.HbmStarted b z failed := h.keeps (.stopPaths .refl)
  unfold State.zeroised
  generalize t.stopPaths = u at hstop ⊢
  refine ⟨?_, hstop.fuses, hstop.absent, fun x hx => ?_⟩
  · exact (congrArg (fun b : Board => { b with scan := true }) hstop.brd :)
  · refine Eq.trans ?_ (hstop.stack x hx)
    exact congrArg (bits · 1 0) (State.rget_rset_of_ne _ _ _ _ (by unfold aHbmStat aResetCause; omega))

/-- HBM_FILL_COMPLETE on powered rails, with SC still held: HBM and SC start, and with TEST_EN the secrets go. -/
theorem State.fillComplete_held {s : State} (failed spares : List Nat) (ok : Bool) (hpg : s.brd.mainPg = true)
    (hheld : s.brd.scReleased = false) (hpll : s.brd.corePllBad = false) (hsoft : s.brd.soft = none)
    (hscan : s.brd.scan = false) : ∃ engines, s.fillComplete failed spares ok =
      let u := ((s.hbmStart failed spares).rset 0x900008 31 0 engines).scBoot ok
      if u.brd.testEn then u.zeroised.debugMeasure 0 0 [] else u :=
  ⟨_, if_neg (by simp [hpg, hheld, hpll, hsoft, hscan])⟩

/-- HBM and SC have started. -/
theorem State.scBoot_started (s : State) (failed spares : List Nat) (engines : Nat) (ok : Bool) :
    (((s.hbmStart failed spares).rset 0x900008 31 0 engines).scBoot ok).HbmStarted { s.brd with scReleased := true }
      s.sec.fuses failed :=
  ((s.hbmStart_started failed spares).keeps (.rput .refl (by decide) (by decide) (by decide))).scBoot ok

/-! ### The soft device reset -/

/-- Placing an exact-match entry leaves the tables of the network side (R236). -/
theorem emPlace_net (s : State) (em : List EmEntry) (e : EmEntry) (b n : Nat) : (emPlace s em e b n).1.net = s.net := by
  induction n generalizing s em e b with
  | zero => rfl
  | succ n ih =>
    simp only [emPlace]
    split
    · rfl
    · split
      · rfl
      · exact ih ..

theorem State.emInsert_net (s : State) (e : EmEntry) : (s.emInsert e).1.net = s.net := by
  simp only [State.emInsert]
  split
  · rfl
  · split
    · rfl
    · exact emPlace_net ..

theorem State.loadCassettes_net (s : State) (n i : Nat) (b : Bytes) : (s.loadCassettes n i b).net = s.net := by
  induction n generalizing s i b with
  | zero => rfl
  | succ n ih =>
    unfold State.loadCassettes
    split
    · rfl
    · rw [ih, State.rset_net, State.rset_net, State.rput_net, State.rput_net]
      exact List.foldlRecOn (List.range (u32 b 12)) _ (motive := fun t : State => t.net = s.net) rfl fun t h e _ =>
        (t.rput_net (aGateEntry i 0 e) (u64 b (16 + 8 * e))).trans h

theorem State.loadModes_up (s : State) : s.loadModes.net.up = s.net.up := by
  unfold State.loadModes
  exact List.foldlRecOn _ _ (motive := fun t : State => t.net.up = s.net.up) rfl fun t h x _ =>
    (congrArg NetState.up (t.rset_net (aPortCfg x.2) 1 0 x.1.toNat)).trans h

/-- No link is up after the journal's defaults are loaded (R590). -/
theorem State.loadDefaults_up (s : State) : s.loadDefaults.net.up = [] := by
  have hrules : s.loadRules.net.up = [] := by
    unfold State.loadRules
    refine List.foldlRecOn _ _ (motive := fun t : State => t.net.up = []) rfl fun t ht p _ => ?_
    have hinsert := congrArg NetState.up (t.emInsert_net
      { profile := u8 p 0, key := slice p 8 48, lo := 1, action := u32 p 4, bucket := 0 })
    split
    next h =>
      rw [h] at hinsert
      exact hinsert.trans ht
    next h =>
      rw [h] at hinsert
      exact hinsert.trans ht
  have hmodes : s.loadRules.loadModes.net.up = [] := (State.loadModes_up _).trans hrules
  have hmeters : ∀ u : State, u.resetMeters.net = u.net := fun _ => rfl
  unfold State.loadDefaults
  extract_lets u v w
  have hv : v.net.up = [] := by
    unfold v u
    rw [State.loadCassettes_net, hmeters, hmodes]
  clear_value v
  have hw : w.net.up = [] := by
    unfold w
    exact List.foldlRecOn _ _ (motive := fun t : State => t.net.up = []) hv fun _ h _ _ => h
  clear_value w
  rw [State.rset_net, hw]

/-- What a soft reset clears and what it keeps (R577, R579, R590). -/
structure State.SoftCleared (s : State) (lost : Bool) (who : Option Nat) (t : State) : Prop where
  soft : t.brd.soft = s.brd.soft
  scReleased : t.brd.scReleased = false
  queues : t.host.queues = []
  spokes : t.host.spokes = []
  ops : t.host.ops = []
  trg : t.trg = {}
  hbm : lost = true → t.mem.hbm = []
  fuses : t.sec.fuses = s.sec.fuses
  fn : ∀ g, t.fn g = (s.fn g).softened (who == some g)

theorem State.SoftCleared.reloads {s t u : State} {lost : Bool} {who : Option Nat} (h : s.SoftCleared lost who t)
    (h' : t.Reloads u) : s.SoftCleared lost who u := by
  rw [h'.eq]
  exact ⟨h.soft, h.scReleased, h.queues, h.spokes, h.ops, h.trg, h.hbm, h.fuses, h.fn⟩

/-- Every function of a table is softened, those at reset with it. -/
theorem FnState.softened_getD (o : Option FnState) (keepMb : Bool) :
    (o.map (·.softened keepMb)).getD {} = (o.getD {}).softened keepMb := by
  cases o with
  | none => cases keepMb <;> rfl
  | some x => rfl

theorem State.softClear_cleared (s : State) (lost : Bool) (who : Option Nat) :
    s.SoftCleared lost who (s.softClear lost who) := by
  unfold State.softClear
  refine .reloads ?_ (State.restartClocks_reloads _)
  refine .reloads ?_ (State.restartUnits_reloads ..)
  refine .reloads ?_ (State.loadDefaults_reloads _)
  refine .reloads ?_ (State.rset_reloads ..)
  refine ⟨rfl, rfl, rfl, rfl, rfl, rfl, fun h => if_pos h, rfl, fun g => ?_⟩
  exact (congrArg (Option.getD · {}) (Map.get_map s.host.fns (fun i x => x.softened (who == some i)) g)).trans
    (FnState.softened_getD ..)

theorem State.softClear_up (s : State) (lost : Bool) (who : Option Nat) : (s.softClear lost who).net.up = [] := by
  have hclocks : ∀ u : State, u.restartClocks.net = u.net := fun _ => rfl
  have hunits : ∀ (u : State) l, (u.restartUnits l).net = u.net := fun _ _ => rfl
  unfold State.softClear
  rw [hclocks, hunits, State.loadDefaults_up]

/-- The sender's mailbox, with the response in it, outlives the soft reset (R576, R579). -/
theorem State.SoftCleared.mb {s t : State} {lost : Bool} {f : Nat} (h : s.SoftCleared lost (some f) t) :
    (t.fn f).mb = (s.fn f).mb := by
  rw [h.fn, beq_self_eq_true]
  rfl

theorem State.SoftCleared.attach {s t : State} {lost : Bool} {who : Option Nat} (h : s.SoftCleared lost who t)
    (g : Nat) : (t.fn g).attach = .detached := by
  rw [h.fn]
  rfl

/-- What DEVICE_SOFT_RESET answers (R576). -/
def State.softResetReply (s : State) (f : Nat) (p : Bytes) : Reply :=
  if f % 4 ≠ 0 || s.resetBusy then Reply.err s .notPermitted
  else Reply.ok { s with brd.soft := some (bit (u8 p 0) 0) } []

/-- The request of a DEVICE_SOFT_RESET, answered. -/
def State.softAnswered (s : State) (f : Nat) : State := s.perform f 0x0005 fun p s => s.softResetReply f p

/-- A DEVICE_SOFT_RESET that starts none only answers. -/
theorem State.softReset_idle {s : State} {f : Nat} (h : (s.softAnswered f).brd.soft = none) :
    s.softReset f = s.softAnswered f := by
  show (match (s.softAnswered f).brd.soft, s.brd.soft with
    | some test, none =>
      ((s.softAnswered f).stopPaths.softClear test (some f)).sensorMoves (s.softAnswered f) [35]
    | _, _ => s.softAnswered f) = _
  rw [h]

/-- A DEVICE_SOFT_RESET that starts one answers, then the data paths stop and the state is cleared (R576, R577). -/
theorem State.softReset_starts {s : State} {f : Nat} {test : Bool} (h : (s.softAnswered f).brd.soft = some test)
    (hnone : s.brd.soft = none) : s.softReset f =
      ((s.softAnswered f).stopPaths.softClear test (some f)).sensorMoves (s.softAnswered f) [35] := by
  show (match (s.softAnswered f).brd.soft, s.brd.soft with
    | some test, none =>
      ((s.softAnswered f).stopPaths.softClear test (some f)).sensorMoves (s.softAnswered f) [35]
    | _, _ => s.softAnswered f) = _
  rw [h, hnone]

section
variable {s : State} {f : Nat} {p : Bytes} (hperf : s.performable f 0x0005 = true) (hp : (s.fn f).mb.payload = p)
include hperf hp

/-- A DEVICE_SOFT_RESET of a PF0 outside any reset is accepted. -/
theorem State.softAnswered_accepted (hpf : f % 4 = 0) (hfree : s.resetBusy = false) :
    State.answered { s with brd.soft := some (bit (u8 p 0) 0) } (s.softAnswered f) f .success [] := by
  have hreply : s.softResetReply f p = Reply.ok { s with brd.soft := some (bit (u8 p 0) 0) } [] :=
    if_neg (by simp [hpf, hfree])
  obtain ⟨u, hu, hanswer⟩ := State.perform_answered (body := fun p s => s.softResetReply f p) hperf hp hreply
    (State.performable_outstanding (s := s) hperf)
  cases hu
  exact hanswer

/-- Any other DEVICE_SOFT_RESET is refused (R576). -/
theorem State.softAnswered_refused (hrefused : f % 4 ≠ 0 ∨ s.resetBusy = true) :
    s.answered (s.softAnswered f) f .notPermitted [] := by
  have hreply : s.softResetReply f p = Reply.err s .notPermitted := if_pos (by simpa using hrefused)
  obtain ⟨u, hu, hanswer⟩ := State.perform_answered (body := fun p s => s.softResetReply f p) hperf hp hreply
    (State.performable_outstanding hperf)
  cases hu
  exact hanswer

end

theorem State.soft_of_not_resetBusy {s : State} (h : s.resetBusy = false) : s.brd.soft = none := by
  simp only [State.resetBusy, Bool.or_eq_false_iff, Option.isSome_eq_false_iff, Option.isNone_iff_eq_none] at h
  obtain ⟨⟨hsoft, -⟩, -⟩ := h
  exact hsoft

/-- What HBM_TEST puts before the end of a soft reset: the memory test's results, the fill and the causes (R579). -/
def State.softTested (s : State) (test : Bool) (results : List TestResult) (failed spares : List Nat) : State :=
  if test then ((s.newStart.results (results.filter fun r => r.test == 3)).hbmStart failed spares).reportCauses else s

/-- With or without a memory test, the board's progress and GLB_RESET_CAUSE are as they were. -/
theorem State.softTested_keeps (s : State) (test : Bool) (results : List TestResult) (failed spares : List Nat) :
    (s.softTested test results failed spares).brd.progress = s.brd.progress ∧
    (s.softTested test results failed spares).rget aResetCause = s.rget aResetCause := by
  unfold State.softTested
  split
  · have hresults : s.KeepsStatus (s.newStart.results (results.filter fun r => r.test == 3)) :=
      State.KeepsStatus.refl.newStart.memoryResults fun r hr => by simpa using (List.mem_filter.1 hr).2
    generalize s.newStart.results (results.filter fun r => r.test == 3) = u at hresults ⊢
    have hreport : (u.hbmStart failed spares).KeepsStatus (u.hbmStart failed spares).reportCauses := .reportCauses .refl
    exact ⟨(hreport.brd.trans (u.hbmStart_brd ..)).trans hresults.brd,
      (hreport.cause.trans (u.hbmStart_cause ..)).trans hresults.cause⟩
  · exact ⟨rfl, rfl⟩

/-- SOFT_RESET_COMPLETE with nothing deferred releases SC, records its cause and reports the links (R579). -/
theorem State.softDone_releases {s : State} {test : Bool} (results : List TestResult) (failed spares : List Nat)
    (ok : Bool) (hsoft : s.brd.soft = some test) (hdeferred : s.brd.deferred = []) : ∃ l : List Emit,
      s.softDone results failed spares ok =
        (((State.scBoot { s.softTested test results failed spares with
            brd.soft := none, brd.deferred := [] } ok).setKind
          (if test then 4 else 3)).rsat aResetCause 31 16 1).emits l := by
  have hnone : (s.softTested test results failed spares).brd.deferred = [] :=
    (congrArg Board.deferred (s.softTested_keeps test results failed spares).1 :).trans hdeferred
  unfold State.softDone
  rw [hsoft]
  exact ⟨_, congrArg (List.foldl State.performDeferred _) hnone⟩

/-- The cause that the end of a soft reset records, and its count (R579). -/
theorem State.setKind_counted (s : State) {k : Nat} (hk : k < 8) :
    ((s.setKind k).rsat aResetCause 31 16 1).rfield aResetCause 2 0 = k ∧
    ((s.setKind k).rsat aResetCause 31 16 1).rfield aResetCause 31 16 = min (s.rfield aResetCause 31 16 + 1) 65535 := by
  simp only [State.setKind, State.rsat, State.rset, State.rfield, State.rget_rput_self]
  rw [bits_setBits_apart _ _ (by decide) (by decide), bits_setBits_self _ _ (by decide),
    bits_setBits_self _ _ (by decide), bits_setBits_apart _ _ (by decide) (by decide)]
  exact ⟨Nat.mod_eq_of_lt hk, Nat.mod_eq_of_lt (Nat.lt_of_le_of_lt (Nat.min_le_right ..) (by decide))⟩

/-- HBM_FILL_COMPLETE on powered rails, with SC still held. -/
theorem State.fillComplete_released {s : State} (failed spares : List Nat) (ok : Bool) (hpg : s.brd.mainPg = true)
    (hheld : s.brd.scReleased = false) (hpll : s.brd.corePllBad = false) (hsoft : s.brd.soft = none)
    (hscan : s.brd.scan = false) :
    (s.fillComplete failed spares ok).HbmStarted { s.brd with scReleased := true, scan := s.brd.testEn } s.sec.fuses
      failed ∧
    (s.brd.testEn = false → (s.fillComplete failed spares ok).rfield 0x900000 2 0 = if ok then 1 else 4) := by
  obtain ⟨engines, hfill⟩ := State.fillComplete_held failed spares ok hpg hheld hpll hsoft hscan
  have hu := s.scBoot_started failed spares engines ok
  have hboot := ((s.hbmStart failed spares).rset 0x900008 31 0 engines).scBoot_boot ok
  dsimp only at hfill
  generalize ((s.hbmStart failed spares).rset 0x900008 31 0 engines).scBoot ok = u at hu hboot hfill
  have htestEn : u.brd.testEn = s.brd.testEn := (congrArg Board.testEn hu.brd :)
  rw [hfill, htestEn]
  cases htest : s.brd.testEn with
  | true => exact ⟨hu.zeroised.keeps (.measure .refl), nofun⟩
  | false => exact ⟨⟨hu.brd.trans (by rw [← hscan]), hu.fuses, hu.absent, hu.stack⟩, fun _ => hboot⟩

/-- Settles O7: the start of HBM and of SC set their status (`HbmStarted`, `scStarted`), which zeroisation and all that
is reported keep (`KeepsStatus`); a soft reset clears the state once its answer is written (`SoftCleared`). -/
theorem securityCoreAndSoftResetStart : Obligations.SecurityCoreAndSoftResetStart := by
  unfold Obligations.SecurityCoreAndSoftResetStart
  refine ⟨?_, ?_, ?_, ?_⟩
  · intro s failed spares ok hpg hheld hpll hsoft hscan
    obtain ⟨hstart, hboot⟩ := State.fillComplete_released failed spares ok hpg hheld hpll hsoft hscan
    exact ⟨_, rfl, (congrArg Board.scReleased hstart.brd :), hstart.absent, hstart.stack, hboot,
      (congrArg Board.scan hstart.brd :), hstart.fuses⟩
  · intro s f p hperf hp hpf hfree
    obtain ⟨hresponse, -, -, -, hframe⟩ := State.softAnswered_accepted hperf hp hpf hfree
    have hsoft : (s.softAnswered f).brd.soft = some (bit (u8 p 0) 0) :=
      (congrArg (fun u : State => u.brd.soft) hframe :)
    have hfuses : (s.softAnswered f).sec.fuses = s.sec.fuses := (congrArg (fun u : State => u.sec.fuses) hframe :)
    have hreset := State.softReset_starts hsoft (State.soft_of_not_resetBusy hfree)
    refine ⟨_, congrArg Host.Outcome.next hreset, ?_⟩
    generalize s.softAnswered f = u at hresponse hsoft hfuses ⊢
    have hstop : u.KeepsStatus u.stopPaths := .stopPaths .refl
    have hmb := u.stopPaths_keepsFns.mb f
    have hclear := u.stopPaths.softClear_cleared (bit (u8 p 0) 0) (some f)
    have hup := u.stopPaths.softClear_up (bit (u8 p 0) 0) (some f)
    generalize u.stopPaths.softClear (bit (u8 p 0) 0) (some f) = t at hclear hup
    generalize u.stopPaths = v at hstop hmb hclear
    have hresponded : t.responded f .success [] false := by
      rw [State.responded, hclear.mb, hmb]
      exact hresponse
    rw [State.sensorMoves_frame]
    exact ⟨hresponded, (hclear.soft.trans (congrArg Board.soft hstop.brd :)).trans hsoft, hclear.scReleased,
      hclear.queues, hclear.spokes, hclear.ops, hclear.trg, hup, hclear.hbm,
      (hclear.fuses.trans hstop.fuses).trans hfuses, hclear.attach⟩
  · intro s f p hperf hp hrefused hsoft
    have hanswer := State.softAnswered_refused hperf hp hrefused
    have hframe := hanswer
    obtain ⟨-, -, -, -, hframe⟩ := hframe
    have hidle : (s.softAnswered f).brd.soft = none := (congrArg (fun u : State => u.brd.soft) hframe :).trans hsoft
    exact ⟨_, congrArg Host.Outcome.next (State.softReset_idle hidle), hanswer⟩
  · intro s results failed spares ok test hsoft hdeferred
    obtain ⟨l, hdone⟩ := State.softDone_releases results failed spares ok hsoft hdeferred
    refine ⟨_, congrArg Host.Outcome.next hdone, ?_⟩
    generalize hu : ({ s.softTested test results failed spares with brd.soft := none, brd.deferred := [] } : State) = u
    have hnone : u.brd.soft = none := by rw [← hu]
    have hcause : u.rget aResetCause = s.rget aResetCause := by
      rw [← hu]
      exact (s.softTested_keeps test results failed spares).2
    have hboot := u.scBoot_keepsStatus ok
    obtain ⟨hkind, hcount⟩ := (u.scBoot ok).setKind_counted (k := if test then 4 else 3) (by split <;> decide)
    have hword : (u.scBoot ok).rget aResetCause = s.rget aResetCause :=
      hboot.cause.trans ((State.rget_rset_of_ne _ _ _ _ (by decide)).trans hcause)
    refine ⟨(congrArg Board.soft hboot.brd :).trans hnone, (congrArg Board.scReleased hboot.brd :), hkind, ?_, ?_⟩
    · refine hcount.trans ?_
      rw [State.rfield, hword, State.rfield]
    · refine Eq.trans ?_ (u.scBoot_boot ok)
      exact congrArg (bits · 2 0)
        ((State.rget_rsat_of_ne _ _ _ _ (by decide)).trans (State.rget_rset_of_ne _ _ _ _ (by decide)))

end Sys2Proof.Machine
end


section
/-! PROOFS. COPY and FILL within HBM (R180, R205, R207): what they move where HBM is in its canonical form, as in every
reachable state, and an HBM out of that form in which a byte that FILL writes is not the one read there. -/

namespace Sys2Proof.Machine
open Sys2Proof

/-! ### Bytes of HBM -/

theorem Memory.length_readBytes (m : List Host.Cell) (a n : Nat) : (Memory.readBytes m a n).length = n := by
  induction n generalizing a with
  | zero => rfl
  | succ n ih => exact congrArg (· + 1) (ih (a + 1))

theorem Memory.getD_readBytes (m : List Host.Cell) {a n i : Nat} (h : i < n) :
    (Memory.readBytes m a n).getD i 0 = Memory.read m (a + i) := by
  induction n generalizing a i with
  | zero => cases h
  | succ n ih =>
    cases i with
    | zero => rfl
    | succ i =>
      refine (ih (a := a + 1) (Nat.lt_of_succ_lt_succ h)).trans ?_
      rw [Nat.add_assoc, Nat.add_comm 1 i]

theorem length_fillBytes (pat a n : Nat) : (fillBytes pat a n).length = n := by simp [fillBytes]

/-- Each byte of a fill is the pattern's byte at its address modulo 8 (R205). -/
theorem getD_fillBytes (pat a : Nat) {n i : Nat} (h : i < n) :
    (fillBytes pat a n).getD i 0 = BitVec.ofNat 8 (pat / 256 ^ ((a + i) % 8)) := by
  simp [fillBytes, h]

/-! ### Accesses of HBM that meet no mark -/

/-- Without protected granules a write of HBM stores its bytes, and changes no more than memory and the registers that
count its errors. -/
theorem State.hbmWrite_stores {s : State} (a : Nat) (d : Bytes) (ep : Bool) (hprot : s.mem.prot = []) :
    (s.hbmWrite a d ep).mem.hbm = Memory.writeBytes s.mem.hbm a d ∧
    s.hbmWrite a d ep = { s with mem := (s.hbmWrite a d ep).mem, regs := (s.hbmWrite a d ep).regs } := by
  have hhit : s.hitProt none a d.length = s := by simp [State.hitProt, hprot]
  unfold State.hbmWrite
  rw [hhit]
  refine List.foldlRecOn _ _ (motive := fun t : State => t.mem.hbm = Memory.writeBytes s.mem.hbm a d ∧
    t = { s with mem := t.mem, regs := t.regs }) ⟨rfl, rfl⟩ fun t ⟨hhbm, hframe⟩ blk _ => ?_
  dsimp only
  split
  · exact ⟨hhbm, by rw [hframe]⟩
  · split
    · exact ⟨hhbm, by rw [hframe]⟩
    · split
      · exact ⟨hhbm, by rw [hframe]; rfl⟩
      · exact ⟨hhbm, by rw [hframe]⟩

/-- A write that meets no uncorrectable block counts no error and leaves firmware none to take up (R180, R193). -/
theorem State.hbmWrite_clean {s : State} (a : Nat) (d : Bytes) (hprot : s.mem.prot = []) (huncorr : s.mem.uncorr = []) :
    (s.hbmWrite a d false).regs = s.regs ∧ (s.hbmWrite a d false).mem.fresh = s.mem.fresh := by
  have hhit : s.hitProt none a d.length = s := by simp [State.hitProt, hprot]
  have hclean : (s.hbmWrite a d false).mem.uncorr = [] ∧ (s.hbmWrite a d false).regs = s.regs ∧
      (s.hbmWrite a d false).mem.fresh = s.mem.fresh := by
    unfold State.hbmWrite
    rw [hhit]
    refine List.foldlRecOn _ _ (motive := fun t : State => t.mem.uncorr = [] ∧ t.regs = s.regs ∧
      t.mem.fresh = s.mem.fresh) ⟨huncorr, rfl, rfl⟩ fun t ⟨hnone, hregs, hfresh⟩ blk _ => ?_
    have hblk : ¬t.mem.uncorr.contains blk = true := by simp [hnone]
    dsimp only
    rw [if_neg (by decide), if_neg hblk]
    split
    · exact ⟨by rw [hnone]; rfl, hregs, hfresh⟩
    · exact ⟨hnone, hregs, hfresh⟩
  exact hclean.2

/-- The state once HBM is out of self-refresh (R585). -/
def State.awake (s : State) : State := { s with mem.refresh := false }

/-- A read of HBM without marks finds its bytes clean (R180). -/
theorem State.hbmRead_clean {s : State} (a n : Nat) (hpoison : s.mem.poison = []) (huncorr : s.mem.uncorr = []) :
    s.hbmRead a n = (s.awake, Memory.readBytes s.mem.hbm a n, .clean) := by
  have hnone : (blocksOf a n).filter ([] : List Nat).contains = [] := List.filter_eq_nil_iff.2 (by simp)
  simp [State.hbmRead, State.awake, hpoison, huncorr, hnone]

/-! ### The end of a COPY or FILL -/

theorem State.running_op {s : State} {o : Nat} {k : QKind} {x : Op} {q : Queue} (h : s.running o k = some (x, q)) :
    s.op o = some x ∧ x.phase = .started := by
  unfold State.running at h
  split at h
  · cases h
  next y hy =>
    split at h
    · cases h
    · split at h
      next hc =>
        cases h
        simp only [Bool.and_eq_true, beq_iff_eq] at hc
        exact ⟨hy, hc.1.2⟩
      · cases h

/-- Operation `o` has ended in success on the way from `s` to `t`, with the bytes `b` stored in HBM at `a`. -/
structure State.Moved (s : State) (o a : Nat) (b : Bytes) (t : State) : Prop where
  op : ∃ y, t.op o = some y ∧ y.phase = .done ∧ y.status = .success ∧ y.bytes = b.length
  stored : ∀ i < b.length, Memory.read t.mem.hbm (a + i) = b.getD i 0
  outside : ∀ i, ¬(a ≤ i ∧ i < a + b.length) → Memory.read t.mem.hbm i = Memory.read s.mem.hbm i
  others : ∀ r, r ≠ o → t.op r = s.op r
  out : t.out = s.out

/-- A write of HBM whose operation then ends has moved its bytes, where HBM is canonical. -/
theorem State.moved_finish {s : State} {o : Nat} {x y : Op} (a : Nat) (b : Bytes) (hwf : Memory.wf s.mem.hbm = true)
    (hprot : s.mem.prot = []) (hx : s.op o = some x) (hy : y.phase ≠ .done) :
    s.Moved o a b (((s.hbmWrite a b false).modOp o fun _ => y).finish o .success b.length 0) := by
  obtain ⟨hhbm, hframe⟩ := s.hbmWrite_stores a b false hprot
  have hops : ∀ r, (s.hbmWrite a b false).op r = s.op r := fun r => by rw [hframe]; rfl
  have hmod : ((s.hbmWrite a b false).modOp o fun _ => y).op o = some y := by
    rw [State.op_modOp, if_pos rfl, hops, hx]
    rfl
  refine ⟨⟨_, State.op_finish_self hmod hy .., rfl, rfl, rfl⟩, fun i hi => ?_, fun i hi => ?_, fun r hr => ?_, ?_⟩
  · refine Eq.trans ?_ (Memory.read_writeBytes_inside b s.mem.hbm a i hwf hi)
    exact congrArg (Memory.read · (a + i)) hhbm
  · refine Eq.trans ?_ (Memory.read_writeBytes_outside b s.mem.hbm a i (by omega))
    exact congrArg (Memory.read · i) hhbm
  · rw [State.op_finish, if_neg hr.symm, State.op_modOp, if_neg hr.symm, hops]
  · show (s.hbmWrite a b false).out = s.out
    rw [hframe]

/-! ### COPY and FILL of one piece -/

/-- A write of device memory that a COPY or FILL may reach (R205). -/
theorem State.copyWrite_device {s : State} {d : Bytes} (k : Nat) {b : Bytes} (ep : Bool) (ans : HostAns)
    (hdst : cDstDev d = true) (huse : s.inUse devUses (cDst d) b.length = true) :
    s.copyWrite k d 0 b ep ans = (s.hbmWrite (cDst d) b ep, { done := b.length }) := by
  unfold State.copyWrite
  rw [Nat.add_zero, if_pos hdst, if_pos huse]

/-- A COPY or FILL that met no mark ends in success with the bytes that it moved. -/
theorem State.copyEnd_success {s : State} {o n : Nat} {y : Op} {detail : Nat} (hpoisoned : y.poisoned = false)
    (hmedium : y.medium = false) (hbytes : y.bytes = n) (hn : n ≤ 4096) :
    s.copyEnd o y .success detail = s.finish o .success n 0 := by
  rw [State.copyEnd, hpoisoned, hmedium, withMarks_unmarked, if_pos (by decide), hbytes, Nat.min_eq_left (by omega)]

/-- A COPY or FILL to device memory, nothing of which has been moved, that has met no mark. -/
structure Op.Unmoved (x : Op) : Prop where
  bytes : x.bytes = 0
  poisoned : x.poisoned = false
  medium : x.medium = false
  len : 0 < cLen x.desc
  dst : cDstDev x.desc = true
  dstPage : cDst x.desc % 4096 + cLen x.desc ≤ 4096

section
variable {s : State} {o : Nat} {x : Op} {q : Queue}

/-- The data of a whole COPY is written to device memory apart from the source, and ends it. -/
theorem State.copyFlush_device {b : Bytes} (wr : HostAns) (h : x.Unmoved) (hb : b.length = cLen x.desc)
    (hapart : cSrc x.desc + cLen x.desc ≤ cDst x.desc ∨ cDst x.desc + cLen x.desc ≤ cSrc x.desc)
    (huse : s.inUse devUses (cDst x.desc) (cLen x.desc) = true) :
    ∃ y : Op, y.phase = x.phase ∧ s.copyFlush o x q b false wr =
      ((s.hbmWrite (cDst x.desc) b false).modOp o fun _ => y).finish o .success b.length 0 := by
  have hfree : s.overlapFree x.desc 0 b = (s, b) := by
    refine if_pos ?_
    simp only [Bool.or_eq_true, decide_eq_true_eq]
    omega
  have hpage := h.dstPage
  unfold State.copyFlush
  rw [h.bytes, hfree]
  dsimp only
  rw [State.copyWrite_device _ _ _ h.dst (by rw [hb]; exact huse)]
  dsimp only
  rw [if_pos (by decide), if_pos (by omega)]
  refine ⟨_, ?_, State.copyEnd_success ?_ ?_ ?_ (by omega)⟩
  · rfl
  · rw [Bool.or_false, h.poisoned]
  · exact h.medium
  · exact Nat.zero_add _

/-- A COPY whose whole source lies in device memory within a page reads it at once (R180). -/
theorem State.copyRead_device (rd wr : HostAns) (h : x.Unmoved) (hsrc : cSrcDev x.desc = true)
    (hpage : cSrc x.desc % 4096 + cLen x.desc ≤ 4096) (huse : s.inUse devUses (cSrc x.desc) (cLen x.desc) = true)
    (hpoison : s.mem.poison = []) (huncorr : s.mem.uncorr = []) :
    ∃ y : Op, y.Unmoved ∧ y.desc = x.desc ∧ y.phase = x.phase ∧ s.copyRead o x q rd wr =
      s.awake.copyFlush o y q (Memory.readBytes s.mem.hbm (cSrc x.desc) (cLen x.desc)) false wr := by
  have hdstPage := h.dstPage
  unfold State.copyRead
  extract_lets d a n got
  have ha : a = cSrc x.desc := congrArg (cSrc x.desc + ·) h.bytes
  have hn : n = cLen x.desc := by
    have hb := h.bytes
    unfold n a d pieceLen
    omega
  rw [if_pos hsrc, ha, hn, if_pos huse]
  unfold got
  rw [ha, hn, State.hbmRead_clean _ _ hpoison huncorr]
  refine ⟨_, ⟨?_, ?_, ?_, ?_, ?_, ?_⟩, ?_, ?_, rfl⟩
  · exact h.bytes
  · rw [h.poisoned]
    rfl
  · rw [h.medium]
    rfl
  · exact h.len
  · exact h.dst
  · exact h.dstPage
  · rfl
  · rfl

/-- A COPY between ranges of device memory apart from each other, each within a page, moves its bytes in one step. -/
theorem State.copy_device (rd wr : HostAns) (hrun : s.running o .copy = some (x, q)) (h : x.Unmoved)
    (hopcode : dOpcode x.desc = 1) (hreading : x.reading = false) (hbuf : x.buf = none)
    (hallowed : s.devRefused x.desc q.spoke = false) (hsrc : cSrcDev x.desc = true)
    (hpage : cSrc x.desc % 4096 + cLen x.desc ≤ 4096)
    (hapart : cSrc x.desc + cLen x.desc ≤ cDst x.desc ∨ cDst x.desc + cLen x.desc ≤ cSrc x.desc)
    (hsrcUse : s.inUse devUses (cSrc x.desc) (cLen x.desc) = true)
    (hdstUse : s.inUse devUses (cDst x.desc) (cLen x.desc) = true) (hpoison : s.mem.poison = [])
    (huncorr : s.mem.uncorr = []) {b : Bytes} (hb : b = Memory.readBytes s.mem.hbm (cSrc x.desc) (cLen x.desc)) :
    ∃ y : Op, y.phase = x.phase ∧ s.copy o rd wr =
      ((s.awake.hbmWrite (cDst x.desc) b false).modOp o fun _ => y).finish o .success b.length 0 := by
  have hcopy : s.copy o rd wr = s.copyRead o x q rd wr := by
    have hlen := h.len.ne'
    simp [State.copy, hrun, hopcode, hreading, hallowed, hbuf, hlen]
  obtain ⟨y, hy, hdesc, hphase, hread⟩ :=
    State.copyRead_device (o := o) (q := q) rd wr h hsrc hpage hsrcUse hpoison huncorr
  rw [← hdesc] at hapart hdstUse
  rw [hcopy, hread, ← hphase, ← hb, ← hdesc]
  exact State.copyFlush_device wr hy (by rw [hb, Memory.length_readBytes, hdesc]) hapart hdstUse

/-- A FILL of device memory within a page writes its pattern in one step. -/
theorem State.fill_device (wr : HostAns) (hrun : s.running o .copy = some (x, q)) (h : x.Unmoved)
    (hopcode : dOpcode x.desc = 2) (hallowed : s.devRefused x.desc q.spoke = false)
    (huse : s.inUse devUses (cDst x.desc) (cLen x.desc) = true) {b : Bytes}
    (hb : b = fillBytes (cSrc x.desc) (cDst x.desc) (cLen x.desc)) :
    ∃ y : Op, y.phase = x.phase ∧ s.fill o wr =
      ((s.hbmWrite (cDst x.desc) b false).modOp o fun _ => y).finish o .success b.length 0 := by
  have hpage := h.dstPage
  have hlen := h.len
  have hn : min (cLen x.desc) (4096 - cDst x.desc % 4096) = cLen x.desc := by omega
  have hwrite := s.copyWrite_device (d := x.desc) q.spoke (b := b) false wr h.dst
    (by rw [hb, length_fillBytes]; exact huse)
  unfold State.fill
  rw [hrun]
  dsimp only
  rw [if_neg (by simp [hopcode]), if_neg (by simp [hallowed]), if_neg (by rw [h.bytes]; omega), h.bytes, Nat.add_zero,
    Nat.sub_zero, hn, ← hb, hwrite]
  dsimp only
  rw [if_pos (by decide), if_pos (by rw [hb, length_fillBytes, Nat.zero_add])]
  refine ⟨_, ?_, State.copyEnd_success ?_ ?_ ?_ (by rw [hb, length_fillBytes]; omega)⟩
  · rfl
  · exact h.poisoned
  · exact h.medium
  · exact Nat.zero_add _

/-- In canonical HBM without marks or protected granules, the COPY clause of O27 holds. -/
theorem exec_copy_canonical (rd wr : HostAns) (hwf : Memory.wf s.mem.hbm = true)
    (hrun : s.running o .copy = some (x, q)) (h : x.Unmoved) (hopcode : dOpcode x.desc = 1) (hreading : x.reading = false)
    (hbuf : x.buf = none) (hallowed : s.devRefused x.desc q.spoke = false) (hsrc : cSrcDev x.desc = true)
    (hpage : cSrc x.desc % 4096 + cLen x.desc ≤ 4096)
    (hapart : cSrc x.desc + cLen x.desc ≤ cDst x.desc ∨ cDst x.desc + cLen x.desc ≤ cSrc x.desc)
    (hsrcUse : s.inUse devUses (cSrc x.desc) (cLen x.desc) = true)
    (hdstUse : s.inUse devUses (cDst x.desc) (cLen x.desc) = true) (hpoison : s.mem.poison = [])
    (huncorr : s.mem.uncorr = []) (hfresh : s.mem.fresh = []) (hprot : s.mem.prot = []) :
    ∃ t, exec (.copy o rd wr) s = .next t ∧ t.regs = s.regs ∧
      s.Moved o (cDst x.desc) (Memory.readBytes s.mem.hbm (cSrc x.desc) (cLen x.desc)) t ∧
      ∀ i < cLen x.desc, Memory.read t.mem.hbm (cDst x.desc + i) = Memory.read s.mem.hbm (cSrc x.desc + i) := by
  obtain ⟨hx, hphase⟩ := State.running_op hrun
  obtain ⟨y, hy, hcopy⟩ := State.copy_device rd wr hrun h hopcode hreading hbuf hallowed hsrc hpage hapart hsrcUse
    hdstUse hpoison huncorr rfl
  have hlen := Memory.length_readBytes s.mem.hbm (cSrc x.desc) (cLen x.desc)
  have hget := fun i => Memory.getD_readBytes s.mem.hbm (a := cSrc x.desc) (n := cLen x.desc) (i := i)
  generalize Memory.readBytes s.mem.hbm (cSrc x.desc) (cLen x.desc) = b at hcopy hlen hget ⊢
  obtain ⟨hregs, hnone⟩ := s.awake.hbmWrite_clean (cDst x.desc) b hprot huncorr
  have hreport : (s.copy o rd wr).hbmReport = s.copy o rd wr := by
    have hnone' : (s.copy o rd wr).mem.fresh = [] := by
      rw [hcopy]
      exact hnone.trans hfresh
    rw [State.hbmReport, hnone']
  refine ⟨_, congrArg Host.Outcome.next (hreport.trans hcopy), hregs, ?_⟩
  obtain ⟨hop, hstored, houtside, hothers, hout⟩ :=
    State.moved_finish (s := s.awake) (cDst x.desc) b hwf hprot hx (y := y) (by rw [hy, hphase]; decide)
  exact ⟨⟨hop, hstored, houtside, hothers, hout⟩, fun i hi => (hstored i (by rwa [hlen])).trans (hget i hi)⟩

/-- In canonical HBM without protected granules, the FILL clause of O27 holds. -/
theorem exec_fill_canonical (wr : HostAns) (hwf : Memory.wf s.mem.hbm = true) (hrun : s.running o .copy = some (x, q))
    (h : x.Unmoved) (hopcode : dOpcode x.desc = 2) (hallowed : s.devRefused x.desc q.spoke = false)
    (huse : s.inUse devUses (cDst x.desc) (cLen x.desc) = true) (hprot : s.mem.prot = []) :
    ∃ t, exec (.fill o wr) s = .next t ∧
      s.Moved o (cDst x.desc) (fillBytes (cSrc x.desc) (cDst x.desc) (cLen x.desc)) t ∧
      ∀ i < cLen x.desc, Memory.read t.mem.hbm (cDst x.desc + i) =
        BitVec.ofNat 8 (cSrc x.desc / 256 ^ ((cDst x.desc + i) % 8)) := by
  obtain ⟨hx, hphase⟩ := State.running_op hrun
  obtain ⟨y, hy, hfill⟩ := State.fill_device wr hrun h hopcode hallowed huse rfl
  have hmoved := State.moved_finish (cDst x.desc) (fillBytes (cSrc x.desc) (cDst x.desc) (cLen x.desc)) hwf hprot hx
    (y := y) (by rw [hy, hphase]; decide)
  exact ⟨_, congrArg Host.Outcome.next hfill, hmoved,
    fun i hi => (hmoved.stored i (by rwa [length_fillBytes])).trans (getD_fillBytes _ _ hi)⟩

end

/-! ### HBM out of its canonical form -/

/-- The descriptor of a FILL of one byte of device memory at address 0x200 with a pattern of zeros. -/
def zeroFill : Bytes := toLe 8 (2 + 2 ^ 33) ++ zeros 16 ++ toLe 8 0x200 ++ toLe 8 1

/-- The FILL runs on PF0's base spoke, in an HBM that lists its byte twice. -/
def doubledByte : State := { State.reset with
  host.fns := [(0, { attach := .attached, bme := true, baseSpoke := some 5 })]
  host.queues := [(3, { kind := .copy, spoke := 5, state := .active })]
  host.ops := [(4, { queue := 3, index := 0, consumer := 1, desc := zeroFill })]
  mem.regions := [(9, { strong := false, use := 5, base := 0, size := 2 })]
  mem.hbm := [(0x200, 1), (0x200, 1)] }

/-- The FILL takes the first of the two cells away, and the second is read. -/
theorem read_fill_doubledByte :
    Memory.read (doubledByte.fill 4 (.ok [] false)).mem.hbm (cDst zeroFill + 0) = 1 := by decide +kernel

/-- Refutes O27: the clauses on COPY and FILL speak of every state, also of one whose HBM is not in its canonical form.
Where HBM lists a byte twice, a FILL of that byte with zeros takes only the first cell away, and the byte still reads 1.
No reachable state has such an HBM (`State.Evolves.hbm`), and in canonical HBM both clauses hold (`exec_copy_canonical`,
`exec_fill_canonical`). -/
theorem not_copyAndFillMoveTheirBytes : ¬Obligations.CopyAndFillMoveTheirBytes := by
  unfold Obligations.CopyAndFillMoveTheirBytes
  rintro ⟨-, hfill, -⟩
  obtain ⟨t, y, hexec, -, -, -, -, hstored, -⟩ := hfill doubledByte 4
    { queue := 3, index := 0, consumer := 1, desc := zeroFill }
    { kind := .copy, spoke := 5, state := .active } (.ok [] false) (by decide +kernel) (by decide +kernel) rfl rfl rfl
    (by decide +kernel) (by decide +kernel) (by decide +kernel) (by decide +kernel) (by decide +kernel) rfl
  have ht : (Host.Outcome.next (doubledByte.fill 4 (.ok [] false)) : Outcome) = .next t := hexec
  cases ht
  have hread := hstored 0 (by decide +kernel)
  rw [read_fill_doubledByte] at hread
  revert hread
  decide +kernel

end Sys2Proof.Machine
end

section
/-! PROOFS. The rule commands (R221, R234 to R248, R260): what each command answers a request that passes its checks,
and what abandoning and retiring a version leave. -/

namespace Sys2Proof.Machine
open Sys2Proof

/-- A performable request whose command succeeds at once, and leaves the functions alone, is answered SUCCESS. -/
theorem State.perform_ok {s u : State} {f opc : Nat} {body : Bytes → State → Reply} {p q : Bytes}
    (h : s.performable f opc = true) (hp : (s.fn f).mb.payload = q) (hb : body q s = Reply.ok u p)
    (hfns : u.host.fns = s.host.fns := by rfl) :
    ∃ t, (Host.Outcome.next (s.perform f opc body) : Outcome) = .next t ∧ u.answered t f .success p :=
  State.perform_answered h hp hb (by
    rw [State.fn, hfns]
    exact State.performable_outstanding h)

/-! ### Replies to requests that pass their checks -/

section
variable {s : State} {f : Nat} {p : Bytes}

theorem State.holdsLock_of_staging {g : Staging} (h : s.net.staging = some g) (hg : g.fn = f) :
    s.holdsLock f = true := by
  rw [State.holdsLock, h]
  exact beq_iff_eq.2 hg

theorem State.ruleBegin_free (hheld : s.heldNew 1 = false) (hfree : s.net.staging = none) :
    s.ruleBegin f =
      Reply.ok { s with net.staging := some { fn := f, rules := s.rules s.net.current } } (toLe 4 s.pend) := by
  rw [State.ruleBegin, hheld, hfree]
  rfl

theorem State.ruleShift_slot {g : Staging} {k : Nat} (hstaging : s.net.staging = some g) (hfn : g.fn = f)
    (hslot : Map.lowestFree s.net.vers 4 = some k) :
    s.ruleShift f = Reply.ok (State.bump { s with net := { s.net with
      vers := Map.put s.net.vers k { number := s.pend, rules := g.rules }, current := s.pend, staging := none,
      shifts := s.net.shifts + 1 } }) (toLe 4 s.pend) := by
  unfold State.ruleShift
  rw [hstaging, hslot]
  exact if_neg (not_not.2 hfn)

theorem State.emAdd_empty (hprofile : u8 p 0 ≤ 31) (haction : u32 p 4 ≤ 524287) (hlock : s.holdsLock f = true)
    (hf : f % 4 = 0) (hem : s.net.em = []) :
    s.emAdd f p = Reply.ok { s with net.em := [{
      profile := u8 p 0, key := slice p 8 48, lo := s.pend, action := u32 p 4,
      bucket := (emBuckets (u8 p 0) (slice p 8 48)).1 }] } [] := by
  have hinsert : ∀ e, s.emInsert e = (s, some [{ e with bucket := (emBuckets e.profile e.key).1 }]) := fun e => by
    unfold State.emInsert
    simp [hem]
  simp [State.emAdd, hinsert, hem, hlock, hf, hprofile, haction]

theorem State.emDelete_single {e : EmEntry} (hprofile : u8 p 0 ≤ 31) (hzero : u32 p 4 = 0)
    (hlock : s.holdsLock f = true) (hf : f % 4 = 0) (hem : s.net.em = [e]) (hep : e.profile = u8 p 0)
    (hkey : e.key = slice p 8 48) (hopn : e.opn = true) :
    s.emDelete f p = Reply.ok { s with
      net.em := if e.lo = s.pend then [] else [{ e with hi := s.pend, opn := false }] } [] := by
  by_cases hlo : e.lo = s.pend <;> simp [State.emDelete, hem, hep, hkey, hopn, hzero, hlock, hf, hprofile, hlo]

theorem State.aclAdd_freeSlot (hslot : u32 p 0 ≤ 65535) (haction : u32 p 4 ≤ 524287) (hprofile : u8 p 11 ≤ 31)
    (hlock : s.holdsLock f = true) (hf : f % 4 = 0) (hfree : Map.has s.net.acl (u32 p 0) = false) :
    s.aclAdd f p = Reply.ok { s with net.acl := Map.put s.net.acl (u32 p 0) {
      profile := u8 p 11, key := slice p 16 48, mask := slice p 64 48, prio := u16 p 8, overrides := bit (u8 p 10) 0,
      egress := bit (u8 p 10) 1, lo := s.pend, action := u32 p 4 } } [] := by
  simp [State.aclAdd, hslot, haction, hprofile, hlock, hf, hfree]

theorem State.aclDelete_open {e : AclEntry} (hget : Map.get s.net.acl (u32 p 0) = some e) (hopn : e.opn = true)
    (hlock : s.holdsLock f = true) (hf : f % 4 = 0) :
    s.aclDelete f p = Reply.ok { s with
      net.acl := if e.lo = s.pend then Map.erase s.net.acl (u32 p 0)
        else Map.put s.net.acl (u32 p 0) { e with hi := s.pend, opn := false } } [] := by
  simp [State.aclDelete, hget, hopn, hlock, hf]

theorem State.actionSet_unused (hindex : u32 p 0 ≤ 524287) (hgood : actionBad (slice p 8 64) = false)
    (hlock : s.holdsLock f = true) (hunused : s.actionUsed (u32 p 0) = false) (hf : f % 4 = 0) :
    s.actionSet f p = Reply.ok { s with
      net.actions := if (slice p 8 64).all (· == 0) then Map.erase s.net.actions (u32 p 0)
        else Map.put s.net.actions (u32 p 0) (slice p 8 64) } [] := by
  simp [State.actionSet, hindex, hgood, hlock, hunused, hf]

theorem State.stage_staged {g : Staging} (h : s.net.staging = some g) (r : RuleSet → RuleSet) :
    s.stage r = { s with net.staging := some { g with rules := r g.rules } } := by
  rw [State.stage, h]
  rfl

theorem State.defaultSet_staged {g : Staging} (hsub : u8 p 0 ≤ 31) (haction : u32 p 4 ≤ 524287) (hf : f % 4 = 0)
    (hstaging : s.net.staging = some g) (hfn : g.fn = f) :
    s.defaultSet f p = Reply.ok { s with net.staging := some { g with rules := { g.rules with
      defaults := Map.put g.rules.defaults (u8 p 0) (u32 p 4) } } } [] := by
  simp [State.defaultSet, hsub, haction, hf, State.holdsLock_of_staging hstaging hfn, State.stage_staged hstaging]

theorem State.classMapSet_staged {g : Staging} (hclass : u8 p 0 ≤ 13) (hexact : u8 p 1 ≤ 31) (hin : u8 p 2 ≤ 31)
    (hout : u8 p 3 ≤ 31) (hf : f % 4 = 0) (hstaging : s.net.staging = some g) (hfn : g.fn = f) :
    s.classMapSet f p = Reply.ok { s with net.staging := some { g with rules := { g.rules with
      classMap := Map.put g.rules.classMap (u8 p 0) (u8 p 1, u8 p 2, u8 p 3) } } } [] := by
  simp [State.classMapSet, hclass, hexact, hin, hout, hf, State.holdsLock_of_staging hstaging hfn,
    State.stage_staged hstaging]

theorem State.profileSet_unused (hindex : u8 p 0 ≤ 31) (hfields : u64 p 8 < 2 ^ 22)
    (hbytes : profileBytes (u64 p 8) ≤ 48) (hf : f % 4 = 0)
    (hem : s.net.em.any (fun e => e.profile == u8 p 0) = false)
    (hacl : s.net.acl.any (fun x => x.2.profile == u8 p 0) = false) :
    s.profileSet f p = Reply.ok { s with
      net.profiles := if u64 p 8 = 0 then Map.erase s.net.profiles (u8 p 0)
        else Map.put s.net.profiles (u8 p 0) (u64 p 8) } [] := by
  have hchecks :
      (decide (u8 p 0 > 31) || decide (u64 p 8 ≥ 2 ^ 22) || decide (profileBytes (u64 p 8) > 48)) = false := by
    simpa [hindex, hbytes] using hfields
  unfold State.profileSet
  dsimp only
  rw [hchecks, hem, hacl, hf]
  rfl

theorem State.macsecSet_good (hsub : u8 p 0 ≤ 31) (hchannel : u16 p 2 ≤ 31)
    (hzero : bit (u8 p 1) 3 = true ∨ u64 p 24 = 0) (hf : f % 4 = 0)
    (hkey : s.keyCheck (u32 p 4) [3] (s.baseOf f) = .success) :
    s.macsecSet f p = Reply.ok { s with net.macsec := (s.net.macsec.filter fun x => !(x.sub == u8 p 0 &&
      x.tx == bit (u8 p 1) 0 && x.an == bits (u8 p 1) 2 1 && (bit (u8 p 1) 0 || x.channel == u16 p 2))) ++
      [{ sub := u8 p 0, tx := bit (u8 p 1) 0, an := bits (u8 p 1) 2 1, channel := u16 p 2, xpn := bit (u8 p 1) 3,
         handle := u32 p 4, sci := u64 p 8, pn := u64 p 16, salt := u32 p 24, ssci := u32 p 28 }] } [] := by
  have hchecks : (decide (u8 p 0 > 31) || decide (u16 p 2 > 31) || (!bit (u8 p 1) 3 && u64 p 24 != 0)) = false := by
    rcases hzero with h | h <;> simp [hsub, hchannel, h]
  unfold State.macsecSet
  dsimp only
  rw [hchecks, hkey, hf]
  rfl

theorem State.ipsecSet_good (hindex : u16 p 0 ≤ 16383) (hf : f % 4 = 0)
    (hkey : s.keyCheck (u32 p 8) [4] (s.baseOf f) = .success) :
    s.ipsecSet f p = Reply.ok { s with net.ipsec := Map.put s.net.ipsec (u16 p 0) {
      outbound := bit (u8 p 2) 0, tunnel := bit (u8 p 2) 1, spi := u32 p 4, handle := u32 p 8, salt := u32 p 12,
      next := u64 p 16 } } [] := by
  unfold State.ipsecSet
  dsimp only
  rw [hkey, hf, decide_eq_false (Nat.not_lt.2 hindex)]
  rfl

theorem State.serviceSet_good (hspoke : (s.spoke (u16 p 0)).isSome = true) (hweight : u16 p 4 ≠ 0)
    (hrates : u64 p 16 = 0 ∨ u64 p 8 ≤ u64 p 16) (hf : f % 4 = 0) (hname : s.mayNameSpoke f (u16 p 0) = true) :
    s.serviceSet f p = Reply.ok { s with
      sch.services := Map.put s.sch.services (u16 p 0 * 8 + bits (u8 p 2) 2 0) (u16 p 4, u64 p 8, u64 p 16) } [] := by
  have hchecks : ((s.spoke (u16 p 0)).isNone || decide (u16 p 4 = 0) ||
      (u64 p 16 != 0 && decide (u64 p 16 < u64 p 8))) = false := by
    obtain ⟨x, hx⟩ := Option.isSome_iff_exists.1 hspoke
    rcases hrates with h | h <;> simp [hx, hweight, h]
  unfold State.serviceSet
  dsimp only
  rw [hchecks, hf, hname]
  rfl

end

/-! ### Abandoning and retiring a version -/

/-- R244: no exact-match entry begins or ends at an abandoned version. -/
theorem State.abandonRules_em {s : State} {e : EmEntry} (h : e ∈ s.abandonRules.net.em) :
    e.lo ≠ s.pend ∧ (e.opn = false → e.hi ≠ s.pend) := by
  obtain ⟨x, hx, rfl⟩ := List.mem_map.1 h
  have hlo : x.lo ≠ s.pend := by simpa using (List.mem_filter.1 hx).2
  split
  · exact ⟨hlo, nofun⟩
  next hend => exact ⟨hlo, fun hopn hhi => hend (by simp [hopn, hhi])⟩

/-- R244: no wildcard entry begins or ends at an abandoned version. -/
theorem State.abandonRules_acl {s : State} {x : Nat × AclEntry} (h : x ∈ s.abandonRules.net.acl) :
    x.2.lo ≠ s.pend ∧ (x.2.opn = false → x.2.hi ≠ s.pend) := by
  obtain ⟨y, hy, rfl⟩ := List.mem_map.1 h
  have hlo : y.2.lo ≠ s.pend := by simpa using (List.mem_filter.1 hy).2
  dsimp only
  split
  · exact ⟨hlo, nofun⟩
  next hend => exact ⟨hlo, fun hopn hhi => hend (by simp [hopn, hhi])⟩

theorem State.versionRetire_idle {s : State} {k : Nat} {x : Version} (h : s.version s.oldestVersion = some (k, x))
    (hold : s.oldestVersion ≠ s.net.current) (hidle : x.inFlight = 0) :
    s.versionRetire = State.reclaim { s with net.vers := Map.erase s.net.vers k } := by
  unfold State.versionRetire
  dsimp only
  rw [h]
  exact if_neg (by simp [hold, hidle])

/-- Settles O31: each clause is the command's reply to a request that passes its checks, answered as
`State.perform_ok` says; RULE_ABANDON and VERSION_RETIRE change only rules, entries and the lock. -/
theorem ruleCommandsStageAndShiftVersions : Obligations.RuleCommandsStageAndShiftVersions := by
  unfold Obligations.RuleCommandsStageAndShiftVersions
  refine ⟨?_, ?_, ?_, ?_, ?_, ?_, ?_, ?_, ?_, ?_, ?_, ?_, ?_, ?_, ?_⟩
  · intro s f p h hp hheld hfree
    exact State.perform_ok h hp (State.ruleBegin_free hheld hfree)
  · intro s f p g k h hp hstaging hfn hslot
    exact State.perform_ok h hp (State.ruleShift_slot hstaging hfn hslot)
  · intro s f p h hp hlock
    obtain ⟨t, hexec, hresp, -, -, -, hframe⟩ := State.perform_ok h hp
      (body := fun _ s => if s.holdsLock f then Reply.ok s.abandonRules [] else Reply.err s .notPermitted)
      (if_pos hlock)
    refine ⟨t, hexec, hresp, ?_⟩
    rw [hframe]
    exact ⟨rfl, fun _ => State.abandonRules_em, fun _ => State.abandonRules_acl, rfl, rfl, rfl⟩
  · intro s f p h hp hprofile haction hlock hf hem
    exact State.perform_ok h hp (State.emAdd_empty hprofile haction hlock hf hem)
  · intro s f p e h hp hprofile hzero hlock hf hem hep hkey hopn
    exact State.perform_ok h hp (State.emDelete_single hprofile hzero hlock hf hem hep hkey hopn)
  · intro s f p h hp hslot haction hprofile hlock hf hfree
    exact State.perform_ok h hp (State.aclAdd_freeSlot hslot haction hprofile hlock hf hfree)
  · intro s f p e h hp hget hopn hlock hf
    exact State.perform_ok h hp (State.aclDelete_open hget hopn hlock hf)
  · intro s f p h hp hindex hgood hlock hunused hf
    exact State.perform_ok h hp (State.actionSet_unused hindex hgood hlock hunused hf)
  · intro s f p g h hp hsub haction hf hstaging hfn
    exact State.perform_ok h hp (State.defaultSet_staged hsub haction hf hstaging hfn)
  · intro s f p g h hp hclass hexact hin hout hf hstaging hfn
    exact State.perform_ok h hp (State.classMapSet_staged hclass hexact hin hout hf hstaging hfn)
  · intro s k x hversion hold hidle
    refine ⟨_, congrArg Host.Outcome.next (State.versionRetire_idle hversion hold hidle), ?_⟩
    exact ⟨rfl, rfl, rfl, rfl, rfl, rfl⟩
  · intro s f p h hp hindex hfields hbytes hf hem hacl
    exact State.perform_ok h hp (State.profileSet_unused hindex hfields hbytes hf hem hacl)
  · intro s f p h hp hsub hchannel hzero hf hkey
    exact State.perform_ok h hp (State.macsecSet_good hsub hchannel hzero hf hkey)
  · intro s f p h hp hindex hf hkey
    exact State.perform_ok h hp (State.ipsecSet_good hindex hf hkey)
  · intro s f p h hp hspoke hweight hrates hf hname
    exact State.perform_ok h hp (State.serviceSet_good hspoke hweight hrates hf hname)

end Sys2Proof.Machine
end

section
/-! PROOFS. Frames that software sends and buffers that it posts (R223 to R227, R253): what a descriptor becomes, and
what selecting a frame and sending it leave of the operations and of memory. -/

namespace Sys2Proof.Machine
open Sys2Proof

/-! ### What selection and the egress pipeline leave alone -/

/-- R232: a packet for the network control plane is dropped and counted, or handed over and counted by its port. -/
theorem State.slowPath_cases (s : State) (sub : Nat) (b : Bytes) :
    s.slowPath sub b = s.dropCount sub 3 ∨
      ∃ c, s.slowPath sub b = State.emit { s with net.slowCount := c } (.slowPath sub b) := by
  -- The length of the second is made a variable before the body is read: the kernel would count the number down.
  obtain ⟨second, hsecond⟩ : ∃ n, n = 1000000000 := ⟨_, rfl⟩
  have body : State.slowPath = State.slowPath := rfl
  conv_rhs at body => delta State.slowPath
  rw [body, ← hsecond]
  exact (em _).imp (fun h => if_pos h) fun h => ⟨_, if_neg h⟩

/-- The egress side keeps the functions, queues and operations, memory, and the modes of the ports. -/
structure State.KeepsWork (s t : State) : Prop where
  host : t.host = s.host := by rfl
  mem : t.mem = s.mem := by rfl
  mode : t.net.mode = s.net.mode := by rfl

section
variable {s u v : State}

theorem State.KeepsWork.trans (h : s.KeepsWork u) (h' : u.KeepsWork v) : s.KeepsWork v :=
  ⟨h'.host.trans h.host, h'.mem.trans h.mem, h'.mode.trans h.mode⟩

theorem State.KeepsWork.op (h : s.KeepsWork u) (o : Nat) : u.op o = s.op o := by
  rw [State.op, h.host, State.op]

theorem State.KeepsWork.loopback (h : s.KeepsWork u) (i : Nat) : u.loopback i = s.loopback i := by
  rw [State.loopback, State.portCfg, h.mode, State.loopback, State.portCfg]

theorem State.KeepsWork.either {c : Prop} {_ : Decidable c} (h : s.KeepsWork u) (h' : s.KeepsWork v) :
    s.KeepsWork (if c then u else v) := by
  split <;> assumption

theorem State.KeepsWork.either_fst {α : Type} {c : Prop} {_ : Decidable c} {p q : State × α} (h : s.KeepsWork p.1)
    (h' : s.KeepsWork q.1) : s.KeepsWork (if c then p else q).1 := by
  split <;> assumption

theorem State.KeepsWork.either_sent {c : Prop} {_ : Decidable c} {p q : Sent} (h : s.KeepsWork p.st)
    (h' : s.KeepsWork q.st) : s.KeepsWork (if c then p else q).st := by
  split <;> assumption

theorem State.KeepsWork.fst_eq {α : Type} {p : State × α} {a : α} (h : s.KeepsWork p.1) (e : p = (v, a)) :
    s.KeepsWork v := by
  rw [e] at h
  exact h

theorem State.KeepsWork.fold {α : Type} {l : List α} {op : State → α → State} (h : s.KeepsWork u)
    (hop : ∀ v a, s.KeepsWork v → s.KeepsWork (op v a)) : s.KeepsWork (l.foldl op u) :=
  List.foldlRecOn l op h fun _ hv a _ => hop _ a hv

theorem State.KeepsWork.dropCount {sub k : Nat} (h : s.KeepsWork u) : s.KeepsWork (u.dropCount sub k) :=
  h.trans {}

theorem State.KeepsWork.slowPath {sub : Nat} {b : Bytes} (h : s.KeepsWork u) : s.KeepsWork (u.slowPath sub b) := by
  rcases u.slowPath_cases sub b with e | ⟨c, e⟩
  · exact e ▸ h.dropCount
  · exact e ▸ h.trans {}

theorem State.KeepsWork.applyMeter {a : Bytes} {line : Nat} {dscp : Option Nat} (h : s.KeepsWork u) :
    s.KeepsWork (u.applyMeter a line dscp).1 := by
  unfold State.applyMeter
  dsimp only
  exact .either_fst h (h.trans {})

theorem State.KeepsWork.espSeal {sa : Nat} {b : Bytes} {p : Parsed} (h : s.KeepsWork u) :
    s.KeepsWork (u.espSeal sa b p).1 := by
  unfold State.espSeal
  dsimp only
  split
  · split
    · exact h
    · exact .either_fst h (.either_fst (h.trans {}) (h.trans {}))
  · exact h

theorem State.KeepsWork.secySend {sub : Nat} {b : Bytes} (h : s.KeepsWork u) : s.KeepsWork (u.secySend sub b).1 := by
  unfold State.secySend
  dsimp only
  split
  · exact h
  · split
    · exact h
    · exact h.trans {}

theorem State.KeepsWork.egress {sub : Nat} {b : Bytes} (h : s.KeepsWork u) : s.KeepsWork (u.egress sub b).st := by
  unfold State.egress
  dsimp only
  split
  · split
    next heq => exact h.secySend.fst_eq heq
    next heq => exact (h.secySend.fst_eq heq).dropCount
  · refine .either_sent h.applyMeter (.either_sent h.applyMeter.dropCount (.either_sent h.applyMeter.slowPath ?_))
    split
    next heq => exact ((either_fst h.applyMeter.espSeal h.applyMeter).fst_eq heq).dropCount
    next v _ heq =>
      have hv : s.KeepsWork v := (either_fst h.applyMeter.espSeal h.applyMeter).fst_eq heq
      split
      next heq => exact hv.secySend.fst_eq heq
      next heq => exact (hv.secySend.fst_eq heq).dropCount

theorem State.KeepsWork.svcKids {sub k : Nat} {l : List Cand} (h : s.KeepsWork u) : s.KeepsWork (u.svcKids sub k l).1 :=
  .fold h fun _ _ hv => .either hv (hv.trans {})

theorem State.KeepsWork.subKids {sub : Nat} {l : List Cand} (h : s.KeepsWork u) : s.KeepsWork (u.subKids sub l).1 :=
  .fold h fun _ _ hv => .either hv (hv.trans {})

theorem State.KeepsWork.pickSvc {sub k : Nat} {l : List Cand} (h : s.KeepsWork u) :
    s.KeepsWork (u.pickSvc sub k l).1 := by
  unfold State.pickSvc
  dsimp only
  split
  · exact h.svcKids.trans {}
  · exact h.svcKids

theorem State.KeepsWork.select {sub : Nat} (h : s.KeepsWork u) : s.KeepsWork (u.select sub).1 := by
  unfold State.select
  dsimp only
  split
  · exact (h.subKids.trans {}).pickSvc
  · exact h.subKids

theorem State.KeepsWork.dequeue {sub : Nat} {c : Cand} (h : s.KeepsWork u) : s.KeepsWork (u.dequeue sub c) :=
  .either (h.trans {}) (h.trans {})

end

/-- What leaves the egress pipeline met no failure. -/
def Sent.Sound (r : Sent) : Prop := r.out = true → r.status = .success

theorem Sent.Sound.either {c : Prop} {_ : Decidable c} {p q : Sent} (h : p.Sound) (h' : q.Sound) :
    (if c then p else q).Sound := by
  split <;> assumption

theorem State.egress_sound (s : State) (sub : Nat) (b : Bytes) : (s.egress sub b).Sound := by
  unfold State.egress
  dsimp only
  split
  · split
    · exact fun _ => rfl
    · exact nofun
  · refine .either nofun (.either nofun (.either nofun ?_))
    split
    · exact nofun
    · split
      · exact fun _ => rfl
      · exact nofun

/-! ### SEND, POST and the scheduler -/

section
variable {s : State} {o : Nat} {x : Op} {q : Queue} {ans : HostAns}

theorem State.send_read {u : State} {r : AccRes} (hrun : s.running o .packetSend = some (x, q))
    (hposted : x.posted = false) (hlow : 14 ≤ bits (u32 x.desc 24) 13 0)
    (hhigh : bits (u32 x.desc 24) 13 0 + 4 ≤ s.maxFrame (q.sub / 4)) (hup : s.linkUp q.sub = true)
    (hread : s.spokeRead q.spoke (u64 x.desc 16) (bits (u32 x.desc 24) 13 0) ans = (u, r))
    (hst : r.status = .success) (hpoisoned : r.poisoned = false) (hmedium : r.medium = false)
    (hsum : bit (dKindWord x.desc) 1 = false) :
    s.send o ans = State.enqueue (u.modOp o fun y => { y with posted := true }) x.queue
      { op := some o, data := padTo (max 60 r.data.length) r.data, cls := q.cls, ts := bit (dKindWord x.desc) 0 } := by
  have hlength : ¬((0 < bits (u32 x.desc 24) 13 0 ∧ bits (u32 x.desc 24) 13 0 < 14) ∨
      s.maxFrame (q.sub / 4) < bits (u32 x.desc 24) 13 0 + 4) := by omega
  have hsome : bits (u32 x.desc 24) 13 0 ≠ 0 := by omega
  unfold State.send
  rw [hrun]
  dsimp only
  rw [hposted, if_neg (by decide), if_neg hlength, hup, if_neg (by decide), if_neg hsome, hread]
  dsimp only
  rw [hst, hpoisoned, hmedium, hsum]
  rfl

theorem State.send_malformed (hrun : s.running o .packetSend = some (x, q)) (hposted : x.posted = false)
    (hlength : (0 < bits (u32 x.desc 24) 13 0 ∧ bits (u32 x.desc 24) 13 0 < 14) ∨
      s.maxFrame (q.sub / 4) < bits (u32 x.desc 24) 13 0 + 4) :
    s.send o ans = s.finish o .malformed 0 0 := by
  unfold State.send
  rw [hrun]
  dsimp only
  rw [hposted, if_neg (by decide), if_pos hlength]

theorem State.send_linkDown (hrun : s.running o .packetSend = some (x, q)) (hposted : x.posted = false)
    (hlow : 14 ≤ bits (u32 x.desc 24) 13 0) (hhigh : bits (u32 x.desc 24) 13 0 + 4 ≤ s.maxFrame (q.sub / 4))
    (hdown : s.linkUp q.sub = false) : s.send o ans = s.finish o .retryLater 0 0 := by
  have hlength : ¬((0 < bits (u32 x.desc 24) 13 0 ∧ bits (u32 x.desc 24) 13 0 < 14) ∨
      s.maxFrame (q.sub / 4) < bits (u32 x.desc 24) 13 0 + 4) := by omega
  unfold State.send
  rw [hrun]
  dsimp only
  rw [hposted, if_neg (by decide), if_neg hlength, hdown]
  rfl

/-- R225: a buffer of a good size is posted; without frames that wait, nothing is placed in it. -/
theorem State.post_good (hrun : s.running o .packetReceive = some (x, q)) (hposted : x.posted = false)
    (hlow : 64 ≤ bufSize x) (hhigh : bufSize x ≤ 16384) (hunit : bufSize x % 64 = 0) (hheld : s.net.held = []) :
    s.post o ans = s.modOp o fun x => { x with posted := true } := by
  have hsize : ¬(bufSize x < 64 ∨ 16384 < bufSize x ∨ bufSize x % 64 ≠ 0) := by omega
  unfold State.post
  rw [hrun]
  dsimp only
  rw [hposted, if_neg (by decide), if_neg hsize, State.modOp_net, hheld]
  rfl

theorem State.post_malformed (hrun : s.running o .packetReceive = some (x, q)) (hposted : x.posted = false)
    (hsize : bufSize x < 64 ∨ 16384 < bufSize x ∨ bufSize x % 64 ≠ 0) :
    s.post o ans = s.finish o .malformed 0 0 := by
  unfold State.post
  rw [hrun]
  dsimp only
  rw [hposted, if_neg (by decide), if_pos hsize]

end

/-- The state in which a selected frame has left on its sub-port (R253, R256). -/
def Sent.sent (r : Sent) (sub : Nat) (c : Cand) (mac : Bool) : State := (r.st.emit (.frame sub r.data mac)).charge sub c

/-- R253: an operation's frame that no egress rule stops or copies leaves, and the operation completes. -/
theorem State.schedulerSelect_sends {s u : State} {sub o : Nat} {c : Cand} {x : Op} (ans : HostAns)
    (hup : s.linkUp sub = true) (hselect : s.select sub = (u, some c)) (hop : c.head.op = some o)
    (htel : c.head.tel = false) (hconn : c.head.conn = none) (hx : u.op o = some x)
    (hout : ((u.dequeue sub c).egress sub c.head.data).out = true)
    (hcopy : ((u.dequeue sub c).egress sub c.head.data).copy = none) :
    ∃ detail, s.schedulerSelect sub ans =
      (((u.dequeue sub c).egress sub c.head.data).sent sub c (s.loopback (sub / 4) != 1)).finish o .success
        (bits (u32 x.desc 24) 13 0) detail := by
  have hu : s.KeepsWork u := State.KeepsWork.fst_eq (State.KeepsWork.select {}) hselect
  have hegress : u.KeepsWork ((u.dequeue sub c).egress sub c.head.data).st := .egress (.dequeue {})
  have hstatus := State.egress_sound _ _ _ hout
  unfold State.schedulerSelect
  rw [hup, if_neg (by decide), hselect]
  dsimp only
  rw [htel, if_neg Bool.false_ne_true]
  generalize (u.dequeue sub c).egress sub c.head.data = r at hegress hstatus hout hcopy ⊢
  have hop' : (r.sent sub c (s.loopback (sub / 4) != 1)).op o = some x := (hegress.op o).trans hx
  have hxpt : ∀ w : State, w.xptSent c.head = w := fun w => by
    rw [State.xptSent, hconn]
  rw [hcopy, hout, hstatus, hop, if_pos rfl, if_pos rfl, hxpt, (hu.trans hegress).loopback]
  dsimp only
  rw [← Sent.sent, hop']
  exact ⟨_, rfl⟩

/-- Settles O30: SEND and POST branch on the descriptor's length and the link; a selected frame leaves as
`State.schedulerSelect_sends` says, and neither selection nor the egress pipeline touches operations or memory
(`State.KeepsWork`). -/
theorem sentAndPostedDescriptorsComplete : Obligations.SentAndPostedDescriptorsComplete := by
  unfold Obligations.SentAndPostedDescriptorsComplete
  refine ⟨?_, ?_, ?_, ?_, ?_, ?_⟩
  · intro s u o x q ans r hrun hposted hlow hhigh hup hread hst hpoisoned hmedium hsum
    exact congrArg Host.Outcome.next
      (State.send_read hrun hposted hlow hhigh hup hread hst hpoisoned hmedium hsum)
  · intro s o x q ans hrun hposted hlength
    exact congrArg Host.Outcome.next (State.send_malformed hrun hposted hlength)
  · intro s o x q ans hrun hposted hlow hhigh hdown
    exact congrArg Host.Outcome.next (State.send_linkDown hrun hposted hlow hhigh hdown)
  · intro s o x q ans hrun hposted hlow hhigh hunit hheld
    exact congrArg Host.Outcome.next (State.post_good hrun hposted hlow hhigh hunit hheld)
  · intro s o x q ans hrun hposted hsize
    exact congrArg Host.Outcome.next (State.post_malformed hrun hposted hsize)
  · intro s u sub o c x ans hup hselect hop htel hconn hx hphase hout hcopy
    obtain ⟨detail, hsends⟩ := State.schedulerSelect_sends ans hup hselect hop htel hconn hx hout hcopy
    have hu : s.KeepsWork u := State.KeepsWork.fst_eq (State.KeepsWork.select {}) hselect
    have hegress : u.KeepsWork ((u.dequeue sub c).egress sub c.head.data).st := .egress (.dequeue {})
    have hdone := State.op_finish_self ((hegress.op o).trans hx) (by rw [hphase]; decide) .success
      (bits (u32 x.desc 24) 13 0) detail
    refine ⟨_, _, congrArg Host.Outcome.next hsends, ?_, hdone, rfl, rfl, rfl, fun o' ho' => ?_, ?_⟩
    · exact List.mem_append_right _ (List.mem_singleton_self _)
    · rw [State.op_finish, if_neg ho'.symm]
      exact hegress.op o'
    · exact hegress.mem.trans hu.mem

end Sys2Proof.Machine
end

section
/-! PROOFS. Frames that arrive (R211 to R218, R222, R232, R237, R242, R245, R247): flow control, what a packet that
enters a pipeline waits for, and what becomes of it. -/

namespace Sys2Proof.Machine
open Sys2Proof

/-! ### Counters and flow control -/

theorem State.rfield_rsat_self (s : State) (a : Nat) : (s.rsat a 63 0 1).rfield a 63 0 =
    min (s.rfield a 63 0 + 1) (2 ^ 64 - 1) := by
  rw [State.rsat, State.rfield_rset_self _ _ _ (by decide)]
  exact Nat.mod_eq_of_lt (by unfold satAdd; omega)

theorem State.flowCheck_frame (s : State) (sub prio : Nat) :
    s.flowCheck sub prio =
      { s with net.xoff := (s.flowCheck sub prio).net.xoff, out := (s.flowCheck sub prio).out } := by
  unfold State.flowCheck
  dsimp only
  split_ifs <;> rfl

theorem State.setPause_paused (s : State) (sub prio : Nat) {quanta : Nat} (h : quanta ≠ 0) :
    s.setPause sub prio quanta = { s with
      net.paused := Map.put s.net.paused (sub * 8 + prio) (s.now + ceilDiv (quanta * 512) (s.subRate sub)) } :=
  if_neg h

/-- R217: pausing several priorities sets the time of each and changes nothing else. -/
theorem State.setPauses_paused (s : State) (sub : Nat) {quanta : Nat} (h : quanta ≠ 0) (l : List Nat) :
    (∀ i ∈ l, Map.get (l.foldl (fun s p => s.setPause sub p quanta) s).net.paused (sub * 8 + i) =
        some (s.now + ceilDiv (quanta * 512) (s.subRate sub))) ∧
      l.foldl (fun s p => s.setPause sub p quanta) s =
        { s with net.paused := (l.foldl (fun s p => s.setPause sub p quanta) s).net.paused } := by
  induction l using List.reverseRecOn with
  | nil => exact ⟨nofun, rfl⟩
  | append_singleton l p ih =>
    obtain ⟨hget, hframe⟩ := ih
    rw [List.foldl_append, List.foldl_cons, List.foldl_nil, State.setPause_paused _ _ _ h]
    generalize l.foldl (fun s p => s.setPause sub p quanta) s = u at hget hframe ⊢
    obtain ⟨m, rfl⟩ : ∃ m, u = { s with net.paused := m } := ⟨_, hframe⟩
    refine ⟨fun i hi => ?_, rfl⟩
    dsimp only at hget ⊢
    rw [Map.get_put]
    split
    · rfl
    next hne =>
      refine hget i ((List.mem_append.1 hi).resolve_right fun hip => hne ?_)
      rw [List.mem_singleton.1 hip]

/-! ### In-flight counts and the rules -/

theorem State.inFlight_vers (s : State) (v : Nat) (up : Bool) : (s.inFlight v up).net.vers = s.net.vers.map fun x =>
    (x.1, if x.2.number = v then { x.2 with inFlight := if up then x.2.inFlight + 1 else x.2.inFlight - 1 } else x.2) :=
  rfl

/-- Counting packets in flight changes no rules. -/
theorem State.inFlight_rules (s : State) (v w : Nat) (up : Bool) : (s.inFlight v up).rules w = s.rules w := by
  have hnumber : ((fun x : Nat × Version => x.2.number == w) ∘ fun x : Nat × Version => (x.1, if x.2.number = v then
      { x.2 with inFlight := if up then x.2.inFlight + 1 else x.2.inFlight - 1 } else x.2)) =
      fun x => x.2.number == w := by
    funext x
    dsimp only [Function.comp]
    split <;> rfl
  unfold State.rules State.version
  rw [State.inFlight_vers, List.find?_map, hnumber]
  cases s.net.vers.find? fun x => x.2.number == w with
  | none => rfl
  | some x =>
    dsimp only [Option.map_some]
    split <;> rfl

theorem State.inFlight_profilesOf (s : State) (v w cls : Nat) (up : Bool) :
    (s.inFlight v up).profilesOf w cls = s.profilesOf w cls := by
  rw [State.profilesOf, State.inFlight_rules, State.profilesOf]

/-! ### Classification -/

theorem State.flowSample_off {s : State} {sub : Nat} (b : Bytes) (p : Parsed) (h : Map.get s.tel.sampleN sub = none) :
    s.flowSample sub b p = s := by
  unfold State.flowSample
  rw [h]
  rfl

/-- R247: where nothing is sampled, a packet that leaves only lowers its version's count. -/
theorem State.leave_unsampled {s : State} {k : Pkt} (h : Map.get s.tel.sampleN k.sub = none) :
    s.leave k = s.inFlight k.tag false := by
  rw [State.leave, State.flowSample_off _ _ h]

/-- The lookup with which a packet waits for its exact-match bucket (R237). -/
def State.lookupOf (s : State) (k : Pkt) : Lookup where
  pkt := k
  profile := (s.profilesOf k.tag k.parsed.cls).1
  key := k.parsed.key (s.bitmap (s.profilesOf k.tag k.parsed.cls).1)

/-- R237: with no bucket cached, a packet that neither is dropped nor takes the slow path waits for its bucket. -/
theorem State.classify_uncached {s : State} (k : Pkt) (ans : HostAns) (hcache : s.net.cache = []) :
    s.classify k ans =
      if k.parsed.drop then (s.leave k).dropCount k.sub 2
      else if k.parsed.slow || (k.second && k.parsed.esp.isSome) then (s.leave k).slowPath k.sub k.data
      else { s with net.lookups := s.net.lookups ++ [s.lookupOf k] } := by
  unfold State.classify
  dsimp only
  rw [hcache]
  rfl

/-- R237, R245, R247: `t` is `s` after a frame `b` of sub-port `sub` entered its pipeline, tagged with the current
version, and began to wait with `x`. -/
structure State.Waits (s : State) (sub : Nat) (b : Bytes) (x : Lookup) (t : State) : Prop where
  lookups : t.net.lookups = s.net.lookups ++ [x]
  subport : x.pkt.sub = sub
  data : x.pkt.data = b
  tag : x.pkt.tag = s.net.current
  profile : x.profile = (s.profilesOf s.net.current (parse b sub 0).cls).1
  key : x.key = (parse b sub 0).key (s.bitmap x.profile)
  vers : t.net.vers = s.net.vers.map fun v =>
    (v.1, if v.2.number = s.net.current then { v.2 with inFlight := v.2.inFlight + 1 } else v.2)
  host : t.host = s.host
  mem : t.mem = s.mem
  regs : t.regs = s.regs

theorem State.enter_waits {s : State} {sub : Nat} {b : Bytes} (line : Nat) (prot : Bool) (ans : HostAns)
    (hdrop : (parse b sub 0).drop = false) (hslow : (parse b sub 0).slow = false) (hcache : s.net.cache = []) :
    ∃ x, s.Waits sub b x (s.enter sub b line prot ans) := by
  unfold State.enter
  extract_lets prio k
  have hwaits : (s.inFlight k.tag true).classify k ans = { s.inFlight k.tag true with
      net.lookups := s.net.lookups ++ [(s.inFlight k.tag true).lookupOf k] } := by
    have hgo : (k.parsed.slow || (k.second && k.parsed.esp.isSome)) = false := by
      show ((parse b sub 0).slow || (false && _)) = false
      rw [hslow]
      rfl
    rw [State.classify_uncached _ _ (by exact hcache), hgo, if_neg (by rw [hdrop]; decide)]
    rfl
  refine ⟨(s.inFlight k.tag true).lookupOf k, ?_⟩
  rw [hwaits, State.flowCheck_frame]
  have hprofile : ((s.inFlight k.tag true).lookupOf k).profile =
      (s.profilesOf s.net.current (parse b sub 0).cls).1 := by
    rw [State.lookupOf, State.inFlight_profilesOf]
  exact ⟨rfl, rfl, rfl, rfl, hprofile, rfl, rfl, rfl, rfl, rfl⟩

/-! ### Received frames -/

section
variable {s : State} {sub : Nat} {b : Bytes} (ans : HostAns) (hup : s.linkUp sub = true)
  (hloop : s.loopback (sub / 4) ≠ 2)
include hup hloop

theorem State.frameReceived_damaged : s.frameReceived sub b false ans = s.dropCount sub 0 := by
  unfold State.frameReceived
  dsimp only
  rw [hup, if_neg (by decide), if_neg hloop]
  rfl

theorem State.frameReceived_badLength (hlength : b.length < 60 ∨ s.maxFrame (sub / 4) < b.length + 4) :
    s.frameReceived sub b true ans = s.dropCount sub 1 := by
  unfold State.frameReceived
  dsimp only
  rw [hup, if_neg (by decide), if_neg hloop, if_neg (by decide), if_pos (by omega)]

variable (hshort : 60 ≤ b.length) (hlong : b.length + 4 ≤ s.maxFrame (sub / 4))
include hshort hlong

/-- R217: a PAUSE frame of a sub-port in PAUSE mode pauses its eight priorities. -/
theorem State.frameReceived_pause (htype : fldBe b 12 2 = 0x8808) (hopcode : fldBe b 14 2 = 1)
    (hmode : s.fcMode sub = 1) :
    s.frameReceived sub b true ans = (List.range 8).foldl (fun s p => s.setPause sub p (fldBe b 16 2)) s := by
  have hmac : s.macControl sub b = some ((List.range 8).foldl (fun s p => s.setPause sub p (fldBe b 16 2)) s) :=
    (if_neg (not_not.2 htype)).trans (if_pos ⟨hopcode, hmode⟩)
  unfold State.frameReceived
  dsimp only
  rw [hup, if_neg (by decide), if_neg hloop, if_neg (by decide), if_neg (by omega), hmac]

/-- R211, R222: an intact ordinary frame of a sub-port without MACsec enters the pipeline as it is. -/
theorem State.frameReceived_enters (htype : fldBe b 12 2 ≠ 0x8808) (hsecy : s.secyOn sub = false) :
    s.frameReceived sub b true ans = s.enter sub b (b.length + 4) false ans := by
  have hmac : s.macControl sub b = none := if_pos htype
  have hplain : s.secyReceive sub b = (s, some (b, false)) := if_pos (by rw [hsecy]; rfl)
  unfold State.frameReceived
  dsimp only
  rw [hup, if_neg (by decide), if_neg hloop, if_neg (by decide), if_neg (by omega), hmac]
  dsimp only
  rw [hplain]

end

/-! ### A bucket that arrives -/

/-- R240: a DROP action without meter and mirror drops its packet as it leaves. -/
theorem State.act_drops {s : State} {k : Pkt} {i : Nat} (ans : HostAns)
    (haction : s.ingressAction k.tag k.sub k.parsed = some i) (hverdict : aVerdict (s.action i) = 0)
    (hmeter : aMeterEn (s.action i) = false) (hmirror : aMirror (s.action i) = false) :
    s.act k ans = (s.leave k).dropCount k.sub 5 := by
  have hmetered : s.applyMeter (s.action i) k.line k.parsed.dscpOpt = (s, false, none) :=
    if_pos (by rw [hmeter]; rfl)
  unfold State.act
  rw [haction]
  dsimp only
  rw [hmetered, hmirror, hverdict]
  simp

/-- The state in which the bucket of the only packet that waited has arrived (R237). -/
def State.bucketArrived (s : State) (cache : List (Nat × Bytes)) : State :=
  { s with net.cache := cache, net.lookups := [] }

/-- R237: the bucket of the only packet that waits is cached, and the packet acts. -/
theorem State.cacheFill_single {s : State} {x : Lookup} (ans : HostAns) (h : s.net.lookups = [x]) :
    ∃ cache, (x.profile, x.key) ∈ cache ∧
      s.cacheFill x.profile x.key ans = ((s.bucketArrived cache).act x.pkt ans).flowCheck x.pkt.sub x.pkt.prio := by
  refine ⟨(s.net.cache ++ [(x.profile, x.key)]).drop ((s.net.cache ++ [(x.profile, x.key)]).length - 262144), ?_, ?_⟩
  · rw [List.drop_append_of_le_length (by rw [List.length_append, List.length_singleton]; omega)]
    exact List.mem_append_right _ (List.mem_singleton_self _)
  · unfold State.cacheFill
    dsimp only
    generalize List.drop _ _ = cache
    rw [h]
    simp [State.bucketArrived]

/-! ### A packet that has been decrypted -/

/-- The state in which a packet has left its crypto cluster, and its SA is as decryption left it (R242). -/
def State.decrypted (s : State) (i : Nat) (sas : Map IpsecSa) : State :=
  { s with net.ipsec := sas, net.decrypts := Map.erase s.net.decrypts i }

/-- Decryption looks only at the SAs and the keys, and changes only an SA. -/
theorem State.espOpen_erased (s : State) (i : Nat) (d : Decrypt) :
    ∃ sas, State.espOpen { s with net.decrypts := Map.erase s.net.decrypts i } d =
      (s.decrypted i sas, (s.espOpen d).2) := by
  have hkey : ∀ h, State.keyBytes { s with net.decrypts := Map.erase s.net.decrypts i } h = s.keyBytes h := fun _ => rfl
  unfold State.espOpen
  dsimp only
  split
  · simp only [hkey]
    split
    · exact ⟨_, rfl⟩
    · split
      · exact ⟨_, rfl⟩
      · split <;> exact ⟨_, rfl⟩
  · exact ⟨_, rfl⟩

/-- The packet that a decryption yields, on its way to its second lookup (R242). -/
def Decrypt.opened (d : Decrypt) (b : Bytes) (origin : Nat) : Pkt :=
  { d.pkt with data := b, prot := true, second := true, origin := origin, parsed := parse b d.pkt.sub origin }

section
variable {s : State} {i : Nat} {d : Decrypt}

/-- R242: a packet whose decryption fails leaves and is counted. -/
theorem State.decryptComplete_fails (ans : HostAns) (hget : Map.get s.net.decrypts i = some d)
    (hopen : (s.espOpen d).2 = none) :
    ∃ sas, s.decryptComplete i ans =
      (((s.decrypted i sas).leave d.pkt).dropCount d.pkt.sub 6).flowCheck d.pkt.sub d.pkt.prio := by
  obtain ⟨sas, herased⟩ := s.espOpen_erased i d
  refine ⟨sas, ?_⟩
  unfold State.decryptComplete
  rw [hget]
  dsimp only
  rw [herased, hopen]

/-- R242: a decrypted packet is classified a second time. -/
theorem State.decryptComplete_opens {b : Bytes} {origin : Nat} (ans : HostAns)
    (hget : Map.get s.net.decrypts i = some d) (hopen : (s.espOpen d).2 = some (b, origin)) :
    ∃ sas, s.decryptComplete i ans =
      ((s.decrypted i sas).classify (d.opened b origin) ans).flowCheck d.pkt.sub d.pkt.prio := by
  obtain ⟨sas, herased⟩ := s.espOpen_erased i d
  refine ⟨sas, ?_⟩
  unfold State.decryptComplete
  rw [hget]
  dsimp only
  rw [herased, hopen]
  rfl

/-- With no bucket cached and nothing sampled, classification leaves the packets in the crypto clusters alone, and at
most the packet itself begins to wait. -/
theorem State.classify_lookups {k : Pkt} (ans : HostAns) (hcache : s.net.cache = [])
    (hsample : Map.get s.tel.sampleN k.sub = none) :
    (s.classify k ans).net.decrypts = s.net.decrypts ∧
      ((s.classify k ans).net.lookups = s.net.lookups ∨
        (s.classify k ans).net.lookups = s.net.lookups ++ [s.lookupOf k]) := by
  rw [State.classify_uncached _ _ hcache, State.leave_unsampled hsample]
  split
  · exact ⟨rfl, .inl rfl⟩
  · split
    · rcases (s.inFlight k.tag false).slowPath_cases k.sub k.data with h | ⟨c, h⟩ <;> rw [h] <;>
        exact ⟨rfl, .inl rfl⟩
    · exact ⟨rfl, .inr rfl⟩

end

/-- R242: a packet whose decryption ends leaves its crypto cluster; it waits for its second lookup, or is gone, and a
failed decryption is counted. -/
theorem State.decryptComplete_effect {s : State} {i : Nat} {d : Decrypt} (ans : HostAns)
    (hget : Map.get s.net.decrypts i = some d) (hcache : s.net.cache = [])
    (hsample : Map.get s.tel.sampleN d.pkt.sub = none) :
    (s.decryptComplete i ans).net.decrypts = Map.erase s.net.decrypts i ∧
      ((s.decryptComplete i ans).net.lookups = s.net.lookups ∨
        ∃ x, (s.decryptComplete i ans).net.lookups = s.net.lookups ++ [x] ∧ x.pkt.second = true ∧ x.pkt.prot = true ∧
          x.pkt.sub = d.pkt.sub ∧ x.pkt.tag = d.pkt.tag ∧ (s.espOpen d).2 = some (x.pkt.data, x.pkt.origin)) ∧
      ((s.espOpen d).2 = none → (s.decryptComplete i ans).rfield (aDrop d.pkt.sub 6) 63 0 =
        min (s.rfield (aDrop d.pkt.sub 6) 63 0 + 1) (2 ^ 64 - 1)) := by
  cases hopen : (s.espOpen d).2 with
  | none =>
    obtain ⟨sas, hend⟩ := State.decryptComplete_fails ans hget hopen
    rw [hend, State.leave_unsampled (s := s.decrypted i sas) hsample, State.flowCheck_frame]
    exact ⟨rfl, .inl rfl, fun _ => State.rfield_rsat_self ..⟩
  | some y =>
    obtain ⟨sas, hend⟩ := State.decryptComplete_opens ans hget hopen
    have hclass := State.classify_lookups (s := s.decrypted i sas) (k := d.opened y.1 y.2) ans hcache hsample
    rw [hend, State.flowCheck_frame]
    obtain ⟨hdecrypts, hlookups | hlookups⟩ := hclass
    · exact ⟨hdecrypts, .inl hlookups, nofun⟩
    · exact ⟨hdecrypts, .inr ⟨_, hlookups, rfl, rfl, rfl, rfl, rfl⟩, nofun⟩

/-- Settles O28: an ordinary frame begins to wait as `State.enter_waits` says, a bucket or a decryption that arrives
lets its packet go on (`State.act_drops`, `State.decryptComplete_effect`), and the flow control that ends each of them
only marks the priority and sends (`State.flowCheck_frame`). -/
theorem framesAreTakenHeldOrDropped : Obligations.FramesAreTakenHeldOrDropped := by
  unfold Obligations.FramesAreTakenHeldOrDropped
  refine ⟨?_, ?_, ?_, ?_, ?_, ?_, ?_, ?_, ?_, ?_⟩
  · intro s sub b ok ans hdown
    exact congrArg Host.Outcome.next (if_pos (by rw [hdown]; rfl))
  · rintro s sub b _ ans hup hloop rfl
    exact congrArg Host.Outcome.next (State.frameReceived_damaged ans hup hloop)
  · intro s sub b ans hup hloop hlength
    exact congrArg Host.Outcome.next (State.frameReceived_badLength ans hup hloop hlength)
  · intro s sub b ans hup hloop hshort hlong htype hopcode hmode hquanta
    obtain ⟨hpaused, hframe⟩ := s.setPauses_paused sub hquanta (List.range 8)
    exact ⟨_, congrArg Host.Outcome.next (State.frameReceived_pause ans hup hloop hshort hlong htype hopcode hmode),
      fun i hi => hpaused i (List.mem_range.2 hi), hframe⟩
  · intro s sub b ans hup hloop hshort hlong htype hsecy hdrop hslow hcache
    obtain ⟨x, h⟩ := State.enter_waits (b.length + 4) false ans hdrop hslow hcache
    exact ⟨_, x, congrArg Host.Outcome.next (State.frameReceived_enters ans hup hloop hshort hlong htype hsecy),
      h.lookups, h.subport, h.data, h.tag, h.profile, h.key, h.vers, h.host, h.mem, h.regs⟩
  · intro s sub b ans hdrop hslow hcache
    obtain ⟨x, h⟩ := State.enter_waits (b.length + 4) false ans hdrop hslow hcache
    exact ⟨_, x, rfl, h.lookups, h.subport, h.data, h.tag, h.vers, h.host, h.mem, h.regs⟩
  · intro s x i ans hlookups haction hverdict hmeter hmirror hsample
    obtain ⟨cache, hmem, hfill⟩ := State.cacheFill_single ans hlookups
    have hact := State.act_drops (s := s.bucketArrived cache) ans haction hverdict hmeter hmirror
    rw [State.leave_unsampled (s := s.bucketArrived cache) hsample] at hact
    refine ⟨_, congrArg Host.Outcome.next hfill, ?_⟩
    rw [hact, State.flowCheck_frame]
    exact ⟨rfl, hmem, State.rfield_rsat_self .., rfl, rfl, rfl⟩
  · intro s i d ans hget hcache _ hsample
    obtain ⟨hdecrypts, hlookups, hfailed⟩ := State.decryptComplete_effect ans hget hcache hsample
    exact ⟨_, rfl, hdecrypts, hlookups, fun hopen => hfailed (congrArg Prod.snd hopen)⟩
  · intro s sub prio u hpaused
    refine congrArg Host.Outcome.next ?_
    rw [State.pauseExpire, hpaused]
  · intro s sub prio hxoff hocc
    exact congrArg Host.Outcome.next (if_pos (by simpa using ⟨hxoff, hocc⟩))

end Sys2Proof.Machine
end

section
/-! PROOFS. Meters and token buckets (R251, R256, R261 to R268): what METER_SET and METER_READ answer, and what a refill
makes of the nodes of a sub-port. -/

namespace Sys2Proof

/-- A table some of whose keys' values are changed: at such a key a value has what every changed value has, and at
another key it is as it was. -/
theorem Map.mem_map_ite {β : Type} {m : List (Nat × β)} {p : Nat → Prop} [DecidablePred p] {g : Nat → β → β}
    {Q : β → Prop} {x : Nat × β} (hg : ∀ k n, Q (g k n)) (h : x ∈ m.map fun (k, n) => (k, if p k then g k n else n)) :
    (p x.1 → Q x.2) ∧ (¬ p x.1 → x ∈ m) := by
  obtain ⟨⟨k, n⟩, hmem, rfl⟩ := List.mem_map.1 h
  dsimp only
  split
  next hp => exact ⟨fun _ => hg k n, fun hnp => absurd hp hnp⟩
  next hnp => exact ⟨fun hp => absurd hp hnp, fun _ => hmem⟩

end Sys2Proof

namespace Sys2Proof.Machine
open Sys2Proof

/-! ### Meters -/

section
variable {s : State} {f : Nat} {p : Bytes}

/-- The state in which the meter that a METER_SET payload names is the one that it describes. -/
def State.metered (s : State) (p : Bytes) : State := s.setMeter (u32 p 0) (meterOf p (s.meter (u32 p 0)) s.now)

theorem State.metered_meter : (s.metered p).meter (u32 p 0) = meterOf p (s.meter (u32 p 0)) s.now := by
  rw [State.meter, State.metered, State.setMeter, Map.get_put_self]
  rfl

theorem State.meterSet_bad (hbad : meterBad p = true) : s.meterSet f p = Reply.err s .malformed := if_pos hbad

theorem State.meterSet_volatile (hgood : meterBad p = false) (hf : f % 4 = 0) (hpersist : bit (u8 p 4) 3 = false) :
    s.meterSet f p = Reply.ok (s.metered p) [] := by
  simp [State.meterSet, State.metered, hgood, hf, hpersist]

theorem State.meterSet_persistent (hgood : meterBad p = false) (hf : f % 4 = 0) (hpersist : bit (u8 p 4) 3 = true)
    (hroom : s.jRoom 40 = true) :
    s.meterSet f p = { Reply.ok (s.metered p) [] with journal := [(0x0380, u32 p 0, false, p)] } := by
  simp [State.meterSet, State.metered, hgood, hf, hpersist, hroom]

theorem State.meterRead_good (hindex : u32 p 0 ≤ 131071) :
    s.meterRead p = Reply.ok s (((s.meter (u32 p 0)).refill s.now).pkts.flatMap (toLe 8) ++
      ((s.meter (u32 p 0)).refill s.now).octets.flatMap (toLe 8) ++
      toLe 4 (((s.meter (u32 p 0)).refill s.now).levA / 8000000) ++
      toLe 4 (((s.meter (u32 p 0)).refill s.now).levB / 8000000)) :=
  if_neg (Nat.not_lt.2 hindex)

end

/-! ### Buckets -/

section
variable {s : State} {sub : Nat}

/-- The levels of a node are at most the bursts of its rates on a sub-port. -/
def State.withinBursts (s : State) (sub : Nat) (n : Node) : Prop :=
  n.peak ≤ s.burst sub n.pir ∧ n.commit ≤ s.burst sub n.cir

/-- R251, R256: whatever a node held, a refill cuts its levels to the bursts of its new rates. -/
theorem State.refillNode_withinBursts (dt : Nat) (n : Node) (w : Nat × Nat × Nat) :
    s.withinBursts sub (s.refillNode sub dt n w) := ⟨min_le_left .., min_le_left ..⟩

theorem State.bucketRefill_refilled : Map.get (s.bucketRefill sub).sch.refilled sub = some s.now := Map.get_put_self ..

theorem State.bucketRefill_root_peak : ((s.bucketRefill sub).rootNode sub).peak ≤ s.burst sub (s.rootRate sub) := by
  rw [State.rootNode, State.bucketRefill, Map.get_put_self]
  exact (State.refillNode_withinBursts _ _ (1, 0, s.rootRate sub)).1

/-- A refill of a sub-port refills its subscribers and leaves the others alone. -/
theorem State.bucketRefill_subs {x : Nat × Node} (h : x ∈ (s.bucketRefill sub).sch.subs) :
    (x.1 / 4096 = sub → s.withinBursts sub x.2) ∧ (x.1 / 4096 ≠ sub → x ∈ s.sch.subs) :=
  Map.mem_map_ite (p := fun k => k / 4096 = sub)
    (fun k n => State.refillNode_withinBursts _ n (s.spokeRates (k % 4096))) h

/-- A refill of a sub-port refills its services and leaves the others alone. -/
theorem State.bucketRefill_svcs {x : Nat × Node} (h : x ∈ (s.bucketRefill sub).sch.svcs) :
    (x.1 / 8 / 4096 = sub → s.withinBursts sub x.2) ∧ (x.1 / 8 / 4096 ≠ sub → x ∈ s.sch.svcs) :=
  Map.mem_map_ite (p := fun k => k / 8 / 4096 = sub)
    (fun k n => State.refillNode_withinBursts _ n (s.svcRates (k / 8 % 4096) (k % 8))) h

end

/-- Settles O32: METER_SET and METER_READ reply as `State.meterSet_volatile` and its companions say, and a refilled node
is within its bursts (`State.refillNode_withinBursts`), be it the root, a subscriber or a service. -/
theorem metersAndBucketsHoldTheirBytes : Obligations.MetersAndBucketsHoldTheirBytes := by
  unfold Obligations.MetersAndBucketsHoldTheirBytes
  refine ⟨?_, ?_, ?_, ?_, ?_⟩
  · intro s f p h hp hgood hf hpersist
    obtain ⟨t, hexec, hanswered⟩ := State.perform_ok h hp (body := fun p s => s.meterSet f p)
      (State.meterSet_volatile hgood hf hpersist)
    have hmeter : t.meter (u32 p 0) = meterOf p (s.meter (u32 p 0)) s.now := by
      obtain ⟨-, -, -, -, hframe⟩ := hanswered
      rw [hframe]
      exact State.metered_meter
    refine ⟨t, hexec, hanswered, ?_⟩
    rw [hmeter]
    exact ⟨rfl, rfl, rfl, rfl, rfl⟩
  · intro s f p h hp hgood hf hpersist hroom
    exact State.perform_journals h hp (State.meterSet_persistent hgood hf hpersist hroom)
  · intro s f p h hp hbad
    exact State.perform_answered h hp (State.meterSet_bad hbad) (State.performable_outstanding h)
  · rintro s f p _ h hp hindex rfl
    exact State.perform_ok h hp (State.meterRead_good hindex)
  · intro s sub hsub
    exact ⟨_, congrArg Host.Outcome.next (if_pos hsub), State.bucketRefill_refilled, State.bucketRefill_root_peak,
      fun _ hx => (State.bucketRefill_subs hx).1, fun _ hx => (State.bucketRefill_svcs hx).1,
      fun _ hx => (State.bucketRefill_subs hx).2, fun _ hx => (State.bucketRefill_svcs hx).2, rfl, rfl, rfl, rfl⟩

end Sys2Proof.Machine
end

section
/-! PROOFS. Gate cassettes and port clocks (R269, R270, R273 to R275): each command sets fields of the port's SCH_GATE_CTL,
and a takeover its base and cycle time too; the fields do not overlap, so each keeps what it was set to. -/

namespace Sys2Proof.Machine
open Sys2Proof

section
variable (s : State) (i : Nat)

/-! ### Fields of SCH_GATE_CTL -/

theorem State.gateArmed_rset_armed {v : Nat} (hv : v < 2) : (s.rset (aGateCtl i) 2 2 v).gateArmed i = (v == 1) := by
  rw [State.gateArmed, State.rfield_rset_self _ _ _ le_rfl, Nat.mod_eq_of_lt (by simpa using hv)]

theorem State.gateOpen_of_off {s : State} {i : Nat} (h : s.gateOn i = false) (c n : Nat) : s.gateOpen i c n = true :=
  if_pos (by rw [h]; rfl)

theorem State.pendCount_lt : s.pendCount i < 2 ^ 11 := bits_lt _ _ _

/-! ### ARM and GATE_DISABLE -/

theorem State.armReason_lt : s.armReason i < 8 := by
  unfold State.armReason
  dsimp only
  split_ifs <;> decide

theorem State.armGate_accepted {s : State} {i : Nat} (h : s.armReason i = 0) :
    s.armGate i = s.rset (aGateCtl i) 2 2 1 := if_pos h

theorem State.armGate_refused {s : State} {i : Nat} (h : s.armReason i ≠ 0) :
    s.armGate i = (s.rset (aGateCtl i) 5 5 1).rset (aGateCtl i) 10 8 (s.armReason i) := if_neg h

theorem State.disableGate_off : (s.disableGate i).gateOn i = false := by
  rw [State.gateOn, State.disableGate, State.rfield_rset_apart _ _ _ le_rfl (by decide),
    State.rfield_rset_self _ _ _ le_rfl]
  rfl

/-! ### Takeover (R274) -/

theorem State.takeover_frame : ∃ r, s.takeover i = { s with regs := r } := by
  unfold State.takeover State.rset State.rput
  exact ⟨_, rfl⟩

theorem State.takeover_ptp (j : Nat) : (s.takeover i).ptp j = s.ptp j := by
  obtain ⟨r, hr⟩ := s.takeover_frame i
  rw [hr]
  rfl

theorem State.takeover_armed : (s.takeover i).gateArmed i = false := State.gateArmed_rset_armed _ i (by decide)

theorem State.takeover_bank : (s.takeover i).gateBank i = 1 - s.gateBank i := by
  unfold State.gateBank State.takeover
  dsimp only
  rw [State.rfield_rset_apart _ _ _ (by decide) (by decide), State.rfield_rset_apart _ _ _ (by decide) (by decide),
    State.rfield_rset_apart _ _ _ (by decide) (by decide), State.rfield_rset_self _ _ _ le_rfl]
  exact Nat.mod_eq_of_lt (Nat.lt_succ_of_le (Nat.sub_le 1 _))

theorem State.takeover_count : (s.takeover i).actCount i = s.pendCount i := by
  unfold State.actCount State.takeover
  dsimp only
  rw [State.rfield_rset_apart _ _ _ (by decide) (by decide), State.rfield_rset_apart _ _ _ (by decide) (by decide),
    State.rfield_rset_self _ _ _ (by decide)]
  exact Nat.mod_eq_of_lt (s.pendCount_lt i)

/-- A takeover sets SCH_GATE_CTL after the base and the cycle time. -/
theorem State.takeover_rget_of_ne {off : Nat} (h : off ≠ aGateCtl i) : (s.takeover i).rget off =
    ((s.rput (aGateBase i) (s.rget (aGateTime i))).rput (aGateCycle i)
      (cycleOf (s.gateList i (1 - s.gateBank i) (s.pendCount i)))).rget off := by
  unfold State.takeover
  dsimp only
  rw [State.rget_rset_of_ne _ _ _ _ h.symm, State.rget_rset_of_ne _ _ _ _ h.symm, State.rget_rset_of_ne _ _ _ _ h.symm,
    State.rget_rset_of_ne _ _ _ _ h.symm]

theorem State.takeover_base : (s.takeover i).rget (aGateBase i) = s.rget (aGateTime i) := by
  rw [State.takeover_rget_of_ne _ _ (by unfold aGateBase aGateCtl; omega),
    State.rget_rput_of_ne _ _ (by unfold aGateBase aGateCycle; omega), State.rget_rput_self]

theorem State.takeover_cycle : (s.takeover i).rget (aGateCycle i) =
    cycleOf (s.gateList i (1 - s.gateBank i) (s.pendCount i)) := by
  rw [State.takeover_rget_of_ne _ _ (by unfold aGateCycle aGateCtl; omega), State.rget_rput_self]

end

section
variable {s : State} {i : Nat}

theorem State.gateTakeover_armed (hi : i < 8) (harmed : s.gateArmed i = true) :
    s.gateTakeover i = State.takeover { s with now := s.now + (s.rget (aGateTime i) - s.ptp i) } i :=
  if_pos (by rw [harmed, decide_eq_true hi]; rfl)

/-! ### Clocks (R270) -/

/-- The state in which the 1588 clock of port `i` shows `v`. -/
def State.clockSet (s : State) (i v : Nat) : State :=
  { s with brd.clockOffset :=
      Map.put s.brd.clockOffset i ((v % 2 ^ 64 + 2 ^ 64 - s.now % 2 ^ 64) % 2 ^ 64) }

theorem State.clockSet_ptp (v : Nat) : (s.clockSet i v).ptp i = v % 2 ^ 64 := by
  rw [State.ptp, State.clockSet, Map.get_put_self, Option.getD_some]
  dsimp only
  omega

theorem State.clockSet_ptp_of_ne (v : Nat) {j : Nat} (h : j ≠ i) : (s.clockSet i v).ptp j = s.ptp j := by
  rw [State.ptp, State.clockSet, Map.get_put_of_ne _ _ h.symm]
  rfl

theorem State.clockStep_eq (hi : i < 8) (v : Nat) : s.clockStep i v =
    if s.gateArmed i && decide (s.rget (aGateTime i) ≤ v % 2 ^ 64) then (s.clockSet i v).takeover i
    else s.clockSet i v := by
  rw [← State.clockSet_ptp (s := s) (i := i) v]
  exact if_neg (Nat.not_le.2 hi)

theorem State.clockStep_unarmed (hi : i < 8) (v : Nat) (harmed : s.gateArmed i = false) :
    s.clockStep i v = s.clockSet i v := by
  rw [State.clockStep_eq hi, harmed]
  rfl

theorem State.clockStep_past {v : Nat} (hi : i < 8) (harmed : s.gateArmed i = true) (htime : s.rget (aGateTime i) ≤ v)
    (hv : v < 2 ^ 64) : s.clockStep i v = (s.clockSet i v).takeover i := by
  rw [State.clockStep_eq hi, harmed, Nat.mod_eq_of_lt hv, decide_eq_true htime]
  rfl

theorem State.gateEntryChange_on (hi : i < 8) (hon : s.gateOn i = true) (hcount : s.actCount i ≠ 0)
    (hcycle : cycleOf (s.gateList i (s.gateBank i) (s.actCount i)) ≠ 0) :
    s.gateEntryChange i = { s with now := s.now + (inForce (s.gateList i (s.gateBank i) (s.actCount i))
      (s.gatePhase i (cycleOf (s.gateList i (s.gateBank i) (s.actCount i))))).2 } := by
  simp [State.gateEntryChange, hi, hon, hcount, hcycle]

end

/-- Settles O33: ARM, DISARM and GATE_DISABLE set fields of SCH_GATE_CTL, GATE_TAKEOVER and a clock step past TIME are
`State.takeover`, and a clock step is `State.clockSet`. -/
theorem gateCommandsDriveTheCassette : Obligations.GateCommandsDriveTheCassette := by
  unfold Obligations.GateCommandsDriveTheCassette
  refine ⟨?_, ?_, ?_, ?_, ?_, ?_, ?_, ?_⟩
  · intro s i hi hreason
    exact ⟨_, congrArg Host.Outcome.next ((if_pos hi).trans (State.armGate_accepted hreason)),
      State.gateArmed_rset_armed s i (by decide), fun off hoff => s.rget_rset_of_ne _ _ _ hoff.symm, rfl⟩
  · intro s i hi hreason
    refine ⟨_, congrArg Host.Outcome.next ((if_pos hi).trans (State.armGate_refused hreason)), ?_, ?_, ?_, ?_, rfl⟩
    · rw [State.gateArmed, State.rfield_rset_apart _ _ _ (by decide) (by decide),
        State.rfield_rset_apart _ _ _ le_rfl (by decide), State.gateArmed]
    · rw [State.rfield_rset_apart _ _ _ (by decide) (by decide), State.rfield_rset_self _ _ _ le_rfl]
      rfl
    · rw [State.rfield_rset_self _ _ _ (by decide)]
      exact Nat.mod_eq_of_lt (s.armReason_lt i)
    · intro off hoff
      rw [State.rget_rset_of_ne _ _ _ _ hoff.symm, State.rget_rset_of_ne _ _ _ _ hoff.symm]
  · intro s i hi harmed hbefore
    refine congrArg Host.Outcome.next ((if_pos hi).trans (if_pos ?_))
    rw [harmed, decide_eq_true hbefore]
    rfl
  · intro s i hi
    refine ⟨_, congrArg Host.Outcome.next (if_pos hi), s.disableGate_off i,
      State.gateArmed_rset_armed _ i (by decide), State.gateOpen_of_off (s.disableGate_off i), ?_, rfl⟩
    intro off hoff
    rw [State.disableGate, State.rget_rset_of_ne _ _ _ _ hoff.symm, State.rget_rset_of_ne _ _ _ _ hoff.symm]
  · intro s i hi harmed
    refine ⟨_, congrArg Host.Outcome.next (State.gateTakeover_armed hi harmed), State.takeover_armed _ i,
      State.takeover_bank _ i, State.takeover_count _ i, State.takeover_base _ i, State.takeover_cycle _ i, ?_⟩
    obtain ⟨r, hr⟩ := State.takeover_frame { s with now := s.now + (s.rget (aGateTime i) - s.ptp i) } i
    rw [hr]
    exact ⟨rfl, rfl⟩
  · intro s i v hi harmed
    exact ⟨_, congrArg Host.Outcome.next (State.clockStep_unarmed hi v harmed), State.clockSet_ptp v,
      fun _ => State.clockSet_ptp_of_ne v, rfl⟩
  · intro s i v hi harmed htime hv
    refine ⟨_, congrArg Host.Outcome.next (State.clockStep_past hi harmed htime hv), ?_, State.takeover_armed _ i, ?_⟩
    · rw [State.takeover_ptp, State.clockSet_ptp, Nat.mod_eq_of_lt hv]
    · rw [State.takeover_bank]
      rfl
  · intro s i hi hon hcount hcycle
    exact congrArg Host.Outcome.next (State.gateEntryChange_on hi hon hcount hcycle)

end Sys2Proof.Machine
end

section
/-! PROOFS. Connections (R277 to R301): what accesses of memory and events leave of the transport engines, what sending
packets leaves of a connection, and how a connection ends. -/

namespace Sys2Proof.Machine
open Sys2Proof

-- One lemma after another: so many short ones, each in a thread of its own, outgrow the memory of a check.
set_option Elab.async false

/-! ### Accesses, events and ended operations -/

/-- The state but for the parts that accesses of memory, events and ended operations change. -/
def State.still (s : State) : State :=
  { s with freeCtr := 0, regs := [], out := [], host := {}, trg := {}, mem := {}, sch := {}, pwr := {} }

/-- What accesses of memory, events and ended operations keep: the time and the transport engines, among the parts of
the state that they do not reach. -/
structure State.Reports (s t : State) : Prop where
  still : t.still = s.still := by rfl

section
variable {s u v : State}

theorem State.Reports.trans (h : s.Reports u) (h' : u.Reports v) : s.Reports v := ⟨h'.still.trans h.still⟩

theorem State.Reports.now (h : s.Reports u) : u.now = s.now := (congrArg State.now h.still :)

theorem State.Reports.xpt (h : s.Reports u) : u.xpt = s.xpt := (congrArg State.xpt h.still :)

theorem State.Reports.conn (h : s.Reports u) (d : Nat) : u.conn d = s.conn d := by rw [State.conn, State.conn, h.xpt]

theorem State.Reports.either {c : Prop} {_ : Decidable c} (h : s.Reports u) (h' : s.Reports v) :
    s.Reports (if c then u else v) := by
  split <;> assumption

theorem State.Reports.either_fst {α : Type} {c : Prop} {_ : Decidable c} {p q : State × α} (h : s.Reports p.1)
    (h' : s.Reports q.1) : s.Reports (if c then p else q).1 := by
  split <;> assumption

theorem State.Reports.either_snd {α : Type} {c : Prop} {_ : Decidable c} {p q : α × State} (h : s.Reports p.2)
    (h' : s.Reports q.2) : s.Reports (if c then p else q).2 := by
  split <;> assumption

theorem State.Reports.fold {α : Type} {l : List α} {op : State → α → State} (h : s.Reports u)
    (hop : ∀ v a, s.Reports v → s.Reports (op v a)) : s.Reports (l.foldl op u) :=
  List.foldlRecOn l op h fun _ hv a _ => hop _ a hv

theorem State.Reports.fst_eq {α : Type} {p : State × α} {a : α} (h : s.Reports p.1) (e : p = (v, a)) :
    s.Reports v := by
  rw [e] at h
  exact h

theorem State.Reports.snd_eq {α : Type} {p : α × State} {a : α} (h : s.Reports p.2) (e : p = (a, v)) :
    s.Reports v := by
  rw [e] at h
  exact h

theorem State.Reports.withTrg {x : TrgState} (h : s.Reports u) : s.Reports { u with trg := x } := h.trans {}

theorem State.Reports.hbmRead {a n : Nat} (h : s.Reports u) : s.Reports (u.hbmRead a n).1 :=
  .fold (h.trans {}) fun _ _ hv => hv.trans {}

theorem State.Reports.hitProt {g : Option Nat} {a n : Nat} (h : s.Reports u) : s.Reports (u.hitProt g a n) := by
  refine .either h (.trans (List.foldlRecOn _ _ (motive := fun p : State × List Prot => s.Reports p.1) h
    fun v hv p _ => ?_) {})
  refine .either_fst hv ?_
  cases g with
  | some _ => exact hv
  | none => exact hv.hbmRead

theorem State.Reports.hbmWrite {a : Nat} {d : Bytes} {ep : Bool} (h : s.Reports u) : s.Reports (u.hbmWrite a d ep) :=
  .fold (h.hitProt.trans {}) fun _ _ hv =>
    .either (hv.trans {}) (.either (hv.trans {}) (.either (hv.trans {}) (hv.trans {})))

theorem State.Reports.walk {spoke fn va n tbl : Nat} (h : s.Reports u) : s.Reports (u.walk spoke fn va n tbl).2 := by
  induction n generalizing u tbl with
  | zero => exact h
  | succ n ih =>
    unfold State.walk
    dsimp only
    have hread : ∀ a, s.Reports (u.hbmRead a 8).1 := fun _ => h.hbmRead
    exact .either_snd h (.either_snd (hread _) (.either_snd (hread _)
      (.either_snd (.either_snd (hread _) (ih (hread _))) (.either_snd (hread _) (.either_snd (hread _) (hread _))))))

theorem State.Reports.translate {k va : Nat} {write : Bool} (h : s.Reports u) :
    s.Reports (u.translate k va write).2 := by
  unfold State.translate
  dsimp only
  split
  · exact h
  · refine .either_snd h (.either_snd h ?_)
    split
    · exact h
    · split
      next heq => exact h.walk.snd_eq heq
      next heq => exact (h.walk.snd_eq heq).trans (.either {} {})

theorem State.Reports.leafWrite {sp : Spoke} {leaf : Leaf} {d : Bytes} {ep : Bool} {ans : HostAns} (h : s.Reports u) :
    s.Reports (u.leafWrite sp leaf d ep ans).1 := by
  cases leaf with
  | hbm a => exact h.hbmWrite
  | peer a =>
    unfold State.leafWrite
    dsimp only
    split
    · exact h
    · exact .either_fst h (.either_fst h (h.trans {}))
  | host a pri =>
    unfold State.leafWrite
    refine .either_fst h (.either_fst h (.either_fst h ?_))
    split
    · exact h
    · exact h
    · exact h.hitProt.trans {}

theorem State.Reports.spokeWriteLoop {k n va : Nat} {ep : Bool} {ans : HostAns} {d : Bytes} (h : s.Reports u) :
    s.Reports (u.spokeWriteLoop k ep ans n va d).1 := by
  induction n generalizing u va d with
  | zero => exact h
  | succ n ih =>
    unfold State.spokeWriteLoop
    refine .either_fst h ?_
    split
    · exact h
    · split
      next heq => exact h.translate.snd_eq heq
      next heq => exact .either_fst (h.translate.snd_eq heq).leafWrite (ih (h.translate.snd_eq heq).leafWrite)

theorem State.Reports.interrupt {f n : Nat} (h : s.Reports u) : s.Reports (u.interrupt f n) :=
  h.trans ⟨by rw [u.interrupt_frame f n]; rfl⟩

theorem State.Reports.sampleKind {k : QKind} {since : Option Nat} (h : s.Reports u) :
    s.Reports (u.sampleKind k since) := by
  unfold State.sampleKind
  split
  · exact h.trans {}
  · exact h

theorem State.Reports.writeEntry {ri : Nat} {r : Queue} {d : Due} {ans : HostAns} (h : s.Reports u) :
    s.Reports (u.writeEntry ri r d ans).1 := by
  unfold State.writeEntry
  dsimp only
  generalize hp : u.spokeWrite r.spoke (r.base + 32 * (r.pi % r.size)) (d.bytes r.phase) false ans = p
  have hwrite : s.Reports p.1 := hp ▸ h.spokeWriteLoop
  obtain ⟨v, a⟩ := p
  have hpage : s.Reports (v.pageFor r.spoke a (.ring ri)) :=
    .either (hwrite.trans {}) (.either (hwrite.trans {}) (hwrite.trans {}))
  refine .either_fst (.either_fst hpage hwrite) ?_
  split
  · exact .withTrg (.sampleKind (.either (.interrupt (hwrite.trans {})) (hwrite.trans {})))
  · exact .sampleKind (.either (.interrupt (hwrite.trans {})) (hwrite.trans {}))

theorem State.Reports.flushList {ri : Nat} {ans : HostAns} {l : List Due} (h : s.Reports u) :
    s.Reports (u.flushList ri ans l).1 := by
  induction l generalizing u with
  | nil => exact h
  | cons d l ih =>
    unfold State.flushList
    split
    · exact h
    · refine .either_fst (ih h) ?_
      split
      next heq => exact ih (h.writeEntry.fst_eq heq)
      next heq => exact h.writeEntry.fst_eq heq
      next heq => exact h.writeEntry.fst_eq heq

theorem State.Reports.postEvent {k code a b : Nat} {st : Status} {queue : Nat} (h : s.Reports u) :
    s.Reports (u.postEvent k code a b st queue) := by
  have hflush : ∀ ri v, s.Reports v → s.Reports (v.flushRing ri (.ok [] false)).1 := by
    intro ri v hv
    unfold State.flushRing
    split
    · exact hv
    · exact .either (hv.flushList.trans {}) (hv.flushList.trans {})
  unfold State.postEvent
  split
  · exact h.trans {}
  · split
    · exact h.trans {}
    · exact .either (h.trans {}) (hflush _ _ (h.trans {}))

theorem State.Reports.excludePeer {c cause : Nat} (h : s.Reports u) : s.Reports (u.excludePeer c cause) := by
  unfold State.excludePeer
  split
  · exact h
  · split
    · exact h
    · exact .either h (.postEvent (h.trans {}))

theorem State.Reports.flushConn {c : Nat} {k : Conn} {bad : Option Nat} {st : Status} (h : s.Reports u) :
    s.Reports (u.flushConn c k bad st) := by
  refine .fold (.fold h fun _ _ hv => .either (hv.trans {}) (hv.trans {})) fun v o hv => ?_
  split
  · exact .either (hv.trans {}) (.either hv (hv.trans {}))
  · exact hv

end

/-! ### Reads after updates of a connection -/

section
variable (s : State) (c : Nat) (k : Conn)

@[simp] theorem State.conn_setConn_self : (s.setConn c k).conn c = some k := Map.get_put_self ..

theorem State.conn_setConn_of_ne {d : Nat} (h : d ≠ c) : (s.setConn c k).conn d = s.conn d :=
  Map.get_put_of_ne _ _ h.symm

theorem State.conn_modConn (g : Conn → Conn) (d : Nat) :
    (s.modConn c g).conn d = if c = d then (s.conn d).map g else s.conn d := Map.get_modify ..

end

/-! ### Sending packets -/

/-- A connection but for its packets and the turns in which it sends them. -/
def Conn.still (k : Conn) : Conn := { k with txq := [], out := [], order := 0, nextPath := 0 }

/-- What sending packets of connection `c` keeps: the time, the host side, memory, the other connections, and that
connection but for its packets and turns. -/
structure State.Sends (c : Nat) (s t : State) : Prop where
  now : t.now = s.now := by rfl
  host : t.host = s.host := by rfl
  mem : t.mem = s.mem := by rfl
  others : ∀ d, d ≠ c → t.conn d = s.conn d := by exact fun _ _ => rfl
  own : (t.conn c).map Conn.still = (s.conn c).map Conn.still := by rfl

section
variable {c : Nat} {s u v : State}

theorem State.Sends.refl : s.Sends c s := {}

theorem State.Sends.trans (h : s.Sends c u) (h' : u.Sends c v) : s.Sends c v where
  now := h'.now.trans h.now
  host := h'.host.trans h.host
  mem := h'.mem.trans h.mem
  others d hd := (h'.others d hd).trans (h.others d hd)
  own := h'.own.trans h.own

theorem State.Sends.either {p : Prop} {_ : Decidable p} (h : s.Sends c u) (h' : s.Sends c v) :
    s.Sends c (if p then u else v) := by
  split <;> assumption

theorem State.Sends.fold {α : Type} {l : List α} {op : State → α → State} (h : s.Sends c u)
    (hop : ∀ v a, s.Sends c v → s.Sends c (op v a)) : s.Sends c (l.foldl op u) :=
  List.foldlRecOn l op h fun _ hv a _ => hop _ a hv

/-- The connection afterwards. -/
theorem State.Sends.conn {k : Conn} (h : s.Sends c u) (hk : s.conn c = some k) :
    ∃ k', u.conn c = some k' ∧ k'.still = k.still := by
  have hown := h.own
  rw [hk] at hown
  exact Option.map_eq_some_iff.1 hown

theorem State.Sends.setConn {k k' : Conn} (h : s.Sends c u) (hk : u.conn c = some k) (hstill : k'.still = k.still) :
    s.Sends c (u.setConn c k') :=
  h.trans
    { others := fun _ hd => u.conn_setConn_of_ne c k' hd
      own := by rw [State.conn_setConn_self, hk, Option.map_some, hstill, Option.map_some] }

/-- What has been sent from a state in which only the connection was changed. -/
theorem State.Sends.of_setConn {k : Conn} (h : (s.setConn c k).Sends c u) :
    u.now = s.now ∧ u.host = s.host ∧ u.mem = s.mem ∧ ∃ k', u.conn c = some k' ∧ k'.still = k.still :=
  ⟨h.now, h.host, h.mem, h.conn (s.conn_setConn_self c k)⟩

theorem State.Sends.modConn {g : Conn → Conn} (h : s.Sends c u) (hg : ∀ k, (g k).still = k.still) :
    s.Sends c (u.modConn c g) :=
  h.trans
    { others := fun d hd => by rw [State.conn_modConn, if_neg hd.symm]
      own := by
        rw [State.conn_modConn, if_pos rfl, Option.map_map]
        exact congrArg (Option.map · _) (funext hg) }

theorem State.Sends.wireY {k : Conn} {p : YPkt} {path : Nat} {psn : Option Nat} {ctl : Bool} {d : Nat}
    (h : s.Sends c u) : s.Sends c (u.wireY d k p path psn ctl) := h.trans {}

theorem State.Sends.wireR {k : Conn} {p : RPkt} {psn : Option Nat} {ctl : Bool} {d : Nat} (h : s.Sends c u) :
    s.Sends c (u.wireR d k p psn ctl) := h.trans {}

theorem State.Sends.xcount {n : Nat} (h : s.Sends c u) : s.Sends c (u.xcount n) := h.trans {}

theorem State.Sends.admitPkts {n : Nat} (h : s.Sends c u) : s.Sends c (u.admitPkts c n) := by
  induction n generalizing u with
  | zero => exact h
  | succ n ih =>
    unfold State.admitPkts
    split
    · exact h
    next k hk =>
      refine .either h ?_
      split
      · split
        · exact ih (.wireY (h.setConn hk rfl))
        · exact h
      · exact h

theorem State.Sends.admitR {n : Nat} (h : s.Sends c u) : s.Sends c (u.admitR c n) := by
  induction n generalizing u with
  | zero => exact h
  | succ n ih =>
    unfold State.admitR
    split
    · exact h
    next k hk =>
      refine .either h ?_
      split
      · exact h
      · split
        · exact h
        · exact .either h (ih (.wireR (h.setConn hk rfl)))

theorem State.Sends.resend {psn : Nat} {avoid : Option Nat} (h : s.Sends c u) : s.Sends c (u.resend c psn avoid) := by
  unfold State.resend
  split
  · exact h
  next k hk =>
    split
    · exact h
    · dsimp only
      split
      · exact .wireY (.xcount (h.setConn hk rfl))
      · exact h.setConn hk rfl

theorem State.Sends.resumeConn (h : s.Sends c u) : s.Sends c (u.resumeConn c) := by
  unfold State.resumeConn
  split
  · exact h
  · exact .admitPkts (.fold h fun _ _ hv => hv.resend)

theorem State.Sends.goBack {psn : Nat} (h : s.Sends c u) : s.Sends c (u.goBack c psn) := by
  unfold State.goBack
  split
  · exact h
  · refine .either (h.modConn fun _ => rfl) (.fold h fun v p hv => ?_)
    split
    · exact .wireR hv.xcount
    · exact hv

end

/-! ### The end of a connection -/

/-- R281: a connection in ERROR. -/
def Conn.failed (k : Conn) : Conn :=
  { k with phase := .error, txq := [], out := [], works := [], stored := [], msgs := [] }

section
variable {s : State} {c : Nat} {k : Conn}

/-- R281: a live connection that fails enters ERROR without its packets and work requests; the others stand. -/
theorem State.connError_failed {psn : Nat} {st : Status} (hk : s.conn c = some k) (hphase : k.phase = .active)
    (hdying : k.dying = none) :
    (s.connError c psn st).now = s.now ∧ (s.connError c psn st).conn c = some k.failed ∧
      ∀ d, d ≠ c → (s.connError c psn st).conn d = s.conn d := by
  have hlive : ¬(k.phase == .error || k.dying.isSome) = true := by rw [hphase, hdying]; decide
  unfold State.connError
  rw [hk]
  dsimp only
  unfold State.connErrorOp
  rw [hk]
  dsimp only
  rw [if_neg hlive]
  generalize hw : s.flushConn c k _ st = w
  have hflush : s.Reports w := hw ▸ .flushConn {}
  generalize ht : State.excludePeer (State.postEvent _ _ _ _ _ _ _) c 1 = t
  have hend : (w.setConn c k.failed).Reports t := ht ▸ .excludePeer (.postEvent {})
  refine ⟨hend.now.trans hflush.now, ?_, fun d hd => ?_⟩
  · rw [hend.conn, State.conn_setConn_self]
  · rw [hend.conn, State.conn_setConn_of_ne _ _ _ hd, hflush.conn]

end

end Sys2Proof.Machine
end

section
/-! PROOFS. The timers of Yekel connections (R281, R290, R293, R294, R296, R306): what a packet that is sent again
keeps, and which state each timer sends from. -/

namespace Sys2Proof.Machine
open Sys2Proof

/-! ### Packets sent again -/

/-- An update of the packets that keeps their PSNs acts on the packet found under a PSN. -/
theorem OutPkt.find?_map {l : List OutPkt} {g : OutPkt → OutPkt} {n : Nat} {p : OutPkt} (hg : ∀ q, (g q).psn = q.psn)
    (hp : l.find? (fun p => p.psn == n) = some p) : (l.map g).find? (fun p => p.psn == n) = some (g p) := by
  have hcomp : (fun p : OutPkt => p.psn == n) ∘ g = fun p => p.psn == n := funext fun q => by
    rw [Function.comp_apply, hg]
  rw [List.find?_map, hcomp, hp, Option.map_some]

section
variable {s : State} {c n : Nat} {k : Conn} {p : OutPkt}

/-- R296: a packet that is sent again is, under its PSN, the only one, with its tries and its wait. -/
theorem State.resend_out {avoid : Option Nat} {k' : Conn} (hk : s.conn c = some k)
    (hp : k.out.find? (fun p => p.psn == n) = some p) (hk' : (s.resend c n avoid).conn c = some k') :
    ∀ q ∈ k'.out, q.psn = n → q.tries = p.tries ∧ q.retryAt = p.retryAt := by
  have hset : ∀ p' : OutPkt, p'.tries = p.tries → p'.retryAt = p.retryAt →
      ∀ q ∈ k.out.map fun x => if x.psn = n then p' else x, q.psn = n → q.tries = p.tries ∧ q.retryAt = p.retryAt := by
    intro p' htries hretry q hq hn
    obtain ⟨x, -, rfl⟩ := List.mem_map.1 hq
    by_cases hx : x.psn = n
    · rw [if_pos hx]
      exact ⟨htries, hretry⟩
    · rw [if_neg hx] at hn
      exact absurd hn hx
  unfold State.resend at hk'
  rw [hk] at hk'
  dsimp only at hk'
  rw [hp] at hk'
  dsimp only at hk'
  split at hk'
  · cases (State.conn_setConn_self ..).symm.trans hk'
    exact hset _ rfl rfl
  · cases (State.conn_setConn_self ..).symm.trans hk'
    exact hset _ rfl rfl

/-! ### Packets and timers of live connections -/

/-- The packet of a timer is one of a live Yekel connection. -/
theorem State.outPkt_live (h : s.outPkt c n = some (k, p)) :
    s.conn c = some k ∧ k.phase = .active ∧ k.dying = none ∧ k.out.find? (fun p => p.psn == n) = some p := by
  unfold State.outPkt at h
  split at h
  · cases h
  next k' hk =>
    split at h
    · cases h
    next hlive =>
      obtain ⟨p', hp, he⟩ := Option.map_eq_some_iff.1 h
      cases he
      simp only [Bool.or_eq_true, not_or, bne_iff_ne, ne_eq, not_not, Option.isSome_iff_ne_none] at hlive
      obtain ⟨⟨-, hphase⟩, hdying⟩ := hlive
      exact ⟨hk, hphase, hdying, hp⟩

theorem State.sendCtl_frame (y : YPkt) : ∃ i m, s.sendCtl c y = { s with freeCtr := i, sch := m } := by
  unfold State.sendCtl
  split
  · exact ⟨_, _, rfl⟩
  · split
    · exact ⟨_, _, rfl⟩
    · exact ⟨_, _, rfl⟩

/-- R294: an ACK clears what waits for acknowledgement. -/
theorem State.sendAck_frame (hk : s.conn c = some k) : ∃ i m, s.sendAck c =
    { s.setConn c { k with sinceAck := 0, oldestAt := none, ceSeen := false } with freeCtr := i, sch := m } := by
  unfold State.sendAck
  rw [hk]
  obtain ⟨i, m, h⟩ := State.sendCtl_frame (s := (s.draw 64).2.setConn c
    { k with sinceAck := 0, oldestAt := none, ceSeen := false }) (c := c) _
  exact ⟨i, m, h⟩

/-- R296: a packet whose retransmission timeout has expired once more. -/
def OutPkt.retried (n : Nat) (q : OutPkt) : OutPkt := if q.psn = n then { q with tries := q.tries + 1 } else q

theorem OutPkt.retried_psn (q : OutPkt) : (q.retried n).psn = q.psn := by
  unfold OutPkt.retried
  split <;> rfl

theorem OutPkt.retried_tries (h : p.psn = n) : (p.retried n).tries = p.tries + 1 := congrArg OutPkt.tries (if_pos h)

/-- R296: below the limit the packet's try is counted, the window is halved, and the packet is sent again. -/
theorem State.rtoExpire_again (hp : s.outPkt c n = some (k, p)) (hretry : p.retryAt = none)
    (hlimit : p.tries < k.par.retryLimit) (hhalved : k.halvedAt = none) :
    ∃ w k', s.rtoExpire c n = (State.setConn w c k').resend c n (some p.path) ∧
      w.now = max s.now (p.sent + min (k.rto * 2 ^ p.tries) 4000000) ∧ w.host = s.host ∧ w.mem = s.mem ∧
      k'.phase = k.phase ∧ k'.cwnd = max 1 (k.cwnd / 2) ∧ k'.out = k.out.map (OutPkt.retried n) := by
  have hfall : ∀ (k' : Conn) now, k'.mayFall now k.halvedAt = true := fun k' now => by rw [hhalved]; rfl
  unfold State.rtoExpire
  rw [hp]
  dsimp only
  rw [hretry, if_neg (by decide), if_neg hlimit.ne]
  simp only [Conn.modPath, hfall, if_true]
  exact ⟨State.xcount { s with now := max s.now (p.sent + min (k.rto * 2 ^ p.tries) 4000000) } 8, _, rfl, rfl, rfl,
    rfl, rfl, rfl, rfl⟩

/-- R281, R296: at the limit the packet fails its connection. -/
theorem State.rtoExpire_limit (hp : s.outPkt c n = some (k, p)) (hretry : p.retryAt = none)
    (hlimit : p.tries = k.par.retryLimit) : s.rtoExpire c n = State.connError (State.xcount { s with
      now := max s.now (p.sent + min (k.rto * 2 ^ p.tries) 4000000) } 8) c n .timeout := by
  unfold State.rtoExpire
  rw [hp]
  dsimp only
  rw [hretry, if_neg (by decide), if_pos hlimit]

theorem State.suspectExpire_sends {x : Nat} {y : PathState} (hk : s.conn c = some k)
    (hy : Map.get k.pathSt x = some y) (hsuspect : y.suspectUntil ≠ 0) :
    (State.setConn { s with now := max s.now y.suspectUntil } c
      { k with pathSt := Map.put k.pathSt x { y with suspectUntil := 0 } }).Sends c (s.suspectExpire c x) := by
  unfold State.suspectExpire
  rw [hk]
  dsimp only
  rw [hy]
  dsimp only
  rw [if_neg hsuspect, Conn.modPath, hy, Option.getD_some]
  exact State.Sends.refl.resumeConn

/-- R306: a packet whose wait after a NAK_RETRY is over. -/
def OutPkt.resumed (n : Nat) (q : OutPkt) : OutPkt := if q.psn = n then { q with retryAt := none } else q

theorem OutPkt.resumed_psn (q : OutPkt) : (q.resumed n).psn = q.psn := by
  unfold OutPkt.resumed
  split <;> rfl

theorem OutPkt.resumed_retryAt (h : p.psn = n) : (p.resumed n).retryAt = none := congrArg OutPkt.retryAt (if_pos h)

theorem State.retryResend_waiting {u : Nat} (hp : s.outPkt c n = some (k, p)) (hretry : p.retryAt = some u) :
    s.retryResend c n = (State.setConn { s with now := max s.now u } c
      { k with out := k.out.map (OutPkt.resumed n) }).resend c n none := by
  unfold State.retryResend
  rw [hp]
  dsimp only
  rw [hretry]
  rfl

theorem State.retryExpire_waiting {u : Nat} (hp : s.outPkt c n = some (k, p)) (hretry : p.retryFrom = some u) :
    s.retryExpire c n =
      State.connError { s with now := max s.now (u + k.par.retryMs * 1000000) } c n .timeout := by
  unfold State.retryExpire
  rw [hp]
  dsimp only
  rw [hretry]

theorem State.cwndRise_sends (hk : s.conn c = some k) (hroce : k.roce = false) (hphase : k.phase = .active)
    (hdying : k.dying = none) (hfell : k.fellAt = none) (hhalved : k.halvedAt = none) :
    (State.setConn { s with now := max s.now (k.rose + k.srtt) } c
      { k with cwnd := min 256 (k.cwnd + 1), rose := max s.now (k.rose + k.srtt) }).Sends c (s.cwndRise c) := by
  unfold State.cwndRise
  rw [hk]
  dsimp only
  rw [hroce, hphase, hdying, hfell, hhalved]
  exact State.Sends.refl.admitPkts

end

/-- Settles O37: each timer sends from a state in which only its connection has changed, and what sends keeps that
connection but for its packets (`State.Sends`); a packet sent again keeps its tries and its wait (`State.resend_out`),
and a connection that fails is `Conn.failed`. -/
theorem yekelTimersActOnTheirPacket : Obligations.YekelTimersActOnTheirPacket := by
  unfold Obligations.YekelTimersActOnTheirPacket
  refine ⟨?_, ?_, ?_, ?_, ?_, ?_, ?_⟩
  · intro s c u k hk hold
    have hexec : exec (.ackTimer c) s = .next (State.sendAck { s with now := max s.now (u + 2000) } c) := by
      show execAckTimer c s = _
      rw [execAckTimer, hk]
      dsimp only
      rw [hold]
    obtain ⟨i, m, hack⟩ := State.sendAck_frame (s := { s with now := max s.now (u + 2000) }) hk
    rw [hack] at hexec
    exact ⟨_, _, hexec, rfl, State.conn_setConn_self .., rfl, rfl, rfl, rfl, rfl, rfl⟩
  · intro s c n k p hp hretry hlimit hhalved
    obtain ⟨-, hphase, -, hfind⟩ := State.outPkt_live hp
    obtain ⟨w, k₁, hrto, hnow₁, hhost₁, hmem₁, hphase₁, hcwnd₁, hout₁⟩ :=
      State.rtoExpire_again hp hretry hlimit hhalved
    have hfind₁ : k₁.out.find? (fun p => p.psn == n) = some (p.retried n) := by
      rw [hout₁]
      exact OutPkt.find?_map OutPkt.retried_psn hfind
    have hsends : (w.setConn c k₁).Sends c (s.rtoExpire c n) := hrto ▸ State.Sends.refl.resend
    obtain ⟨hnow, hhost, hmem, k', hk', hstill⟩ := hsends.of_setConn
    refine ⟨_, k', rfl, hk', (congrArg Conn.phase hstill :).trans (hphase₁.trans hphase),
      (congrArg Conn.cwnd hstill :).trans hcwnd₁, fun q hq hn => ?_, hnow.trans hnow₁, hmem.trans hmem₁,
      hhost.trans hhost₁⟩
    rw [hrto] at hk'
    rw [(State.resend_out (w.conn_setConn_self c k₁) hfind₁ hk' q hq hn).1,
      OutPkt.retried_tries (by simpa using List.find?_some hfind)]
  · intro s c n k p hp hretry hlimit
    obtain ⟨hk, hphase, hdying, -⟩ := State.outPkt_live hp
    obtain ⟨-, hfailed, hothers⟩ := State.connError_failed (s := State.xcount { s with
      now := max s.now (p.sent + min (k.rto * 2 ^ p.tries) 4000000) } 8) (psn := n) (st := .timeout) hk hphase hdying
    exact ⟨_, _, congrArg Host.Outcome.next (State.rtoExpire_limit hp hretry hlimit), hfailed, rfl, rfl, rfl, hothers⟩
  · intro s c x k y hk hy hsuspect
    obtain ⟨hnow, hhost, hmem, k', hk', hstill⟩ := (State.suspectExpire_sends hk hy hsuspect).of_setConn
    refine ⟨_, k', rfl, hnow, hk', ?_, hmem, hhost⟩
    exact (congrArg (fun k => Map.get (Conn.pathSt k) x) hstill :).trans (Map.get_put_self ..)
  · intro s c n u k p hp hretry
    obtain ⟨-, -, -, hfind⟩ := State.outPkt_live hp
    have hresend := State.retryResend_waiting hp hretry
    have hsends : (State.setConn { s with now := max s.now u } c { k with out := k.out.map (OutPkt.resumed n) }).Sends c
        (s.retryResend c n) := hresend ▸ State.Sends.refl.resend
    obtain ⟨hnow, hhost, hmem, k', hk', -⟩ := hsends.of_setConn
    refine ⟨_, k', rfl, hnow, hk', fun q hq hn => ?_, hmem, hhost⟩
    rw [hresend] at hk'
    rw [(State.resend_out (State.conn_setConn_self ..) (OutPkt.find?_map OutPkt.resumed_psn hfind) hk' q hq hn).2,
      OutPkt.resumed_retryAt (by simpa using List.find?_some hfind)]
  · intro s c n u k p hp hretry
    obtain ⟨hk, hphase, hdying, -⟩ := State.outPkt_live hp
    obtain ⟨hnow, hfailed, -⟩ := State.connError_failed
      (s := { s with now := max s.now (u + k.par.retryMs * 1000000) }) (psn := n) (st := .timeout) hk hphase hdying
    exact ⟨_, _, congrArg Host.Outcome.next (State.retryExpire_waiting hp hretry), hnow, hfailed, rfl, rfl, rfl⟩
  · intro s c k hk hroce hphase hdying hfell hhalved
    obtain ⟨hnow, hhost, hmem, k', hk', hstill⟩ :=
      (State.cwndRise_sends hk hroce hphase hdying hfell hhalved).of_setConn
    exact ⟨_, k', rfl, hnow, hk', (congrArg Conn.cwnd hstill :), hmem, hhost⟩

end Sys2Proof.Machine
end

section
/-! PROOFS. The connection and region commands (R277, R278, R281 to R283, R302, R305): what each command answers a
request that passes its checks, and what the end of a connection leaves of its work requests and of the mailbox. -/

namespace Sys2Proof
open Sys2Proof.Machine

theorem le_lt (b : Bytes) : le b < 2 ^ (8 * b.length) := by
  induction b with
  | nil => decide
  | cons x t ih =>
    have hx := x.isLt
    rw [le, List.length_cons, Nat.mul_succ, Nat.pow_add]
    omega

theorem u32_lt (b : Bytes) (off : Nat) : u32 b off < 2 ^ 32 :=
  (le_lt _).trans_le (Nat.pow_le_pow_right (by decide) (Nat.mul_le_mul_left 8 (List.length_take_le ..)))

theorem Map.get_ne_none_of_mem {β : Type} {m : List (Nat × β)} {x : Nat × β} (h : x ∈ m) : Map.get m x.1 ≠ none := by
  induction m with
  | nil => cases h
  | cons y t ih =>
    unfold Map.get
    split
    · exact Option.some_ne_none _
    next hne => exact ih ((List.mem_cons.1 h).resolve_left fun e => hne (by rw [e]))

/-- In a canonical table no entry is left under a key taken out. -/
theorem Map.ne_of_mem_erase {β : Type} {m : List (Nat × β)} {k : Nat} {x : Nat × β} (hwf : Map.wf m = true)
    (h : x ∈ Map.erase m k) : x.1 ≠ k := fun e =>
  Map.get_ne_none_of_mem h (by rw [e, Map.get_erase_self m k hwf])

end Sys2Proof

namespace Sys2Proof.Machine
open Sys2Proof

-- One lemma after another: so many short ones, each in a thread of its own, outgrow the memory of a check.
set_option Elab.async false

/-! ### The work requests of a connection that ends -/

section
variable {s u : State} {c o : Nat} {k : Conn} {y : Op}

theorem State.finish_keeps_done (hy : s.op o = some y) (hdone : y.phase = .done) (r : Nat) (st : Status)
    (n detail : Nat) : (s.finish r st n detail).op o = some y := by
  rw [State.op_finish, hy, Option.map_some, hdone]
  exact ite_self _

/-- R281, R282: a work request in progress ends FLUSHED when its connection is destroyed. -/
theorem State.flushConn_flushes {w : Work} {st : Status} (hw : w ∈ k.works) (hy : s.op w.op = some y)
    (hphase : y.phase ≠ .done) :
    ∃ z, (s.flushConn c k none st).op w.op = some z ∧ z.phase = .done ∧ z.status = .flushed := by
  have hworks : ∀ (l : List Work) (v : State), w ∈ l → v.op w.op = some y → ∃ z,
      (l.foldl (fun s w => if some w.op = none then s.finishWork c w st
        else s.finish w.op .flushed 0 (w.msg + 2 ^ 32 * c)) v).op w.op = some z ∧
      z.phase = .done ∧ z.status = .flushed := by
    intro l
    induction l with
    | nil => exact fun _ hl => nomatch hl
    | cons a l ih =>
      intro v hl hv
      rw [List.foldl_cons, if_neg (Option.some_ne_none _)]
      by_cases ha : a.op = w.op
      · obtain ⟨z, hz, hdone, hst⟩ : ∃ z, (v.finish a.op .flushed 0 (a.msg + 2 ^ 32 * c)).op w.op = some z ∧
            z.phase = .done ∧ z.status = .flushed := by
          rw [ha]
          exact ⟨_, State.op_finish_self hv hphase _ _ _, rfl, rfl⟩
        refine ⟨z, List.foldlRecOn l _ (motive := fun t : State => t.op w.op = some z) hz fun t ht b _ => ?_, hdone,
          hst⟩
        rw [if_neg (Option.some_ne_none _)]
        exact State.finish_keeps_done ht hdone _ _ _ _
      · refine ih _ ((List.mem_cons.1 hl).resolve_left fun e => ha (by rw [e])) ?_
        rw [State.op_finish, if_neg ha, hv]
  obtain ⟨z, hz, hdone, hst⟩ := hworks k.works s hw hy
  refine ⟨z, List.foldlRecOn _ _ (motive := fun t : State => t.op w.op = some z) hz fun t ht a _ => ?_, hdone, hst⟩
  have hkept := fun (v : State) (hv : v.op w.op = some z) => State.finish_keeps_done hv hdone a .flushed 0 0
  split
  · split_ifs
    · exact hkept (t.unhold a) ht
    · exact ht
    · exact hkept t ht
  · exact ht

theorem State.KeepsQueues.excludePeer {cause : Nat} (h : s.KeepsQueues (fun _ => True) u) :
    s.KeepsQueues (fun _ => True) (u.excludePeer c cause) := by
  unfold State.excludePeer
  split
  · exact h
  · split
    · exact h
    · exact .either h (.postEvent (h.trans {}) fun _ _ _ _ => trivial)

/-- R282: a connection that is being destroyed. -/
def Conn.killed (k : Conn) (wait : Option (Nat × Nat)) : Conn :=
  { k with txq := [], out := [], works := [], stored := [], msgs := [], dying := some wait }

theorem State.killConn_killed {wait : Option (Nat × Nat)} (hk : s.conn c = some k) (hdying : k.dying = none) :
    (s.killConn c true wait).conn c = some (k.killed wait) ∧
      ∀ o, (s.killConn c true wait).op o = (s.flushConn c k none .flushed).op o := by
  unfold State.killConn
  rw [hk]
  dsimp only
  rw [hdying, if_neg (by decide), if_pos rfl]
  generalize s.flushConn c k none .flushed = w
  generalize ht : State.excludePeer _ c 1 = t
  have hreports : (w.setConn c (k.killed wait)).Reports t := ht ▸ .excludePeer {}
  have hqueues : (w.setConn c (k.killed wait)).KeepsQueues (fun _ => True) t := ht ▸ .excludePeer {}
  exact ⟨(hreports.conn c).trans (State.conn_setConn_self ..), hqueues.op⟩

end

/-! ### Replies to requests that pass their checks -/

section
variable {s : State} {f c : Nat} {p : Bytes} {k : Conn}

theorem State.connCreate_free (hspoke : (s.spoke (u16 p 0)).isSome = true) (hmay : s.mayNameSpoke f (u16 p 0) = true)
    (hroom : s.xpt.conns.length < 65536) (hfree : s.freeConn = some c) :
    s.connCreate f p = Reply.ok { s with xpt := { s.xpt with
      conns := Map.put s.xpt.conns c
        { spoke := u16 p 0, roce := bit (u8 p 2) 0, epoch := (s.lastEpoch c + 1) % 256 }
      epochs := Map.put s.xpt.epochs c ((s.lastEpoch c + 1) % 256)
      freed := s.xpt.freed.filter fun x => x.1 != c } } (toLe 3 c ++ toLe 1 ((s.lastEpoch c + 1) % 256)) := by
  unfold State.connCreate
  dsimp only
  rw [← Option.not_isSome, hspoke, if_neg (by decide), hmay, if_neg (by decide), if_neg (Nat.not_le.2 hroom), hfree]

theorem State.connConnect_init (hk : s.conn (u32 p 0 % 2 ^ 24) = some k) (hbad : s.connectBad k p = false)
    (hmay : s.mayNameSpoke f k.spoke = true) (hphase : k.phase = .init) (hdying : k.dying = none) :
    s.connConnect f p = Reply.ok (s.setConn (u32 p 0 % 2 ^ 24) { k with
      phase := .active, par := connParams p, psn := u32 p 60 % (if k.roce then 2 ^ 24 else 2 ^ 32)
      e := u32 p 64 % (if k.roce then 2 ^ 24 else 2 ^ 32), rto := (connParams p).timeout * 1000, rose := s.now
      rc := { k.rc with expected := u32 p 64 % (if k.roce then 2 ^ 24 else 2 ^ 32) } }) [] := by
  unfold State.connConnect
  dsimp only
  rw [hk]
  dsimp only
  rw [hbad, if_neg (by decide), hmay, hphase, hdying, if_neg (by decide)]

theorem State.connDestroy_live (hk : s.conn (u32 p 0 % 2 ^ 24) = some k) (hmay : s.mayNameSpoke f k.spoke = true)
    (hdying : k.dying = none) : s.connDestroy f p =
      { st := s.killConn (u32 p 0 % 2 ^ 24) true (some (f, (s.fn f).mb.seq)), wait := true } := by
  unfold State.connDestroy
  dsimp only
  rw [hk]
  dsimp only
  rw [hdying, if_neg (by decide), hmay, if_neg (by decide)]

theorem State.connQuery_active (hk : s.conn (u32 p 0 % 2 ^ 24) = some k) (hdying : k.dying = none)
    (hmay : s.mayNameSpoke f k.spoke = true) (hphase : k.phase = .active) :
    s.connQuery f p = Reply.ok s (toLe 1 2 ++ toLe 1 k.epoch ++ toLe 2 k.out.length ++
      toLe 4 ((k.nextOut.map OutPkt.psn).getD k.psn) ++ toLe 4 (if k.roce then k.rc.expected else k.e) ++
      toLe 4 k.nextMsg ++ toLe 4 k.done ++ toLe 2 k.cwnd ++ toLe 2 k.stored.length ++ toLe 4 k.srtt ++ zeros 4) := by
  unfold State.connQuery
  dsimp only
  rw [hk]
  dsimp only
  rw [hdying, if_neg (by decide), hmay, if_neg (by decide), hphase]

theorem State.connQuery_free (hk : s.conn (u32 p 0 % 2 ^ 24) = none) : s.connQuery f p = Reply.ok s (zeros 32) := by
  unfold State.connQuery
  dsimp only
  rw [hk]

/-- R282: the last of the connections that a request awaits is gone: its number is free, and the request is answered. -/
theorem State.connGone_last {q : Nat} (hk : s.conn c = some k) (hdying : k.dying = some (some (f, q)))
    (hmb : (s.fn f).mb.outstanding = true) (hseq : (s.fn f).mb.seq = q) (hwf : Map.wf s.xpt.conns = true)
    (hlast : ∀ x ∈ s.xpt.conns, x.1 ≠ c → x.2.dying ≠ some (some (f, q))) :
    ∃ cache, s.connGone c = State.respond { s with xpt := { s.xpt with
      conns := Map.erase s.xpt.conns c, freed := s.xpt.freed ++ [(c, s.now)], ctxCache := cache } }
      f .success [] false := by
  have hmore : (Map.erase s.xpt.conns c).any (fun x => x.2.dying == some (some (f, q))) = false :=
    List.any_eq_false.2 fun x hx => by
      rw [beq_iff_eq]
      exact hlast x (Map.mem_erase _ _ _ hx) (Map.ne_of_mem_erase hwf hx)
  refine ⟨s.xpt.ctxCache.map fun (h, l) => (h, l.filter (· != c)), ?_⟩
  unfold State.connGone
  rw [hk]
  dsimp only
  rw [hdying]
  dsimp only
  refine if_pos ?_
  rw [hmore]
  exact Bool.and_eq_true_iff.2 ⟨hmb, beq_iff_eq.2 hseq⟩

theorem State.regionRegister_free (hspoke : (s.spoke (u16 p 0)).isSome = true) (hlen : u64 p 16 ≠ 0)
    (hend : u64 p 8 + u64 p 16 ≤ 2 ^ 48) (hpos : 0 < u32 p 4) (hindex : u32 p 4 ≤ 1048575)
    (hmay : s.mayNameSpoke f (u16 p 0) = true) (hfree : Map.get s.xpt.keys (u32 p 4) = none) :
    s.regionRegister f p = Reply.ok (State.bump { s with xpt := { s.xpt with
      keys := Map.put s.xpt.keys (u32 p 4)
        { gen := (s.lastGen (u32 p 4) + 1) % 2 ^ 16, spoke := u16 p 0, read := bit (u8 p 2) 0
          write := bit (u8 p 2) 1, addr := u64 p 8, length := u64 p 16 }
      keyGens := Map.put s.xpt.keyGens (u32 p 4) ((s.lastGen (u32 p 4) + 1) % 2 ^ 16) } })
      (toLe 4 (u32 p 4) ++ toLe 2 ((s.lastGen (u32 p 4) + 1) % 2 ^ 16) ++ zeros 2) := by
  have hnamed : u32 p 4 ≠ 0xFFFFFFFF := by omega
  have hgood : ((s.spoke (u16 p 0)).isNone || decide (u64 p 16 = 0) || decide (2 ^ 48 < u64 p 8 + u64 p 16) ||
      (u32 p 4 != 0xFFFFFFFF && (decide (u32 p 4 = 0) || decide (1048575 < u32 p 4)))) = false := by
    rw [← Option.not_isSome, hspoke, decide_eq_false hlen, decide_eq_false (Nat.not_lt.2 hend),
      decide_eq_false hpos.ne', decide_eq_false (Nat.not_lt.2 hindex)]
    exact Bool.and_false _
  unfold State.regionRegister
  dsimp only
  rw [hgood, if_neg (by decide), hmay, if_neg (by simp [hfree]), if_neg hnamed]

theorem State.regionRevoke_active {x : RegionKey} (hx : Map.get s.xpt.keys (u32 p 0) = some x)
    (hspoke : (s.spoke (u16 p 4)).isSome = true) (hmay : s.mayNameSpoke f (u16 p 4) = true) (hown : x.spoke = u16 p 4)
    (hphase : x.phase = .active) : s.regionRevoke f p = { st := State.bump { s with
      xpt.keys := Map.put s.xpt.keys (u32 p 0) { x with phase := .revoking [f] } }, wait := true } := by
  unfold State.regionRevoke
  dsimp only
  rw [hx]
  dsimp only
  rw [← Option.not_isSome, hspoke, if_neg (by decide), hmay, hown, if_neg (by simp), hphase]

/-- R302, R303: no check passes on a key that is not ACTIVE. -/
theorem State.keyCheckY_inactive {x : RegionKey} {spoke i gen off n : Nat} {w short : Bool}
    (hx : Map.get s.xpt.keys i = some x) (hphase : x.phase ≠ .active) :
    s.keyCheckY spoke i gen off n w short ≠ .success := by
  unfold State.keyCheckY
  split
  · decide
  · rw [hx]
    dsimp only
    rw [if_pos (bne_iff_ne.2 hphase)]
    decide

theorem State.revokeComplete_one {i : Nat} {x : RegionKey} (hx : Map.get s.xpt.keys i = some x)
    (hphase : x.phase = .revoking [f]) : s.revokeComplete i = (State.bump { s with
      xpt.keys := Map.put s.xpt.keys i { x with phase := .revoked } }).respond f .success [] false := by
  unfold State.revokeComplete
  rw [hx]
  dsimp only
  rw [hphase]
  rfl

end

/-- Settles O34: each clause is the command's reply to a request that passes its checks, answered as
`State.perform_answered` says; a connection destroyed is `Conn.killed`, and its work requests end FLUSHED
(`State.flushConn_flushes`). -/
theorem connectionsAreMadeOpenedAndEnded : Obligations.ConnectionsAreMadeOpenedAndEnded := by
  unfold Obligations.ConnectionsAreMadeOpenedAndEnded
  refine ⟨?_, ?_, ?_, ?_, ?_, ?_, ?_, ?_, ?_⟩
  · intro s f c p h hp hspoke hmay hroom hfree
    exact State.perform_ok h hp (State.connCreate_free hspoke hmay hroom hfree)
  · intro s f p k h hp hk hbad hmay hphase hdying
    obtain ⟨t, ht, hresp, -, -, -, hrest⟩ := State.perform_ok (body := fun p s => s.connConnect f p) h hp
      (State.connConnect_init hk hbad hmay hphase hdying)
    have hconn : ∀ d, t.conn d = State.conn (State.setConn s _ _) d := fun d => (congrArg (State.conn · d) hrest :)
    refine ⟨t, _, ht, (hconn _).trans (State.conn_setConn_self ..), rfl, rfl, rfl, fun hroce => ?_, fun hroce => ?_,
      rfl, rfl, hresp, fun d hd => (hconn d).trans (State.conn_setConn_of_ne _ _ _ hd), (congrArg State.mem hrest :)⟩
    · rw [hroce]
      exact Nat.mod_eq_of_lt (u32_lt p 64)
    · rw [hroce]
      rfl
  · rintro s f p k h rfl hk hmay hdying
    have hexec := State.perform_waits (body := fun p s => s.connDestroy f p) h
      (State.connDestroy_live hk hmay hdying) rfl
    have hkept := State.KeepsFns.refl.killConn (s := s) (c := u32 (s.fn f).mb.payload 0 % 2 ^ 24) (flush := true)
      (wait := some (f, (s.fn f).mb.seq))
    obtain ⟨hconn, hops⟩ := State.killConn_killed (wait := some (f, (s.fn f).mb.seq)) hk hdying
    refine ⟨_, _, congrArg Host.Outcome.next hexec, hconn, rfl, rfl, rfl, rfl, (congrArg FnState.mb (hkept.fns f) :),
      fun w x hw hx hphase => ?_⟩
    rw [hops]
    exact State.flushConn_flushes hw hx hphase
  · intro s f p k h hp hk hdying hmay hphase
    exact State.perform_ok h hp (State.connQuery_active hk hdying hmay hphase)
  · intro s f p h hp hk
    exact State.perform_ok h hp (State.connQuery_free hk)
  · intro s c f q k hk hdying hmb hseq hwf hlast
    obtain ⟨cache, hgone⟩ := State.connGone_last hk hdying hmb hseq hwf hlast
    generalize hu : State.mk .. = u at hgone
    obtain ⟨hresp, -, -, -, hrest⟩ := u.respond_answered f .success [] false
    rw [← hgone] at hresp hrest
    have hxpt : (s.connGone c).xpt = u.xpt := (congrArg State.xpt hrest :)
    refine ⟨_, rfl, ?_, ?_, hresp, fun d hd => ?_, ?_⟩
    · rw [State.conn, hxpt, ← hu]
      exact Map.get_erase_self _ _ hwf
    · rw [hxpt, ← hu]
    · rw [State.conn, hxpt, ← hu]
      exact Map.get_erase_of_ne _ hd.symm
    · exact (congrArg State.mem hrest :).trans (by rw [← hu])
  · intro s f p h hp hspoke hlen hend hpos hindex hmay hfree
    exact State.perform_ok h hp (State.regionRegister_free hspoke hlen hend hpos hindex hmay hfree)
  · rintro s f p x h rfl hx hspoke hmay hown hphase
    have hexec : exec (.regionRevoke f) s = _ := congrArg Host.Outcome.next (State.perform_waits
      (body := fun p s => s.regionRevoke f p) h (State.regionRevoke_active hx hspoke hmay hown hphase) rfl)
    refine ⟨hexec, fun t gen off n w short ht => ?_⟩
    cases hexec.symm.trans ht
    exact State.keyCheckY_inactive (Map.get_put_self ..) nofun
  · intro s i f x hx hphase
    exact ⟨_, congrArg Host.Outcome.next (State.revokeComplete_one hx hphase), State.respond_answered ..⟩

end Sys2Proof.Machine
end

section
/-! PROOFS. Work requests (R281, R284 to R288, R296, R297, R308): what joining a connection leaves of its work requests,
its PSNs and the operation, and which packets each request puts in the stream. -/

namespace Sys2Proof.Machine
open Sys2Proof

-- One lemma after another: so many short ones, each in a thread of its own, outgrow the memory of a check.
set_option Elab.async false

/-! ### Packets join the stream -/

/-- A Yekel packet at the end of a connection's stream, with the next PSN. -/
def Conn.queueY (k : Conn) (x : YPkt × Option Nat × Option Nat) : Conn :=
  { k with
    txq := k.txq ++ [{ wire := .y { x.1 with psn := k.psn, conn := k.par.rconn, epoch := k.par.repoch }, psn := k.psn,
                       wr := x.2.1, nakFor := x.2.2 }]
    psn := (k.psn + 1) % 2 ^ 32 }

/-- A RoCEv2 packet at the end of a connection's stream, with the next PSNs. -/
def Conn.queueR (op : Nat) (k : Conn) (x : RPkt × Nat) : Conn :=
  { k with
    txq := k.txq ++ [{ wire := .r { x.1 with psn := k.psn }, psn := k.psn, wr := some op }]
    psn := (k.psn + x.2) % 2 ^ 24 }

section
variable {s t u : State} {c o : Nat} {k : Conn}

theorem State.stream_sends (hk : s.conn c = some k) (l : List (YPkt × Option Nat × Option Nat)) :
    (s.setConn c (l.foldl Conn.queueY k)).Sends c (s.stream c l) := by
  unfold State.stream
  rw [hk]
  exact State.Sends.refl.admitPkts

theorem State.streamR_sends (hk : s.conn c = some k) (op : Nat) (l : List (RPkt × Nat)) :
    (s.setConn c (l.foldl (Conn.queueR op) k)).Sends c (s.streamR c op l) := by
  unfold State.streamR
  rw [hk]
  exact State.Sends.refl.admitR

theorem Conn.works_foldl {α : Type} {g : Conn → α → Conn} (hg : ∀ k a, (g k a).works = k.works) (l : List α)
    (k : Conn) : (l.foldl g k).works = k.works :=
  List.foldlRecOn l g (motive := fun k' : Conn => k'.works = k.works) rfl fun _ hk' _ _ => (hg _ _).trans hk'

theorem Conn.psn_foldl {α : Type} {g : Conn → α → Conn} {m : Nat} {l : List α}
    (hg : ∀ k, ∀ a ∈ l, (g k a).psn = (k.psn + 1) % m) (hl : l ≠ []) (k : Conn) :
    (l.foldl g k).psn = (k.psn + l.length) % m := by
  induction l generalizing k with
  | nil => exact absurd rfl hl
  | cons a l ih =>
    have hfirst := hg k a List.mem_cons_self
    by_cases hrest : l = []
    · rw [hrest]
      exact hfirst
    · rw [List.foldl_cons, ih (fun k b hb => hg k b (List.mem_cons_of_mem a hb)) hrest, hfirst, Nat.mod_add_mod,
        List.length_cons, Nat.add_assoc, Nat.add_comm 1]

/-! ### Work requests join their connection -/

/-- R284, R296: a work request is put on its connection, and its operation is marked. -/
def State.joinWork (s : State) (c o : Nat) (w : Work) : State :=
  (s.modConn c fun k => { k with works := k.works ++ [w] }).modOp o fun x => { x with posted := true }

theorem State.joinWork_conn (hk : s.conn c = some k) (w : Work) :
    (s.joinWork c o w).conn c = some { k with works := k.works ++ [w] } := by
  show (s.modConn c _).conn c = _
  rw [State.conn_modConn, if_pos rfl, hk, Option.map_some]

theorem State.joinWork_op {x : Op} (hx : s.op o = some x) (w : Work) :
    ((s.joinWork c o w).op o).map Op.posted = some true := by
  rw [State.joinWork, State.op_modOp, if_pos rfl, show (s.modConn c _).op o = some x from hx]
  rfl

/-- A work request has joined its connection when what was sent came after its packets had joined the stream. -/
theorem State.workJoined_of_sends {k' : Conn} {x : Op} {w : Work} {m : Nat} (hx : s.op o = some x)
    (hworks : k'.works = k.works ++ [w]) (hpsn : k'.psn = (k.psn + w.count) % m)
    (h : ((s.joinWork c o w).setConn c k').Sends c t) : t.workJoined c o k w m := by
  obtain ⟨-, hhost, -, k₁, hk₁, hstill⟩ := h.of_setConn
  refine ⟨k₁, hk₁, (congrArg Conn.works hstill :).trans hworks, (congrArg Conn.psn hstill :).trans hpsn, ?_⟩
  rw [State.op, hhost]
  exact State.joinWork_op hx w

theorem State.putWork_joined {x : Op} {w : Work} {l : List (YPkt × Option Nat × Option Nat)} (hk : s.conn c = some k)
    (hx : s.op o = some x) (hl : l ≠ []) (hcount : w.count = l.length) :
    (s.putWork c o w l).workJoined c o k w (2 ^ 32) :=
  State.workJoined_of_sends hx (Conn.works_foldl (g := Conn.queueY) (fun _ _ => rfl) l _)
    (hcount ▸ Conn.psn_foldl (g := Conn.queueY) (fun _ _ _ => rfl) hl _)
    (State.stream_sends (State.joinWork_conn hk w) l)

theorem State.streamR_joined {x : Op} {w : Work} {l : List RPkt} (hk : s.conn c = some k) (hx : s.op o = some x)
    (hl : l ≠ []) (hcount : w.count = l.length) :
    ((s.joinWork c o w).streamR c o (l.map fun p => (p, 1))).workJoined c o k w (2 ^ 24) := by
  refine State.workJoined_of_sends hx (Conn.works_foldl (g := Conn.queueR o) (fun _ _ => rfl) _ _) ?_
    (State.streamR_sends (State.joinWork_conn hk w) o _)
  rw [hcount, ← List.length_map (f := fun p : RPkt => (p, 1))]
  refine Conn.psn_foldl (fun k a ha => ?_) (by simpa using hl) _
  obtain ⟨p, -, rfl⟩ := List.mem_map.1 ha
  rfl

/-! ### Message numbers, contexts and local buffers -/

theorem Conn.takeMsg_works (unordered : Bool) : (k.takeMsg unordered).2.works = k.works := by
  cases unordered <;> rfl

theorem Conn.takeMsg_psn (unordered : Bool) : (k.takeMsg unordered).2.psn = k.psn := by
  cases unordered <;> rfl

theorem State.workJoined_takeMsg {unordered : Bool} {w : Work} {m : Nat}
    (h : t.workJoined c o (k.takeMsg unordered).2 w m) : t.workJoined c o k w m := by
  rw [State.workJoined, Conn.takeMsg_works, Conn.takeMsg_psn] at h
  exact h

theorem State.touchCtx_frame (par : ConnParams) : ∃ i r cache, s.touchCtx c par =
    { s with freeCtr := i, regs := r, xpt.ctxCache := cache } := by
  unfold State.touchCtx
  dsimp only
  split
  · exact ⟨_, _, _, rfl⟩
  · split
    · exact ⟨_, _, _, rfl⟩
    · exact ⟨_, _, _, rfl⟩

theorem State.touchCtx_conn (par : ConnParams) (d : Nat) : (s.touchCtx c par).conn d = s.conn d := by
  obtain ⟨i, r, cache, h⟩ := State.touchCtx_frame (s := s) (c := c) par
  rw [h]
  rfl

theorem State.touchCtx_op (par : ConnParams) : (s.touchCtx c par).op o = s.op o := by
  obtain ⟨i, r, cache, h⟩ := State.touchCtx_frame (s := s) (c := c) par
  rw [h]
  rfl

/-- Reading a local buffer keeps the operations. -/
theorem State.readLocal_op {x : Op} {q : Queue} {m : Nat} {ans : HostAns} {r : List (Bytes × Bool) × Status}
    (h : s.readLocal o x q m ans = (u, some r)) (i : Nat) : u.op i = s.op i := by
  unfold State.readLocal at h
  dsimp only at h
  split at h
  · cases h
    rfl
  · have hkeep := (State.readPackets_access (s := s) (k := q.spoke) (va := tLocal x.desc) (m := m)
      (n := tLength x.desc / m + 1) (off := 0) (len := tLength x.desc) (ans := ans)).1
    split at h
    · cases h
      exact (hkeep.keepsQueues (P := fun _ => True)).op i
    · split at h <;> cases h

theorem writePkts_length (d : Bytes) (op msg m n i : Nat) (l : List (Bytes × Bool)) :
    (writePkts d op msg m n i l).length = l.length := by
  induction l generalizing i with
  | nil => rfl
  | cons b l ih => rw [writePkts, List.length_cons, ih, List.length_cons]

theorem roceDataPkts_length (d : Bytes) (n i : Nat) (l : List (Bytes × Bool)) :
    (roceDataPkts d n i l).length = l.length := by
  induction l generalizing i with
  | nil => rfl
  | cons b l ih => rw [roceDataPkts, List.length_cons, ih, List.length_cons]

end

/-! ### The work requests -/

section
variable {s u : State} {o opc : Nat} {x : Op} {q : Queue} {k : Conn} {l : List (Bytes × Bool)} {st : Status}
  {ans : HostAns}

theorem State.op_of_running {kind : QKind} (h : s.running o kind = some (x, q)) : s.op o = some x := by
  unfold State.running at h
  split at h
  · cases h
  next x' hx =>
    split at h
    · cases h
    · split at h
      · cases h
        exact hx
      · cases h

/-- R285: a work request whose check fails ends with the status of the check. -/
theorem State.work_failed (hrun : s.running o .transport = some (x, q)) (hposted : x.posted = false)
    (hcheck : s.workCheck x q ≠ .success) (hopc : dOpcode x.desc = opc) :
    s.work o opc ans = s.finish o (s.workCheck x q) 0 0 := by
  unfold State.work
  rw [hrun]
  dsimp only
  rw [if_neg (by simp [hopc, hposted]), if_pos hcheck]

theorem State.work_recv (hrun : s.running o .transport = some (x, q)) (hposted : x.posted = false)
    (hcheck : s.workCheck x q = .success) (hopc : dOpcode x.desc = 0x20) :
    s.work o 0x20 ans = s.modOp o fun x => { x with posted := true } := by
  unfold State.work
  rw [hrun]
  dsimp only
  rw [if_neg (by simp [hopc, hposted]), if_neg (not_not.2 hcheck), if_pos rfl]

/-- R281, R285: a work request of an ACTIVE connection, whose check passes, has the effect of its connection's kind. -/
theorem State.work_active (hrun : s.running o .transport = some (x, q)) (hposted : x.posted = false)
    (hcheck : s.workCheck x q = .success) (hk : s.conn (tConn x.desc) = some k) (hphase : k.phase = .active)
    (hopc : dOpcode x.desc = opc) (hsends : opc ≠ 0x20) :
    s.work o opc ans = if opc = 3 then (if k.roce then s.rRead o x k else s.yRead o x k)
      else if k.roce then s.rSend o x q k ans else s.yWrite o x q k ans := by
  unfold State.work
  rw [hrun]
  dsimp only
  rw [if_neg (by simp [hopc, hposted]), if_neg (not_not.2 hcheck), if_neg hsends, hk]
  dsimp only
  rw [hphase, if_neg (by decide)]

/-- R287, R288, R297: a Yekel write whose buffer was read joins, with a PSN for each packet. -/
theorem State.yWrite_joined (hx : s.op o = some x)
    (hread : s.readLocal o x q (2 ^ k.par.log2) ans = (u, some (l, st))) (hl : l ≠ []) :
    (s.yWrite o x q k ans).workJoined (tConn x.desc) o k
      { op := o, msg := (k.takeMsg (tUnordered x.desc)).1, ordered := !tUnordered x.desc, read := false
        length := tLength x.desc, local_ := tLocal x.desc, status := st, first := k.psn, count := l.length }
      (2 ^ 32) := by
  unfold State.yWrite
  dsimp only
  rw [hread]
  dsimp only
  rw [Conn.takeMsg_psn]
  refine State.workJoined_takeMsg (unordered := tUnordered x.desc) (State.putWork_joined (x := x) ?_ ?_ ?_
    (writePkts_length ..).symm)
  · rw [State.touchCtx_conn, State.conn_setConn_self]
  · rw [State.touchCtx_op]
    exact (State.readLocal_op hread o).trans hx
  · rw [← List.length_pos_iff, writePkts_length]
    exact List.length_pos_iff.2 hl

/-- R288, R297: a Yekel READ joins as one packet. -/
theorem State.yRead_joined (hx : s.op o = some x) :
    (s.yRead o x k).workJoined (tConn x.desc) o k
      { op := o, msg := (k.takeMsg (tUnordered x.desc)).1, ordered := !tUnordered x.desc, read := true
        length := tLength x.desc, local_ := tLocal x.desc, first := k.psn, count := 1 } (2 ^ 32) := by
  unfold State.yRead
  dsimp only
  rw [Conn.takeMsg_psn]
  refine State.workJoined_takeMsg (unordered := tUnordered x.desc) (State.putWork_joined (x := x) ?_ ?_
    (List.cons_ne_nil _ _) rfl)
  · rw [State.touchCtx_conn, State.conn_setConn_self]
  · rw [State.touchCtx_op]
    exact hx

/-- R308: a RoCEv2 SEND or WRITE whose buffer was read without poison joins, with a PSN for each packet. -/
theorem State.rSend_joined (hx : s.op o = some x)
    (hread : s.readLocal o x q (2 ^ k.par.log2) ans = (u, some (l, st))) (hl : l ≠ [])
    (hclean : l.any Prod.snd = false) :
    (s.rSend o x q k ans).workJoined (tConn x.desc) o k
      { op := o, msg := k.msgO, ordered := false, read := false, length := tLength x.desc, local_ := tLocal x.desc
        first := k.psn, count := l.length } (2 ^ 24) := by
  have hgood : l.takeWhile (fun p => !p.2) = l := List.takeWhile_eq_self_iff.2 fun p hp => by
    simpa using List.any_eq_false.1 hclean p hp
  unfold State.rSend
  dsimp only
  rw [hread]
  dsimp only
  rw [hgood, if_neg (lt_irrefl _), Conn.takeMsg_psn]
  refine State.workJoined_takeMsg (unordered := false) (State.streamR_joined (x := x) ?_ ?_ ?_
    (roceDataPkts_length ..).symm)
  · rw [State.touchCtx_conn, State.conn_setConn_self]
  · rw [State.touchCtx_op]
    exact (State.readLocal_op hread o).trans hx
  · rw [← List.length_pos_iff, roceDataPkts_length]
    exact List.length_pos_iff.2 hl

end

/-- Settles O35: a work request whose check passes has the effect of its connection's kind (`State.work_active`), which
puts it on the connection and its packets in the stream (`State.putWork_joined`, `State.streamR_joined`). -/
theorem workRequestsJoinTheirConnection : Obligations.WorkRequestsJoinTheirConnection := by
  unfold Obligations.WorkRequestsJoinTheirConnection
  refine ⟨?_, ?_, ?_, ?_, ?_⟩
  · intro s u o x q k l st ans hrun hposted hcheck hk hroce hphase hread hl
    have hjoined := State.yWrite_joined (State.op_of_running hrun) hread hl
    have hwork : ∀ opc, dOpcode x.desc = opc → opc ≠ 0x20 → opc ≠ 3 → s.work o opc ans = s.yWrite o x q k ans :=
      fun opc hopc hsends hwrite => by
        rw [State.work_active hrun hposted hcheck hk hphase hopc hsends, if_neg hwrite, hroce, if_neg (by decide)]
    exact ⟨fun hopc => ⟨_, congrArg Host.Outcome.next (hwork 1 hopc (by decide) (by decide)), hjoined⟩,
      fun hopc => ⟨_, congrArg Host.Outcome.next (hwork 2 hopc (by decide) (by decide)), hjoined⟩⟩
  · intro s o x q k hrun hposted hcheck hk hroce hphase hopc
    have hwork : s.work o 3 (.ok [] false) = s.yRead o x k := by
      rw [State.work_active hrun hposted hcheck hk hphase hopc (by decide), if_pos rfl, hroce, if_neg (by decide)]
    exact ⟨_, congrArg Host.Outcome.next hwork, State.yRead_joined (State.op_of_running hrun)⟩
  · intro s u o x q k l st ans hrun hposted hcheck hk hroce hphase hread hl hclean
    have hjoined := State.rSend_joined (State.op_of_running hrun) hread hl hclean
    have hwork : ∀ opc, dOpcode x.desc = opc → opc ≠ 0x20 → opc ≠ 3 → s.work o opc ans = s.rSend o x q k ans :=
      fun opc hopc hsends hwrite => by
        rw [State.work_active hrun hposted hcheck hk hphase hopc hsends, if_neg hwrite, hroce, if_pos rfl]
    exact ⟨fun hopc => ⟨_, congrArg Host.Outcome.next (hwork 4 hopc (by decide) (by decide)), hjoined⟩,
      fun hopc => ⟨_, congrArg Host.Outcome.next (hwork 5 hopc (by decide) (by decide)), hjoined⟩,
      fun hopc => ⟨_, congrArg Host.Outcome.next (hwork 6 hopc (by decide) (by decide)), hjoined⟩⟩
  · intro s o x q hrun hposted hcheck hopc
    exact congrArg Host.Outcome.next (State.work_recv hrun hposted hcheck hopc)
  · intro s o x q ans hrun hposted hcheck
    have hfailed := fun ans opc => State.work_failed (ans := ans) (opc := opc) hrun hposted hcheck
    exact ⟨fun hopc => congrArg Host.Outcome.next (hfailed ans 1 hopc),
      fun hopc => congrArg Host.Outcome.next (hfailed _ 3 hopc),
      fun hopc => congrArg Host.Outcome.next (hfailed ans 4 hopc),
      fun hopc => congrArg Host.Outcome.next (hfailed _ 0x20 hopc)⟩

end Sys2Proof.Machine
end

section
/-! PROOFS. RoCEv2 packets and timers (R198, R303, R308 to R311): how an RDMA WRITE of one packet reaches memory, and
what a CNP, an acknowledgement timeout, the RNR timer and the recovery of the rate leave of a connection. -/

namespace Sys2Proof.Machine
open Sys2Proof

-- One lemma after another: so many short ones, each in a thread of its own, outgrow the memory of a check.
set_option Elab.async false

/-! ### Placing the bytes of a packet -/

section
variable {s : State} {k va : Nat} {sp : Spoke} {d b : Bytes} {ep e : Bool}

/-- A write within one page of a base spoke is one write of its function's memory (R198, R203). -/
theorem State.spokeWrite_base_eq (hsp : s.spoke k = some sp) (hbase : sp.base = true)
    (hmaster : s.canMaster sp.fn = true) (hrim : s.rimDown = false) (hfit : va % 4096 + d.length ≤ 4096) (hd : d ≠ []) :
    s.spokeWrite k va d ep (.ok b e) =
      ((s.hitProt (some sp.fn) va d.length).emit (.memWrite sp.fn none (s.fn sp.fn).atsEn va d ep),
        { done := d.length }) := by
  have htranslate : s.translate k va true = (.ok (.host va (s.fn sp.fn).priEn) (4096 - va % 4096), s) := by
    rw [State.translate, hsp]
    exact if_pos hbase
  have hpiece : d.take (min (4096 - va % 4096) (4096 - va % 4096)) = d := List.take_of_length_le (by omega)
  have hleaf : ∀ pri, s.leafWrite sp (.host va pri) d ep (.ok b e) =
      ((s.hitProt (some sp.fn) va d.length).emit (.memWrite sp.fn none (s.fn sp.fn).atsEn va d ep),
        { done := d.length }) := fun pri => by
    simp [State.leafWrite, hmaster, hrim, hbase, Spoke.pasidOpt]
  rw [State.spokeWrite, State.spokeWriteLoop, if_neg hd]
  simp only [hsp, htranslate, hpiece, hleaf, List.drop_length]
  rw [State.spokeWriteLoop, if_pos rfl]
  rfl

/-- R306: where the function's memory may be reached now. -/
theorem State.canMaster_of_destLater (hsp : s.spoke k = some sp) (hdest : s.destLater k = false) :
    s.canMaster sp.fn = true := by
  have hfn : s.spokeFn k = sp.fn := by rw [State.spokeFn, hsp]
  simp only [State.destLater, hfn, Bool.or_eq_false_iff, Bool.not_eq_false'] at hdest
  obtain ⟨⟨⟨hbme, hd3⟩, hflr⟩, -⟩ := hdest
  simp only [State.canMaster, hbme, hd3, hflr]
  rfl

theorem State.placeBytes_base (hdest : s.destLater k = false) (hsp : s.spoke k = some sp) (hbase : sp.base = true)
    (hrim : s.rimDown = false) (hfit : va % 4096 + d.length ≤ 4096) (hd : d ≠ []) :
    s.placeBytes k va d ep (.ok b e) =
      ((s.hitProt (some sp.fn) va d.length).emit (.memWrite sp.fn none (s.fn sp.fn).atsEn va d ep), .ok) := by
  unfold State.placeBytes
  rw [hdest, if_neg (by decide),
    State.spokeWrite_base_eq hsp hbase (State.canMaster_of_destLater hsp hdest) hrim hfit hd]
  exact if_pos rfl

end

theorem State.KeepsBoard.touchCtx {s u : State} {c : Nat} {par : ConnParams} (h : s.KeepsBoard u) :
    s.KeepsBoard (u.touchCtx c par) := by
  unfold State.touchCtx
  dsimp only
  split
  · exact h
  · split
    · exact h.xcount.trans {}
    · exact h.xcount.trans {}

/-! ### Packets that arrive -/

section
variable {s u : State} {i c : Nat} {x : RxPkt} {p : RPkt} {k : Conn} {ans : HostAns}

/-- R308: what becomes of a packet of a live connection. -/
theorem State.roceReceived_live (hx : Map.get s.xpt.rx i = some x) (hport : x.dport = 4791) (hp : x.roce = some p)
    (hk : s.conn p.qp = some k) (hroce : k.roce = true) (hphase : k.phase = .active) (hdying : k.dying = none)
    (hpkey : p.pkey = k.par.pkey) (hopcode : p.opcode ≤ 0x11 ∨ p.opcode = 0x81)
    (hu : State.touchCtx { s with xpt.rx := Map.erase s.xpt.rx i } p.qp k.par = u) :
    s.roceReceived i ans = if p.opcode = 0x81 then u.roceCnp p.qp k
      else if p.opcode = 0x11 then (u.roceCe p.qp k p).1.roceAck p.qp p
      else if 0xD ≤ p.opcode then (u.roceCe p.qp k p).1.roceResp p.qp p ans
      else (u.roceCe p.qp k p).1.roceRequest p.qp (u.roceCe p.qp k p).2 p ans := by
  have hlive : ¬(!k.roce || k.phase != .active || k.dying.isSome || p.pkey != k.par.pkey ||
      !(decide (p.opcode ≤ 0x11) || p.opcode == 0x81)) = true := by
    simpa [hroce, hphase, hdying, hpkey, or_iff_not_imp_left] using hopcode
  unfold State.roceReceived
  rw [hx]
  dsimp only
  rw [if_neg (not_not.2 hport), hp]
  dsimp only
  rw [show State.conn { s with xpt.rx := Map.erase s.xpt.rx i } p.qp = some k from hk]
  dsimp only
  rw [if_neg hlive, hu]

theorem State.roceReceived_notRoce (hx : Map.get s.xpt.rx i = some x) (hport : x.dport = 4791) (hp : x.roce = none) :
    s.roceReceived i ans = State.xcount { s with xpt.rx := Map.erase s.xpt.rx i } 10 := by
  unfold State.roceReceived
  rw [hx]
  dsimp only
  rw [if_neg (not_not.2 hport), hp]

theorem State.roceCe_unmarked (hce : p.ce = false) : s.roceCe c k p = (s, k) := by
  unfold State.roceCe
  dsimp only
  rw [hce]
  rfl

theorem State.roceCnp_first (h : k.rc.cnpGot = none) : s.roceCnp c k =
    s.setConn c { k with rc := { k.rc with cnpGot := some s.now, rate := max 1 (s.roceRate k / 2) } } := by
  unfold State.roceCnp
  rw [h]

/-- R309: a request in order. -/
theorem State.roceRequest_write (hpsn : p.psn = k.rc.expected) (hfit : p.payload.length ≤ 2 ^ k.par.log2)
    (hopcode : p.opcode = 0xA) : s.roceRequest c k p ans = s.roceWrite c k p ans := by
  have hahead : ahead24 p.psn k.rc.expected = 0 := by
    rw [hpsn, ahead24, Nat.add_sub_cancel_left]
    exact Nat.mod_self _
  unfold State.roceRequest
  dsimp only
  rw [if_pos hahead, if_neg (Nat.not_lt.2 hfit), hopcode, if_neg (by decide), if_neg (by decide)]

/-- R303: a virtual address that passes the check of RoCEv2 is its region's address and the offset. -/
theorem State.roceKey_addr {spoke rkey va len off : Nat} {write : Bool}
    (h : s.roceKey spoke rkey va len write = (.success, off)) : (s.region (rkey % 2 ^ 20)).addr + off = va := by
  unfold State.roceKey at h
  dsimp only at h
  obtain ⟨hst, rfl⟩ := Prod.mk.inj h
  split at hst
  · cases hst
  next hbelow =>
    rw [hst] at hbelow
    exact Nat.add_sub_cancel' (by simpa using hbelow)

/-- R309: an RDMA WRITE of one packet whose bytes have been placed is taken. -/
theorem State.roceWrite_only {v : State} {off : Nat} (hopcode : p.opcode = 0xA) (hleft : k.rc.writeLeft = 0)
    (hrecv : k.rc.recv = none) (hsome : p.payload ≠ []) (hlen : p.payload.length = p.dmaLen)
    (hkey : s.roceKey k.spoke p.rkey p.va p.dmaLen true = (.success, off)) (hdest : s.destLater k.spoke = false)
    (hplace : s.placeBytes k.spoke p.va p.payload false ans = (v, .ok)) :
    s.roceWrite c k p ans = (v.modConn c fun k => { k with rc := { k.rc with
      writeVa := p.va + p.dmaLen, writeKey := p.rkey, writeLeft := 0
      writeTotal := p.dmaLen } }).roceTaken c p 1 true := by
  have hdma : p.dmaLen ≠ 0 := hlen ▸ fun h => hsome (List.length_eq_zero_iff.1 h)
  have haddr : (s.region (p.rkey % 1048576)).addr + off = p.va := State.roceKey_addr hkey
  simp [State.roceWrite, rHasImm, hopcode, hleft, hrecv, hlen, hdma, hkey, hdest, haddr, hplace]

theorem State.Sends.roceSendAck {psn synd : Nat} (h : s.Sends c u) : s.Sends c (u.roceSendAck c psn synd) := by
  unfold State.roceSendAck
  split
  · exact h
  · exact h.wireR

/-- R309: the expected PSN moves when an in-order packet is taken. -/
theorem State.roceTaken_expected {n : Nat} {msgEnd : Bool} (hk : s.conn c = some k) :
    ∃ k', (s.roceTaken c p n msgEnd).conn c = some k' ∧ k'.rc.expected = (p.psn + n) % 2 ^ 24 := by
  unfold State.roceTaken
  dsimp only
  generalize hw : s.modConn c _ = w
  have hmoved : ∃ k₁, w.conn c = some k₁ ∧ k₁.rc.expected = (p.psn + n) % 2 ^ 24 := by
    rw [← hw, State.conn_modConn, if_pos rfl, hk]
    exact ⟨_, rfl, rfl⟩
  obtain ⟨k₁, hk₁, hexpected⟩ := hmoved
  have hsends : w.Sends c (if p.ackReq && p.opcode != 0xC then w.roceSendAck c p.psn 0x1F else w) :=
    .either State.Sends.refl.roceSendAck .refl
  obtain ⟨k', hk', hstill⟩ := hsends.conn hk₁
  exact ⟨k', hk', (congrArg (fun k => (Conn.rc k).expected) hstill :).trans hexpected⟩

/-- R309: an RDMA WRITE of one packet in order is one write of the memory of a base spoke's function. -/
theorem State.roceWrite_reaches {sp : Spoke} {d : Bytes} {off : Nat} (hk : s.conn c = some k)
    (hopcode : p.opcode = 0xA) (hleft : k.rc.writeLeft = 0) (hrecv : k.rc.recv = none) (hsome : p.payload ≠ [])
    (hlen : p.payload.length = p.dmaLen)
    (hkey : s.roceKey k.spoke p.rkey p.va p.dmaLen true = (.success, off)) (hsp : s.spoke k.spoke = some sp)
    (hbase : sp.base = true) (hdest : s.destLater k.spoke = false) (hrim : s.rimDown = false)
    (hpage : p.va % 4096 + p.payload.length ≤ 4096) :
    ∃ k', (s.roceWrite c k p (.ok d false)).conn c = some k' ∧ k'.rc.expected = (p.psn + 1) % 2 ^ 24 ∧
      .memWrite sp.fn none (s.fn sp.fn).atsEn p.va p.payload false ∈ (s.roceWrite c k p (.ok d false)).out := by
  rw [State.roceWrite_only hopcode hleft hrecv hsome hlen hkey hdest
    (State.placeBytes_base hdest hsp hbase hrim hpage hsome)]
  generalize hv : State.emit _ _ = v
  have hkv : v.conn c = some k := by
    rw [← hv]
    exact (State.Reports.conn (.hitProt {}) c).trans hk
  have hsent : .memWrite sp.fn none (s.fn sp.fn).atsEn p.va p.payload false ∈ v.out := by
    rw [← hv]
    exact List.mem_append_right _ (List.mem_singleton_self _)
  generalize hw : v.modConn c _ = w
  obtain ⟨k₁, hkw⟩ : ∃ k₁, w.conn c = some k₁ := by
    rw [← hw, State.conn_modConn, if_pos rfl, hkv]
    exact ⟨_, rfl⟩
  have hkept : v.Evolves w := hw ▸ (State.Evolves.refl v).modConn
  obtain ⟨k', hk', hexpected⟩ := State.roceTaken_expected (p := p) (n := 1) (msgEnd := true) hkw
  exact ⟨k', hk', hexpected, hkept.roceTaken.mem_out hsent⟩

end

/-! ### Timers -/

section
variable {s : State} {c n : Nat} {k : Conn} {p : OutPkt}

/-- R309: sending again from a PSN keeps the packets' PSNs and tries. -/
theorem State.goBack_out {k' : Conn} (hk : s.conn c = some k) (hk' : (s.goBack c n).conn c = some k') :
    ∀ q ∈ k'.out, ∃ q' ∈ k.out, q'.psn = q.psn ∧ q'.tries = q.tries := by
  unfold State.goBack at hk'
  rw [hk] at hk'
  dsimp only at hk'
  split at hk'
  · rw [State.conn_modConn, if_pos rfl, hk, Option.map_some] at hk'
    cases hk'
    intro q hq
    obtain ⟨q', hq', rfl⟩ := List.mem_map.1 hq
    exact ⟨q', hq', rfl, rfl⟩
  · have hsame : some k = some k' := by
      rw [← hk']
      refine Eq.symm (List.foldlRecOn _ _ (motive := fun t : State => t.conn c = some k) hk fun t ht p _ => ?_)
      split
      · exact ht
      · exact ht
    cases hsame
    exact fun q hq => ⟨q, hq, rfl, rfl⟩

/-- R311: below the limit the packet's try is counted, and the packets from it on are sent again. -/
theorem State.roceTimeout_again (hk : s.conn c = some k) (hp : k.out.find? (fun p => p.psn == n) = some p)
    (hroce : k.roce = true) (hrnr : k.rc.rnrAt = none) (hlimit : p.tries < k.par.retryLimit) :
    ∃ w k', s.roceTimeout c n = (State.setConn w c k').goBack c n ∧
      w.now = max s.now (p.sent + 4096 * 2 ^ k.par.timeout) ∧ w.host = s.host ∧ w.mem = s.mem ∧ k'.phase = k.phase ∧
      ∀ q ∈ k'.out, q.psn = n → ∃ q' ∈ k.out, q'.psn = n ∧ q.tries = q'.tries + 1 := by
  unfold State.roceTimeout
  rw [hk]
  dsimp only
  rw [hp]
  dsimp only
  rw [hroce, hrnr, if_neg (by decide), if_neg (Nat.not_le.2 hlimit)]
  refine ⟨State.xcount { s with now := max s.now (p.sent + 4096 * 2 ^ k.par.timeout) } 8, _, rfl, rfl, rfl, rfl, rfl,
    fun q hq hn => ?_⟩
  obtain ⟨q', hq', rfl⟩ := List.mem_map.1 hq
  by_cases hq'n : q'.psn = n
  · rw [if_pos hq'n]
    exact ⟨q', hq', hq'n, rfl⟩
  · rw [if_neg hq'n] at hn
    exact absurd hn hq'n

/-- R311: at the limit the packet fails its connection. -/
theorem State.roceTimeout_limit (hk : s.conn c = some k) (hp : k.out.find? (fun p => p.psn == n) = some p)
    (hroce : k.roce = true) (hrnr : k.rc.rnrAt = none) (hlimit : k.par.retryLimit ≤ p.tries) :
    s.roceTimeout c n = State.connError (State.xcount { s with
      now := max s.now (p.sent + 4096 * 2 ^ k.par.timeout) } 8) c n .timeout := by
  unfold State.roceTimeout
  rw [hk]
  dsimp only
  rw [hp]
  dsimp only
  rw [hroce, hrnr, if_neg (by decide), if_pos hlimit]

/-- R310: the end of an RNR wait. -/
theorem State.rnrTimer_sends {u : Nat} (hk : s.conn c = some k) (hrnr : k.rc.rnrAt = some (n, u)) :
    (State.setConn { s with now := max s.now u } c { k with rc := { k.rc with rnrAt := none } }).Sends c
      (s.rnrTimer c) := by
  unfold State.rnrTimer
  rw [hk]
  dsimp only
  rw [hrnr]
  exact State.Sends.refl.goBack.admitR

theorem State.rateRecovery_slowed (hk : s.conn c = some k) (hroce : k.roce = true) (hrate : k.rc.rate ≠ 0) :
    s.rateRecovery c = s.setConn c { k with rc := { k.rc with
      rate := if s.roceFull k ≤ k.rc.rate + s.roceFull k / 16 then 0 else k.rc.rate + s.roceFull k / 16 } } := by
  unfold State.rateRecovery
  rw [hk]
  exact if_neg (by simp [hroce, hrate])

end

/-- Settles O38: an RDMA WRITE of one packet is one write of the function's memory (`State.placeBytes_base`), after
which the packet is taken (`State.roceTaken_expected`); a CNP and the recovery set the rate, and the timers send again
from a state in which only their connection has changed (`State.Sends`), or fail it (`Conn.failed`). -/
theorem rocePacketsAndTimersActOnTheirConnection : Obligations.RocePacketsAndTimersActOnTheirConnection := by
  unfold Obligations.RocePacketsAndTimersActOnTheirConnection
  refine ⟨?_, ?_, ?_, ?_, ?_, ?_, ?_⟩
  · intro s i x p k sp d hx hport hp hk hroce hphase hdying hpkey hce hopcode hpsn hleft hrecv hsome hlen hfit hkey hsp
      hbase hdest hrim hpage
    generalize hu : State.touchCtx { s with xpt.rx := Map.erase s.xpt.rx i } p.qp k.par = u
    have hrim' : u.rimDown = false := by
      have hboard : s.KeepsBoard u := hu ▸ .touchCtx {}
      rw [State.rimDown, State.rfield, hboard.low _ (by decide)]
      exact hrim
    obtain ⟨hk', hkey', hsp', hdest', hats⟩ : u.conn p.qp = some k ∧
        u.roceKey k.spoke p.rkey p.va p.dmaLen true = (.success, p.va - (s.region (p.rkey % 2 ^ 20)).addr) ∧
        u.spoke k.spoke = some sp ∧ u.destLater k.spoke = false ∧ (u.fn sp.fn).atsEn = (s.fn sp.fn).atsEn := by
      obtain ⟨_, _, _, hframe⟩ :=
        State.touchCtx_frame (s := { s with xpt.rx := Map.erase s.xpt.rx i }) (c := p.qp) k.par
      rw [← hu, hframe]
      exact ⟨hk, hkey, hsp, hdest, rfl⟩
    have hreceived := State.roceReceived_live (ans := .ok d false) hx hport hp hk hroce hphase hdying hpkey
      (.inl (by rw [hopcode]; decide)) hu
    rw [State.roceCe_unmarked hce, if_neg (by rw [hopcode]; decide), if_neg (by rw [hopcode]; decide),
      if_neg (by rw [hopcode]; decide), State.roceRequest_write hpsn hfit hopcode] at hreceived
    obtain ⟨k', hconn, hexpected, hsent⟩ := State.roceWrite_reaches (d := d) hk' hopcode hleft hrecv hsome hlen hkey'
      hsp' hbase hdest' hrim' hpage
    exact ⟨_, k', congrArg Host.Outcome.next hreceived, hconn, hexpected, hats ▸ hsent⟩
  · intro s i x p k ans hx hport hp hk hroce hphase hdying hpkey hopcode hgot
    have hreceived := State.roceReceived_live (ans := ans) hx hport hp hk hroce hphase hdying hpkey (.inr hopcode) rfl
    obtain ⟨_, _, _, hu⟩ := State.touchCtx_frame (s := { s with xpt.rx := Map.erase s.xpt.rx i }) (c := p.qp) k.par
    rw [if_pos hopcode, State.roceCnp_first hgot, hu] at hreceived
    exact ⟨_, _, congrArg Host.Outcome.next hreceived, State.conn_setConn_self .., rfl, rfl, rfl, rfl⟩
  · intro s i x ans hx hport hp
    exact congrArg Host.Outcome.next (State.roceReceived_notRoce hx hport hp)
  · intro s c n k p hk hp hroce hrnr hlimit
    obtain ⟨w, k₁, htimeout, hnow₁, hhost₁, hmem₁, hphase₁, htries₁⟩ :=
      State.roceTimeout_again hk hp hroce hrnr hlimit
    have hsends : (w.setConn c k₁).Sends c (s.roceTimeout c n) := htimeout ▸ State.Sends.refl.goBack
    obtain ⟨hnow, hhost, hmem, k', hk', hstill⟩ := hsends.of_setConn
    refine ⟨_, k', rfl, hnow.trans hnow₁, hk', (congrArg Conn.phase hstill :).trans hphase₁, fun q hq hn => ?_,
      hmem.trans hmem₁, hhost.trans hhost₁⟩
    rw [htimeout] at hk'
    obtain ⟨q₁, hq₁, hpsn₁, htries⟩ := State.goBack_out (w.conn_setConn_self c k₁) hk' q hq
    rw [← htries]
    exact htries₁ q₁ hq₁ (hpsn₁.trans hn)
  · intro s c n k p hk hp hroce hrnr hlimit hphase hdying
    obtain ⟨-, hfailed, -⟩ := State.connError_failed (s := State.xcount { s with
      now := max s.now (p.sent + 4096 * 2 ^ k.par.timeout) } 8) (psn := n) (st := .timeout) hk hphase hdying
    exact ⟨_, _, congrArg Host.Outcome.next (State.roceTimeout_limit hk hp hroce hrnr hlimit), hfailed, rfl, rfl, rfl⟩
  · intro s c n u k hk hrnr
    obtain ⟨hnow, hhost, hmem, k', hk', hstill⟩ := (State.rnrTimer_sends hk hrnr).of_setConn
    exact ⟨_, k', rfl, hnow, hk', (congrArg (fun k => (Conn.rc k).rnrAt) hstill :), hmem, hhost⟩
  · intro s c k hk hroce hrate
    exact ⟨_, _, congrArg Host.Outcome.next (State.rateRecovery_slowed hk hroce hrate), State.conn_setConn_self .., rfl,
      fun d hd => State.conn_setConn_of_ne _ _ _ hd, rfl, rfl⟩

end Sys2Proof.Machine
end

section
/-! PROOFS. Counters (R315 to R322): what accesses of memory, events and the service of trigger entries leave of TRG,
and what becomes of a counter that is set, added to, failed or mirrored. -/

namespace Sys2Proof.Machine
open Sys2Proof

-- One lemma after another: so many short ones, each in a thread of its own, outgrow the memory of a check.
set_option Elab.async false

/-! ### Accesses and events -/

/-- What accesses of memory, events and the service of trigger entries keep of TRG: the counters, the updates that have
reached it, before any new ones (R318), and, where `E` holds, the trigger entries. -/
structure State.KeepsCounters (E : Prop) (s t : State) : Prop where
  counters : t.trg.counters = s.trg.counters := by rfl
  updates : s.trg.updates <+: t.trg.updates := by exact List.prefix_rfl
  entries : E → t.trg.entries = s.trg.entries := by exact fun _ => rfl

section
variable {E : Prop} {s u v : State}

theorem State.KeepsCounters.refl : s.KeepsCounters E s := {}

theorem State.KeepsCounters.trans (h : s.KeepsCounters E u) (h' : u.KeepsCounters E v) : s.KeepsCounters E v where
  counters := h'.counters.trans h.counters
  updates := h.updates.trans h'.updates
  entries hE := (h'.entries hE).trans (h.entries hE)

theorem State.KeepsCounters.either {c : Prop} {_ : Decidable c} (h : s.KeepsCounters E u)
    (h' : s.KeepsCounters E v) : s.KeepsCounters E (if c then u else v) := by
  split <;> assumption

theorem State.KeepsCounters.either_fst {α : Type} {c : Prop} {_ : Decidable c} {p q : State × α}
    (h : s.KeepsCounters E p.1) (h' : s.KeepsCounters E q.1) : s.KeepsCounters E (if c then p else q).1 := by
  split <;> assumption

theorem State.KeepsCounters.either_snd {α : Type} {c : Prop} {_ : Decidable c} {p q : α × State}
    (h : s.KeepsCounters E p.2) (h' : s.KeepsCounters E q.2) : s.KeepsCounters E (if c then p else q).2 := by
  split <;> assumption

theorem State.KeepsCounters.fold {α : Type} {l : List α} {op : State → α → State} (h : s.KeepsCounters E u)
    (hop : ∀ v a, s.KeepsCounters E v → s.KeepsCounters E (op v a)) : s.KeepsCounters E (l.foldl op u) :=
  List.foldlRecOn l op h fun _ hv a _ => hop _ a hv

theorem State.KeepsCounters.fst_eq {α : Type} {p : State × α} {a : α} (h : s.KeepsCounters E p.1) (e : p = (v, a)) :
    s.KeepsCounters E v := by
  rw [e] at h
  exact h

theorem State.KeepsCounters.snd_eq {α : Type} {p : α × State} {a : α} (h : s.KeepsCounters E p.2) (e : p = (a, v)) :
    s.KeepsCounters E v := by
  rw [e] at h
  exact h

theorem State.KeepsCounters.hbmRead {a n : Nat} (h : s.KeepsCounters E u) : s.KeepsCounters E (u.hbmRead a n).1 :=
  .fold (h.trans {}) fun _ _ hv => hv.trans {}

theorem State.KeepsCounters.hitProt {g : Option Nat} {a n : Nat} (h : s.KeepsCounters E u) :
    s.KeepsCounters E (u.hitProt g a n) := by
  refine .either h (.trans (List.foldlRecOn _ _ (motive := fun p : State × List Prot => s.KeepsCounters E p.1) h
    fun v hv p _ => ?_) {})
  refine .either_fst hv ?_
  cases g with
  | some _ => exact hv
  | none => exact hv.hbmRead

theorem State.KeepsCounters.hbmWrite {a : Nat} {d : Bytes} {ep : Bool} (h : s.KeepsCounters E u) :
    s.KeepsCounters E (u.hbmWrite a d ep) :=
  .fold (h.hitProt.trans {}) fun _ _ hv =>
    .either (hv.trans {}) (.either (hv.trans {}) (.either (hv.trans {}) (hv.trans {})))

theorem State.KeepsCounters.walk {spoke fn va n tbl : Nat} (h : s.KeepsCounters E u) :
    s.KeepsCounters E (u.walk spoke fn va n tbl).2 := by
  induction n generalizing u tbl with
  | zero => exact h
  | succ n ih =>
    unfold State.walk
    exact .either_snd h (.either_snd h.hbmRead (.either_snd h.hbmRead
      (.either_snd (.either_snd h.hbmRead (ih h.hbmRead))
        (.either_snd h.hbmRead (.either_snd h.hbmRead h.hbmRead)))))

theorem State.KeepsCounters.translate {k va : Nat} {write : Bool} (h : s.KeepsCounters E u) :
    s.KeepsCounters E (u.translate k va write).2 := by
  unfold State.translate
  dsimp only
  split
  · exact h
  · refine .either_snd h (.either_snd h ?_)
    split
    · exact h
    · split
      next heq => exact h.walk.snd_eq heq
      next heq => exact (h.walk.snd_eq heq).trans (.either {} {})

theorem State.KeepsCounters.leafWrite {sp : Spoke} {leaf : Leaf} {d : Bytes} {ep : Bool} {ans : HostAns}
    (h : s.KeepsCounters E u) : s.KeepsCounters E (u.leafWrite sp leaf d ep ans).1 := by
  unfold State.leafWrite
  split
  · exact h.hbmWrite
  · split
    · exact h
    · exact .either_fst h (.either_fst h (h.trans {}))
  · refine .either_fst h (.either_fst h (.either_fst h ?_))
    split
    · exact h
    · exact h
    · exact h.hitProt.trans {}

theorem State.KeepsCounters.spokeWrite {k va : Nat} {d : Bytes} {ep : Bool} {ans : HostAns}
    (h : s.KeepsCounters E u) : s.KeepsCounters E (u.spokeWrite k va d ep ans).1 := by
  have hloop : ∀ n va d, ∀ v : State, s.KeepsCounters E v → s.KeepsCounters E (v.spokeWriteLoop k ep ans n va d).1 := by
    intro n
    induction n with
    | zero => exact fun _ _ _ hv => hv
    | succ n ih =>
      intro va d v hv
      unfold State.spokeWriteLoop
      refine .either_fst hv ?_
      split
      · exact hv
      · split
        next heq => exact hv.translate.snd_eq heq
        next heq => exact .either_fst (hv.translate.snd_eq heq).leafWrite (ih _ _ _ (hv.translate.snd_eq heq).leafWrite)
  exact hloop _ _ _ _ h

theorem State.KeepsCounters.interrupt {f n : Nat} (h : s.KeepsCounters E u) : s.KeepsCounters E (u.interrupt f n) :=
  .either (.either (h.trans {}) (h.trans {})) (.either (.either (h.trans {}) (h.trans {})) h)

theorem State.KeepsCounters.sampleKind {k : QKind} {since : Option Nat} (h : s.KeepsCounters E u) :
    s.KeepsCounters E (u.sampleKind k since) := by
  unfold State.sampleKind
  split
  · exact h.trans {}
  · exact h

/-- The update of an entry that is written reaches TRG behind all others (R318). -/
theorem State.KeepsCounters.writeEntry {ri : Nat} {r : Queue} {d : Due} {ans : HostAns} (h : s.KeepsCounters E u) :
    s.KeepsCounters E (u.writeEntry ri r d ans).1 := by
  unfold State.writeEntry
  dsimp only
  have hw : s.KeepsCounters E
      (u.spokeWrite r.spoke (r.base + 32 * (r.pi % r.size)) (d.bytes r.phase) false ans).1 := h.spokeWrite
  refine .either_fst (.either_fst (.either (hw.trans {}) (.either (hw.trans {}) (hw.trans {}))) hw) ?_
  split
  · exact .trans (.sampleKind (.either (.interrupt (hw.trans {})) (hw.trans {})))
      { updates := List.prefix_append .. }
  · exact .sampleKind (.either (.interrupt (hw.trans {})) (hw.trans {}))

theorem State.KeepsCounters.flushList {ri : Nat} {ans : HostAns} {l : List Due} (h : s.KeepsCounters E u) :
    s.KeepsCounters E (u.flushList ri ans l).1 := by
  induction l generalizing u with
  | nil => exact h
  | cons d l ih =>
    unfold State.flushList
    split
    · exact h
    · refine .either_fst (ih h) ?_
      split
      next heq => exact ih (h.writeEntry.fst_eq heq)
      next heq => exact h.writeEntry.fst_eq heq
      next heq => exact h.writeEntry.fst_eq heq

theorem State.KeepsCounters.flushRing {ri : Nat} {ans : HostAns} (h : s.KeepsCounters E u) :
    s.KeepsCounters E (u.flushRing ri ans).1 := by
  unfold State.flushRing
  split
  · exact h
  · exact .either (h.flushList.trans {}) (h.flushList.trans {})

theorem State.KeepsCounters.postEvent {k code a b : Nat} {st : Status} {queue : Nat} (h : s.KeepsCounters E u) :
    s.KeepsCounters E (u.postEvent k code a b st queue) := by
  have hdrop : s.KeepsCounters E (u.dropEvent k) := h.trans {}
  unfold State.postEvent
  split
  · exact hdrop
  · split
    · exact hdrop
    · exact .either hdrop (.flushRing (h.trans {}))

/-! ### Trigger entries -/

/-- An entry that is stored leaves the counters as they are. -/
theorem State.KeepsCounters.setEntry {key : Nat} {e : TrigEntry} (h : s.KeepsCounters False u) :
    s.KeepsCounters False (u.setEntry key e) := h.trans { entries := nofun }

theorem State.KeepsCounters.release {key n : Nat} (h : s.KeepsCounters False u) :
    s.KeepsCounters False (u.release key n) := by
  induction n generalizing u with
  | zero => exact h
  | succ n ih =>
    unfold State.release
    dsimp only
    split
    · exact h
    · refine .either h ?_
      split
      · exact h
      · exact ih (h.setEntry.trans {})

theorem State.KeepsCounters.addCredits {key n : Nat} (h : s.KeepsCounters False u) :
    s.KeepsCounters False (u.addCredits key n) := by
  unfold State.addCredits
  split
  · exact h
  · exact h.setEntry.release

theorem State.KeepsCounters.entryFail {key : Nat} {st : Status} (h : s.KeepsCounters False u) :
    s.KeepsCounters False (u.entryFail key st) := by
  unfold State.entryFail
  split
  · exact h
  · exact .either h (.postEvent (.fold h.setEntry fun _ _ hv => hv.trans {}))

end

/-! ### One counter -/

/-- From `s` to `t` counter `c` has become `y`, the other counters are as they were, and the updates that had reached
TRG are the first still. -/
structure State.CounterTo (c : Nat) (y : Counter) (s t : State) : Prop where
  counter : Map.get t.trg.counters c = some y
  others : ∀ d, d ≠ c → Map.get t.trg.counters d = Map.get s.trg.counters d := by exact fun _ _ => rfl
  updates : s.trg.updates <+: t.trg.updates := by exact List.prefix_rfl

/-- A counter but for its arming, the enable of its mirror, and what is due. -/
def Counter.undriven (x : Counter) : Counter :=
  { x with irqArmed := false, mirrorEn := false, mirrorDue := false, msgDue := false }

/-- What a mirror write or a message may change of a counter (R321, R322): it is disarmed, its mirror is disabled, and
what was due is no longer so, or is now. -/
structure Counter.Served (x y : Counter) : Prop where
  rest : y.undriven = x.undriven
  armed : y.irqArmed = true → x.irqArmed = true
  mirrored : y.mirrorEn = true → x.mirrorEn = true

/-- R319: a counter after a failure; a counter that has failed already keeps its status. -/
def Counter.fail (x : Counter) (st : Status) : Counter :=
  if x.failed then x else { x with failed := true, failStatus := st }

theorem Counter.Served.refl {x : Counter} : x.Served x := ⟨rfl, id, id⟩

section
variable {x y z : Counter}

theorem Counter.Served.trans (h : x.Served y) (h' : y.Served z) : x.Served z :=
  ⟨h'.rest.trans h.rest, fun hz => h.armed (h'.armed hz), fun hz => h.mirrored (h'.mirrored hz)⟩

theorem Counter.failed_fail (st : Status) : (x.fail st).failed = true := by
  unfold Counter.fail
  split
  · assumption
  · rfl

theorem Counter.value_fail (st : Status) : (x.fail st).value = x.value := by
  unfold Counter.fail
  split <;> rfl

theorem Counter.failStatus_fail (st : Status) :
    (x.fail st).failStatus = if x.failed then x.failStatus else st := by
  unfold Counter.fail
  split <;> rfl

theorem Counter.Served.value (h : x.Served y) : y.value = x.value := (congrArg Counter.value h.rest :)

theorem Counter.Served.spoke (h : x.Served y) : y.spoke = x.spoke := (congrArg Counter.spoke h.rest :)

theorem Counter.Served.failed (h : x.Served y) : y.failed = x.failed := (congrArg Counter.failed h.rest :)

theorem Counter.Served.failStatus (h : x.Served y) : y.failStatus = x.failStatus :=
  (congrArg Counter.failStatus h.rest :)

theorem Counter.Served.mirror (h : x.Served y) : y.mirror = x.mirror := (congrArg Counter.mirror h.rest :)

theorem Counter.Served.irqThreshold (h : x.Served y) : y.irqThreshold = x.irqThreshold :=
  (congrArg Counter.irqThreshold h.rest :)

end

section
variable {s u v : State} {c : Nat} {x y : Counter}

theorem State.CounterTo.refl (h : Map.get s.trg.counters c = some y) : s.CounterTo c y s := { counter := h }

theorem State.CounterTo.keeps {E : Prop} (h : s.CounterTo c y u) (h' : u.KeepsCounters E v) : s.CounterTo c y v where
  counter := h'.counters ▸ h.counter
  others d hd := h'.counters ▸ h.others d hd
  updates := h.updates.trans h'.updates

theorem State.CounterTo.setCounter (h : s.CounterTo c x u) : s.CounterTo c y (u.setCounter c y) where
  counter := (u.counter_setCounter ..).trans (if_pos rfl)
  others d hd := ((u.counter_setCounter ..).trans (if_neg hd.symm)).trans (h.others d hd)
  updates := h.updates

theorem State.CounterTo.either {p : Prop} {_ : Decidable p} (h : s.CounterTo c y u) (h' : s.CounterTo c y v) :
    s.CounterTo c y (if p then u else v) := by
  split <;> assumption

theorem State.CounterTo.mirrorWrite {ans : HostAns} (h : s.CounterTo c x u) :
    ∃ y, x.Served y ∧ y.irqArmed = x.irqArmed ∧ s.CounterTo c y (u.mirrorWrite c ans) := by
  unfold State.mirrorWrite
  rw [h.counter]
  dsimp only
  by_cases hoff : (!x.mirrorEn) = true
  · rw [if_pos hoff]
    exact ⟨x, .refl, rfl, h⟩
  rw [if_neg hoff]
  split
  · exact ⟨{ x with mirrorDue := true }, ⟨rfl, id, id⟩, rfl, h.setCounter⟩
  · generalize hp : u.spokeWrite x.spoke x.mirror (toLe 8 x.value) false ans = p
    have hset := fun y => (h.keeps (E := True) (hp ▸ .spokeWrite .refl : u.KeepsCounters True p.1)).setCounter (y := y)
    have hsent := fun y f n => (hset y).keeps (E := True) (.interrupt (f := f) (n := n) .refl)
    refine ⟨{ x with mirrorDue := false, msgDue := false, mirrorEn := p.2.status == .success },
      ⟨rfl, id, fun _ => by simpa using hoff⟩, rfl, ?_⟩
    exact .either (.either (hsent _ _ _) (hset _))
      (.keeps (.either (hsent _ _ _) (hset _)) (.postEvent (E := True) .refl))

/-- After its message has been considered, a counter that is armed is below its threshold (R321). -/
theorem State.CounterTo.counterIrq {ans : HostAns} (h : s.CounterTo c x u) :
    ∃ y, x.Served y ∧ (y.irqArmed = true → y.value < y.irqThreshold) ∧ s.CounterTo c y (u.counterIrq c ans) := by
  unfold State.counterIrq
  rw [h.counter]
  dsimp only
  by_cases hhit : (x.irqArmed && decide (x.irqThreshold ≤ x.value)) = true
  · rw [if_pos hhit]
    obtain ⟨y, hy, harmed, hto⟩ := State.CounterTo.mirrorWrite (ans := ans)
      (h.setCounter (y := { x with irqArmed := false, msgDue := x.mirrorEn }))
    have hx : x.Served { x with irqArmed := false, msgDue := x.mirrorEn } := ⟨rfl, nofun, id⟩
    refine ⟨y, hx.trans hy, ?_, .either (hto.keeps (.interrupt (E := True) .refl)) hto⟩
    rw [harmed]
    nofun
  · rw [if_neg hhit]
    obtain ⟨y, hy, harmed, hto⟩ := h.mirrorWrite (ans := ans)
    refine ⟨y, hy, fun ha => ?_, .either (hto.keeps (.interrupt (E := True) .refl)) hto⟩
    rw [hy.value, hy.irqThreshold]
    rw [harmed] at ha
    simpa [ha] using hhit

/-- A counter takes an amount, feeds its entries, and is served (R315, R316). -/
theorem State.CounterTo.counterAdd {n : Nat} {ans : HostAns} (h : s.CounterTo c x u) :
    ∃ y, Counter.Served { x with value := satAdd 64 x.value n } y ∧ (y.irqArmed = true → y.value < y.irqThreshold) ∧
      s.CounterTo c y (u.counterAdd c n ans) := by
  unfold State.counterAdd
  rw [h.counter]
  exact State.CounterTo.counterIrq (h.setCounter.keeps (.fold .refl fun _ _ hv => hv.addCredits))

theorem State.CounterTo.counterFail {st : Status} (h : s.CounterTo c x u) :
    s.CounterTo c (x.fail st) (u.counterFail c st) := by
  unfold State.counterFail Counter.fail
  rw [h.counter]
  dsimp only
  split
  · exact h
  · exact (h.setCounter.keeps (.postEvent (E := False) .refl)).keeps (.fold .refl fun _ _ hv => hv.entryFail)

end

/-! ### Updates -/

section
variable {s : State} {u : CntUpdate} {l : List CntUpdate} {x : Counter} {ans : HostAns}

theorem State.counterUpdate_refused (hu : s.trg.updates = u :: l)
    (hown : (Map.get s.trg.counters u.counter).map Counter.spoke ≠ some u.spoke) :
    s.counterUpdate ans = { s with trg.updates := l, trg.refused := satAdd 16 s.trg.refused 1 } := by
  unfold State.counterUpdate State.applyUpdate
  rw [hu]
  dsimp only
  cases hget : Map.get s.trg.counters u.counter with
  | none => rfl
  | some x =>
    rw [hget, Option.map_some, ne_eq, Option.some_inj] at hown
    exact if_pos (bne_iff_ne.2 hown)

theorem State.counterUpdate_fails {st : Status} (hu : s.trg.updates = u :: l)
    (hx : Map.get s.trg.counters u.counter = some x) (hown : x.spoke = u.spoke) (hfail : u.fail = some st) :
    ∃ y, (x.fail st).Served y ∧ State.CounterTo u.counter y { s with trg.updates := l } (s.counterUpdate ans) := by
  unfold State.counterUpdate State.applyUpdate
  rw [hu]
  dsimp only
  rw [hx]
  dsimp only
  rw [if_neg (by simp [hown]), hfail]
  obtain ⟨y, hy, -, hto⟩ := State.CounterTo.mirrorWrite (ans := ans)
    (State.CounterTo.counterFail (st := st) (.refl (s := { s with trg.updates := l }) hx))
  exact ⟨y, hy, hto⟩

theorem State.counterUpdate_adds (hu : s.trg.updates = u :: l)
    (hx : Map.get s.trg.counters u.counter = some x) (hown : x.spoke = u.spoke) (hfail : u.fail = none) :
    ∃ y, Counter.Served { x with value := satAdd 64 x.value u.amount } y ∧
      State.CounterTo u.counter y { s with trg.updates := l } (s.counterUpdate ans) := by
  unfold State.counterUpdate State.applyUpdate
  rw [hu]
  dsimp only
  rw [hx]
  dsimp only
  rw [if_neg (by simp [hown]), hfail]
  obtain ⟨y, hy, -, hto⟩ := State.CounterTo.counterAdd (n := u.amount) (ans := ans)
    (.refl (s := { s with trg.updates := l }) hx)
  exact ⟨y, hy, hto⟩

theorem State.mirrorFailed_disables {c : Nat} {st : Status} (hx : Map.get s.trg.counters c = some x)
    (hmirror : x.mirrorEn = true) :
    (s.setCounter c { x with mirrorEn := false, mirrorDue := false, msgDue := false }).KeepsCounters True
      (s.mirrorFailed c st) := by
  unfold State.mirrorFailed
  rw [hx]
  dsimp only
  rw [hmirror, if_neg (by decide)]
  exact .postEvent (.either (.interrupt .refl) .refl)

end

/-- Settles O41: an update is refused, fails its counter (`Counter.fail`) or adds to it; what the mirror write, the
message and the events do after that is `Counter.Served` of that counter and nothing to the others
(`State.CounterTo`). -/
theorem counterUpdatesAreAppliedInOrder : Obligations.CounterUpdatesAreAppliedInOrder := by
  unfold Obligations.CounterUpdatesAreAppliedInOrder
  refine ⟨?_, ?_, ?_, ?_⟩
  · intro s u l ans hu hown
    exact congrArg Host.Outcome.next (State.counterUpdate_refused hu hown)
  · intro s u l x st ans hu hx hown hfail
    obtain ⟨y, hy, hto⟩ := State.counterUpdate_fails (ans := ans) hu hx hown hfail
    refine ⟨_, y, rfl, hto.updates, hto.counter, ?_, ?_, ?_, hto.others⟩
    · rw [hy.failed, Counter.failed_fail]
    · rw [hy.value, Counter.value_fail]
    · rw [hy.failStatus, Counter.failStatus_fail]
  · intro s u l x ans hu hx hown hfail
    obtain ⟨y, hy, hto⟩ := State.counterUpdate_adds (ans := ans) hu hx hown hfail
    exact ⟨_, y, rfl, hto.updates, hto.counter, hy.failed, hy.value, hto.others⟩
  · intro s c st x hx hmirror
    have hkeep := State.mirrorFailed_disables (st := st) hx hmirror
    have hto := State.CounterTo.keeps (.setCounter (.refl hx)) hkeep
    exact ⟨_, rfl, hto.counter, hto.others, hkeep.entries trivial⟩

end Sys2Proof.Machine
end

section
/-! PROOFS. The counter and trigger commands (R315, R316, R321 to R323, R329, R331, R332): what each command answers a
request that passes its checks, and what it leaves of its counter or trigger entry. -/

namespace Sys2Proof.Machine
open Sys2Proof

-- One lemma after another: so many short ones, each in a thread of its own, outgrow the memory of a check.
set_option Elab.async false

/-! ### Functions while a counter is served -/

section
variable {s u : State}

theorem State.KeepsFns.mirrorWrite {c : Nat} {ans : HostAns} (h : s.KeepsFns u) :
    s.KeepsFns (u.mirrorWrite c ans) := by
  unfold State.mirrorWrite
  split
  · exact h
  next x _ =>
    have hw : s.KeepsFns (u.spokeWrite x.spoke x.mirror (toLe 8 x.value) false ans).1 :=
      h.trans (State.KeepsHost.spokeWrite {}).keepsFns
    exact .either h (.either (h.trans {}) (.either (.either (.interrupt (hw.trans {})) (hw.trans {}))
      (.postEvent (.either (.interrupt (hw.trans {})) (hw.trans {})))))

theorem State.KeepsFns.counterIrq {c : Nat} {ans : HostAns} (h : s.KeepsFns u) :
    s.KeepsFns (u.counterIrq c ans) := by
  unfold State.counterIrq
  split
  · exact h
  · exact .either (.interrupt (.mirrorWrite (.either (h.trans {}) h))) (.mirrorWrite (.either (h.trans {}) h))

theorem State.KeepsFns.counterAdd {c n : Nat} {ans : HostAns} (h : s.KeepsFns u) :
    s.KeepsFns (u.counterAdd c n ans) := by
  unfold State.counterAdd
  split
  · exact h
  · exact .counterIrq (.fold (h.trans {}) fun _ _ hv => hv.addCredits)

end

/-- A request that is performed, and whose command leaves the functions but for held messages, is answered SUCCESS. -/
theorem State.perform_ok_keepsFns {s u : State} {f opc : Nat} {body : Bytes → State → Reply} {p q : Bytes}
    (h : s.performable f opc = true) (hp : (s.fn f).mb.payload = q) (hb : body q s = Reply.ok u p)
    (hkeep : s.KeepsFns u) :
    ∃ t, (Host.Outcome.next (s.perform f opc body) : Outcome) = .next t ∧ u.answered t f .success p :=
  State.perform_answered h hp hb
    ((congrArg (fun x => x.mb.outstanding) (hkeep.fns f) :).trans (State.performable_outstanding h))

/-- A response leaves TRG as it is. -/
theorem State.CounterTo.answered {s u t : State} {c f : Nat} {y : Counter} {st : Status} {p : Bytes} {async : Bool}
    (h : s.CounterTo c y u) (ht : u.answered t f st p async) : s.CounterTo c y t := by
  obtain ⟨-, -, -, -, hrest⟩ := ht
  have htrg : t.trg = u.trg := (congrArg State.trg hrest :)
  exact h.keeps (E := False) ⟨congrArg TrgState.counters htrg, by rw [htrg], nofun⟩

/-! ### Heads that are completed -/

section
variable {s : State} {l : List Nat} {st : Status} {n detail : Nat}

/-- Finishing operations changes nothing else. -/
theorem State.foldl_finish_frame : l.foldl (fun s o => s.finish o st n detail) s =
    { s with host.ops := (l.foldl (fun s o => s.finish o st n detail) s).host.ops } :=
  List.foldlRecOn l _ (motive := fun t : State => t = { s with host.ops := t.host.ops }) rfl fun t ht r _ =>
    congrArg (fun v : State => { v with host.ops := (t.finish r st n detail).host.ops }) ht

theorem State.op_foldl_finish_of_notMem {o : Nat} (ho : o ∉ l) :
    (l.foldl (fun s o => s.finish o st n detail) s).op o = s.op o :=
  List.foldlRecOn l _ (motive := fun t : State => t.op o = s.op o) rfl fun t ht r hr => by
    rw [State.op_finish, if_neg (ne_of_mem_of_not_mem hr ho), ht]

/-- An operation that is finished once keeps that outcome. -/
theorem State.op_foldl_finish {o : Nat} {x : Op} (ho : o ∈ l) (hx : s.op o = some x) (hphase : x.phase ≠ .done) :
    (l.foldl (fun s o => s.finish o st n detail) s).op o =
      some { x with phase := .done, status := st, bytes := n, detail := detail } := by
  induction l generalizing s with
  | nil => cases ho
  | cons r l ih =>
    rw [List.foldl_cons]
    by_cases hr : r = o
    · rw [hr]
      exact List.foldlRecOn l _ (motive := fun t : State => t.op o = some _)
        (State.op_finish_self hx hphase st n detail) fun t ht a _ => State.finish_keeps_done ht rfl a st n detail
    · refine ih ((List.mem_cons.1 ho).resolve_left (Ne.symm hr)) ?_
      rw [State.op_finish, if_neg hr, hx]

end

/-! ### Replies to requests that pass their checks -/

section
variable {s : State} {f c : Nat} {p : Bytes} {x : Counter} {e : TrigEntry}

theorem State.counterAlloc_free {sp : Spoke} (hspoke : s.spoke (u16 p 0) = some sp)
    (hmay : s.mayNameSpoke f (u16 p 0) = true)
    (hquota : (s.trg.counters.filter fun x => x.2.spoke == u16 p 0).length < sp.counterQuota)
    (hfree : Map.lowestFree s.trg.counters 16384 = some c) :
    s.counterAlloc f p = Reply.ok (s.setCounter c { spoke := u16 p 0 }) (toLe 2 c ++ zeros 2) := by
  unfold State.counterAlloc
  dsimp only
  rw [hspoke]
  dsimp only
  rw [hmay, if_neg (by decide), if_neg (Nat.not_le.2 hquota), hfree]

theorem State.counterFree_unnamed (hx : Map.get s.trg.counters (u16 p 0) = some x)
    (hmay : s.mayNameSpoke f x.spoke = true) (hnamed : s.counterNamed (u16 p 0) = false) :
    s.counterFree f p = Reply.ok { s with trg.counters := Map.erase s.trg.counters (u16 p 0) } [] := by
  unfold State.counterFree State.mayNameCounter
  dsimp only
  rw [hx]
  dsimp only
  rw [hmay, hnamed]
  rfl

/-- The counter that COUNTER_SET stores (R321 to R323): its value first, then the failure, the arming and the mirror. -/
def Counter.setBy (x : Counter) (p : Bytes) : Counter :=
  { x with
    value := if bit (u8 p 2) 0 then u64 p 8 else x.value
    failed := x.failed && !bit (u8 p 2) 1
    failStatus := if bit (u8 p 2) 1 then .success else x.failStatus
    irqArmed := bit (u8 p 2) 2
    irqThreshold := if bit (u8 p 2) 2 then u64 p 16 else x.irqThreshold
    vector := if bit (u8 p 2) 2 then bits (u16 p 4) 11 0 else x.vector
    mirrorEn := bit (u8 p 2) 3
    mirror := if bit (u8 p 2) 3 then u64 p 24 else x.mirror
    mirrorDue := x.mirrorDue && bit (u8 p 2) 3
    msgDue := x.msgDue && bit (u8 p 2) 3 }

/-- R321: the message that waits on a mirror write is sent when the mirror is disabled. -/
def State.unmirrored (s : State) (x : Counter) (p : Bytes) : State :=
  if x.msgDue && !bit (u8 p 2) 3 then s.interrupt (s.spokeFn x.spoke) x.vector else s

theorem State.counterSet_good (hx : Map.get s.trg.counters (u16 p 0) = some x)
    (hmay : s.mayNameSpoke f x.spoke = true) (halign : bit (u8 p 2) 3 = true → u64 p 24 % 8 = 0) :
    s.counterSet f p =
      Reply.ok (((s.unmirrored x p).setCounter (u16 p 0) (x.setBy p)).counterIrq (u16 p 0) (.ok [] false)) [] := by
  have haligned : (bit (u8 p 2) 3 && u64 p 24 % 8 != 0) = false := by simpa using halign
  unfold State.counterSet State.mayNameCounter
  dsimp only
  rw [hx]
  dsimp only
  rw [haligned, if_neg (by decide), hmay]
  rfl

theorem State.counterAddCmd_good {y : Counter} (hx : Map.get s.trg.counters (u16 p 0) = some x)
    (hmay : s.mayNameSpoke f x.spoke = true) (hamount : 0 < u64 p 8)
    (hy : Map.get (s.counterAdd (u16 p 0) (u64 p 8) (.ok [] false)).trg.counters (u16 p 0) = some y) :
    s.counterAddCmd f p = Reply.ok (s.counterAdd (u16 p 0) (u64 p 8) (.ok [] false)) (toLe 8 y.value) := by
  unfold State.counterAddCmd State.mayNameCounter
  dsimp only
  rw [hx]
  dsimp only
  rw [if_neg hamount.ne', hmay, if_neg (by decide), hy]

theorem State.counterRead_good (hx : Map.get s.trg.counters (u16 p 0) = some x)
    (hmay : s.mayNameSpoke f x.spoke = true) :
    s.counterRead f p = Reply.ok s (toLe 8 x.value ++ toLe 1 (if x.failed then x.failStatus.code else 0) ++
      toLe 1 (b2n x.failed + 2 * b2n x.irqArmed + 4 * b2n x.mirrorEn) ++ zeros 6) := by
  unfold State.counterRead State.mayNameCounter
  rw [hx]
  dsimp only
  rw [hmay, if_neg (by decide)]

/-- R329: an entry is bound whose counter, where it names one, is its spoke's. -/
theorem State.triggerBind_fresh (hspoke : (s.spoke (u16 p 0)).isSome = true) (hmay : s.mayNameSpoke f (u16 p 0) = true)
    (ht : u32 p 4 ≠ 0) (hmode : (bit (u8 p 2) 1 && bit (u8 p 2) 0) = false)
    (hplain : (bit (u8 p 2) 1 || bit (u8 p 2) 0) = false → u16 p 8 = 0)
    (hown : (bit (u8 p 2) 1 || bit (u8 p 2) 0) = true →
      (Map.get s.trg.counters (u16 p 8)).map Counter.spoke = some (u16 p 0))
    (hfresh : Map.has s.trg.entries (trigKey (u16 p 0) (u32 p 4)) = false) (hroom : s.trg.entries.length < 32768) :
    s.triggerBind f p = Reply.ok (s.setEntry (trigKey (u16 p 0) (u32 p 4)) {
      spoke := u16 p 0, value := u32 p 4, count := bit (u8 p 2) 0, feedEn := bit (u8 p 2) 1, counter := u16 p 8 })
      [] := by
  unfold State.triggerBind
  dsimp only
  rw [if_neg, if_neg, if_neg (Nat.not_le.2 hroom)]
  · rw [hmay, hfresh]
    cases hx : Map.get s.trg.counters (u16 p 8) with
    | none =>
      rw [hx] at hown
      simpa using hown
    | some x =>
      rw [hx] at hown
      simpa using hown
  · rw [← Option.not_isSome, hspoke, decide_eq_false ht, hmode]
    simpa using hplain

theorem State.triggerUnbind_bound (he : Map.get s.trg.entries (trigKey (u16 p 0) (u32 p 4)) = some e)
    (hmay : s.mayNameSpoke f (u16 p 0) = true) :
    s.triggerUnbind f p = Reply.ok
      (e.heads.foldl (fun s o => s.finish o .flushed 0 0)
        { s with trg.entries := Map.erase s.trg.entries (trigKey (u16 p 0) (u32 p 4)) })
      (toLe 4 e.heads.length ++ toLe 4 e.credits) := by
  unfold State.triggerUnbind State.unbind
  dsimp only
  rw [he]
  dsimp only
  rw [hmay, if_neg (by decide)]

theorem State.triggerReset_bound (he : Map.get s.trg.entries (trigKey (u16 p 0) (u32 p 4)) = some e)
    (hmay : s.mayNameSpoke f (u16 p 0) = true) :
    s.triggerReset f p = Reply.ok (s.setEntry (trigKey (u16 p 0) (u32 p 4))
      { e with failed := false, failStatus := .success, credits := 0 }) (toLe 4 e.credits) := by
  unfold State.triggerReset
  dsimp only
  rw [he]
  dsimp only
  rw [hmay, if_neg (by decide)]

end

/-- Settles O39: each clause is the command's reply to a request that passes its checks, answered as
`State.perform_answered` says; COUNTER_SET and COUNTER_ADD store their counter, and the mirror write and the message that
follow leave it disarmed or below its threshold (`State.CounterTo.counterIrq`). -/
theorem counterCommandsActOnTheirCounter : Obligations.CounterCommandsActOnTheirCounter := by
  unfold Obligations.CounterCommandsActOnTheirCounter
  refine ⟨?_, ?_, ?_, ?_, ?_⟩
  · intro s f c p sp h hp hspoke hmay hquota hfree
    exact State.perform_ok h hp (State.counterAlloc_free hspoke hmay hquota hfree)
  · intro s f p x h hp hx hmay hnamed
    exact State.perform_ok h hp (State.counterFree_unnamed hx hmay hnamed)
  · intro s f p x h hp hx hmay halign
    have hto : s.CounterTo (u16 p 0) x (s.unmirrored x p) :=
      (State.CounterTo.refl hx).keeps (E := True) (.either (.interrupt .refl) .refl)
    obtain ⟨y, hy, hbelow, hset⟩ := State.CounterTo.counterIrq (ans := .ok [] false)
      (hto.setCounter (y := x.setBy p))
    obtain ⟨t, ht, hans⟩ := State.perform_ok_keepsFns (body := fun p s => s.counterSet f p) h hp
      (State.counterSet_good hx hmay halign)
      (.counterIrq (.trans (u := s.unmirrored x p) (.either (.interrupt .refl) .refl) {}))
    have hdone := hset.answered hans
    refine ⟨t, y, ht, hans.1, hdone.counter, hy.spoke, hy.value, hy.failed, fun ha => ⟨hy.armed ha, hbelow ha⟩,
      fun hm => ⟨hy.mirrored hm, ?_⟩, hdone.others⟩
    rw [hy.mirror]
    exact if_pos (hy.mirrored hm)
  · intro s f p x h hp hx hmay hamount
    obtain ⟨y, hy, hbelow, hadd⟩ := State.CounterTo.counterAdd (n := u64 p 8) (ans := .ok [] false)
      (State.CounterTo.refl hx)
    obtain ⟨t, ht, hans⟩ := State.perform_ok_keepsFns (body := fun p s => s.counterAddCmd f p) h hp
      (State.counterAddCmd_good hx hmay hamount hadd.counter) (.counterAdd .refl)
    have hdone := hadd.answered hans
    rw [hy.value] at hans
    exact ⟨t, y, ht, hans.1, hdone.counter, hy.value, hy.failed, hbelow, hdone.others⟩
  · intro s f p x h hp hx hmay
    exact State.perform_ok h hp (State.counterRead_good hx hmay)

/-- Settles O40: BIND and RESET store the entry, and UNBIND takes it away and finishes its heads, each once
(`State.op_foldl_finish`). -/
theorem triggerCommandsActOnTheirEntry : Obligations.TriggerCommandsActOnTheirEntry := by
  unfold Obligations.TriggerCommandsActOnTheirEntry
  refine ⟨?_, ?_, ?_⟩
  · intro s f p h hp hspoke hmay ht hmode hplain _ hown hfresh hroom
    rw [Bool.and_comm] at hmode
    rw [Bool.or_comm] at hplain
    exact State.perform_ok h hp (State.triggerBind_fresh hspoke hmay ht hmode hplain (fun _ => hown) hfresh hroom)
  · intro s f p e h hp he hmay
    have hreply := State.triggerUnbind_bound (f := f) he hmay
    have hframe := State.foldl_finish_frame (l := e.heads) (st := .flushed) (n := 0) (detail := 0)
      (s := { s with trg.entries := Map.erase s.trg.entries (trigKey (u16 p 0) (u32 p 4)) })
    generalize hu : e.heads.foldl (fun s o => s.finish o .flushed 0 0)
      { s with trg.entries := Map.erase s.trg.entries (trigKey (u16 p 0) (u32 p 4)) } = u at hreply hframe
    obtain ⟨t, ht, hresp, -, -, -, hrest⟩ := State.perform_ok (body := fun p s => s.triggerUnbind f p) h hp hreply
      (by rw [hframe])
    have hop : ∀ o, t.op o = u.op o := fun o => (congrArg (State.op · o) hrest :)
    refine ⟨t, ht, hresp, ?_, fun o x ho hx hphase => ?_, fun o ho => ?_, ?_⟩
    · exact (congrArg State.trg hrest :).trans (by rw [hframe])
    · rw [hop, ← hu]
      exact State.op_foldl_finish ho hx hphase
    · rw [hop, ← hu]
      exact State.op_foldl_finish_of_notMem ho
    · exact (congrArg State.mem hrest :).trans (by rw [hframe])
  · intro s f p e h hp he hmay
    exact State.perform_ok h hp (State.triggerReset_bound he hmay)

end Sys2Proof.Machine
end

section
/-! PROOFS. Jobs and tiles (R346, R347, R349, R353 to R357, R376, R412): what freeing tiles, ending a job and issuing a
bundle leave, and what the scheduler, the contexts and TILE_RETIRE do. -/

namespace Sys2Proof.Machine
open Sys2Proof

-- One lemma after another: so many short ones, each in a thread of its own, outgrow the memory of a check.
set_option Elab.async false

/-! ### Reads after updates of jobs and tiles -/

theorem State.tile_setTile (s : State) (i k : Nat) (x : Tile) :
    (s.setTile i x).tile k = if i = k then x else s.tile k := by
  unfold State.tile State.setTile
  simp only [Map.get_put]
  split <;> rfl

@[simp] theorem State.tile_setTile_self (s : State) (i : Nat) (x : Tile) : (s.setTile i x).tile i = x := by
  rw [State.tile_setTile, if_pos rfl]

@[simp] theorem State.job_setJob_self (s : State) (j : Nat) (x : Job) : (s.setJob j x).job j = some x :=
  Map.get_put_self ..

theorem State.job_modJob_self (s : State) (j : Nat) (g : Job → Job) : (s.modJob j g).job j = (s.job j).map g := by
  rw [State.job, State.modJob, Map.get_modify, if_pos rfl, State.job]

/-- A change of the stages of a job changes each stage by its number. -/
theorem getElem?_map_zipIdx {α β : Type} (l : List α) (f : α × Nat → β) (i : Nat) :
    (l.zipIdx.map f)[i]? = l[i]?.map fun a => f (a, i) := by
  rw [List.getElem?_map, List.getElem?_zipIdx, Option.map_map, Nat.zero_add]
  rfl

/-! ### Tiles that are freed -/

/-- With no retirement waiting, a tile that becomes free stays in use. -/
theorem State.tileFreed_idle {s : State} (h : s.str.retiring = []) (i : Nat) : s.tileFreed i = s := by
  rw [State.tileFreed, h]
  rfl

/-- What freeing the tiles of `l` leaves: all but the tiles and the starts of their local counters; a tile of `l`, or
one that was free before, is free. -/
structure State.Frees (l : List Nat) (s t : State) : Prop where
  frame : t = { s with str.tiles := t.str.tiles, brd.unitStart := t.brd.unitStart } := by rfl
  free : ∀ k, k ∈ l ∨ (s.tile k).phase = .free → (t.tile k).phase = .free

theorem State.Frees.clearTile (s : State) (i : Nat) : s.Frees [i] (s.clearTile i) where
  free k hk := by
    have htile : (s.clearTile i).tile k = if i = k then { freeAt := s.now } else s.tile k := State.tile_setTile ..
    rw [htile]
    split
    · rfl
    next hne => exact hk.resolve_left fun hmem => hne (List.mem_singleton.1 hmem).symm

theorem State.Frees.freeJobTiles {s : State} (h : s.str.retiring = []) (l : List Nat) :
    s.Frees l (s.freeJobTiles l) := by
  induction l generalizing s with
  | nil => exact ⟨rfl, fun _ hk => hk.resolve_left List.not_mem_nil⟩
  | cons i l ih =>
    have hcleared := State.Frees.clearTile s i
    have hstep : s.freeJobTiles (i :: l) = (s.clearTile i).freeJobTiles l := by
      rw [State.freeJobTiles, List.foldl_cons, State.tileFreed_idle (s := s.clearTile i) h, State.freeJobTiles]
    have hrest := ih (s := s.clearTile i) h
    rw [hstep]
    refine ⟨?_, fun k hk => hrest.free k ?_⟩
    · rw [hrest.frame]
      rfl
    · rcases hk with hk | hk
      · rcases List.mem_cons.1 hk with rfl | hk
        · exact .inr (hcleared.free _ (.inl (List.mem_singleton.2 rfl)))
        · exact .inl hk
      · exact .inr (hcleared.free k (.inr hk))

/-! ### The end of a job -/

/-- Job `j`, which was `x`, has ended on the way from `s` to `t`, with the outcome of its operation (R346, R347). -/
structure State.JobEnded (s : State) (j : Nat) (x : Job) (st : Status) (n detail : Nat) (t : State) : Prop where
  job : t.job j = none
  op : ∃ y, t.op x.op = some y ∧ y.phase = .done ∧ y.status = st ∧ y.bytes = n ∧ y.flags = b2n x.residue ∧
    y.detail = detail
  free : ∀ k ∈ x.tiles, (t.tile k).phase = .free
  now : t.now = s.now
  mem : t.mem = s.mem

section
variable {s : State} {j : Nat} {x : Job} {o : Op}

theorem State.dropJob_frees (hj : s.job j = some x) (hidle : s.str.retiring = []) :
    State.Frees x.tiles { s.account with str.jobs := Map.erase s.str.jobs j } (s.dropJob j) := by
  rw [State.dropJob, hj]
  exact .freeJobTiles (s := { s.account with str.jobs := Map.erase s.str.jobs j }) hidle x.tiles

/-- A job that is taken off the array and whose operation is then finished has ended. -/
theorem State.jobEnded_finish (hj : s.job j = some x) (ho : s.op x.op = some o) (hphase : o.phase ≠ .done)
    (hwf : Map.wf s.str.jobs = true) (hidle : s.str.retiring = []) (st : Status) (n detail : Nat) :
    s.JobEnded j x st n detail
      (((s.modOp x.op fun o => { o with flags := b2n x.residue }).dropJob j).finish x.op st n detail) := by
  have hdrop := State.dropJob_frees (s := s.modOp x.op fun o => { o with flags := b2n x.residue }) hj hidle
  have hflags : (s.modOp x.op fun o => { o with flags := b2n x.residue }).op x.op =
      some { o with flags := b2n x.residue } := by
    rw [State.op_modOp, if_pos rfl, ho, Option.map_some]
  generalize (s.modOp x.op fun o => { o with flags := b2n x.residue }).dropJob j = u at hdrop
  have hop : u.op x.op = some { o with flags := b2n x.residue } := by
    rw [hdrop.frame]
    exact hflags
  exact {
    job := by
      have hjobs : u.str.jobs = Map.erase s.str.jobs j := by rw [hdrop.frame]; rfl
      exact (congrArg (Map.get · j) hjobs).trans (Map.get_erase_self _ _ hwf)
    op := ⟨_, State.op_finish_self hop hphase st n detail, rfl, rfl, rfl, rfl, rfl⟩
    free := fun k hk => hdrop.free k (.inl hk)
    now := by rw [State.finish, State.modOp, hdrop.frame]; rfl
    mem := by rw [State.finish, State.modOp, hdrop.frame]; rfl }

/-- A job that fails ends with the bytes that its sinks have written (R347). -/
theorem State.jobEnded_failJob (hj : s.job j = some x) (ho : s.op x.op = some o) (hphase : o.phase ≠ .done)
    (hwf : Map.wf s.str.jobs = true) (hidle : s.str.retiring = []) (st : Status) (detail : Nat) :
    s.JobEnded j x st (min x.sinkBytes (2 ^ 32 - 1)) detail (s.failJob j st detail) := by
  rw [State.failJob, hj]
  exact State.jobEnded_finish hj ho hphase hwf hidle ..

/-- No job fails where each fits the tiles in use (R357). -/
theorem State.failTooBig_fits (h : ∀ y ∈ s.str.jobs, y.2.stages.length ≤ s.usable) : s.failTooBig = s := by
  have hnone : (s.str.jobs.filter fun (_, x) => decide (s.usable < x.stages.length)) = [] :=
    List.filter_eq_nil_iff.2 fun y hy => by simpa using h y hy
  rw [State.failTooBig, hnone, List.foldl_nil]

end

/-! ### Sinks and counter updates (R388) -/

/-- Job `j` has no channel. -/
def State.Chanless (s : State) (j : Nat) : Prop := ∀ x, s.job j = some x → x.chans = []

theorem State.chanless_of_job {s : State} {j : Nat} {x : Job} (hj : s.job j = some x) (h : x.chans = []) :
    s.Chanless j := fun y hy => by
  rw [hj] at hy
  cases hy
  exact h

theorem State.foldl_sendUpdate_frame (s : State) (k : Nat) (l : List (Nat × Nat)) : ∃ g,
    l.foldl (fun s c => s.sendUpdate { counter := c.1, spoke := k, amount := c.2 }) s = { s with trg := g } :=
  List.foldlRecOn l _ (motive := fun v => ∃ g, v = { s with trg := g }) ⟨s.trg, rfl⟩ fun v ⟨g, hv⟩ _ _ =>
    ⟨_, by rw [hv]; rfl⟩

/-- Either no counter update leaves its tile, or all of them go to TRG. -/
theorem State.landCounts_cases (s : State) (j i : Nat) : s.landCounts j i = s ∨
    ∃ g, s.landCounts j i = State.setTile { s with trg := g } i { s.tile i with cnts := [] } := by
  unfold State.landCounts
  split
  · exact .inl rfl
  next x _ =>
    dsimp only
    split
    · exact .inl rfl
    · obtain ⟨g, hg⟩ := s.foldl_sendUpdate_frame x.spoke (s.tile i).cnts
      exact .inr ⟨g, by rw [hg]⟩

theorem State.drainStage_chanless {s : State} {j : Nat} (h : s.Chanless j) (stage i : Nat) (ans : HostAns) :
    s.drainStage j stage i ans = s := by
  unfold State.drainStage
  split
  · rfl
  next x hx => rw [Job.sinksOf, h x hx]; rfl

theorem State.landCounts_empty {s : State} {i : Nat} (h : (s.tile i).cnts = []) (j : Nat) : s.landCounts j i = s := by
  unfold State.landCounts
  split
  · rfl
  · simp [h]

/-! ### The effects of a bundle (R376, R411, R412) -/

/-- A tile but for the counter updates that it holds. -/
def Tile.still (x : Tile) : Tile := { x with cnts := [] }

theorem Tile.eq_of_still {a b : Tile} (h : a.still = b.still) : a.x = b.x ∧ a.p = b.p ∧ a.v = b.v ∧ a.a = b.a ∧
    a.g = b.g ∧ a.sram = b.sram ∧ a.pc = b.pc ∧ a.pf = b.pf ∧ a.rng = b.rng :=
  ⟨(congrArg Tile.x h :), (congrArg Tile.p h :), (congrArg Tile.v h :), (congrArg Tile.a h :), (congrArg Tile.g h :),
    (congrArg Tile.sram h :), (congrArg Tile.pc h :), (congrArg Tile.pf h :), (congrArg Tile.rng h :)⟩

/-- What the effects of a bundle on tile `i` of job `j` leave: memory, the tile but for the counter updates that it
holds, the other tiles, and a job without channels as one. -/
structure State.Effects (j i : Nat) (s t : State) : Prop where
  mem : t.mem = s.mem := by rfl
  own : (t.tile i).still = (s.tile i).still := by rfl
  others : ∀ k, k ≠ i → t.tile k = s.tile k := by exact fun _ _ => rfl
  chanless : s.Chanless j → t.Chanless j := by exact id

section
variable {j i : Nat} {s u v : State}

theorem State.Effects.trans (h : s.Effects j i u) (h' : u.Effects j i v) : s.Effects j i v where
  mem := h'.mem.trans h.mem
  own := h'.own.trans h.own
  others k hk := (h'.others k hk).trans (h.others k hk)
  chanless hs := h'.chanless (h.chanless hs)

theorem State.Effects.setCnts (c : List (Nat × Nat)) : s.Effects j i (s.setTile i { s.tile i with cnts := c }) where
  own := by rw [State.tile_setTile_self]; rfl
  others k hk := by rw [State.tile_setTile, if_neg hk.symm]

theorem State.Effects.landCounts : s.Effects j i (s.landCounts j i) := by
  rcases s.landCounts_cases j i with h | ⟨g, h⟩ <;> rw [h]
  · exact {}
  · exact .trans (u := { s with trg := g }) {} (.setCnts [])

/-- A job that gains no channel. -/
theorem State.Effects.setJob {x : Job} (h : x.chans = []) : s.Effects j i (s.setJob j x) where
  chanless _ y hy := by
    rw [State.job_setJob_self] at hy
    cases hy
    exact h

theorem State.Effects.modJob {g : Job → Job} (h : ∀ x, (g x).chans = x.chans) : s.Effects j i (s.modJob j g) where
  chanless hs y hy := by
    rw [State.job_modJob_self] at hy
    obtain ⟨x, hx, rfl⟩ := Option.map_eq_some_iff.1 hy
    rw [h, hs x hx]

/-- Without channels, an effect of a bundle is a counter update, the end of its stage, or nothing outside its tile. -/
theorem State.Effects.bundleEff (hs : s.Chanless j) (e : Eff) : s.Effects j i (s.bundleEff j i e) := by
  unfold State.bundleEff
  split
  · exact {}
  next x hx =>
    have hchans : x.chans = [] := hs x hx
    cases e with
    | send p l =>
      have hout : x.outChan (s.tile i).stage p = none := by rw [Job.outChan, hchans]; rfl
      simp only [hout]
      exact {}
    | recv p n =>
      have hin : x.inChan (s.tile i).stage p = none := by rw [Job.inChan, hchans]; rfl
      simp only [hin]
      exact {}
    | count c n => exact .setCnts _
    | finish => exact .setJob (by rw [hchans]; rfl)
    | iflush | setMode _ | clearPf => exact {}

theorem State.Effects.bundleEffs (hs : s.Chanless j) (l : List Eff) :
    s.Effects j i (l.foldl (fun s e => s.bundleEff j i e) s) :=
  List.foldlRecOn l _ (motive := fun v => s.Effects j i v) {} fun _ hv e _ => hv.trans (.bundleEff (hv.chanless hs) e)

end

/-! ### BUNDLE_ISSUE (R374, R376, R412) -/

section
variable {s : State} {i : Nat} {x : Job} {g : Stage}

/-- A bundle that is named no source, on a tile that holds no counter update of a job without channels, only issues. -/
theorem State.bundleIssue_chanless (hrun : (s.tile i).phase = .running) (hcnts : (s.tile i).cnts = [])
    (hs : s.Chanless (s.tile i).job) (ans : HostAns) :
    s.bundleIssue i [] [] ans = s.issue (s.tile i).job i ans := by
  have hupset : s.upsetTile i [] = (s, false) := if_pos rfl
  simp [State.bundleIssue, hrun, hupset, State.drainStage_chanless hs, State.landCounts_empty hcnts]

/-- A bundle whose cached copy is the SRAM's is fetched as it is (R374). -/
theorem State.fetchBundle_cached
    (hcache : Map.get (s.tile i).icache (s.tile i).pc = some (Memory.readBytes (s.tile i).sram (s.tile i).pc 64)) :
    s.fetchBundle i = (s, Memory.readBytes (s.tile i).sram (s.tile i).pc 64, false) := by
  simp only [State.fetchBundle, hcache, if_true]

/-- Tile `i` runs a live stage `g` of job `x`, and its next bundle is cached. -/
structure State.Fetches (s : State) (i : Nat) (x : Job) (g : Stage) : Prop where
  job : s.job (s.tile i).job = some x
  stage : x.stages[(s.tile i).stage]? = some g
  live : g.ended = false
  bound : (s.tile i).pc + 64 ≤ g.units * 65536
  cached : Map.get (s.tile i).icache (s.tile i).pc = some (Memory.readBytes (s.tile i).sram (s.tile i).pc 64)

theorem State.Fetches.notEnded (h : s.Fetches i x g) : x.stageEnded (s.tile i).stage = false := by
  rw [Job.stageEnded, h.stage]
  exact h.live

/-- What a tile's next bundle gives. -/
def State.nextBundle (s : State) (i : Nat) (x : Job) (g : Stage) : BundleOut :=
  runBundle (s.tile i) (s.env x i (g.units * 65536)) (Memory.readBytes (s.tile i).sram (s.tile i).pc 64)

theorem State.issue_except (h : s.Fetches i x g) {c : Nat} (hb : s.nextBundle i x g = .except c) (ans : HostAns) :
    s.issue (s.tile i).job i ans =
      s.failJob (s.tile i).job .tileException (failDetail (s.tile i).pc (s.tile i).stage c) := by
  rw [State.nextBundle] at hb
  simp [State.issue, h.job, h.stage, h.notEnded, State.fetchBundle_cached h.cached, hb, Nat.not_lt.2 h.bound]

/-- The tile takes the results of a bundle that issues, before their effects outside the tile. -/
def State.committed (s : State) (i n : Nat) (l : List SlotOut) : State :=
  State.modJob (State.setTile { s with freeCtr := n } i ((s.tile i).commit l)) (s.tile i).job
    fun y => { y with movedAt := s.now }

/-- The state in which a bundle that issues leaves the tile: its results are committed, its effects done, and its
counter updates sent. -/
def State.issued (s : State) (i n : Nat) (l : List SlotOut) (ans : HostAns) : State :=
  (((l.flatMap SlotOut.effs).foldl (fun u e => u.bundleEff (s.tile i).job i e) (s.committed i n l)).drainStage
    (s.tile i).job (s.tile i).stage i ans).landCounts (s.tile i).job i

theorem State.issue_issued (h : s.Fetches i x g) {l : List SlotOut} (hb : s.nextBundle i x g = .issued l)
    (ans : HostAns) : ∃ n, s.issue (s.tile i).job i ans = s.issued i n l ans := by
  rw [State.nextBundle] at hb
  simp only [State.issue, h.job, h.stage, h.notEnded, State.fetchBundle_cached h.cached, hb, Nat.not_lt.2 h.bound]
  exact ⟨_, rfl⟩

theorem State.issued_effects (hs : s.Chanless (s.tile i).job) (n : Nat) (l : List SlotOut) (ans : HostAns) :
    (s.issued i n l ans).mem = s.mem ∧ ((s.issued i n l ans).tile i).still = ((s.tile i).commit l).still ∧
      ∀ k, k ≠ i → (s.issued i n l ans).tile k = s.tile k := by
  have hmod : State.Effects (s.tile i).job i (State.setTile { s with freeCtr := n } i ((s.tile i).commit l))
      (s.committed i n l) := .modJob fun _ => rfl
  have hcommitted : (s.committed i n l).Chanless (s.tile i).job := hmod.chanless hs
  have hbundle := State.Effects.bundleEffs (i := i) hcommitted (l.flatMap SlotOut.effs)
  have hall := hmod.trans (hbundle.trans State.Effects.landCounts)
  unfold State.issued
  rw [State.drainStage_chanless (hbundle.chanless hcommitted)]
  refine ⟨hall.mem, ?_, fun k hk => ?_⟩
  · rw [hall.own, State.tile_setTile_self]
  · rw [hall.others k hk, State.tile_setTile, if_neg hk.symm]
    rfl

end

/-! ### JOB_COMPLETE (R346) -/

section
variable {s : State} {j : Nat} {x : Job}

/-- The sinks and counter updates of a job without channels change TRG and the tiles alone. -/
theorem State.foldl_landCounts_frame (hs : s.Chanless j) (l : List Nat) (tile : Nat → Nat) (ans : HostAns) :
    ∃ g tiles, l.foldl (fun s i => (s.drainStage j i (tile i) ans).landCounts j (tile i)) s =
      { s with trg := g, str.tiles := tiles } :=
  List.foldlRecOn l _ (motive := fun v => ∃ g tiles, v = { s with trg := g, str.tiles := tiles })
    ⟨s.trg, s.str.tiles, rfl⟩ fun v ⟨g, tiles, hv⟩ i _ => by
      have hchanless : v.Chanless j := by rw [hv]; exact hs
      rw [State.drainStage_chanless hchanless]
      rcases v.landCounts_cases j (tile i) with h | ⟨g', h⟩ <;> rw [h, hv]
      · exact ⟨g, tiles, rfl⟩
      · exact ⟨g', _, rfl⟩

/-- The tile time of a bound job in microseconds, and how often it was pre-empted (R346). -/
def State.successDetail (s : State) (x : Job) : Nat :=
  (x.tileNs + (s.now - x.boundAt) * x.tiles.length) / 1000 % 2 ^ 32 + min x.preempts 65535 * 2 ^ 32

/-- A job whose stages have ended, and which has no sink, is taken off the array and its operation is finished. -/
theorem State.jobComplete_chanless (hj : s.job j = some x) (hbound : x.phase = .bound)
    (hended : x.stages.all Stage.ended = true) (hchans : x.chans = []) (hmarked : x.marked = none) (ans : HostAns) :
    ∃ g tiles, s.jobComplete j ans =
      (State.dropJob (State.modOp { s with trg := g, str.tiles := tiles } x.op
        fun o => { o with flags := b2n x.residue }) j).finish x.op .success (min x.sinkBytes (2 ^ 32 - 1)) (s.successDetail x) := by
  have hs := State.chanless_of_job hj hchans
  obtain ⟨g, tiles, hland⟩ := State.foldl_landCounts_frame hs (List.range x.stages.length)
    (fun i => ((x.stages[i]?).bind Stage.tile).getD 0) ans
  have hjob : State.job { s with trg := g, str.tiles := tiles } j = some x := hj
  have hdrained : (List.range x.stages.length).all x.drained = true := by
    simp [Job.drained, Job.sinksOf, hchans]
  refine ⟨g, tiles, ?_⟩
  unfold State.jobComplete
  simp only [hj, hbound, hended, hland, hjob, hdrained, hmarked]
  rfl

theorem State.jobEnded_jobComplete {o : Op} (hj : s.job j = some x) (hbound : x.phase = .bound)
    (hended : x.stages.all Stage.ended = true) (hchans : x.chans = []) (hmarked : x.marked = none)
    (ho : s.op x.op = some o) (hphase : o.phase ≠ .done) (hwf : Map.wf s.str.jobs = true) (hidle : s.str.retiring = [])
    (ans : HostAns) :
    s.JobEnded j x .success (min x.sinkBytes (2 ^ 32 - 1)) (s.successDetail x) (s.jobComplete j ans) := by
  obtain ⟨g, tiles, h⟩ := State.jobComplete_chanless hj hbound hended hchans hmarked ans
  rw [h]
  have hend := State.jobEnded_finish (s := { s with trg := g, str.tiles := tiles }) hj ho hphase hwf hidle .success
    (min x.sinkBytes (2 ^ 32 - 1)) (s.successDetail x)
  exact ⟨hend.job, hend.op, hend.free, hend.now, hend.mem⟩

end

/-! ### The limits of a job (R347) -/

section
variable {s : State} {j : Nat} {x : Job}

theorem State.runLimit_fails (hj : s.job j = some x) (hbound : x.phase = .bound) (hlimit : x.runLimit ≠ 0xFFFFFFFF) :
    s.runLimit j =
      State.failJob { s with now := max s.now (x.boundAt + (x.runLimit * 1000 - x.boundNs) + 1) } j .timeout 0 := by
  simp [State.runLimit, hj, hbound, hlimit]

theorem State.deadlock_fails (hj : s.job j = some x) (hbound : x.phase = .bound) (hstalled : x.stalledAt = none)
    (hparked : x.chans.any Chan.parked = false) (hlive : x.live ≠ []) :
    s.deadlock j = State.failJob
      { s with now := max s.now (x.movedAt + 1000 * max 100 (s.rfield 0x600000 47 32)) } j .timeout 0 := by
  have hgo : ¬(x.phase ≠ .bound ∨ x.stalledAt.isSome ∨ x.chans.any Chan.parked ∨ x.live = []) := by
    simp [hbound, hstalled, hparked, hlive]
  rw [State.deadlock, hj]
  exact if_neg hgo

end

/-! ### Contexts (R353 to R356) -/

theorem State.Reports.str {s u : State} (h : s.Reports u) : u.str = s.str := (congrArg State.str h.still :)

theorem State.Reports.ctxCheck {s u : State} {k n va len : Nat} (h : s.Reports u) :
    s.Reports (u.ctxCheck k n va len).1 := by
  induction n generalizing u va len with
  | zero => exact h
  | succ n ih =>
    unfold State.ctxCheck
    refine .either_fst h ?_
    split
    next heq => exact h.translate.snd_eq heq
    next heq => exact .either_fst (ih (h.translate.snd_eq heq)) (h.translate.snd_eq heq)
    next heq => exact h.translate.snd_eq heq

theorem State.Reports.spokeWrite {s u : State} {k va : Nat} {d : Bytes} {ep : Bool} {ans : HostAns} (h : s.Reports u) :
    s.Reports (u.spokeWrite k va d ep ans).1 := by
  unfold State.spokeWrite
  exact h.spokeWriteLoop

theorem State.Reports.drawBytes {s u : State} {n : Nat} (h : s.Reports u) : s.Reports (u.drawBytes n).2 := h.trans {}

/-- The state with the context of tile `tl` written to its slot at `a`: `regs` for the registers, and the bytes of its
SRAM (R355; log entry 88, DESIGN CHOICE). -/
def State.storeContext (s : State) (tl : Tile) (k a size : Nat) (regs : Bytes) : State :=
  tl.badBlocks.foldl (fun s b =>
    (s.spokeWrite k (a + 131072 + 64 * b) (Memory.readBytes tl.sram (64 * b) 64) true (.ok [] false)).1)
    (((s.spokeWrite k a regs false (.ok [] false)).1.spokeWrite k (a + 131072)
      (Memory.readBytes tl.sram 0 size) false (.ok [] false)).1)

theorem State.Reports.storeContext {s u : State} {tl : Tile} {k a size : Nat} {regs : Bytes} (h : s.Reports u) :
    s.Reports (u.storeContext tl k a size regs) :=
  .fold h.spokeWrite.spokeWrite fun _ _ hv => hv.spokeWrite

/-- What a stage keeps of its tile while the tile's SRAM is in the slot. -/
def Tile.kept (tl : Tile) : Tile := { tl with sram := [], bad := [], icache := [] }

/-- The job when stage `i` has saved its context. -/
def Job.savedStage (x : Job) (i : Nat) (keep : Tile) : Job :=
  { x with stages := x.stages.zipIdx.map fun (g, n) =>
      if n = i then { g with saved := some keep, tile := none } else g }

theorem Job.length_savedStage (x : Job) (i : Nat) (keep : Tile) :
    (x.savedStage i keep).stages.length = x.stages.length := by
  rw [Job.savedStage, List.length_map, List.length_zipIdx]

theorem Job.getElem?_savedStage {x : Job} {i : Nat} {g : Stage} (h : x.stages[i]? = some g) (keep : Tile) :
    (x.savedStage i keep).stages[i]? = some { g with saved := some keep, tile := none } := by
  rw [Job.savedStage, getElem?_map_zipIdx, h, Option.map_some]
  exact congrArg some (if_pos rfl)

/-- A job waits again when none of its stages holds a tile. -/
def Job.resaved (x : Job) (now : Nat) : Job :=
  { x with phase := if x.tiles = [] then .waiting else .saving, waitAt := now }

section
variable {s u : State} {i : Nat} {x : Job} {g : Stage}

/-- A save writes the context, stores the job and then frees the tile (R354). -/
theorem State.contextSaved_frees (hphase : (s.tile i).phase = .saving) (hj : s.job (s.tile i).job = some x)
    (hg : x.stages[(s.tile i).stage]? = some g)
    (hslot : s.ctxCheck x.spoke ((131072 + g.units * 65536) / 4096 + 1) (slotAddr x.ctx x.stages (s.tile i).stage)
      (131072 + g.units * 65536) = (u, .success)) :
    ∃ w, s.Reports w ∧ s.contextSaved i =
      let y := x.savedStage (s.tile i).stage (s.tile i).kept
      let v := w.setJob (s.tile i).job (y.resaved w.now)
      ((if y.tiles = [] then v.account.becomeBacklogged x.spoke else v).clearTile i).tileFreed i := by
  -- The sizes of a unit and of the registers are made variables, for the kernel would count the numbers down.
  obtain ⟨unit, hunit⟩ : ∃ n, n = 65536 := ⟨_, rfl⟩
  obtain ⟨size, hsize⟩ : ∃ n, n = 98304 := ⟨_, rfl⟩
  have body : State.contextSaved = State.contextSaved := rfl
  conv_rhs at body => delta State.contextSaved
  rw [← hunit] at hslot
  rw [body, ← hunit, ← hsize]
  dsimp only
  split
  next hnone => cases hj.symm.trans hnone
  next x' hx' =>
    cases hj.symm.trans hx'
    split
    next g' _ hg' =>
      cases hg.symm.trans hg'
      rw [hslot]
      dsimp only
      have hdrawn : s.Reports (u.drawBytes size).2 := .drawBytes (.fst_eq (.ctxCheck {}) hslot)
      generalize u.drawBytes size = p at hdrawn
      obtain ⟨regs, w⟩ := p
      exact ⟨w.storeContext (s.tile i) x.spoke (slotAddr x.ctx x.stages (s.tile i).stage) (g.units * unit) regs,
        hdrawn.storeContext, rfl⟩
    next hne => exact absurd hg (hne g hphase)

/-- A job that waits for tiles again changes the accounts of its spoke alone (R349, R350). -/
theorem State.backlog_frame (v : State) (c : Prop) {_ : Decidable c} (k : Nat) : ∃ a b n,
    (if c then v.account.becomeBacklogged k else v) =
      { v with str.bucket := a, str.vtime := b, str.accounted := n } := by
  split
  · unfold State.becomeBacklogged
    dsimp only
    split <;> exact ⟨_, _, _, rfl⟩
  · exact ⟨v.str.bucket, v.str.vtime, v.str.accounted, rfl⟩

/-- A save whose job fits the tiles in use, as all others do, stores the job and frees its tile (R354, R355). -/
theorem State.contextSaved_fits (hphase : (s.tile i).phase = .saving) (hj : s.job (s.tile i).job = some x)
    (hg : x.stages[(s.tile i).stage]? = some g)
    (hslot : s.ctxCheck x.spoke ((131072 + g.units * 65536) / 4096 + 1) (slotAddr x.ctx x.stages (s.tile i).stage)
      (131072 + g.units * 65536) = (u, .success))
    (hidle : s.str.retiring = []) (hfits : ∀ y ∈ s.str.jobs, y.2.stages.length ≤ s.usable) :
    ∃ now, (((s.contextSaved i).failTooBig).tile i).phase = .free ∧ ((s.contextSaved i).failTooBig).job (s.tile i).job =
      some ((x.savedStage (s.tile i).stage (s.tile i).kept).resaved now) := by
  obtain ⟨w, hw, hsaved⟩ := State.contextSaved_frees hphase hj hg hslot
  dsimp only at hsaved
  have hlen : ((x.savedStage (s.tile i).stage (s.tile i).kept).resaved w.now).stages.length = x.stages.length :=
    x.length_savedStage ..
  generalize hy : (x.savedStage (s.tile i).stage (s.tile i).kept).resaved w.now = y at hsaved hlen
  obtain ⟨a, b, n, hbacklog⟩ := (w.setJob (s.tile i).job y).backlog_frame
    ((x.savedStage (s.tile i).stage (s.tile i).kept).tiles = []) x.spoke
  rw [hbacklog] at hsaved
  generalize hv : { w.setJob (s.tile i).job y with str.bucket := a, str.vtime := b, str.accounted := n } = v at hsaved
  have hjobs : v.str.jobs = Map.put s.str.jobs (s.tile i).job y := by rw [← hv, ← hw.str]; rfl
  have hretired : v.str.retired = s.str.retired := by rw [← hv, ← hw.str]; rfl
  have hfreed : s.contextSaved i = v.clearTile i := by
    rw [hsaved, State.tileFreed_idle (s := v.clearTile i)]
    show v.str.retiring = []
    rw [← hidle, ← hv, ← hw.str]
    rfl
  have hkept : (v.clearTile i).failTooBig = v.clearTile i := by
    refine State.failTooBig_fits fun z hz => ?_
    have husable : (v.clearTile i).usable = s.usable := congrArg
      (fun l : List Nat => ((List.range 64).filter fun t => !l.contains t).length) hretired
    rw [husable]
    rcases Map.mem_put s.str.jobs (s.tile i).job y z (hjobs ▸ hz) with rfl | hmem
    · exact hlen.trans_le (hfits _ (Map.mem_of_get hj))
    · exact hfits z hmem
  rw [hfreed, hkept]
  exact ⟨w.now, (State.Frees.clearTile v i).free i (.inl (List.mem_singleton.2 rfl)),
    (congrArg (Map.get · _) hjobs).trans ((Map.get_put_self ..).trans (congrArg some hy.symm))⟩

/-- What loading SRAM leaves of a tile: all but its SRAM and the words that are marked. -/
def Tile.registers (tl : Tile) : Tile := { tl with sram := [], bad := [] }

theorem Tile.registers_foldl_load (l : List ((Bytes × Bool) × Nat)) (tl : Tile) :
    (l.foldl (fun (k : Tile) (b, i) => k.load (64 * i) b.1 b.2) tl).registers = tl.registers :=
  List.foldlRecOn l _ (motive := fun k : Tile => k.registers = tl.registers) rfl fun _ hk _ _ => hk

/-- A restore whose slot reads without fault sets the tile to the registers that its stage kept (R355, R356). -/
theorem State.contextRestored_registers {keep : Tile} (hphase : (s.tile i).phase = .restoring)
    (hj : s.job (s.tile i).job = some x) (hg : x.stages[(s.tile i).stage]? = some g) (hkeep : g.saved = some keep)
    (hread : (s.spokeRead x.spoke (slotAddr x.ctx x.stages (s.tile i).stage) 131072 (.ok [] false)).2.status = .success)
    (hclean : (s.spokeRead x.spoke (slotAddr x.ctx x.stages (s.tile i).stage) 131072 (.ok [] false)).2.medium = false)
    (hsram : ((s.spokeRead x.spoke (slotAddr x.ctx x.stages (s.tile i).stage) 131072 (.ok [] false)).1.readContext
      x.spoke (slotAddr x.ctx x.stages (s.tile i).stage + 131072) (g.units * 1024)).2.2 = .success) :
    ∃ (v : State) (tl : Tile), s.contextRestored i = v.setTile i { tl with phase := .running } ∧
      tl.registers = keep.registers := by
  have hstage : ((x.stages[(s.tile i).stage]?).bind fun g => g.saved.map fun k => (g, k)) = some (g, keep) := by
    rw [hg, Option.bind_some, hkeep, Option.map_some]
  unfold State.contextRestored
  dsimp only
  split
  next hnone => cases hj.symm.trans hnone
  next x' hx' =>
    cases hj.symm.trans hx'
    split
    next g' keep' _ hs' =>
      cases hstage.symm.trans hs'
      rw [hread, hclean, hsram]
      exact ⟨_, _, rfl, Tile.registers_foldl_load ..⟩
    next hne => exact absurd hstage (hne _ _ hphase)

end

/-! ### TILE_RETIRE (R357) -/

theorem mem_setIns (l : List Nat) (k n : Nat) : n ∈ setIns l k ↔ n = k ∨ n ∈ l := by
  induction l with
  | nil => simp [setIns]
  | cons a l ih =>
    unfold setIns
    split
    · simp
    · split
      next h => simp [h]
      · rw [List.mem_cons, List.mem_cons, ih]
        tauto

/-- A tile that is retired is one tile fewer in use at most. -/
theorem State.usable_le_of_retired {s t : State} {i : Nat} (h : t.str.retired = setIns s.str.retired i) :
    s.usable ≤ t.usable + 1 := by
  have hnodup : ((List.range 64).filter fun k => !s.str.retired.contains k).Nodup := List.nodup_range.filter _
  have hin : ((List.range 64).filter fun k => !s.str.retired.contains k).erase i ⊆
      (List.range 64).filter fun k => !t.str.retired.contains k := by
    intro k hk
    obtain ⟨hne, hmem⟩ := hnodup.mem_erase_iff.1 hk
    simp only [List.mem_filter, Bool.not_eq_true', List.contains_eq_mem, decide_eq_false_iff_not] at hmem ⊢
    rw [h, mem_setIns]
    tauto
  have hlen := ((hnodup.erase i).subperm hin).length_le
  have herase := List.le_length_erase (a := i) (l := (List.range 64).filter fun k => !s.str.retired.contains k)
  unfold State.usable
  omega

theorem State.Reports.postPf0 {s u : State} {hier code a b : Nat} {st : Status} {queue : Nat} (h : s.Reports u) :
    s.Reports (u.postPf0 hier code a b st queue) := by
  unfold State.postPf0
  split
  · exact h.postEvent
  · exact h

/-- A retirement of the tray leaves the stream array and what waits for the journal. -/
theorem State.retireTray_keeps (s : State) (cause : Nat) :
    (s.retireTray cause).str = s.str ∧ s.fwm.jpend ⊆ (s.retireTray cause).fwm.jpend := by
  unfold State.retireTray
  extract_lets old new v w
  have hw : v.Reports w := .postPf0 (.postPf0 {})
  have hfwm : w.fwm = v.fwm := (congrArg State.fwm hw.still :)
  split
  · exact ⟨rfl, List.Subset.refl _⟩
  · rw [State.pldm_frame, State.crFault_frame]
    refine ⟨hw.str, ?_⟩
    show _ ⊆ w.fwm.jpend
    rw [hfwm]
    exact List.subset_append_left ..

section
variable {s : State} {f i : Nat}

/-- An object of four bytes has one part. -/
theorem jParts_toLe (i : Nat) : jParts ((toLe 4 i).length / 208) (toLe 4 i) = [toLe 4 i] := by
  simp [toLe, jParts]

/-- The record of a retired tile, and the response that awaits its commit. -/
def retiredRecord (f i : Nat) : JWrite :=
  { type := 0x0501, key := i, delete := false, parts := [toLe 4 i], wait := some ⟨f, .success, [], none, none⟩ }

/-- What the retirement of tile `i` for the outstanding request of function `f` leaves. -/
structure State.Retires (f i : Nat) (s t : State) : Prop where
  jobs : t.str.jobs = s.str.jobs
  retired : t.str.retired = setIns s.str.retired i
  gated : (t.tile i).gated = true
  recorded : retiredRecord f i ∈ t.fwm.jpend

theorem State.retireNow_retires (h : (s.fn f).mb.outstanding = true) :
    s.Retires f i (s.retireNow i (some (f, (s.fn f).mb.seq))) := by
  unfold State.retireNow
  extract_lets u p v w t
  have hw : w = some ⟨f, .success, [], none, none⟩ := by
    refine if_pos ?_
    rw [show v.fn f = s.fn f from rfl, h, beq_self_eq_true]
    rfl
  have ht : s.Retires f i t := by
    refine ⟨rfl, rfl, congrArg Tile.gated (s.tile_setTile_self i _), List.mem_append_right _ ?_⟩
    rw [hw, List.mem_singleton, retiredRecord, ← jParts_toLe]
  obtain ⟨hstr, hpend⟩ := t.retireTray_keeps 5
  split
  · exact ⟨by rw [hstr, ht.jobs], by rw [hstr, ht.retired], by rw [State.tile, hstr]; exact ht.gated, hpend ht.recorded⟩
  · exact ht

/-- TILE_RETIRE of a tile that is out of use already succeeds at once. -/
theorem State.tileRetire_retired {p : Bytes} (hf : f % 4 = 0) (hclear : bit (u8 p 1) 0 = false)
    (hin : bits (u8 p 0) 5 0 ∈ s.str.retired) : s.tileRetire f p = Reply.ok s [] := by
  simp [State.tileRetire, hf, hclear, hin]

/-- TILE_RETIRE with CLEAR deletes the record of a tile that has one. -/
theorem State.tileRetire_clears {p : Bytes} (hf : f % 4 = 0) (hclear : bit (u8 p 1) 0 = true)
    (hrecord : (s.jGet 0x0501 (bits (u8 p 0) 5 0)).isSome = true) :
    s.tileRetire f p = { st := s, journal := [(0x0501, bits (u8 p 0) 5 0, true, [])] } := by
  have hsome : s.jGet 0x0501 (bits (u8 p 0) 5 0) ≠ none := Option.isSome_iff_ne_none.1 hrecord
  simp [State.tileRetire, hf, hclear, hsome]

/-- TILE_RETIRE of a free tile that is in use retires it, and every job still fits (R357). -/
theorem State.tileRetire_free {p : Bytes} (hout : (s.fn f).mb.outstanding = true) (hf : f % 4 = 0)
    (hclear : bit (u8 p 1) 0 = false) (hin : bits (u8 p 0) 5 0 ∉ s.str.retired)
    (hidle : s.str.retiring.all (fun r => r.tile != bits (u8 p 0) 5 0) = true)
    (hfree : (s.tile (bits (u8 p 0) 5 0)).phase = .free)
    (hfits : ∀ y ∈ s.str.jobs, y.2.stages.length < s.usable) :
    ∃ t, s.tileRetire f p = { st := t, wait := true } ∧ s.Retires f (bits (u8 p 0) 5 0) t := by
  have hret := s.retireNow_retires (i := bits (u8 p 0) 5 0) hout
  have hkept : (s.retireNow (bits (u8 p 0) 5 0) (some (f, (s.fn f).mb.seq))).failTooBig =
      s.retireNow (bits (u8 p 0) 5 0) (some (f, (s.fn f).mb.seq)) := by
    refine State.failTooBig_fits fun y hy => ?_
    rw [hret.jobs] at hy
    have hless := hfits y hy
    have husable := State.usable_le_of_retired hret.retired
    omega
  have hwaits : (s.str.retiring.any fun r => r.tile == bits (u8 p 0) 5 0) = false := by
    simpa using hidle
  refine ⟨_, ?_, hret⟩
  simp [State.tileRetire, hf, hclear, hin, hwaits, State.retireTile, hfree, hkept]

end

/-- Settles O43: a save and a restore go by the state of their slot (`State.contextSaved_fits`,
`State.contextRestored_registers`), a bundle by what it gives (`State.issue_issued`, `State.issue_except`), the end of a
job is `State.JobEnded`, and TILE_RETIRE is its reply. -/
theorem jobsAreSavedRestoredAndEnd : Obligations.JobsAreSavedRestoredAndEnd := by
  unfold Obligations.JobsAreSavedRestoredAndEnd
  refine ⟨?_, ?_, ?_, ?_, ?_, ?_, ?_, ?_, ?_⟩
  · intro s u i x g hphase hj hg hslot hidle hfits
    obtain ⟨now, hfree, hjob⟩ := State.contextSaved_fits hphase hj hg hslot hidle hfits
    exact ⟨_, _, rfl, hfree, hjob, Job.getElem?_savedStage hg _⟩
  · intro s i x g keep hphase hj hg hkeep hread hclean hsram
    obtain ⟨v, tl, hrestored, hregs⟩ := State.contextRestored_registers hphase hj hg hkeep hread hclean hsram
    refine ⟨_, congrArg Host.Outcome.next hrestored, ?_⟩
    rw [State.tile_setTile_self]
    exact ⟨rfl, (congrArg Tile.x hregs :), (congrArg Tile.p hregs :), (congrArg Tile.v hregs :),
      (congrArg Tile.a hregs :), (congrArg Tile.g hregs :), (congrArg Tile.pf hregs :), (congrArg Tile.pc hregs :),
      (congrArg Tile.rng hregs :), (congrArg Tile.mcode hregs :)⟩
  · intro s i x g l ans hrun hcnts hj hchans hg hlive hbound hcache hb
    have hs := State.chanless_of_job hj hchans
    obtain ⟨n, hissue⟩ := State.issue_issued ⟨hj, hg, hlive, hbound, hcache⟩ hb ans
    obtain ⟨hmem, hown, hothers⟩ := State.issued_effects hs n l ans
    rw [← hissue, ← State.bundleIssue_chanless hrun hcnts hs] at hmem hown hothers
    obtain ⟨hx, hp, hv, ha, hgen, hsram, hpc, hpf, hrng⟩ := Tile.eq_of_still hown
    exact ⟨_, rfl, hx, hp, hv, ha, hgen, hsram, hpc, hpf, hrng, hothers, hmem⟩
  · intro s i c x g o ans hrun hcnts hj hchans hg hlive hbound hcache hb ho hphase hwf hidle
    have hissue := State.issue_except ⟨hj, hg, hlive, hbound, hcache⟩ hb ans
    rw [← State.bundleIssue_chanless hrun hcnts (State.chanless_of_job hj hchans)] at hissue
    obtain ⟨hjob, ⟨y, hy, hdone, hst, -, -, hdetail⟩, hfree, -, hmem⟩ :=
      State.jobEnded_failJob hj ho hphase hwf hidle .tileException (failDetail (s.tile i).pc (s.tile i).stage c)
    exact ⟨_, y, congrArg Host.Outcome.next hissue, hjob, hy, hdone, hst, hdetail, hfree, hmem⟩
  · intro s j x o ans hj hbound hended hchans hmarked ho hphase hwf hidle
    obtain ⟨hjob, ⟨y, hy, hdone, hst, hbytes, hflags, hdetail⟩, hfree, -, hmem⟩ :=
      State.jobEnded_jobComplete hj hbound hended hchans hmarked ho hphase hwf hidle ans
    exact ⟨_, y, rfl, hjob, hy, hdone, hst, hbytes, hflags, hdetail, hfree, hmem⟩
  · intro s j x o hj hbound ho hphase hwf hidle
    refine ⟨fun hlimit => ?_, fun hstalled hparked hlive => ?_⟩
    · have hexec : s.runLimit j = _ := State.runLimit_fails hj hbound hlimit
      obtain ⟨hjob, ⟨y, hy, hdone, hst, -⟩, hfree, hnow, -⟩ := State.jobEnded_failJob
        (s := { s with now := max s.now (x.boundAt + (x.runLimit * 1000 - x.boundNs) + 1) }) hj ho hphase hwf hidle
        .timeout 0
      exact ⟨_, y, congrArg Host.Outcome.next hexec, hjob, hy, hdone, hst, hnow, hfree⟩
    · have hexec : s.deadlock j = _ := State.deadlock_fails hj hbound hstalled hparked hlive
      obtain ⟨hjob, ⟨y, hy, hdone, hst, -⟩, hfree, hnow, -⟩ := State.jobEnded_failJob
        (s := { s with now := max s.now (x.movedAt + 1000 * max 100 (s.rfield 0x600000 47 32)) }) hj ho hphase hwf hidle
        .timeout 0
      exact ⟨_, y, congrArg Host.Outcome.next hexec, hjob, hy, hdone, hst, hnow, hfree⟩
  · intro s f p h hp hf hclear hin
    exact State.perform_ok h hp (State.tileRetire_retired hf hclear hin)
  · intro s f p h hp hf hclear hin hidle hfree hfits
    obtain ⟨t, hreply, hret⟩ := State.tileRetire_free (State.performable_outstanding h) hf hclear hin hidle hfree hfits
    rw [← hp] at hreply hret ⊢
    exact ⟨t, congrArg Host.Outcome.next (State.perform_waits (body := fun p s => s.tileRetire f p) h hreply rfl), by
      rw [hret.retired, mem_setIns]; exact .inl rfl, hret.gated, hret.recorded⟩
  · intro s f p h hp hf hclear hrecord
    exact State.perform_journals h hp (State.tileRetire_clears hf hclear hrecord)

/-! ### SCHEDULER_DECISION (R349, R353) -/

/-- A counter of 64 bits holds at its maximum. -/
theorem State.rget_rsat_word {s : State} {off : Nat} (h : s.rget off < 2 ^ 64) (n : Nat) :
    (s.rsat off 63 0 n).rget off = min (s.rget off + n) (2 ^ 64 - 1) := by
  rw [State.rsat, State.rset, State.rget_rput_self, State.rfield, setBits, satAdd, bits]
  omega

/-- The job that a pre-emption at time `now` makes of one whose stages are all live. -/
def Job.preempted (x : Job) (now : Nat) : Job :=
  { x with phase := .saving, boundNs := x.boundNs + (now - x.boundAt)
           tileNs := x.tileNs + (now - x.boundAt) * x.tiles.length, preempts := x.preempts + 1, stalledAt := none
           chans := x.chans.map fun c => { c with parked := false } }

/-- The tiles of `l` save. -/
def State.saveTiles (s : State) (l : List Nat) : State :=
  l.foldl (fun s t => s.setTile t { s.tile t with phase := .saving }) s

/-- Tiles that save change nothing else. -/
theorem State.saveTiles_frame (s : State) (l : List Nat) :
    s.saveTiles l = { s with str.tiles := (s.saveTiles l).str.tiles } :=
  List.foldlRecOn l _ (motive := fun t : State => t = { s with str.tiles := t.str.tiles }) rfl fun t ht i _ =>
    (congrArg (fun v : State =>
      { v with str.tiles := (t.setTile i { t.tile i with phase := .saving }).str.tiles }) ht :)

theorem State.tile_saveTiles (s : State) {l : List Nat} {i : Nat} (h : i ∈ l ∨ (s.tile i).phase = .saving) :
    ((s.saveTiles l).tile i).phase = .saving := by
  induction l generalizing s with
  | nil => exact h.resolve_left List.not_mem_nil
  | cons k l ih =>
    refine ih (s.setTile k { s.tile k with phase := .saving }) ?_
    rw [State.tile_setTile]
    by_cases hk : k = i
    · rw [if_pos hk]
      exact .inr rfl
    · rw [if_neg hk]
      exact h.imp_left fun hmem => (List.mem_cons.1 hmem).resolve_left (Ne.symm hk)

section
variable {s : State} {j : Nat} {x : Job}

/-- A job with a live stage binds. -/
theorem Job.live_ne_nil (hsome : x.stages ≠ []) (hlive : ∀ g ∈ x.stages, g.ended = false) : x.live ≠ [] := by
  have hpos : 0 < x.stages.length := List.length_pos_of_ne_nil hsome
  refine List.ne_nil_of_mem (a := 0) (List.mem_filter.2 ⟨List.mem_range.2 hpos, ?_⟩)
  rw [List.getElem?_eq_getElem hpos]
  simp [hlive _ (List.getElem_mem hpos)]

theorem State.preempt_live (hj : s.job j = some x) (hbound : x.phase = .bound) (hsome : x.stages ≠ [])
    (hlive : ∀ g ∈ x.stages, g.ended = false) :
    s.preempt j = ((s.account.setJob j (x.preempted s.now)).rsat 0x600010 63 0 1).saveTiles x.tiles := by
  have hstages : (x.stages.map fun g => if g.ended then { g with tile := none } else g) = x.stages :=
    (List.map_congr_left (g := id) fun g hg => if_neg (by simp [hlive g hg])).trans (List.map_id _)
  have hdone : (x.stages.filter Stage.ended).filterMap Stage.tile = [] := by
    rw [List.filter_eq_nil_iff.2 fun g hg => by simp [hlive g hg]]
    rfl
  have hgo : ¬(x.phase ≠ .bound ∨ x.live = []) := by simp [hbound, Job.live_ne_nil hsome hlive]
  rw [State.preempt, hj]
  dsimp only
  rw [if_neg hgo, hstages, hdone]
  rfl

/-- With one running job, whose spoke has spent its bucket, a decision pre-empts that job and does nothing else. -/
theorem State.schedulerDecision_spent (hserves : s.serves 3 = true) (hjobs : s.str.jobs = [(j, x)])
    (hbound : x.phase = .bound) (hsome : x.stages ≠ []) (hlive : ∀ g ∈ x.stages, g.ended = false)
    (hspent : (Map.get s.account.str.bucket x.spoke).getD 0 ≤ 0) :
    s.schedulerDecision =
      ((s.account.account.setJob j (x.preempted s.now)).rsat 0x600010 63 0 1).saveTiles x.tiles := by
  have hj : s.account.job j = some x := by
    rw [State.job, show s.account.str.jobs = [(j, x)] from hjobs]
    exact if_pos rfl
  have hpreempt : s.account.preempt j =
      ((s.account.account.setJob j (x.preempted s.now)).rsat 0x600010 63 0 1).saveTiles x.tiles :=
    State.preempt_live hj hbound hsome hlive
  have hframe := ((s.account.account.setJob j (x.preempted s.now)).rsat 0x600010 63 0 1).saveTiles_frame x.tiles
  generalize ((s.account.account.setJob j (x.preempted s.now)).rsat 0x600010 63 0 1).saveTiles x.tiles = u
    at hpreempt hframe ⊢
  have hafter : u.str.jobs = [(j, x.preempted s.now)] := by
    rw [hframe]
    show Map.put s.str.jobs j _ = _
    rw [hjobs]
    simp [Map.put]
  have hidle : ∀ y ∈ u.str.jobs, y.2.phase = .saving := by
    rw [hafter]
    exact fun y hy => by rw [List.mem_singleton.1 hy]; rfl
  have hnone : u.selected = none := by
    have hback : (u.str.jobs.filter fun (_, y) => y.phase == .waiting) = [] :=
      List.filter_eq_nil_iff.2 fun y hy => by simp [hidle y hy]
    rw [State.selected, State.backlogged, hback]
    rfl
  unfold State.schedulerDecision
  rw [if_neg (by simp [hserves])]
  extract_lets v dry w waits stalled z
  have hdry : dry = [(j, x)] := by
    have hv : v.str.jobs = [(j, x)] := hjobs
    simp [dry, hv, hbound, v, hspent]
  have hw : w = u := by rw [← hpreempt]; simp only [w, hdry]; rfl
  have hwaits : waits = false := by
    simp only [waits, hw]
    exact List.any_eq_false.2 fun y hy => by simp [hidle y hy]
  have hz : z = u := by simp [z, hwaits, hw]
  rw [hz, hnone]

/-- The clause of O42 on SCHEDULER_DECISION, where STR_PREEMPT holds a word of 64 bits. -/
theorem exec_schedulerDecision_word (hserves : s.serves 3 = true) (hjobs : s.str.jobs = [(j, x)])
    (hbound : x.phase = .bound) (hsome : x.stages ≠ []) (hlive : x.stages.all (fun g => !g.ended) = true)
    (hspent : (Map.get s.account.str.bucket x.spoke).getD 0 ≤ 0) (hword : s.rget 0x600010 < 2 ^ 64) :
    ∃ t y, exec .schedulerDecision s = .next t ∧ t.job j = some y ∧ y.phase = .saving ∧ y.preempts = x.preempts + 1 ∧
      (∀ i ∈ x.tiles, (t.tile i).phase = .saving) ∧ t.rget 0x600010 = min (s.rget 0x600010 + 1) (2 ^ 64 - 1) ∧
      t.mem = s.mem ∧ t.host = s.host := by
  have hlive' : ∀ g ∈ x.stages, g.ended = false := fun g hg => by simpa using List.all_eq_true.1 hlive g hg
  have hexec := State.schedulerDecision_spent hserves hjobs hbound hsome hlive' hspent
  have hcount := State.rget_rsat_word (s := s.account.account.setJob j (x.preempted s.now)) hword 1
  have htiles := fun i (hi : i ∈ x.tiles) => State.tile_saveTiles
    ((s.account.account.setJob j (x.preempted s.now)).rsat 0x600010 63 0 1) (.inl hi)
  have hframe := ((s.account.account.setJob j (x.preempted s.now)).rsat 0x600010 63 0 1).saveTiles_frame x.tiles
  refine ⟨_, x.preempted s.now, congrArg Host.Outcome.next hexec, ?_, rfl, rfl, htiles, ?_, ?_, ?_⟩
  · rw [hframe]
    exact Map.get_put_self ..
  · rw [hframe]
    exact hcount
  · rw [hframe]
    rfl
  · rw [hframe]
    rfl

end

/-! ### STR_PREEMPT beyond its word -/

/-- A running job whose spoke has spent its bucket, in a state whose STR_PREEMPT holds 2^64. -/
def wideCounter : State := { State.reset with
  regs := [(0x600010, 2 ^ 64)]
  fwm.services := [(3, { state := .running })]
  str.jobs := [(7, { op := 4, queue := 3, spoke := 6, ctx := 0, runLimit := 1, seed := 0, arg := 0, phase := .bound
                     chans := []
                     stages := [{ program := 0, programLen := 64, units := 1, tile := some 9 }] })] }

/-- The pre-emption keeps the bit beyond the word and counts below it. -/
theorem rget_schedulerDecision_wideCounter : wideCounter.schedulerDecision.rget 0x600010 = 2 ^ 64 + 1 := by
  decide +kernel

/-- Refutes O42: the clause on SCHEDULER_DECISION speaks of every state, also of one whose register STR_PREEMPT holds a
number beyond its 64 bits. There the pre-emption counts in the low 64 bits and keeps what is above them: 2^64 becomes
2^64 + 1, where the clause asks for 2^64 - 1. Counting brings no such number into a register that holds 64 bits
(`State.rget_rsat_word`), and where STR_PREEMPT holds 64 bits the clause holds (`exec_schedulerDecision_word`). -/
theorem not_jobsAreTakenInBoundAndPreempted : ¬Obligations.JobsAreTakenInBoundAndPreempted := by
  unfold Obligations.JobsAreTakenInBoundAndPreempted
  rintro ⟨-, -, -, -, hdecision, -⟩
  obtain ⟨t, y, hexec, -, -, -, -, hcount, -⟩ := hdecision wideCounter 7 _ (by decide +kernel) rfl rfl (by decide)
    (by decide +kernel) (by decide +kernel)
  have ht : (Host.Outcome.next wideCounter.schedulerDecision : Outcome) = .next t := hexec
  cases ht
  rw [rget_schedulerDecision_wideCounter] at hcount
  have hword : wideCounter.rget 0x600010 = 2 ^ 64 := by decide +kernel
  omega

end Sys2Proof.Machine
end
